-- ==== Sys2Proof/Word.lean ====
section
/-! DEFINITION. The words the HS-48 exchanges (bytes of the command port, bits of the line formats) and the shape
of a keyed table. -/

namespace Sys2Proof

/-- A byte of a command block or of an answer (R190). -/
abbrev Byte := BitVec 8

/-- A run of line bits, first sent first (R190: most significant bit first). -/
abbrev Bits := List Bool

/-- A table keyed by a number (00_scope.md section 4.6): at most one entry a key. The canonical form lists the
keys strictly rising, so that equal tables are equal data; an absent key is an entry the spec calls absent,
CLOSED or free. -/
abbrev Table (α : Type) := List (Nat × α)

end Sys2Proof
end

