-- ==== Sys2Proof/Syntax.lean ====
section
/-! DEFINITION. The commands of the HS-48: one constructor of Instr for each row of spec/opcode_table.json, with
the row's operands, and the types those operands are made of. -/

namespace Sys2Proof

/-- A language tag: three letters, each 1 to 26 for A to Z (R190). -/
structure Tag where
  l1 : Nat
  l2 : Nat
  l3 : Nat
  deriving DecidableEq, Repr, Inhabited

/-- One entry of a pedigree (section 3.1): booth 0 stands for the floor. -/
structure PedEntry where
  station : Nat
  booth : Nat
  tag : Tag
  deriving DecidableEq, Repr, Inhabited

/-- The ordered interpretations a language has passed through, oldest first (section 3.1). -/
abbrev Pedigree := List PedEntry

/-- Source and epoch fields of a received frame (R159). -/
structure Sender where
  station : Nat
  epoch : Nat
  deriving DecidableEq, Repr

/-- A frame as its fields stand on the line (R159): what a receiver has read of it, whatever the fields hold. -/
structure LineFrame where
  precedence : Nat
  kind : Nat
  source : Nat
  destination : Nat
  epoch : Nat
  payload : Bits
  deriving DecidableEq, Repr

/-- The source and epoch of a frame. -/
def LineFrame.sender (f : LineFrame) : Sender := ⟨f.source, f.epoch⟩

/-- What a CLAIM frame claims (section 9.1). -/
inductive Resource where
  | subcarrier (number : Nat)
  | trunk (number : Nat)
  deriving DecidableEq, Repr

/-- Action of a CLAIM frame (section 9.1). -/
inductive ClaimAction where
  | claim | refresh | release
  deriving DecidableEq, Repr

/-- State carried by a CHANNEL NOTICE (R69). -/
inductive NoticeState where
  | live | silent | closed
  deriving DecidableEq, Repr

/-- Reason of a RELAY ANSWER REFUSE (R64). -/
inductive RefuseReason where
  | closed | noTrunk
  deriving DecidableEq, Repr

/-- Outcome of a RELAY ANSWER (section 9.1). -/
inductive RelayOutcome where
  | grant (trunk : Nat)
  | refuse (reason : RefuseReason)
  deriving DecidableEq, Repr

/-- Reason of a FEED STATE END (section 10.7.2). -/
inductive EndReason where
  | host | timeout | noTrunk | closed | dark | unknown
  deriving DecidableEq, Repr

/-- Kind of a hire closing (R122). -/
inductive HireKind where
  | ret | loss
  deriving DecidableEq, Repr

/-- Outcome of a RETURN ANSWER (section 10.7.2): a CLOSED answer carries time charge, loss fee and deposit. -/
inductive ReturnOutcome where
  | closed (kind : HireKind) (endMinute timeCharge lossFee deposit : Nat)
  | recovered (declared : Nat)
  | notOpen
  deriving DecidableEq, Repr

/-- A booth input, as selected (R56) and as held (R55): FLOOR, NONE, LOCAL(channel), REMOTE(station, channel). -/
inductive Selection where
  | floor
  | nothing
  | own (channel : Nat)
  | remote (station channel : Nat)
  deriving DecidableEq, Repr

/-- A desk key event (R32). -/
inductive Key where
  | take | release | coughOn | coughOff | outputA | outputB
  | relay (selection : Selection)
  deriving DecidableEq, Repr

/-- What an IDENTIFY reply tells of a present receiver (R104): its serial, battery and hire mark. -/
structure Receiver where
  serial : Nat
  battery : Nat
  markStation : Nat
  markTag : Tag
  deriving DecidableEq, Repr

/-- How a received frame failed (R162): a fault of this station's own finding, or another station's fault mark. -/
inductive FrameFault where
  | spacing | check | length | endField | otherMark
  deriving DecidableEq, Repr

/-- How an attempt to send failed (R161, R162). -/
inductive SendFault where
  | noAck | bitFault | endField | faultMark
  deriving DecidableEq, Repr

/-- The panel bus message kinds (R104). -/
inductive MsgKind where
  | poll | gate | lamps | identify | preset | latch | clearMark | route
  deriving DecidableEq, Repr

/-- A command of the block: one constructor per row of spec/opcode_table.json. Host commands carry the parameter
bytes of their block (R178, section 10.7.1); frames carry source, epoch and payload, and a frame that R175 does not
deliver its fields as read; expiries name their timer; panel replies name the drop. -/
inductive Instr where
  -- the host's commands (R179)
  | configure (params : List Byte)
  | start (params : List Byte)
  | setClock (params : List Byte)
  | setHallState (params : List Byte)
  | setFloorLanguage (params : List Byte)
  | openChannel (params : List Byte)
  | closeChannel (params : List Byte)
  | assignOutput (params : List Byte)
  | selectRelay (params : List Byte)
  | offerFeed (params : List Byte)
  | answerFeed (params : List Byte)
  | endFeed (params : List Byte)
  | issue (params : List Byte)
  | cancelIssue (params : List Byte)
  | declareLost (params : List Byte)
  | readHire (params : List Byte)
  | readAccount (params : List Byte)
  | readSettlement (params : List Byte)
  | readChannel (params : List Byte)
  | readBooth (params : List Byte)
  | readPeer (params : List Byte)
  | readStatus (params : List Byte)
  | readEvent (params : List Byte)
  -- the port's other transfers (R178, R179)
  | answerTransfer (shifted : Nat)
  | incompleteTransfer (sent : List Byte)
  | unknownCommandCode (code : Byte) (params : List Byte)
  -- frames heard on the Centre Line (R175)
  | claim (sender : Sender) (refresh : Bool) (subcarrier channel : Nat) (language : Tag)
  | claimRelease (sender : Sender) (resource : Resource) (channel : Nat) (language : Tag)
  | trunkClaim (sender : Sender) (refresh : Bool) (trunk channel : Nat) (language : Tag)
  | relayRequest (sender : Sender) (channel booth : Nat)
  | relayAnswer (sender : Sender) (channel : Nat) (outcome : RelayOutcome)
  | relayRelease (sender : Sender) (channel booth : Nat)
  | channelNotice (sender : Sender) (channel : Nat) (language : Tag) (state : NoticeState) (trunk : Option Nat) (pedigree : Pedigree)
  | feedOffer (sender : Sender) (booth : Nat) (language : Tag) (channel : Nat) (pedigree : Pedigree)
  | feedAnswer (sender : Sender) (booth channel : Nat) (accept : Bool)
  | feedStateReady (sender : Sender) (booth channel trunk : Nat)
  | feedStateLive (sender : Sender) (booth channel : Nat) (pedigree : Pedigree)
  | feedStateSilent (sender : Sender) (booth channel : Nat)
  | feedStateEnd (sender : Sender) (booth channel : Nat) (reason : EndReason)
  | returnQuery (sender : Sender) (serial minute battery : Nat)
  | returnAnswer (sender : Sender) (serial : Nat) (outcome : ReturnOutcome)
  | presence (sender : Sender) (edges : List (Nat × Bool))
  | duplicateStation (kind epoch : Nat)
  | frameForOtherStation (frame : LineFrame)
  | receiveFault (fault : FrameFault)
  -- the fate of own frames, and the line (R160 to R167)
  | frameTransmitStart
  | lostArbitration
  | transmitSuccess
  | transmitFailure (fault : SendFault)
  | lineJoined
  | rejoin
  | presenceTimer
  -- expiries (each names what expires)
  | peerLost (station : Nat)
  | claimWindowExpiry (channel : Nat)
  | trunkWindowExpiry (trunk : Nat)
  | claimRefresh (channel : Nat)
  | trunkRefresh (trunk : Nat)
  | peerClaimExpiry (station subcarrier : Nat)
  | peerTrunkExpiry (trunk : Nat)
  | directoryExpiry (station channel : Nat)
  | noticeTimer (channel : Nat)
  | relayAnswerWait (booth : Nat)
  | feedAnswerWait (context : Nat)
  | hostAnswerWait (context : Nat)
  | readyWait (context : Nat)
  | blockedWait (context : Nat)
  | overlapTimer (booth : Nat)
  | removalTimer (context : Nat)
  | orphanAnswerWait (serial : Nat)
  -- walls, clock, charging, overdue, map and mask
  | wallInputChange (input : Nat) (isOpen : Bool)
  | wallDebounce (input : Nat)
  | secondTick
  | minuteTick
  | deadCell (slot : Nat)
  | chargeTimeout (slot : Nat)
  | overdue (serial : Nat)
  | mapCycleEnd
  | retuneHoldExpiry
  | maskWordSent
  -- the panel bus (R104 to R109)
  | panelExchangeStart
  | deskPollReply (desk : Nat) (keys : List Key)
  | slotPollReply (slot : Nat) (occupied latchOpen : Bool)
  | identifyReply (slot : Nat) (receiver : Option Receiver)
  | presetAnswered (slot : Nat)
  | latchAnswered (slot : Nat)
  | clearMarkAnswered (slot : Nat)
  | messageAnswered (drop : Nat) (kind : MsgKind)
  | exchangeSilent (drop : Nat) (kind : MsgKind)
  -- supply and restarts (R187 to R189)
  | supplyLow
  | supplyRiseAboveWarn (checkMatches : Bool)
  | enterRetain
  | resetAsserted
  | resetReleased (checkMatches : Bool)
  | mainPowerApplied (aboveWarn retentionPresent : Bool)
  | retentionSupplyFails
  -- counting while OFF-LINE (R166)
  | recessiveSequence
  deriving DecidableEq, Repr

end Sys2Proof
end

