-- ==== Sys2Proof/WellFormed.lean ====
section
/-! DEFINITION. Which commands the outside world can spell: the ranges of R175 for received frames, of section 10.7
for blocks and panel words, and of the tables' keys for expiries. -/

namespace Sys2Proof

/-- A tag of three letters A to Z (R190). -/
def Tag.ok (t : Tag) : Bool :=
  (1 ≤ t.l1 && t.l1 ≤ 26) && (1 ≤ t.l2 && t.l2 ≤ 26) && (1 ≤ t.l3 && t.l3 ≤ 26)

/-- A station number (R175). -/
def stationOk (n : Nat) : Bool := 1 ≤ n && n ≤ 48

/-- A trunk number (R175). -/
def trunkOk (n : Nat) : Bool := 1 ≤ n && n ≤ 12

/-- A pedigree entry a frame can carry (R175: booth at most 8). -/
def PedEntry.ok (e : PedEntry) : Bool := stationOk e.station && e.booth ≤ 8 && e.tag.ok

/-- A pedigree a frame can carry: one to three entries (section 3.1, R175). -/
def pedigreeOk (p : Pedigree) : Bool := 1 ≤ p.length && p.length ≤ 3 && p.all PedEntry.ok

/-- Source and epoch of a frame that is not discarded before the peer table (R175). -/
def Sender.ok (f : Sender) : Bool := stationOk f.station && f.epoch ≤ 255

/-- A claimed resource (section 9.1). -/
def Resource.ok : Resource → Bool
  | .subcarrier n => n ≤ 31
  | .trunk n => trunkOk n

/-- The fields a received frame can hold: each in its width on the line, and 0 to 16 whole bytes of payload (R159,
section 10.7.2). -/
def LineFrame.ok (f : LineFrame) : Bool :=
  f.precedence < 8 && f.kind < 16 && f.source < 64 && f.destination < 64 && f.epoch < 256
    && f.payload.length % 8 = 0 && f.payload.length ≤ 128

/-- The figures a RETURN ANSWER can carry in its field widths (section 10.7.2). -/
def ReturnOutcome.ok : ReturnOutcome → Bool
  | .closed _ e t l d => e < 2 ^ 24 && t < 2 ^ 27 && l < 2 ^ 24 && d < 2 ^ 20
  | .recovered m => m < 2 ^ 24
  | .notOpen => true

/-- A RELAY ANSWER's outcome (R175: a trunk from 1 to 12). -/
def RelayOutcome.ok : RelayOutcome → Bool
  | .grant t => trunkOk t
  | .refuse _ => true

/-- A selection a desk can report: a desk cannot name NONE (R56). -/
def Key.ok : Key → Bool
  | .relay .nothing => false
  | .relay (.own c) => c ≤ 31
  | .relay (.remote q c) => q ≤ 255 && c ≤ 31
  | _ => true

/-- A receiver an IDENTIFY reply can describe and that R104 does not take as silent. -/
def Receiver.ok (r : Receiver) : Bool := 1 ≤ r.serial && r.serial < 2 ^ 24 && r.battery ≤ 100

/-- A parameter list fits the two-byte length field of a block (section 10.7.1). -/
def blockOk (params : List Byte) : Bool := params.length < 65536

/-- A command the outside world can spell (R175, section 10.7). -/
def Instr.wellFormed : Instr → Bool
  | .configure p | .start p | .setClock p | .setHallState p | .setFloorLanguage p | .openChannel p
  | .closeChannel p | .assignOutput p | .selectRelay p | .offerFeed p | .answerFeed p | .endFeed p
  | .issue p | .cancelIssue p | .declareLost p | .readHire p | .readAccount p | .readSettlement p
  | .readChannel p | .readBooth p | .readPeer p | .readStatus p | .readEvent p => blockOk p
  | .answerTransfer _ | .incompleteTransfer _ => true
  | .unknownCommandCode code p => 23 < code.toNat && blockOk p
  | .claim f _ sc c l => f.ok && sc ≤ 31 && c ≤ 31 && l.ok
  | .claimRelease f r c l => f.ok && r.ok && c ≤ 31 && l.ok
  | .trunkClaim f _ t c l => f.ok && trunkOk t && c ≤ 31 && l.ok
  | .relayRequest f c b => f.ok && c ≤ 31 && b ≤ 8
  | .relayAnswer f c o => f.ok && c ≤ 31 && o.ok
  | .relayRelease f c b => f.ok && c ≤ 31 && b ≤ 8
  | .channelNotice f c l _ t p => f.ok && c ≤ 31 && l.ok && t.all trunkOk && pedigreeOk p
  | .feedOffer f b l c p => f.ok && b ≤ 8 && l.ok && c ≤ 31 && pedigreeOk p
  | .feedAnswer f b c _ => f.ok && b ≤ 8 && c ≤ 31
  | .feedStateReady f b c t => f.ok && b ≤ 8 && c ≤ 31 && trunkOk t
  | .feedStateLive f b c p => f.ok && b ≤ 8 && c ≤ 31 && pedigreeOk p
  | .feedStateSilent f b c => f.ok && b ≤ 8 && c ≤ 31
  | .feedStateEnd f b c _ => f.ok && b ≤ 8 && c ≤ 31
  | .returnQuery f serial m b => f.ok && serial < 2 ^ 24 && m < 2 ^ 24 && b ≤ 100
  | .returnAnswer f serial o => f.ok && serial < 2 ^ 24 && o.ok
  | .presence f e => f.ok && e.length ≤ 4 && e.all (fun x => stationOk x.1)
  | .duplicateStation kind epoch => kind ≤ 15 && epoch ≤ 255
  | .frameForOtherStation f => f.ok
  | .receiveFault _ | .frameTransmitStart | .lostArbitration | .transmitSuccess | .transmitFailure _
  | .lineJoined | .rejoin | .presenceTimer => true
  | .peerLost q => stationOk q
  | .claimWindowExpiry c | .claimRefresh c | .noticeTimer c => c ≤ 31
  | .trunkWindowExpiry t | .trunkRefresh t | .peerTrunkExpiry t => trunkOk t
  | .peerClaimExpiry q sc => stationOk q && sc ≤ 31
  | .directoryExpiry q c => stationOk q && c ≤ 31
  | .relayAnswerWait b | .overlapTimer b => 1 ≤ b && b ≤ 8
  | .feedAnswerWait k | .hostAnswerWait k | .readyWait k | .blockedWait k | .removalTimer k => 1 ≤ k && k ≤ 4
  | .orphanAnswerWait serial | .overdue serial => 1 ≤ serial && serial < 2 ^ 24
  | .wallInputChange w _ | .wallDebounce w => 1 ≤ w && w ≤ 4
  | .secondTick | .minuteTick | .mapCycleEnd | .retuneHoldExpiry | .maskWordSent | .panelExchangeStart => true
  | .deadCell k | .chargeTimeout k | .presetAnswered k | .latchAnswered k | .clearMarkAnswered k => 1 ≤ k && k ≤ 96
  | .deskPollReply d ks => 1 ≤ d && d ≤ 24 && ks.length ≤ 4 && ks.all Key.ok
  | .slotPollReply k _ _ => 1 ≤ k && k ≤ 96
  | .identifyReply k r => 1 ≤ k && k ≤ 96 && r.all Receiver.ok
  | .messageAnswered d kind => d ≤ 127 && (kind = .gate || kind = .lamps || kind = .route || (kind = .poll && d = 0))
  | .exchangeSilent d _ => d ≤ 127
  | .supplyLow | .supplyRiseAboveWarn _ | .enterRetain | .resetAsserted | .resetReleased _
  | .mainPowerApplied _ _ | .retentionSupplyFails | .recessiveSequence => true

end Sys2Proof
end

