-- ==== Sys2Proof/Decode.lean ====
section
/-! DEFINITION. The decoder over the rows of spec/opcode_table.json that give bits. No row gives any (98_reader.md
counts 96 rows unread and none with fixed bits), so no word spells a command. What the part's own wires spell is read in
Sys2Proof/Machine/Wire.lean. -/

namespace Sys2Proof

/-- The command a word of the table's bits spells: none, for the table gives no row any bits. -/
def decodeTableWord (_nbits _w : Nat) : Option Instr := none

/-- No word spells a command. -/
@[simp] theorem decodeTableWord_eq_none (nbits w : Nat) : decodeTableWord nbits w = none := rfl

end Sys2Proof
end

