-- ==== Sys2Proof/Config.lean ====
section
/-! DEFINITION. What the HS-48 fixes for every unit: capacities, durations in milliseconds, numeric limits; and the
one value the spec names without stating it (a free value). -/

namespace Sys2Proof.Config

/-- Durations of the part's own timers, in milliseconds (section 4.4). -/
abbrev claimWindowMs : Nat := 600          -- R8
abbrev refreshMs : Nat := 10000            -- R10
abbrev noticeMs : Nat := 10000             -- R69
abbrev debounceMs : Nat := 200             -- R15
abbrev relayAnswerMs : Nat := 3000         -- R55
abbrev feedAnswerMs : Nat := 10000         -- R73, R78
abbrev readyMs : Nat := 5000               -- R79, R84
abbrev blockedMs : Nat := 60000            -- R82
abbrev removalMs : Nat := 20000            -- R119
abbrev orphanAnswerMs : Nat := 3000        -- R131
abbrev presenceMs : Nat := 2000            -- R171
abbrev peerLostMs : Nat := 7000            -- R174

/-- Capacities of the collections. -/
abbrev peerClaimCapacity : Nat := 320      -- R18
abbrev directoryCapacity : Nat := 128      -- R62
abbrev eventCapacity : Nat := 64           -- R181
abbrev transmitCapacity : Nat := 24        -- R168
abbrev outboundCapacity : Nat := 48        -- R106
abbrev hireCapacity : Nat := 512           -- R122
abbrev lostCapacity : Nat := 64            -- R137
abbrev orphanCapacity : Nat := 16          -- R129
abbrev logCapacity : Nat := 128            -- R152
abbrev recoveryCapacity : Nat := 64        -- R153

/-- Limits of counts and figures. -/
abbrev moneyMax : Nat := 99999999          -- section 4.3
abbrev minuteMax : Nat := 16777215         -- R185
abbrev serialMax : Nat := 16777215         -- R122
abbrev depositMax : Nat := 999999          -- R118
abbrev overrunMax : Nat := 65535           -- R181
abbrev queryLimit : Nat := 12              -- R131
abbrev noAckLimit : Nat := 16              -- R161
abbrev rejoinSequences : Nat := 80         -- R167

/-- FREE VALUE (log 34): the byte READ STATUS section 1 sends for the part identity HS-48, which R180 names and no
table codes. -/
opaque partIdentity : Byte

end Sys2Proof.Config
end

