-- ==== Sys2Proof/Machine/State.lean ====
section
/-! DEFINITION. The state of the HS-48, grouped by the functional block that owns it (00_scope.md section 2.1), and
the machine after a cold start. Everything is plain data; every keyed table is a Table (an absent key is a CLOSED
channel, a free trunk or context, a source none, a record that does not exist). Timers are Option Nat: stopped, or
the milliseconds left; ages are milliseconds since the thing was last heard. -/

namespace Sys2Proof.Machine

/-! ### Station Clock and Supply Monitor -/

/-- Station states (R182, section 10.4). -/
inductive StationState where
  | unconfigured | configured | running | retain
  deriving DecidableEq, Repr

/-- Supply state (R187). -/
inductive Supply where
  | normal | low
  deriving DecidableEq, Repr

/-- Channel interlock mode (R34). -/
inductive Interlock where
  | refuse | takeOver
  deriving DecidableEq, Repr, Inhabited

/-- Booth handover mode (R27). -/
inductive Handover where
  | interlock | takeOver | overlap
  deriving DecidableEq, Repr, Inhabited

/-- Coding of the data carrier (R99, R100). -/
inductive Coding where
  | pulseLength | twoTone
  deriving DecidableEq, Repr, Inhabited

/-- A tariff (R141). -/
structure Tariff where
  unit : Nat
  price : Nat
  grace : Nat
  cap : Nat
  lossFee : Nat
  horizon : Nat
  deriving DecidableEq, Repr, Inhabited

/-- A configured booth (R183): its desks in order, handover mode, overlap length in 100 ms steps. -/
structure BoothConfig where
  desks : List Nat
  mode : Handover
  overlapSteps : Nat
  deriving DecidableEq, Repr, Inhabited

/-- Carrier and coding settings (R102), as CONFIGURE carried them. -/
structure CarrierConfig where
  coding : Coding
  high : Nat
  low : Nat
  mark0 : Nat
  mark1 : Nat
  space : Nat
  high2 : Nat
  low2 : Nat
  bitLength : Nat
  deriving DecidableEq, Repr, Inhabited

/-- The configuration (R183). Walls maps a bound input 1 to 4 to its neighbour; booths, tariffs and rates are keyed
by booth, tariff and account number. -/
structure StationConfig where
  station : Nat
  walls : Table Nat
  interlock : Interlock
  slotCount : Nat
  readyLevel : Nat
  floorTag : Tag
  dayBoundary : Nat
  hold : Bool
  retuneHold : Nat
  carrier : CarrierConfig
  booths : Table BoothConfig
  tariffs : Table Tariff
  rates : Table Nat
  deriving DecidableEq, Repr, Inhabited

/-- The Station Clock and Supply Monitor's state (R182 to R189). -/
structure ClockBlock where
  station : StationState
  minute : Nat
  second : Nat
  supply : Supply
  runMark : Bool
  retainedValid : Bool
  retentionPresent : Bool
  resetHeld : Bool
  config : Option StationConfig
  deriving DecidableEq, Repr

/-! ### Command Port and Event Queue -/

/-- Result codes of an answer (section 10.7.1), in code order. -/
inductive Result where
  | none | done | busy | state | range | full | empty | unknown | clockBack
  deriving DecidableEq, Repr

/-- The answer in the buffer (R178). -/
structure Answer where
  result : Result
  data : List Byte
  deriving DecidableEq, Repr

/-- The command port (R178): the answer buffer, and the bytes the port shifted out in the last transfer, the status
byte first. -/
structure PortBlock where
  answer : Option Answer
  shifted : List Byte
  deriving DecidableEq, Repr

/-- Event kinds (section 10.7.1), in code order from 1. -/
inductive EventKind where
  | channelStarved | claimYielded | claimTableFull | wallChanged | holdLost | relayLost | feedOffered
  | feedOfferRefused | feedBlocked | feedPreempted | feedEnded | dropOffline | dropOnline | slotFault
  | slotCleared | unissuedRemoval | issued | issueFailed | issueCancelled | presetDegraded | unknownHireMark
  | receiverReturned | receiverRecovered | remoteReturn | returnHeld | returnAnswered | orphanDiscarded | peerReturn
  | overdue | lostListDropped | accountSaturated | settlementReady | recoveryUnlogged | lineState | frameUnheard
  | lineCongestion | peerJoined | peerLost | duplicateStation | supplyLow | warmStart | overrun
  deriving DecidableEq, Repr

/-- An event (R181): kind, minute and second counts, up to four fields. -/
structure Event where
  kind : EventKind
  minute : Nat
  second : Nat
  fields : List Nat
  deriving DecidableEq, Repr

/-- The event queue, oldest first, and its overrun count (R181). -/
structure EventBlock where
  queue : List Event
  overrun : Nat
  deriving DecidableEq, Repr

/-! ### Channel Planner -/

/-- Hall states (section 1.1). -/
inductive HallState where
  | dark | recess | session
  deriving DecidableEq, Repr

/-- States of an open channel (R4); a CLOSED channel has no entry in the table. -/
inductive ChanState where
  | claiming | onAir | shifting | starved
  deriving DecidableEq, Repr

/-- Holder of a channel (R4, R30). -/
inductive Holder where
  | none
  | desk (booth desk : Nat)
  | feed (context : Nat)
  deriving DecidableEq, Repr

/-- An open channel table entry (R4), with the Relay Unit's first booth, held-in-this-opening mark (R54, R55),
notice timer and last announced notice state (R69). -/
structure Channel where
  state : ChanState
  language : Tag
  subcarrier : Option Nat
  confirmed : Bool
  account : Nat
  holder : Holder
  liveSeconds : Nat
  opening : Nat
  pedigree : Pedigree
  everOnAir : Bool
  window : Option Nat
  refresh : Option Nat
  firstBooth : Nat
  everHeld : Bool
  notice : Option Nat
  announced : NoticeState
  deriving DecidableEq, Repr

/-- An entry of the peer claim table (R18). -/
structure PeerClaim where
  station : Nat
  subcarrier : Nat
  channel : Nat
  language : Tag
  age : Nat
  deriving DecidableEq, Repr

/-- User of an own trunk claim (R20). -/
inductive TrunkUser where
  | exported (channel : Nat)
  | feed (context : Nat)
  deriving DecidableEq, Repr

/-- Phase of an own trunk claim (R20). -/
inductive TrunkPhase where
  | window | held
  deriving DecidableEq, Repr

/-- A trunk table entry that is not free (R20). -/
inductive TrunkEntry where
  | peer (station age : Nat)
  | own (phase : TrunkPhase) (confirmed : Bool) (user : TrunkUser) (window refresh : Option Nat)
  deriving DecidableEq, Repr

/-- A wall sense input (R15): the pin's level and the debounced position (true is open), and the 200 ms debounce. -/
structure Wall where
  level : Bool
  position : Bool
  debounce : Option Nat
  deriving DecidableEq, Repr

/-- The Channel Planner's state. The zone is listed in rising station number; peerClaims in age order. -/
structure PlannerBlock where
  hall : HallState
  floorTag : Tag
  channels : Table Channel
  zone : List Nat
  peerClaims : List PeerClaim
  trunks : Table TrunkEntry
  walls : Table Wall
  deriving DecidableEq, Repr

/-! ### Booth Controller -/

/-- A booth's outputs (R27). -/
inductive Output where
  | a | b
  deriving DecidableEq, Repr

/-- Relay status (R55). -/
inductive RelayStatus where
  | none | relayed | waiting | lost
  deriving DecidableEq, Repr

/-- A booth record (R27) with the source trunk and answer wait of its relay context (R55). -/
structure Booth where
  desks : List Nat
  outputA : Option Nat
  outputB : Option Nat
  feed : Option Nat
  selected : Output
  input : Selection
  relay : RelayStatus
  sourceTrunk : Option Nat
  answerWait : Option Nat
  mode : Handover
  overlapMs : Nat
  holding : Option Nat
  partner : Option Nat
  overlap : Option Nat
  deriving DecidableEq, Repr

/-- Desk states (R28). -/
inductive DeskState where
  | off | live | cough | overlapIn | overlapOut | offline
  deriving DecidableEq, Repr

/-- Lamp values (R28). -/
inductive LampValue where
  | dark | steady | blinking
  deriving DecidableEq, Repr

/-- The six lamps (R28). -/
inductive Lamp where
  | live | boothBusy | engaged | offAir | relayLost | handOff
  deriving DecidableEq, Repr

/-- A desk's lamp set (R28). -/
structure Lamps where
  live : LampValue
  boothBusy : LampValue
  engaged : LampValue
  offAir : LampValue
  relayLost : LampValue
  handOff : LampValue
  deriving DecidableEq, Repr

/-- A desk record (R28) and the gate value last sent to the desk (R49). -/
structure Desk where
  booth : Nat
  state : DeskState
  cough : Bool
  lamps : Lamps
  gate : Bool
  deriving DecidableEq, Repr

/-- The Booth Controller's state. -/
structure BoothBlock where
  booths : Table Booth
  desks : Table Desk
  deriving DecidableEq, Repr

/-! ### Relay Unit -/

/-- An entry of the remote channel directory (R62). -/
structure DirEntry where
  station : Nat
  channel : Nat
  language : Tag
  pedigree : Pedigree
  state : NoticeState
  trunk : Option Nat
  age : Nat
  deriving DecidableEq, Repr

/-- A listening station of an export and its booths, both in the order they joined (R66). -/
structure Listener where
  station : Nat
  booths : List Nat
  deriving DecidableEq, Repr

/-- An exported-trunk record (R66); the table is keyed by channel, the claim's phase stands in the trunk table. -/
structure ExportRecord where
  trunk : Nat
  listeners : List Listener
  deriving DecidableEq, Repr

/-- The Relay Unit's state; booth inputs stand in the booth records (R55). -/
structure RelayBlock where
  directory : List DirEntry
  exported : Table ExportRecord
  deriving DecidableEq, Repr

/-! ### Feed Unit -/

/-- Side of a feed context (R71). -/
inductive Side where
  | sending | receiving
  deriving DecidableEq, Repr

/-- States of a feed context in use (sections 4.2, 4.3); an ENDED context is free and has no entry. -/
inductive FeedState where
  | offered | claiming | ready | live | silent | accepted | routed | holding | blocked
  deriving DecidableEq, Repr

/-- A feed context in use (R71). -/
structure Feed where
  side : Side
  state : FeedState
  partner : Nat
  booth : Nat
  target : Nat
  language : Tag
  trunk : Option Nat
  pedigree : Pedigree
  boothHeld : Bool
  senderLive : Bool
  answerWait : Option Nat
  readyWait : Option Nat
  blockedWait : Option Nat
  deriving DecidableEq, Repr

/-- The Feed Unit's state: contexts 1 to 4. -/
structure FeedBlock where
  contexts : Table Feed
  deriving DecidableEq, Repr

/-! ### Map Builder and Carrier Modulator -/

/-- Status of a map record (R89). -/
inductive MapStatus where
  | live | silent | retuning | unavailable
  deriving DecidableEq, Repr

/-- A receiver map record (R89). -/
structure MapRecord where
  channel : Nat
  language : Tag
  status : MapStatus
  relay : Bool
  subcarrier : Option Nat
  deriving DecidableEq, Repr

/-- A receiver map (R89); the record count is the number of records. -/
structure RMap where
  station : Nat
  version : Nat
  records : List MapRecord
  deriving DecidableEq, Repr

/-- A mask word (R96): the radiator flag and the subcarriers, rising. -/
structure MaskWord where
  radiator : Bool
  mask : List Nat
  deriving DecidableEq, Repr

/-- The Map Builder's state: sending is the mask word on the output, driver the last complete one (R96). -/
structure MapBlock where
  front : RMap
  back : RMap
  holdCount : Nat
  radiator : Bool
  mask : List Nat
  sending : Option MaskWord
  driver : Option MaskWord
  deriving DecidableEq, Repr

/-! ### Line Interface -/

/-- Line states (section 9.4). -/
inductive LineState where
  | detached | joining | joined | quiet | offLine
  deriving DecidableEq, Repr

/-- State field of a FEED STATE frame (section 10.7.2). -/
inductive FeedSignal where
  | ready (trunk : Nat)
  | live (pedigree : Pedigree)
  | silent
  | ended (reason : EndReason)
  deriving DecidableEq, Repr

/-- The payload of a Centre Line frame by kind (section 9.1). -/
inductive Payload where
  | feedOffer (booth : Nat) (language : Tag) (channel : Nat) (pedigree : Pedigree)
  | feedAnswer (booth channel : Nat) (accept : Bool)
  | feedState (booth channel : Nat) (signal : FeedSignal)
  | claim (resource : Resource) (action : ClaimAction) (channel : Nat) (language : Tag)
  | relayRequest (channel booth : Nat)
  | relayAnswer (channel : Nat) (outcome : RelayOutcome)
  | relayRelease (channel booth : Nat)
  | returnQuery (serial minute battery : Nat)
  | returnAnswer (serial : Nat) (outcome : ReturnOutcome)
  | channelNotice (channel : Nat) (language : Tag) (state : NoticeState) (trunk : Option Nat) (pedigree : Pedigree)
  | presence (edges : List (Nat × Bool))
  deriving DecidableEq, Repr

/-- A queued frame (R168): its destination (0 for a broadcast), the epoch written at the start of a transmission
while it is in transmission, and its consecutive NO ACK failures (R161). -/
structure TxFrame where
  dest : Nat
  payload : Payload
  sending : Option Nat
  noAcks : Nat
  deriving DecidableEq, Repr

/-- A peer table entry (R172). -/
structure Peer where
  epoch : Nat
  edges : List (Nat × Bool)
  age : Nat
  deriving DecidableEq, Repr

/-- What the station last drove on the Centre Line (R160 to R162): a frame is driven as its bits (R159). -/
inductive LineDrive where
  | nothing | frame (bits : Bits) | acknowledge | faultMark | recessive
  deriving DecidableEq, Repr

/-- The Line Interface's state; the transmit queue is in age order. -/
structure LineBlock where
  state : LineState
  queue : List TxFrame
  txScore : Nat
  rxScore : Nat
  epoch : Nat
  sequences : Nat
  presence : Option Nat
  peers : Table Peer
  drive : LineDrive
  deriving DecidableEq, Repr

/-! ### Panel Bus Controller -/

/-- Source of a matrix output (R110); an output with no entry in the route table has source none. -/
inductive Source where
  | none | floor
  | mic (booth : Nat)
  | trunk (trunk : Nat)
  | bus (channel : Nat)
  deriving DecidableEq, Repr

/-- A message of the outbound queue (R104); a POLL never stands in the queue. -/
inductive Body where
  | route (output : Nat)
  | gate (desk : Nat) (isOpen : Bool)
  | latch (slot : Nat) (isOpen : Bool)
  | preset (slot : Nat) (tag : Tag) (station : Nat)
  | clearMark (slot : Nat)
  | lamps (desk : Nat) (set : Lamps) (flash : Option Lamp)
  | identify (slot : Nat)
  deriving DecidableEq, Repr

/-- Why a message was queued: for no issue, for the issue in a context, or for something that has since ended
(R120). -/
inductive Origin where
  | plain
  | issue (context : Nat)
  | ended
  deriving DecidableEq, Repr

/-- A queued message (R106). -/
structure Message where
  body : Body
  origin : Origin
  sending : Bool
  deriving DecidableEq, Repr

/-- Target and kind of a deferred entry (R107). -/
inductive Target where
  | route (output : Nat)
  | gate (desk : Nat)
  | latch (slot : Nat)
  | preset (slot : Nat)
  | clearMark (slot : Nat)
  | lamps (desk : Nat)
  | identify (slot : Nat)
  deriving DecidableEq, Repr

/-- Drop kinds (R105). -/
inductive DropKind where
  | matrix | desk | slot
  deriving DecidableEq, Repr

/-- A drop table entry (R105), keyed by address. -/
structure Drop where
  kind : DropKind
  online : Bool
  silences : Nat
  deriving DecidableEq, Repr

/-- The exchange on the panel line (R103): a poll of a drop, or the queued message marked as sending. -/
inductive Exchange where
  | poll (drop : Nat)
  | message
  deriving DecidableEq, Repr

/-- A nine-bit panel word (R103): the address flag and eight data bits. -/
structure PanelWord where
  address : Bool
  data : Byte
  deriving DecidableEq, Repr

/-- What the HS-48 last put on the panel line (R103). -/
inductive PanelOut where
  | nothing
  | lineBreak
  | words (sent : List PanelWord)
  deriving DecidableEq, Repr

/-- The Panel Bus Controller's state; polls is none until a round begins, then the polls left of the round (R108). -/
structure PanelBlock where
  outbound : List Message
  deferred : List Target
  drops : Table Drop
  routes : Table Source
  exchange : Option Exchange
  out : PanelOut
  round : Nat
  rotation : Nat
  polls : Option (List Nat)
  deriving DecidableEq, Repr

/-! ### Dock Manager -/

/-- Dock slot states (R111). -/
inductive SlotState where
  | empty | reading | charging | ready | issuing | fault | offline
  deriving DecidableEq, Repr

/-- Fault causes of a slot (R111). -/
inductive SlotCause where
  | deadCell | chargeTimeout | duplicate | link
  deriving DecidableEq, Repr

/-- A receiver's hire mark (R104). -/
structure HireMark where
  station : Nat
  tag : Tag
  deriving DecidableEq, Repr

/-- A hold on a returned receiver (R128): the serial and mark first read, and whether the record has left the
table. -/
structure SlotHold where
  serial : Nat
  mark : HireMark
  released : Bool
  deriving DecidableEq, Repr

/-- A slot record (R111) with its hold (R128). -/
structure Slot where
  state : SlotState
  serial : Option Nat
  battery : Option Nat
  mark : Option HireMark
  chargeStart : Option Nat
  low : Bool
  cause : Option SlotCause
  latchOpen : Bool
  clearMark : Bool
  startUp : Bool
  hold : Option SlotHold
  deriving DecidableEq, Repr

/-- A place in the ready queue (R117): startUp tells that the slot became READY through its start-up
identification. -/
structure ReadyEntry where
  slot : Nat
  startUp : Bool
  deriving DecidableEq, Repr

/-- Phases of an issue (R119). -/
inductive IssuePhase where
  | presetting | unlatching | awaitingRemoval
  deriving DecidableEq, Repr

/-- An issue context in use (R118). -/
structure Issue where
  slot : Nat
  serial : Nat
  account : Nat
  tariff : Nat
  deposit : Nat
  tag : Tag
  phase : IssuePhase
  removal : Option Nat
  deriving DecidableEq, Repr

/-- The Dock Manager's state; warmMinute is the minute of the warm start that set the start-up flags (R112). -/
structure DockBlock where
  slots : Table Slot
  ready : List ReadyEntry
  issues : Table Issue
  warmMinute : Option Nat
  deriving DecidableEq, Repr

/-! ### Hire Ledger -/

/-- Figures of a closing (R122, R146). -/
structure Figures where
  timeCharge : Nat
  lossFee : Nat
  deposit : Nat
  applied : Nat
  refund : Nat
  due : Nat
  deriving DecidableEq, Repr

/-- Closing outcome of a hire (R122). -/
structure Closing where
  kind : HireKind
  endMinute : Nat
  returnedAt : Option Nat
  figures : Figures
  deriving DecidableEq, Repr

/-- A hire record, keyed by serial (R122): OPEN when closing is none, CLOSING otherwise. -/
structure Hire where
  account : Nat
  tariff : Nat
  tag : Tag
  deposit : Nat
  start : Nat
  overdue : Bool
  closing : Option Closing
  deriving DecidableEq, Repr

/-- A lost-list entry (R137). -/
structure Lost where
  serial : Nat
  account : Nat
  declared : Nat
  deriving DecidableEq, Repr

/-- An orphan (R129). -/
structure Orphan where
  serial : Nat
  owner : Nat
  minute : Nat
  battery : Nat
  queries : Nat
  answerWait : Option Nat
  deriving DecidableEq, Repr

/-- The Hire Ledger's state; lost and orphans in the order they joined. -/
structure LedgerBlock where
  hires : Table Hire
  lost : List Lost
  orphans : List Orphan
  deriving DecidableEq, Repr

/-! ### Tariff Calculator and Accounts -/

/-- An account record (R147). -/
structure Account where
  rate : Nat
  depositsHeld : Nat
  hireRevenue : Nat
  lossRevenue : Nat
  refunds : Nat
  balanceDue : Nat
  channelMinutes : Nat
  channelRevenue : Nat
  saturated : Bool
  deriving DecidableEq, Repr

/-- A channel settlement without its number (R151, R153). -/
structure ChannelBill where
  channel : Nat
  account : Nat
  opening : Nat
  close : Nat
  liveSeconds : Nat
  minutes : Nat
  charge : Nat
  deriving DecidableEq, Repr

/-- A settlement record without its number (R152). -/
inductive Settlement where
  | hire (serial account tariff start : Nat) (closing : Closing)
  | recovery (serial account minute : Nat)
  | channel (bill : ChannelBill)
  deriving DecidableEq, Repr

/-- A logged settlement record (R152). -/
structure LogRecord where
  number : Nat
  settlement : Settlement
  deriving DecidableEq, Repr

/-- An item of the closing queue (R153); a CLOSING hire record stands in it as itself, by its serial. -/
inductive ClosingItem where
  | hire (serial : Nat)
  | channel (bill : ChannelBill)
  | recovery (serial account minute : Nat)
  deriving DecidableEq, Repr

/-- The accounts' state; log and closing oldest first; nextNumber is the number the next record takes. -/
structure AccountBlock where
  accounts : Table Account
  log : List LogRecord
  nextNumber : Nat
  closing : List ClosingItem
  deriving DecidableEq, Repr

/-! ### The machine -/

/-- The state of the HS-48: the queue of waiting commands, and each block's state. -/
structure State where
  pending : List Instr
  clock : ClockBlock
  port : PortBlock
  events : EventBlock
  planner : PlannerBlock
  booth : BoothBlock
  relay : RelayBlock
  feed : FeedBlock
  map : MapBlock
  line : LineBlock
  panel : PanelBlock
  dock : DockBlock
  ledger : LedgerBlock
  account : AccountBlock
  deriving DecidableEq, Repr

/-- Faults: none. The spec stops the part nowhere, so no command of the model raises one. -/
inductive Fault where
  deriving DecidableEq, Repr

/-- Refusals. -/
inductive Refusal where
  /-- Raised by a dispatch arm whose command has no meaning yet; safe, for nothing can be proved of its effect. No
  arm of this model raises it. -/
  | notModelled (mnemonic : String)
  deriving DecidableEq, Repr

/-- A wall input after a cold start: closed, no debounce running (R15; log 7 for the pin's level). -/
def Wall.closed : Wall := { level := false, position := false, debounce := none }

/-- The machine after a cold start (R189). What a cold start leaves to the outside is named in log 7. -/
def State.reset : State where
  pending := []
  clock :=
    { station := .unconfigured, minute := 0, second := 0, supply := .normal, runMark := false
      retainedValid := false, retentionPresent := true, resetHeld := false, config := none }
  port := { answer := none, shifted := [] }
  events := { queue := [], overrun := 0 }
  planner :=
    { hall := .dark, floorTag := ⟨0, 0, 0⟩, channels := [], zone := [], peerClaims := [], trunks := []
      walls := [(1, Wall.closed), (2, Wall.closed), (3, Wall.closed), (4, Wall.closed)] }
  booth := { booths := [], desks := [] }
  relay := { directory := [], exported := [] }
  feed := { contexts := [] }
  map :=
    { front := ⟨0, 0, []⟩, back := ⟨0, 0, []⟩, holdCount := 0, radiator := false, mask := []
      sending := none, driver := none }
  line :=
    { state := .detached, queue := [], txScore := 0, rxScore := 0, epoch := 0, sequences := 0
      presence := none, peers := [], drive := .nothing }
  panel :=
    { outbound := [], deferred := [], drops := [], routes := [], exchange := none, out := .nothing
      round := 0, rotation := 1, polls := none }
  dock := { slots := [], ready := [], issues := [], warmMinute := none }
  ledger := { hires := [], lost := [], orphans := [] }
  account := { accounts := [], log := [], nextNumber := 0, closing := [] }

end Sys2Proof.Machine
end

