-- ==== Sys2Proof/Machine/Table.lean ====
section
/-! DEFINITION. The operations of a keyed table (00_scope.md section 4.6), in the canonical form: keys strictly
rising. -/

namespace Sys2Proof.Machine.Tab

variable {α : Type}

/-- The entry at a key. -/
def get (t : Table α) (k : Nat) : Option α :=
  match t with
  | [] => none
  | (j, v) :: rest => if j = k then some v else get rest k

/-- Put an entry at a key, in its place by key. -/
def set (t : Table α) (k : Nat) (v : α) : Table α :=
  match t with
  | [] => [(k, v)]
  | (j, w) :: rest =>
    if k < j then (k, v) :: (j, w) :: rest
    else if j = k then (k, v) :: rest
    else (j, w) :: set rest k v

/-- Remove the entry at a key. -/
def erase (t : Table α) (k : Nat) : Table α := t.filter fun e => e.1 ≠ k

/-- Change the entry at a key, if there is one. -/
def modify (t : Table α) (k : Nat) (f : α → α) : Table α :=
  t.map fun e => if e.1 = k then (e.1, f e.2) else e

/-- Change every entry. -/
def mapAll (t : Table α) (f : α → α) : Table α := t.map fun e => (e.1, f e.2)

/-- Is there an entry at a key? -/
def has (t : Table α) (k : Nat) : Bool := (get t k).isSome

/-- The keys, rising. -/
def keys (t : Table α) : List Nat := t.map Prod.fst

/-- The canonical form: keys strictly rising. -/
def wf (t : Table α) : Bool :=
  match t with
  | [] => true
  | [_] => true
  | (j, _) :: (k, w) :: rest => j < k && wf ((k, w) :: rest)

/-- The least key from first up, of n candidates, that has no entry. -/
def firstFree (t : Table α) (first : Nat) : Nat → Option Nat
  | 0 => none
  | n + 1 => if has t first then firstFree t (first + 1) n else some first

end Sys2Proof.Machine.Tab
end

