-- ==== Sys2Proof/Machine/Operands.lean ====
section
/-! DEFINITION. The operand forms of the command port (section 10.7.1): numbers from parameter bytes, the CONFIGURE
block, and the bytes of answers and events. -/

namespace Sys2Proof

/-! ### Codes of the operand types' names (R190) -/

def NoticeState.code : NoticeState → Nat
  | .live => 0 | .silent => 1 | .closed => 2
def HireKind.code : HireKind → Nat
  | .ret => 0 | .loss => 1
/-- Panel kind words (section 10.7.4). -/
def MsgKind.code : MsgKind → Nat
  | .poll => 1 | .gate => 2 | .lamps => 3 | .identify => 4 | .preset => 5 | .latch => 6 | .clearMark => 7 | .route => 8
/-- A tag in an event field occupies the low 15 bits (R190). -/
def Tag.code (t : Tag) : Nat := (t.l1 * 32 + t.l2) * 32 + t.l3

end Sys2Proof

namespace Sys2Proof.Machine

/-! ### Reading parameter bytes (R190: most significant byte first) -/

/-- The number in bytes i to i+w-1 of a block. -/
def field (p : List Nat) (i w : Nat) : Nat :=
  ((p.drop i).take w).foldl (fun acc b => acc * 256 + b) 0

/-- The tag in bytes i to i+2 of a block. -/
def tagAt (p : List Nat) (i : Nat) : Tag := ⟨field p i 1, field p (i + 1) 1, field p (i + 2) 1⟩

/-- Is n from lo to hi? -/
def within (lo n hi : Nat) : Bool := lo ≤ n && n ≤ hi

/-! ### The CONFIGURE block (section 10.7.1, R183) -/

/-- A booth entry at byte i, and whether it passes R183; a desk count of 0 is a booth not configured. -/
def boothConfigAt (p : List Nat) (i : Nat) : BoothConfig :=
  { desks := ((p.drop (i + 1)).take 3).take (field p i 1)
    mode := match field p (i + 4) 1 with
      | 0 => .interlock
      | 1 => .takeOver
      | _ => .overlap
    overlapSteps := field p (i + 5) 1 }

/-- R183's tests of one booth entry. -/
def boothEntryOk (p : List Nat) (i : Nat) : Bool :=
  let count := field p i 1
  count = 0 ||
    (count ≤ 3 && (boothConfigAt p i).desks.all (within 1 · 24) && field p (i + 4) 1 ≤ 2
      && within 1 (field p (i + 5) 1) 20)

/-- The configured booths of the block, keyed by number (R183: a booth of desk count 0 is not configured). -/
def boothsOf (p : List Nat) : Table BoothConfig :=
  (List.range 8).filterMap fun k =>
    if field p (24 + 6 * k) 1 = 0 then none else some (k + 1, boothConfigAt p (24 + 6 * k))

/-- The tariff at byte i (section 10.7.1). -/
def tariffAt (p : List Nat) (i : Nat) : Tariff :=
  { unit := field p i 2, price := field p (i + 2) 2, grace := field p (i + 4) 1, cap := field p (i + 5) 4
    lossFee := field p (i + 9) 4, horizon := field p (i + 13) 1 }

/-- R141's ranges of a tariff. -/
def tariffOk (t : Tariff) : Bool :=
  within 1 t.unit 1440 && t.price ≤ 65535 && t.grace ≤ 240 && t.cap ≤ 9999999 && t.lossFee ≤ 9999999
    && within 1 t.horizon 60

/-- The bound wall inputs of the block (R183: 0 is unbound). -/
def wallsOf (p : List Nat) : Table Nat :=
  (List.range 4).filterMap fun k => if field p (1 + k) 1 = 0 then none else some (k + 1, field p (1 + k) 1)

/-- The configuration a block of 248 bytes spells. -/
def configOf (p : List Nat) : StationConfig :=
  { station := field p 0 1
    walls := wallsOf p
    interlock := if field p 5 1 = 0 then .refuse else .takeOver
    slotCount := field p 6 1
    readyLevel := field p 7 1
    floorTag := tagAt p 8
    dayBoundary := field p 11 2
    hold := field p 13 1 = 1
    retuneHold := field p 14 1
    carrier :=
      { coding := if field p 15 1 = 0 then .pulseLength else .twoTone
        high := field p 16 1, low := field p 17 1, mark0 := field p 18 1, mark1 := field p 19 1
        space := field p 20 1, high2 := field p 21 1, low2 := field p 22 1, bitLength := field p 23 1 }
    booths := boothsOf p
    tariffs := (List.range 8).map fun k => (k, tariffAt p (72 + 14 * k))
    rates := (List.range 32).map fun k => (k, field p (184 + 2 * k) 2) }

/-- R102's tests of the map, carrier and coding settings; the fields of the coding not chosen, and n in FRESH mode,
are ignored. -/
def carrierOk (hold : Bool) (n : Nat) (c : CarrierConfig) : Bool :=
  (!hold || within 1 n 8) && within 1 c.high 255 && within 1 c.low 255 &&
    match c.coding with
    | .pulseLength =>
      within 1 c.mark0 63 && within 1 c.mark1 63 && within 1 c.space 63 && c.mark0 ≠ c.mark1
    | .twoTone =>
      within 1 c.high2 255 && within 1 c.low2 255 && within 1 c.bitLength 63
        && c.high + c.low ≠ c.high2 + c.low2

/-- No number stands twice in a list. -/
def noRepeats : List Nat → Bool
  | [] => true
  | a :: rest => !rest.contains a && noRepeats rest

/-- R183's tests of a whole CONFIGURE block. -/
def configureOk (p : List Nat) : Bool :=
  let c := configOf p
  stationOk c.station
    && c.walls.all (fun e => e.2 ≤ 48 && e.2 ≠ c.station)
    && noRepeats (c.walls.map Prod.snd)
    && field p 5 1 ≤ 1
    && (List.range 8).all (fun k => boothEntryOk p (24 + 6 * k))
    && noRepeats (c.booths.flatMap fun e => e.2.desks)
    && c.slotCount ≤ 96 && within 50 c.readyLevel 100
    && c.floorTag.ok
    && field p 13 1 ≤ 1 && field p 15 1 ≤ 1 && carrierOk c.hold c.retuneHold c.carrier
    && c.dayBoundary ≤ 1439
    && c.tariffs.all (fun e => tariffOk e.2)
    && c.rates.all (fun e => e.2 ≤ 65535)

/-! ### Writing answer bytes (R190) -/

/-- n in w bytes, most significant first. -/
def be : Nat → Nat → List Byte
  | 0, _ => []
  | w + 1, n => BitVec.ofNat 8 (n / 256 ^ w) :: be w n

/-- One byte. -/
def b1 (n : Nat) : List Byte := be 1 n

/-- A yes or no item. -/
def bBool (b : Bool) : List Byte := b1 (if b then 1 else 0)

/-- A tag: one byte a letter. -/
def bTag (t : Tag) : List Byte := b1 t.l1 ++ b1 t.l2 ++ b1 t.l3

/-- A field that may be absent: a presence flag, then the field, or the given number of zero bytes. -/
def bOpt {α : Type} (width : Nat) (enc : α → List Byte) : Option α → List Byte
  | none => b1 0 ++ List.replicate width 0
  | some a => b1 1 ++ enc a

/-- A list: a one-byte count, then its items. -/
def bList {α : Type} (enc : α → List Byte) (l : List α) : List Byte := b1 l.length ++ l.flatMap enc

/-- A pedigree: a count, then station, booth and tag of each entry. -/
def bPedigree (p : Pedigree) : List Byte := bList (fun e => b1 e.station ++ b1 e.booth ++ bTag e.tag) p

/-- A timer in whole seconds, rounded up (R71, R118, R138). -/
def secondsUp (ms : Nat) : Nat := (ms + 999) / 1000

/-- A wait: a presence flag and its seconds left, rounded up. -/
def bWait (t : Option Nat) : List Byte := bOpt 1 (fun ms => b1 (secondsUp ms)) t

/-! ### Codes of names: from 0 in the order the defining rule or table lists them (R190, logs 11 and 12) -/

def StationState.code : StationState → Nat
  | .unconfigured => 0 | .configured => 1 | .running => 2 | .retain => 3
def Supply.code : Supply → Nat
  | .normal => 0 | .low => 1
def HallState.code : HallState → Nat
  | .dark => 0 | .recess => 1 | .session => 2
def ChanState.code : ChanState → Nat
  | .claiming => 1 | .onAir => 2 | .shifting => 3 | .starved => 4
def Output.code : Output → Nat
  | .a => 0 | .b => 1
def Handover.code : Handover → Nat
  | .interlock => 0 | .takeOver => 1 | .overlap => 2
def RelayStatus.code : RelayStatus → Nat
  | .none => 0 | .relayed => 1 | .waiting => 2 | .lost => 3
def DeskState.code : DeskState → Nat
  | .off => 0 | .live => 1 | .cough => 2 | .overlapIn => 3 | .overlapOut => 4 | .offline => 5
def LampValue.code : LampValue → Nat
  | .dark => 0 | .steady => 1 | .blinking => 2
def Lamp.code : Lamp → Nat
  | .live => 1 | .boothBusy => 2 | .engaged => 3 | .offAir => 4 | .relayLost => 5 | .handOff => 6
def Side.code : Side → Nat
  | .sending => 0 | .receiving => 1
/-- Coded by the side's own table of states (sections 4.2 and 4.3). -/
def FeedState.code : FeedState → Nat
  | .offered => 0 | .claiming => 1 | .ready => 2 | .live => 3 | .silent => 4
  | .accepted => 1 | .routed => 2 | .holding => 3 | .blocked => 4
def LineState.code : LineState → Nat
  | .detached => 0 | .joining => 1 | .joined => 2 | .quiet => 3 | .offLine => 4
def Coding.code : Coding → Nat
  | .pulseLength => 0 | .twoTone => 1
def DropKind.code : DropKind → Nat
  | .matrix => 0 | .desk => 1 | .slot => 2
def SlotState.code : SlotState → Nat
  | .empty => 0 | .reading => 1 | .charging => 2 | .ready => 3 | .issuing => 4 | .fault => 5 | .offline => 6
def SlotCause.code : SlotCause → Nat
  | .deadCell => 0 | .chargeTimeout => 1 | .duplicate => 2 | .link => 3
def IssuePhase.code : IssuePhase → Nat
  | .presetting => 0 | .unlatching => 1 | .awaitingRemoval => 2
def TrunkPhase.code : TrunkPhase → Nat
  | .window => 0 | .held => 1
/-- Matrix sources (section 10.7.4). -/
def Source.code : Source → Nat
  | .none => 0 | .floor => 1 | .mic b => 1 + b | .trunk t => 9 + t | .bus c => 22 + c
/-- Result codes (section 10.7.1). -/
def Result.code : Result → Nat
  | .none => 0 | .done => 1 | .busy => 2 | .state => 3 | .range => 4 | .full => 5 | .empty => 6 | .unknown => 7
  | .clockBack => 8
/-- Event kind codes (section 10.7.1). -/
def EventKind.code : EventKind → Nat
  | .channelStarved => 1 | .claimYielded => 2 | .claimTableFull => 3 | .wallChanged => 4 | .holdLost => 5
  | .relayLost => 6 | .feedOffered => 7 | .feedOfferRefused => 8 | .feedBlocked => 9 | .feedPreempted => 10
  | .feedEnded => 11 | .dropOffline => 12 | .dropOnline => 13 | .slotFault => 14 | .slotCleared => 15
  | .unissuedRemoval => 16 | .issued => 17 | .issueFailed => 18 | .issueCancelled => 19 | .presetDegraded => 20
  | .unknownHireMark => 21 | .receiverReturned => 22 | .receiverRecovered => 23 | .remoteReturn => 24
  | .returnHeld => 25 | .returnAnswered => 26 | .orphanDiscarded => 27 | .peerReturn => 28 | .overdue => 29
  | .lostListDropped => 30 | .accountSaturated => 31 | .settlementReady => 32 | .recoveryUnlogged => 33
  | .lineState => 34 | .frameUnheard => 35 | .lineCongestion => 36 | .peerJoined => 37 | .peerLost => 38
  | .duplicateStation => 39 | .supplyLow => 40 | .warmStart => 41 | .overrun => 42

/-- A booth input as SELECT RELAY codes it: kind, station, channel (section 10.7.1). -/
def bSelection : Selection → List Byte
  | .floor => b1 0 ++ b1 0 ++ b1 0
  | .nothing => b1 1 ++ b1 0 ++ b1 0
  | .own c => b1 2 ++ b1 0 ++ b1 c
  | .remote q c => b1 3 ++ b1 q ++ b1 c

/-- A holder: kind (0 none, 1 booth and desk, 2 feed context) and two numbers (log 11). -/
def bHolder : Holder → List Byte
  | .none => b1 0 ++ b1 0 ++ b1 0
  | .desk b d => b1 1 ++ b1 b ++ b1 d
  | .feed k => b1 2 ++ b1 k ++ b1 0

/-- Edges: station and open (section 10.7.2). -/
def bEdges (edges : List (Nat × Bool)) : List Byte := bList (fun e => b1 e.1 ++ bBool e.2) edges

/-- A lamp set: one byte a lamp, in the order of R28 (log 11). -/
def bLamps (l : Lamps) : List Byte :=
  b1 l.live.code ++ b1 l.boothBusy.code ++ b1 l.engaged.code ++ b1 l.offAir.code ++ b1 l.relayLost.code
    ++ b1 l.handOff.code

/-- An event on the port: 22 bytes (section 10.7.1). -/
def bEvent (e : Event) : List Byte :=
  b1 e.kind.code ++ be 3 e.minute ++ b1 e.second ++ b1 e.fields.length
    ++ ((e.fields ++ [0, 0, 0, 0]).take 4).flatMap (be 4)

/-- Figures of a closing, in the order of R122. -/
def bFigures (f : Figures) : List Byte :=
  be 4 f.timeCharge ++ be 4 f.lossFee ++ be 3 f.deposit ++ be 4 f.applied ++ be 4 f.refund ++ be 4 f.due

/-- A closing outcome (R122): kind, end minute, returning station, figures. -/
def bClosing (c : Closing) : List Byte :=
  b1 c.kind.code ++ be 3 c.endMinute ++ bOpt 1 b1 c.returnedAt ++ bFigures c.figures

/-- The bytes of an answer as an answer transfer shifts them out (section 10.7.1). -/
def Answer.bytes (a : Answer) : List Byte := b1 a.result.code ++ be 2 a.data.length ++ a.data

end Sys2Proof.Machine
end

