-- ==== Sys2Proof/Machine/Flags.lean ====
section
/-! DEFINITION. The flags the part shows: the event queue with its overrun count and interrupt line (R181), and the
port status byte (R178). -/

namespace Sys2Proof.Machine

/-- Queue an event (R181): a full queue drops it and raises the overrun count, which saturates. -/
def queueEvent (kind : EventKind) (fields : List Nat) (s : State) : State :=
  if s.events.queue.length < Config.eventCapacity then
    { s with events.queue := s.events.queue ++ [⟨kind, s.clock.minute, s.clock.second, fields⟩] }
  else { s with events.overrun := min (s.events.overrun + 1) Config.overrunMax }

/-- Remove the oldest event; a count above 0 places an OVERRUN event in the freed place (R181). -/
def dropOldestEvent (s : State) : State :=
  let s := { s with events.queue := s.events.queue.tail }
  if 0 < s.events.overrun then
    { queueEvent .overrun [s.events.overrun] s with events.overrun := 0 }
  else s

/-- Clear the event queue and the overrun count (R188). -/
def clearEvents (s : State) : State := { s with events := { queue := [], overrun := 0 } }

/-- The interrupt line: asserted while the queue holds an event, released in RETAIN (R181). -/
def State.interruptLine (s : State) : Bool :=
  !s.events.queue.isEmpty && s.clock.station != .retain

/-- The port status byte: answer waiting, events waiting, overrun pending (R178, section 10.7.1); 0 in RETAIN. -/
def State.statusByte (s : State) : Byte :=
  if s.clock.station = .retain then 0
  else
    BitVec.ofNat 8
      ((if s.port.answer.isSome then 128 else 0) + (if s.interruptLine then 64 else 0)
        + (if 0 < s.events.overrun then 32 else 0))

end Sys2Proof.Machine
end

