-- ==== Sys2Proof/Machine/Formats.lean ====
section
/-! DEFINITION. The wire formats (section 10.7): frames of the Centre Line with check and spacing bits, their payloads
both ways, the receiver map and the wave of the data carrier, panel words and mask words. -/

namespace Sys2Proof.Machine

/-! ### Bits (R190: most significant first) -/

/-- n in w bits. -/
def bits : Nat → Nat → Bits
  | 0, _ => []
  | w + 1, n => decide (n / 2 ^ w % 2 = 1) :: bits w n

/-- The number a run of bits spells. -/
def bitsValue (l : Bits) : Nat := l.foldl (fun acc b => acc * 2 + cond b 1 0) 0

/-- Read w bits off the front: the number and the rest, or none where fewer are left. -/
def readBits (w : Nat) (l : Bits) : Option (Nat × Bits) :=
  if w ≤ l.length then some (bitsValue (l.take w), l.drop w) else none

/-- A language tag: 15 bits, first letter first (R190). -/
def tagBits (t : Tag) : Bits := bits 5 t.l1 ++ bits 5 t.l2 ++ bits 5 t.l3

/-- A pedigree: a count of 2 bits, then 25 bits an entry (section 10.7.2). -/
def pedigreeBits (p : Pedigree) : Bits :=
  bits 2 p.length ++ p.flatMap fun e => bits 6 e.station ++ bits 4 e.booth ++ tagBits e.tag

/-- Append 0 bits up to a whole byte (R190). -/
def padByte (l : Bits) : Bits := l ++ List.replicate ((8 - l.length % 8) % 8) false

/-- One step of the 16-bit check, generator x^16 + x^12 + x^5 + 1 (R190). -/
def crcStep (reg : BitVec 16) (b : Bool) : BitVec 16 :=
  if reg.msb != b then (reg <<< 1) ^^^ 0x1021#16 else reg <<< 1

/-- The check over a run of bits: the register starts with every bit 1 (R190). -/
def crc (l : Bits) : BitVec 16 := l.foldl crcStep 0xFFFF#16

/-- Spacing bits: one of the opposite value after every run of six equal bits (R159). The last bit of the span is
followed by none (log 31). -/
def space (last : Bool) (run : Nat) : Bits → Bits
  | [] => []
  | b :: rest =>
    let n := if b = last then run + 1 else 1
    if n = 6 && !rest.isEmpty then b :: (!b) :: space (!b) 1 rest else b :: space b n rest

/-! ### Frames (R159, section 10.7.2) -/

/-- A kind's code (section 9.1). -/
def Payload.code : Payload → Nat
  | .feedOffer .. => 1 | .feedAnswer .. => 2 | .feedState .. => 3 | .claim .. => 4 | .relayRequest .. => 5
  | .relayAnswer .. => 6 | .relayRelease .. => 7 | .returnQuery .. => 8 | .returnAnswer .. => 9
  | .channelNotice .. => 10 | .presence .. => 11

/-- The precedence of a kind code (section 9.1); 7 for a code of no kind. -/
def precedenceOf (code : Nat) : Nat :=
  if code = 0 then 7 else if code ≤ 3 then 0 else if code = 4 then 1 else if code ≤ 9 then 2
  else if code = 10 then 3 else if code = 11 then 4 else 7

/-- A kind's precedence (section 9.1): 0 goes first. -/
def Payload.precedence (p : Payload) : Nat := precedenceOf p.code

/-- Is the kind broadcast (section 9.1)? -/
def broadcastKind (code : Nat) : Bool := code = 4 || code = 10 || code = 11

/-- Codes of the payload fields (section 10.7.2). -/
def claimActionCode : ClaimAction → Nat
  | .claim => 0 | .refresh => 1 | .release => 2
def endReasonCode : EndReason → Nat
  | .host => 0 | .timeout => 1 | .noTrunk => 2 | .closed => 3 | .dark => 4 | .unknown => 5
def refuseReasonCode : RefuseReason → Nat
  | .closed => 0 | .noTrunk => 1
def flagBit (b : Bool) : Bits := [b]

def signalBits : FeedSignal → Bits
  | .ready t => bits 2 0 ++ bits 4 t
  | .live p => bits 2 1 ++ pedigreeBits p
  | .silent => bits 2 2
  | .ended r => bits 2 3 ++ bits 3 (endReasonCode r)

def returnBits : ReturnOutcome → Bits
  | .closed k e t l d =>
    bits 2 0 ++ bits 1 k.code ++ bits 24 e ++ bits 27 t ++ bits 24 l ++ bits 20 d
  | .recovered m => bits 2 1 ++ bits 24 m
  | .notOpen => bits 2 2

def resourceBits : Resource → Bits
  | .subcarrier n => bits 1 0 ++ bits 5 n
  | .trunk n => bits 1 1 ++ bits 5 n

def relayOutcomeBits : RelayOutcome → Bits
  | .grant t => bits 1 0 ++ bits 4 t
  | .refuse r => bits 1 1 ++ bits 4 (refuseReasonCode r)

/-- The payload's fields, before padding (section 10.7.2). -/
def Payload.fields : Payload → Bits
  | .feedOffer b l c p => bits 4 b ++ tagBits l ++ bits 5 c ++ pedigreeBits p
  | .feedAnswer b c a => bits 4 b ++ bits 5 c ++ flagBit a
  | .feedState b c s => bits 4 b ++ bits 5 c ++ signalBits s
  | .claim r a c l => resourceBits r ++ bits 2 (claimActionCode a) ++ bits 5 c ++ tagBits l
  | .relayRequest c b => bits 5 c ++ bits 4 b
  | .relayAnswer c o => bits 5 c ++ relayOutcomeBits o
  | .relayRelease c b => bits 5 c ++ bits 4 b
  | .returnQuery s m b => bits 24 s ++ bits 24 m ++ bits 7 b
  | .returnAnswer s o => bits 24 s ++ returnBits o
  | .channelNotice c l s t p =>
    bits 5 c ++ tagBits l ++ bits 2 s.code ++ bits 4 (t.getD 0) ++ pedigreeBits p
  | .presence edges => bits 3 edges.length ++ edges.flatMap fun e => bits 6 e.1 ++ flagBit e.2

/-- The payload as sent: padded to a whole byte. -/
def Payload.bits (p : Payload) : Bits := padByte p.fields

/-- The arbitration header (R159): precedence, kind code, source. -/
def headerBits (code source : Nat) : Bits :=
  bits 3 (precedenceOf code) ++ bits 4 code ++ bits 6 source

/-- The frame's header value (R159). -/
def headerValue (code source : Nat) : Nat := bitsValue (headerBits code source)

/-- The fields of a frame that the check covers (R159): header, destination, epoch, length, payload. -/
def coveredBits (f : LineFrame) : Bits :=
  bits 3 f.precedence ++ bits 4 f.kind ++ bits 6 f.source ++ bits 6 f.destination ++ bits 8 f.epoch
    ++ bits 5 (f.payload.length / 8) ++ f.payload

/-- The span of a frame in which spacing bits are inserted (R159): start bit, covered fields and check. -/
def spanBits (f : LineFrame) : Bits := false :: coveredBits f ++ bits 16 (crc (coveredBits f)).toNat

/-- A whole frame on the line, false being dominant (R159): the span with its spacing bits, the acknowledge slot left
recessive, and the end field. -/
def lineBits (f : LineFrame) : Bits := space true 0 (spanBits f) ++ true :: List.replicate 8 true

/-- The frame a station sends for a payload (R159). -/
def frameOf (source dest epoch : Nat) (p : Payload) : LineFrame :=
  { precedence := p.precedence, kind := p.code, source, destination := dest, epoch, payload := p.bits }

/-- A payload's frame on the line. -/
def frameBits (source dest epoch : Nat) (p : Payload) : Bits := lineBits (frameOf source dest epoch p)

/-! ### Reading a frame off the line (R159, R162) -/

/-- Read n bits of a span, taking out the spacing bit after every run of six equal bits (R159): the bits and what
follows them, or none at a spacing fault, which a seventh equal bit is. A spacing bit after the last bit read is left
in place. -/
def unspace (last : Bool) (run : Nat) : Nat → Bits → Option (Bits × Bits)
  | 0, l => some ([], l)
  | _ + 1, [] => none
  | n + 1, b :: rest =>
    let r := if b = last then run + 1 else 1
    if r = 6 && n ≠ 0 then
      match rest with
      | [] => none
      | x :: rest => if x = b then none else (unspace x 1 n rest).map fun y => (b :: y.1, y.2)
    else (unspace b r n rest).map fun y => (b :: y.1, y.2)

/-- The bits of a span before its payload: start bit, header, destination, epoch, length. -/
abbrev headBits : Nat := 33

/-- What a receiver makes of a frame: its fields, or the fault it finds or notices (R162). -/
inductive Reception where
  | frame (f : LineFrame)
  | fault (fault : FrameFault)
  deriving DecidableEq, Repr

/-- The number in w bits of a run, from bit i on. -/
def bitField (l : Bits) (i w : Nat) : Nat := bitsValue ((l.drop i).take w)

/-- The fields in a span whose payload has so many bits. -/
def spanFields (l : Bits) (size : Nat) : LineFrame :=
  { precedence := bitField l 1 3, kind := bitField l 4 4, source := bitField l 8 6, destination := bitField l 14 6
    epoch := bitField l 20 8, payload := (l.drop headBits).take size }

/-- Does a run begin with a fault mark, eight dominant bits (R162)? -/
def markFirst (l : Bits) : Bool := 8 ≤ (l.takeWhile (!·)).length

/-- Is the first run of seven equal bits on the line one of eight dominant bits: another station's fault mark, and not
a spacing fault (R162, log 52)? -/
def spacingMark : Bool → Nat → Bits → Bool
  | _, _, [] => false
  | last, run, b :: rest =>
    let r := if b = last then run + 1 else 1
    if r = 7 then !b && rest.head? = some false else spacingMark b r rest

/-- The fault of a span that breaks the spacing rule: another station's mark, or a finding of this station's own. -/
def spacingFault (l : Bits) : FrameFault := if spacingMark true 0 l then .otherMark else .spacing

/-- The fault of an end field with a dominant bit, from the acknowledge slot on: another station's mark where the run
the bit stands in has eight, or a finding of this station's own (R162, log 52). -/
def endFault (tail : Bits) : FrameFault :=
  let field := tail.drop 1
  let run := (if field.head? = some false then tail else field).dropWhile id
  if markFirst run then .otherMark else .endField

/-- Receive a frame from its start bit on (R159, R162): a spacing fault, a length above 16, a check that does not match
or a dominant bit in the end field is this station's own finding, but for another station's fault mark, which it
notices; otherwise the frame's fields are read. The bit after the span is the acknowledge slot, which tells nothing. -/
def readFrame (l : Bits) : Reception :=
  match unspace true 0 headBits l with
  | none => .fault (spacingFault l)
  | some (head, _) =>
    let size := 8 * bitField head 28 5
    if 128 < size then .fault .length
    else
      match unspace true 0 (headBits + size + 16) l with
      | none => .fault (spacingFault l)
      | some (span, tail) =>
        let f := spanFields span size
        if bitField span (headBits + size) 16 ≠ (crc ((span.drop 1).take (32 + size))).toNat then .fault .check
        else if ((tail.drop 1).take 8).contains false then .fault (endFault tail)
        else .frame f

/-! ### Reading payloads (R175, section 10.7.2) -/

/-- Bind for a reader. -/
def andThen {α β : Type} (x : Option (α × Bits)) (f : α → Bits → Option (β × Bits)) : Option (β × Bits) :=
  match x with
  | none => none
  | some (a, l) => f a l

/-- A result with the rest of the bits. -/
def ret {α : Type} (a : α) (l : Bits) : Option (α × Bits) := some (a, l)

def readTag (l : Bits) : Option (Tag × Bits) :=
  andThen (readBits 5 l) fun a l => andThen (readBits 5 l) fun b l => andThen (readBits 5 l) fun c l => ret ⟨a, b, c⟩ l

def readEntries : Nat → Bits → Option (Pedigree × Bits)
  | 0, l => ret [] l
  | n + 1, l =>
    andThen (readBits 6 l) fun q l => andThen (readBits 4 l) fun b l => andThen (readTag l) fun t l =>
      andThen (readEntries n l) fun rest l => ret (⟨q, b, t⟩ :: rest) l

def readPedigree (l : Bits) : Option (Pedigree × Bits) := andThen (readBits 2 l) readEntries

def readFlag (l : Bits) : Option (Bool × Bits) := andThen (readBits 1 l) fun n l => ret (decide (n = 1)) l

def readEdges : Nat → Bits → Option (List (Nat × Bool) × Bits)
  | 0, l => ret [] l
  | n + 1, l =>
    andThen (readBits 6 l) fun q l => andThen (readFlag l) fun o l =>
      andThen (readEdges n l) fun rest l => ret ((q, o) :: rest) l

def readReason (l : Bits) : Option (EndReason × Bits) :=
  andThen (readBits 3 l) fun n l =>
    match n with
    | 0 => ret .host l | 1 => ret .timeout l | 2 => ret .noTrunk l | 3 => ret .closed l | 4 => ret .dark l
    | 5 => ret .unknown l | _ => none

def readSignal (l : Bits) : Option (FeedSignal × Bits) :=
  andThen (readBits 2 l) fun n l =>
    match n with
    | 0 => andThen (readBits 4 l) fun t l => ret (.ready t) l
    | 1 => andThen (readPedigree l) fun p l => ret (.live p) l
    | 2 => ret .silent l
    | _ => andThen (readReason l) fun r l => ret (.ended r) l

def readResource (l : Bits) : Option (Resource × Bits) :=
  andThen (readBits 1 l) fun k l => andThen (readBits 5 l) fun n l =>
    if k = 0 then ret (.subcarrier n) l else ret (.trunk n) l

def readAction (l : Bits) : Option (ClaimAction × Bits) :=
  andThen (readBits 2 l) fun n l =>
    match n with
    | 0 => ret .claim l | 1 => ret .refresh l | 2 => ret .release l | _ => none

def readRelayOutcome (l : Bits) : Option (RelayOutcome × Bits) :=
  andThen (readBits 1 l) fun k l => andThen (readBits 4 l) fun n l =>
    if k = 0 then ret (.grant n) l
    else if n = 0 then ret (.refuse .closed) l
    else if n = 1 then ret (.refuse .noTrunk) l
    else none

def readNoticeState (l : Bits) : Option (NoticeState × Bits) :=
  andThen (readBits 2 l) fun n l =>
    match n with
    | 0 => ret .live l | 1 => ret .silent l | 2 => ret .closed l | _ => none

def readReturnOutcome (l : Bits) : Option (ReturnOutcome × Bits) :=
  andThen (readBits 2 l) fun n l =>
    match n with
    | 0 =>
      andThen (readBits 1 l) fun k l => andThen (readBits 24 l) fun e l => andThen (readBits 27 l) fun t l =>
        andThen (readBits 24 l) fun f l => andThen (readBits 20 l) fun d l =>
          ret (.closed (if k = 0 then .ret else .loss) e t f d) l
    | 1 => andThen (readBits 24 l) fun m l => ret (.recovered m) l
    | 2 => ret .notOpen l
    | _ => none

/-- Read a payload of a kind code: the payload and the bits left. -/
def readPayload (code : Nat) (l : Bits) : Option (Payload × Bits) :=
  match code with
  | 1 =>
    andThen (readBits 4 l) fun b l => andThen (readTag l) fun t l => andThen (readBits 5 l) fun c l =>
      andThen (readPedigree l) fun p l => ret (.feedOffer b t c p) l
  | 2 =>
    andThen (readBits 4 l) fun b l => andThen (readBits 5 l) fun c l => andThen (readFlag l) fun a l =>
      ret (.feedAnswer b c a) l
  | 3 =>
    andThen (readBits 4 l) fun b l => andThen (readBits 5 l) fun c l => andThen (readSignal l) fun s l =>
      ret (.feedState b c s) l
  | 4 =>
    andThen (readResource l) fun r l => andThen (readAction l) fun a l => andThen (readBits 5 l) fun c l =>
      andThen (readTag l) fun t l => ret (.claim r a c t) l
  | 5 => andThen (readBits 5 l) fun c l => andThen (readBits 4 l) fun b l => ret (.relayRequest c b) l
  | 6 => andThen (readBits 5 l) fun c l => andThen (readRelayOutcome l) fun o l => ret (.relayAnswer c o) l
  | 7 => andThen (readBits 5 l) fun c l => andThen (readBits 4 l) fun b l => ret (.relayRelease c b) l
  | 8 =>
    andThen (readBits 24 l) fun s l => andThen (readBits 24 l) fun m l => andThen (readBits 7 l) fun b l =>
      ret (.returnQuery s m b) l
  | 9 => andThen (readBits 24 l) fun s l => andThen (readReturnOutcome l) fun o l => ret (.returnAnswer s o) l
  | 10 =>
    andThen (readBits 5 l) fun c l => andThen (readTag l) fun t l => andThen (readNoticeState l) fun s l =>
      andThen (readBits 4 l) fun k l => andThen (readPedigree l) fun p l =>
        ret (.channelNotice c t s (if k = 0 then none else some k) p) l
  | 11 => andThen (readBits 3 l) fun n l => andThen (readEdges n l) fun e l => ret (.presence e) l
  | _ => none

/-- R175's ranges of payload fields. -/
def Payload.ok : Payload → Bool
  | .feedOffer b l c p => b ≤ 8 && l.ok && c ≤ 31 && pedigreeOk p
  | .feedAnswer b c _ => b ≤ 8 && c ≤ 31
  | .feedState b c s => b ≤ 8 && c ≤ 31 && (match s with
      | .ready t => trunkOk t
      | .live p => pedigreeOk p
      | _ => true)
  | .claim r _ c l => r.ok && c ≤ 31 && l.ok
  | .relayRequest c b => c ≤ 31 && b ≤ 8
  | .relayAnswer c o => c ≤ 31 && o.ok
  | .relayRelease c b => c ≤ 31 && b ≤ 8
  | .returnQuery s m b => s < 2 ^ 24 && m < 2 ^ 24 && b ≤ 100
  | .returnAnswer s o => s < 2 ^ 24 && o.ok
  | .channelNotice c l _ t p => c ≤ 31 && l.ok && t.all trunkOk && pedigreeOk p
  | .presence e => e.length ≤ 4 && e.all (fun x => stationOk x.1)

/-- Read a whole payload: every field in range and less than a byte of padding left (R175). -/
def payloadOf (code : Nat) (l : Bits) : Option Payload :=
  match readPayload code l with
  | none => none
  | some (p, rest) => if p.ok && rest.length < 8 then some p else none

/-- A received frame as station self takes it at delivery (R175): its payload, where its precedence is that of its
kind, its destination 0 for a broadcast kind and this station for an addressed one, and its payload one of the kind;
none where the frame is not delivered (log 13). -/
def takenBy (self : Nat) (f : LineFrame) : Option Payload :=
  if f.precedence = precedenceOf f.kind && f.destination = (if broadcastKind f.kind then 0 else self) then
    payloadOf f.kind f.payload
  else none

/-! ### The receiver map and its wave (sections 5.7, 10.7.3) -/

def mapStatusCode : MapStatus → Nat
  | .live => 0 | .silent => 1 | .retuning => 2 | .unavailable => 3

/-- A record: 29 bits (section 10.7.3). -/
def recordBits (r : MapRecord) : Bits :=
  bits 5 r.channel ++ tagBits r.language ++ bits 2 (mapStatusCode r.status) ++ flagBit r.relay
    ++ flagBit r.subcarrier.isSome ++ bits 5 (r.subcarrier.getD 0)

/-- Header and records (section 10.7.3). -/
def mapContent (m : RMap) : Bits :=
  bits 6 m.station ++ bits 8 m.version ++ bits 6 m.records.length ++ m.records.flatMap recordBits

/-- The bits of a map cycle after its lead-in (R101): header, records, map check, with no padding (section 10.7.3,
log 45). -/
def mapBits (m : RMap) : Bits := mapContent m ++ bits 16 (crc (mapContent m)).toNat

/-- A stretch of the data-carrier output: how long it lasts in part-clock periods, and the carrier that runs during
it (its high and low counts), or none where the output is held low. -/
structure Stretch where
  clocks : Nat
  carrier : Option (Nat × Nat)
  deriving DecidableEq, Repr

/-- The level of the output i part-clock periods into a stretch (R98): carrier periods, each high for the high count
and then low for the low count; low where no carrier runs. -/
def Stretch.level (x : Stretch) (i : Nat) : Bool :=
  match x.carrier with
  | some (high, low) => i % (high + low) < high
  | none => false

/-- The level of the output i part-clock periods into a run of stretches; low after the last. -/
def waveLevel : List Stretch → Nat → Bool
  | [], _ => false
  | x :: rest, i => if i < x.clocks then x.level i else waveLevel rest (i - x.clocks)

/-- One bit on the carrier: a mark and a space (R99), or a stretch of its tone (R100). -/
def bitStretches (c : CarrierConfig) (b : Bool) : List Stretch :=
  match c.coding with
  | .pulseLength =>
    [⟨(if b then c.mark1 else c.mark0) * (c.high + c.low), some (c.high, c.low)⟩, ⟨c.space * (c.high + c.low), none⟩]
  | .twoTone =>
    if b then [⟨c.bitLength * (c.high2 + c.low2), some (c.high2, c.low2)⟩]
    else [⟨c.bitLength * (c.high + c.low), some (c.high, c.low)⟩]

/-- The lead-in: 64 carrier periods and a space (R99), or 64 periods of the 0 tone held low (R100). -/
def leadIn (c : CarrierConfig) : List Stretch :=
  match c.coding with
  | .pulseLength => [⟨64 * (c.high + c.low), some (c.high, c.low)⟩, ⟨c.space * (c.high + c.low), none⟩]
  | .twoTone => [⟨64 * (c.high + c.low), none⟩]

/-- The wave of one map cycle (R101). -/
def cycleWave (c : CarrierConfig) (m : RMap) : List Stretch :=
  leadIn c ++ (mapBits m).flatMap (bitStretches c)

/-- The length of a run of bits in part-clock periods (R99, R100). -/
def runClocks (c : CarrierConfig) (l : Bits) : Nat := ((l.flatMap (bitStretches c)).map Stretch.clocks).sum

/-- The data-carrier output of the machine: the wave of the front map, cycle after cycle, while the radiator is on
(R97); held low otherwise. -/
def State.carrierWave (s : State) : List Stretch :=
  match s.clock.config with
  | some cfg => if s.map.radiator then cycleWave cfg.carrier s.map.front else []
  | none => []

/-- The level of the data-carrier output i part-clock periods after a map cycle begins (R98). -/
def State.carrierLevel (s : State) (i : Nat) : Bool := waveLevel s.carrierWave i

/-- The mask word's 33 bits: the radiator flag, then subcarriers 31 to 0 (section 10.7.4). -/
def MaskWord.bits (w : MaskWord) : Bits :=
  w.radiator :: (List.range 32).map fun i => w.mask.contains (31 - i)

/-! ### Panel words (R103, section 10.7.4) -/

def addressWord (a : Nat) : PanelWord := ⟨true, BitVec.ofNat 8 a⟩
def dataWord (n : Nat) : PanelWord := ⟨false, BitVec.ofNat 8 n⟩

/-- A run of bits in data words, padded with 0 bits (log 12). -/
def bitsWords : Nat → Bits → List PanelWord
  | 0, _ => []
  | n + 1, l => dataWord (bitsValue ((padByte l).take 8)) :: bitsWords n ((padByte l).drop 8)

def lampBits (l : Lamps) : Bits :=
  bits 2 l.live.code ++ bits 2 l.boothBusy.code ++ bits 2 l.engaged.code ++ bits 2 l.offAir.code
    ++ bits 2 l.relayLost.code ++ bits 2 l.handOff.code

/-- The panel address of slot k (R111). -/
def slotAddress (k : Nat) : Nat := 31 + k

/-- The drop a message is sent to (R104). -/
def Body.drop : Body → Nat
  | .route _ => 0
  | .gate d _ => d
  | .latch k _ => slotAddress k
  | .preset k _ _ => slotAddress k
  | .clearMark k => slotAddress k
  | .lamps d _ _ => d
  | .identify k => slotAddress k

/-- A message's kind. -/
def Body.kind : Body → MsgKind
  | .route _ => .route | .gate .. => .gate | .latch .. => .latch | .preset .. => .preset
  | .clearMark _ => .clearMark | .lamps .. => .lamps | .identify _ => .identify

/-- A message's data words (section 10.7.4); a ROUTE's source is given, read from the route table (R106). -/
def Body.dataWords (source : Source) : Body → List PanelWord
  | .route o => [dataWord o, dataWord source.code]
  | .gate _ o => [dataWord (if o then 1 else 0)]
  | .latch _ o => [dataWord (if o then 1 else 0)]
  | .preset _ t q => bitsWords 2 (tagBits t) ++ [dataWord q]
  | .clearMark _ => []
  | .lamps _ l f => bitsWords 2 (lampBits l) ++ [dataWord ((f.map Lamp.code).getD 0)]
  | .identify _ => []

/-- The words of a message: address, kind, data (R103). -/
def Body.words (source : Source) (b : Body) : List PanelWord :=
  addressWord b.drop :: dataWord b.kind.code :: b.dataWords source

/-- The words of a poll (R103). -/
def pollWords (drop : Nat) : List PanelWord := [addressWord drop, dataWord MsgKind.poll.code]

end Sys2Proof.Machine
end

