-- ==== Sys2Proof/Machine/Ops.lean ====
section
/-! DEFINITION. The operations every block shares: the transmit queue of the Line Interface (section 9.5), the outbound
queue, deferred list and route table of the Panel Bus Controller (sections 6.3, 6.4), mask words (R96), the held
status of a channel (R30) and its channel notice (R69). -/

namespace Sys2Proof.Machine

/-! ### Configuration and station state -/

/-- The configuration; every field 0 while there is none. -/
def State.cfg (s : State) : StationConfig := s.clock.config.getD default

/-- This station's number. -/
def State.self (s : State) : Nat := s.cfg.station

/-- The blocks run (section 10.4): RUNNING, and RESET not held (R188). -/
def State.running (s : State) : Bool := s.clock.station = .running && !s.clock.resetHeld

/-- Events reach the blocks only while they run. -/
def whenRunning (s : State) (f : State → State) : State := if s.running then f s else s

/-! ### Small updates -/

/-- Change channel c's entry, if it is open. -/
def modChannel (c : Nat) (f : Channel → Channel) (s : State) : State :=
  { s with planner.channels := Tab.modify s.planner.channels c f }

/-- Change booth b's record. -/
def modBooth (b : Nat) (f : Booth → Booth) (s : State) : State :=
  { s with booth.booths := Tab.modify s.booth.booths b f }

/-- Change desk d's record. -/
def modDesk (d : Nat) (f : Desk → Desk) (s : State) : State :=
  { s with booth.desks := Tab.modify s.booth.desks d f }

/-- Change feed context k. -/
def modFeed (k : Nat) (f : Feed → Feed) (s : State) : State :=
  { s with feed.contexts := Tab.modify s.feed.contexts k f }

/-- Change slot k's record. -/
def modSlot (k : Nat) (f : Slot → Slot) (s : State) : State :=
  { s with dock.slots := Tab.modify s.dock.slots k f }

/-- Apply an operation for each number of a list, in order. -/
def forEach (l : List Nat) (f : Nat → State → State) (s : State) : State := l.foldl (fun s k => f k s) s

/-- Remove the last element a predicate picks. -/
def dropLastMatch {α : Type} (p : α → Bool) (l : List α) : List α := (l.reverse.eraseP p).reverse

/-- The last element a predicate picks. -/
def lastMatch {α : Type} (p : α → Bool) (l : List α) : Option α := l.reverse.find? p

/-! ### The transmit queue (R168 to R170) -/

/-- Superseding keys (R169). -/
inductive FrameKey where
  | presence
  | claim (resource : Resource)
  | notice (channel : Nat)
  deriving DecidableEq, Repr

/-- A payload's superseding key; feed, relay and return frames have none (R169). -/
def Payload.key : Payload → Option FrameKey
  | .presence _ => some .presence
  | .claim r .. => some (.claim r)
  | .channelNotice c .. => some (.notice c)
  | _ => none

/-- Is the frame queued, out of transmission, under the key of p? -/
def supersededBy (p : Payload) (f : TxFrame) : Bool :=
  p.key.isSome && f.payload.key = p.key && f.sending.isNone

/-- Hand a frame to the Line Interface (R164, R169, R170): nothing is queued in DETACHED; a frame of the same key
out of transmission is replaced in its place; otherwise the frame joins as the youngest, displacing the youngest
frame of lower precedence when 24 are queued, or is refused. -/
def enqueueFrame (dest : Nat) (p : Payload) (s : State) : State :=
  let f : TxFrame := { dest, payload := p, sending := none, noAcks := 0 }
  let lower := fun g : TxFrame => p.precedence < g.payload.precedence && g.sending.isNone
  if s.line.state = .detached then s
  else if s.line.queue.any (supersededBy p) then
    { s with line.queue := s.line.queue.map fun g => if supersededBy p g then f else g }
  else if s.line.queue.length < Config.transmitCapacity then
    { s with line.queue := s.line.queue ++ [f] }
  else
    match lastMatch lower s.line.queue with
    | some lost =>
      queueEvent .lineCongestion [lost.payload.code, lost.dest, 0]
        { s with line.queue := dropLastMatch lower s.line.queue ++ [f] }
    | none => queueEvent .lineCongestion [p.code, dest, 1] s

/-- This station's own edges as they stand: bound inputs in order with their debounced position (R171). -/
def State.ownEdges (s : State) : List (Nat × Bool) :=
  s.cfg.walls.map fun e => (e.2, ((Tab.get s.planner.walls e.1).map Wall.position).getD false)

/-- Queue a PRESENCE (R171); where the presence timer runs, its 2 s period restarts, also where a full queue refuses the
frame (log 42). -/
def queuePresence (s : State) : State :=
  let s := enqueueFrame 0 (.presence s.ownEdges) s
  { s with line.presence := s.line.presence.map fun _ => Config.presenceMs }

/-! ### The outbound queue and the deferred list (R106, R107) -/

/-- Class order of the outbound queue (R106). -/
def Body.cls : Body → Nat
  | .route _ => 0 | .gate .. => 1 | .latch .. | .preset .. | .clearMark _ => 2 | .lamps .. => 3 | .identify _ => 4

/-- Target and kind of a message (R107). -/
def Body.target : Body → Target
  | .route o => .route o | .gate d _ => .gate d | .latch k _ => .latch k | .preset k _ _ => .preset k
  | .clearMark k => .clearMark k | .lamps d _ _ => .lamps d | .identify k => .identify k

/-- Class of a deferred entry (R107). -/
def Target.cls : Target → Nat
  | .route _ => 0 | .gate _ => 1 | .latch _ | .preset _ | .clearMark _ => 2 | .lamps _ => 3 | .identify _ => 4

/-- The drop a deferred entry is for. -/
def Target.drop : Target → Nat
  | .route _ => 0
  | .gate d | .lamps d => d
  | .latch k | .preset k | .clearMark k | .identify k => slotAddress k

/-- Is the drop ONLINE (R105)? -/
def State.dropOnline (s : State) (a : Nat) : Bool := ((Tab.get s.panel.drops a).map Drop.online).getD false

/-- Kinds whose newer message replaces a queued one (R106). -/
def Target.replaced : Target → Bool
  | .gate _ | .lamps _ | .latch _ => true
  | _ => false

/-- Kinds of which a second message is not queued (R106). -/
def Target.single : Target → Bool
  | .route _ | .identify _ => true
  | _ => false

/-- Is the message queued, not in transmission, for the same target and kind? -/
def sameQueued (t : Target) (m : Message) : Bool := m.body.target = t && !m.sending

/-- Record a target in the deferred list, at most once (R107). -/
def deferTarget (t : Target) (s : State) : State :=
  if s.panel.deferred.contains t then s else { s with panel.deferred := s.panel.deferred ++ [t] }

/-- Queue a message (R105 to R107): none for a drop that is OFFLINE or while the station is not RUNNING; superseded
by kind; displacing a later class, or deferred, when 48 are queued. -/
def queueMessage (b : Body) (origin : Origin) (s : State) : State :=
  let m : Message := { body := b, origin, sending := false }
  let later := fun n : Message => b.cls < n.body.cls && !n.sending
  if s.clock.station ≠ .running || !s.dropOnline b.drop then s
  else if b.target.replaced && s.panel.outbound.any (sameQueued b.target) then
    { s with panel.outbound := s.panel.outbound.map fun n => if sameQueued b.target n then m else n }
  else if b.target.single && s.panel.outbound.any (sameQueued b.target) then s
  else if s.panel.outbound.length < Config.outboundCapacity then
    { s with panel.outbound := s.panel.outbound ++ [m] }
  else if s.panel.deferred.contains b.target then s
  else
    match lastMatch later s.panel.outbound with
    | some n =>
      deferTarget n.body.target { s with panel.outbound := dropLastMatch later s.panel.outbound ++ [m] }
    | none => deferTarget b.target s

/-- The issue context bound to a slot, with its number. -/
def State.issueOf (s : State) (k : Nat) : Option (Nat × Issue) := s.dock.issues.find? fun e => e.2.slot = k

/-- A slot with a receiver: neither EMPTY nor OFFLINE, so that its IDENTIFY still has its cause (R107). -/
def State.slotOccupied (s : State) (k : Nat) : Bool :=
  match Tab.get s.dock.slots k with
  | some sl => sl.state ≠ .empty && sl.state ≠ .offline
  | none => false

/-- The message an owner's state makes of a target (R107): none where its cause has gone. A LATCH is the slot's whether
or not it holds a receiver (R116, log 48): it carries the position wanted. -/
def messageFor (s : State) : Target → Option (Body × Origin)
  | .route o => some (.route o, .plain)
  | .gate d => (Tab.get s.booth.desks d).map fun r => (.gate d r.gate, .plain)
  | .lamps d => (Tab.get s.booth.desks d).map fun r => (.lamps d r.lamps none, .plain)
  | .identify k => if s.slotOccupied k then some (.identify k, .plain) else none
  | .latch k =>
    match Tab.get s.dock.slots k with
    | none => none
    | some sl =>
      if sl.state = .offline then none
      else match s.issueOf k with
        | some (n, i) =>
          some (.latch k sl.latchOpen, if sl.latchOpen && i.phase = .unlatching then .issue n else .plain)
        | none => some (.latch k sl.latchOpen, .plain)
  | .preset k =>
    match s.issueOf k with
    | some (n, i) => if i.phase = .presetting then some (.preset k i.tag s.self, .issue n) else none
    | none => none
  | .clearMark k =>
    match Tab.get s.dock.slots k with
    | some sl => if sl.clearMark then some (.clearMark k, .plain) else none
    | none => none

/-- The oldest deferred entry of the earliest class. -/
def nextDeferred (l : List Target) : Option Target :=
  (List.range 5).findSome? fun c => l.find? fun t => t.cls = c

/-- While the queue has room, make the deferred entries into messages, earliest class and oldest first; an entry
whose cause has gone is discarded (R107). -/
def refill : Nat → State → State
  | 0, s => s
  | n + 1, s =>
    if s.panel.outbound.length < Config.outboundCapacity then
      match nextDeferred s.panel.deferred with
      | none => s
      | some t =>
        let s := { s with panel.deferred := s.panel.deferred.erase t }
        match messageFor s t with
        | some (b, o) => refill n (queueMessage b o s)
        | none => refill n s
    else s

/-- Remove messages from the outbound queue, and fill the room from the deferred list (R107). -/
def removeMessages (p : Message → Bool) (s : State) : State :=
  let s := { s with panel.outbound := s.panel.outbound.filter fun m => !p m }
  refill s.panel.deferred.length s

/-! ### The route table (R110) -/

/-- Output numbers of the matrix (section 10.7.4). -/
def busOutput (c : Nat) : Nat := c
def sendOutput (t : Nat) : Nat := 31 + t
def inputOutput (b : Nat) : Nat := 43 + b

/-- The source of a matrix output. -/
def State.route (s : State) (o : Nat) : Source := (Tab.get s.panel.routes o).getD .none

/-- Set the source of an output; every change queues a ROUTE (R110). -/
def setRoute (o : Nat) (src : Source) (s : State) : State :=
  if s.route o = src then s
  else
    let routes := if src = .none then Tab.erase s.panel.routes o else Tab.set s.panel.routes o src
    queueMessage (.route o) .plain { s with panel.routes := routes }

/-! ### The emission mask (R95, R96) -/

/-- Start a mask word where none is being sent; the word in progress is completed first (R96). -/
def sendMaskWord (s : State) : State :=
  match s.map.sending with
  | some _ => s
  | none => { s with map.sending := some ⟨s.map.radiator, s.map.mask⟩ }

/-- The subcarriers of own ON AIR channels, rising (R95). -/
def State.onAirSubcarriers (s : State) : List Nat :=
  (List.range 32).filter fun sc =>
    s.planner.channels.any fun e => e.2.state = .onAir && e.2.subcarrier = some sc

/-- Bring the mask to the subcarriers of ON AIR channels, sending a word when it changes (R95, R96). -/
def syncMask (s : State) : State :=
  let m := s.onAirSubcarriers
  if m = s.map.mask then s else sendMaskWord { s with map.mask := m }

/-- Set the radiator flag, sending a word when it changes (R96). -/
def setRadiator (on : Bool) (s : State) : State :=
  if s.map.radiator = on then s else sendMaskWord { s with map.radiator := on }

/-! ### Held status and channel notices -/

/-- Is open channel c held: channel 0 whenever the hall is in SESSION (R5), any other when it has a holder there
(R30)? -/
def State.channelHeld (s : State) (c : Nat) (ch : Channel) : Bool :=
  s.planner.hall = .session && (c = 0 || ch.holder ≠ .none)

/-- The notice state of an open channel (R69). -/
def State.noticeState (s : State) (c : Nat) (ch : Channel) : NoticeState :=
  if s.channelHeld c ch then .live else .silent

/-- The trunk a channel is exported on, when its claim is HELD (R69). -/
def State.exportTrunk (s : State) (c : Nat) : Option Nat :=
  match Tab.get s.relay.exported c with
  | some e =>
    match Tab.get s.planner.trunks e.trunk with
    | some (.own .held _ _ _ _) => some e.trunk
    | _ => none
  | none => none

/-- Queue a CHANNEL NOTICE with the channel's fields as they stand, and restart its notice timer (R69). The timer
restarts also where a full queue refuses the notice (log 42). -/
def queueNotice (c : Nat) (s : State) : State :=
  match Tab.get s.planner.channels c with
  | none => s
  | some ch =>
    let st := s.noticeState c ch
    enqueueFrame 0 (.channelNotice c ch.language st (s.exportTrunk c) ch.pedigree)
      (modChannel c (fun ch => { ch with announced := st, notice := some Config.noticeMs }) s)

end Sys2Proof.Machine
end

