-- ==== Sys2Proof/Machine/Accounts.lean ====
section
/-! DEFINITION. Tariff Calculator and Accounts (chapter 8): the price of a hire and of a channel opening, the account
totals, the settlement log and the closing queue. -/

namespace Sys2Proof.Machine

/-! ### Money (R144, R149) -/

/-- A sum that saturates. -/
def satAdd (a b : Nat) : Nat := min (a + b) Config.moneyMax

/-- A product that saturates. -/
def satMul (a b : Nat) : Nat := min (a * b) Config.moneyMax

/-! ### Day boundaries (R135, R141) -/

/-- The least day boundary after s. -/
def nextBoundary (b s : Nat) : Nat := s + (1440 - (s + (1440 - b)) % 1440)

/-- The greatest day boundary at or before e, for an e that is not before the first boundary. -/
def lastBoundary (b e : Nat) : Nat := e - (e + (1440 - b)) % 1440

/-- The hire days touched by a hire from s to t (R135): 1 and the boundaries strictly between. -/
def daysTouched (b s t : Nat) : Nat :=
  if nextBoundary b s < t then 2 + (t - 1 - nextBoundary b s) / 1440 else 1

/-! ### The time charge (R142 to R144) -/

/-- The asked end minute, clamped between the start and the present (R142). -/
def clampEnd (start asked present : Nat) : Nat := max start (min asked present)

/-- Units of billable minutes, rounded up (R143). -/
def unitsOf (t : Tariff) (minutes : Nat) : Nat := (minutes + t.unit - 1) / t.unit

/-- A raw charge under the day cap (R143). -/
def capped (t : Tariff) (raw : Nat) : Nat := if t.cap = 0 then raw else min raw t.cap

/-- The charge of a piece of so many billable minutes (R143). -/
def pieceCharge (t : Tariff) (minutes : Nat) : Nat := capped t (satMul (unitsOf t minutes) t.price)

/-- The time charge from s to a clamped e (R142 to R144). A dropped last segment charges 0. -/
def timeCharge (b : Nat) (t : Tariff) (s e : Nat) : Nat :=
  let b1 := nextBoundary b s
  if e = s then 0
  else if e ≤ b1 then pieceCharge t (e - s - t.grace)
  else
    let n := (lastBoundary b e - b1) / 1440
    satAdd (satAdd (pieceCharge t (b1 - s - t.grace)) (satMul n (pieceCharge t 1440)))
      (pieceCharge t (e - lastBoundary b e))

/-- Figures from a time charge, a loss fee and a deposit (R145, R146). -/
def figuresOf (time lossFee deposit : Nat) : Figures :=
  let charge := satAdd time lossFee
  let applied := min charge deposit
  { timeCharge := time, lossFee, deposit, applied, refund := deposit - applied, due := charge - applied }

/-- The tariff a hire names. -/
def State.tariff (s : State) (n : Nat) : Tariff := (Tab.get s.cfg.tariffs n).getD default

/-- The time charge of a hire ending at a minute (R142). -/
def State.hireCharge (s : State) (h : Hire) (asked : Nat) : Nat :=
  timeCharge s.cfg.dayBoundary (s.tariff h.tariff) h.start (clampEnd h.start asked s.clock.minute)

/-- The closing outcome of a hire (R122, R124). -/
def State.closingOf (s : State) (h : Hire) (kind : HireKind) (asked : Nat) (returnedAt : Option Nat) : Closing :=
  { kind, returnedAt, endMinute := clampEnd h.start asked s.clock.minute
    figures :=
      figuresOf (s.hireCharge h asked) (if kind = .loss then (s.tariff h.tariff).lossFee else 0) h.deposit }

/-! ### Account totals (R147 to R149) -/

/-- The saturating fields of an account. -/
inductive Total where
  | hireRevenue | lossRevenue | refunds | balanceDue | channelMinutes | channelRevenue
  deriving DecidableEq, Repr

/-- A field's code in ACCOUNT SATURATED: its place in the table of R147 (log 12). -/
def Total.code : Total → Nat
  | .hireRevenue => 2 | .lossRevenue => 3 | .refunds => 4 | .balanceDue => 5 | .channelMinutes => 6
  | .channelRevenue => 7

/-- A field's value. -/
def Total.get (a : Account) : Total → Nat
  | .hireRevenue => a.hireRevenue | .lossRevenue => a.lossRevenue | .refunds => a.refunds
  | .balanceDue => a.balanceDue | .channelMinutes => a.channelMinutes | .channelRevenue => a.channelRevenue

/-- Put a value in a field. -/
def Total.put (n : Nat) (a : Account) : Total → Account
  | .hireRevenue => { a with hireRevenue := n } | .lossRevenue => { a with lossRevenue := n }
  | .refunds => { a with refunds := n } | .balanceDue => { a with balanceDue := n }
  | .channelMinutes => { a with channelMinutes := n } | .channelRevenue => { a with channelRevenue := n }

/-- Change account a's record. -/
def modAccount (a : Nat) (f : Account → Account) (s : State) : State :=
  { s with account.accounts := Tab.modify s.account.accounts a f }

/-- Add to a saturating field (R149): the first saturation of the account sets its flag and queues the event. -/
def book (a : Nat) (f : Total) (n : Nat) (s : State) : State :=
  match Tab.get s.account.accounts a with
  | none => s
  | some r =>
    let s := modAccount a (fun r => f.put (satAdd (f.get r) n) r) s
    if Config.moneyMax < f.get r + n && !r.saturated then
      queueEvent .accountSaturated [a, f.code] (modAccount a (fun r => { r with saturated := true }) s)
    else s

/-! ### The settlement log and the closing queue (R152 to R156) -/

/-- A record enters the log (R152). -/
def enterLog (st : Settlement) (s : State) : State :=
  let t :=
    { s with
      account.log := s.account.log ++ [⟨s.account.nextNumber, st⟩]
      account.nextNumber := (s.account.nextNumber + 1) % 65536 }
  if s.account.log.isEmpty then queueEvent .settlementReady [] t else t

/-- Does a closing enter the log at once (R152)? -/
def State.logOpen (s : State) : Bool := s.account.log.length < Config.logCapacity && s.account.closing.isEmpty

/-- The slots held for a serial whose record has just left the table are identified again (R128). -/
def endHolds (serial : Nat) (s : State) : State :=
  let held := Tab.keys (s.dock.slots.filter fun e => e.2.hold.any fun h => h.serial = serial && !h.released)
  forEach held
    (fun k s =>
      queueMessage (.identify k) .plain
        (modSlot k (fun sl => { sl with hold := sl.hold.map fun h => { h with released := true } }) s))
    s

/-- A hire record leaves the table: its deposit leaves deposits held and the Dock Manager is told (R124, R148). -/
def hireLeaves (serial : Nat) (s : State) : State :=
  match Tab.get s.ledger.hires serial with
  | none => s
  | some h =>
    endHolds serial
      (modAccount h.account (fun r => { r with depositsHeld := r.depositsHeld - h.deposit })
        { s with ledger.hires := Tab.erase s.ledger.hires serial })

/-- Close an OPEN hire (R124): price and book it, then log it or leave it waiting as CLOSING. -/
def closeHire (serial : Nat) (kind : HireKind) (asked : Nat) (returnedAt : Option Nat) (s : State) : State :=
  match Tab.get s.ledger.hires serial with
  | none => s
  | some h =>
    let c := s.closingOf h kind asked returnedAt
    let s := book h.account .hireRevenue c.figures.timeCharge s
    let s := book h.account .lossRevenue c.figures.lossFee s
    let s := book h.account .refunds c.figures.refund s
    let s := book h.account .balanceDue c.figures.due s
    if s.logOpen then hireLeaves serial (enterLog (.hire serial h.account h.tariff h.start c) s)
    else
      { s with
        ledger.hires := Tab.set s.ledger.hires serial { h with closing := some c }
        account.closing := s.account.closing ++ [.hire serial] }

/-- The settlement of a channel closing (R151). -/
def State.billOf (s : State) (c : Nat) (ch : Channel) : ChannelBill :=
  let minutes := (ch.liveSeconds + 59) / 60
  { channel := c, account := ch.account, opening := ch.opening, close := s.clock.minute
    liveSeconds := ch.liveSeconds, minutes
    charge := satMul minutes (((Tab.get s.account.accounts ch.account).map Account.rate).getD 0) }

/-- Two closings of one channel, merged (R154). -/
def mergeBills (old new : ChannelBill) : ChannelBill :=
  { old with
    close := new.close
    liveSeconds := satAdd old.liveSeconds new.liveSeconds
    minutes := satAdd old.minutes new.minutes
    charge := satAdd old.charge new.charge }

/-- Is the closing-queue item the pending settlement of a channel? -/
def ClosingItem.pendingOf (c : Nat) : ClosingItem → Bool
  | .channel b => b.channel = c
  | _ => false

/-- A closing that waits: merged into the channel's pending settlement, or the youngest item (R154). -/
def waitBill (new : ChannelBill) (s : State) : State :=
  if s.account.closing.any (ClosingItem.pendingOf new.channel) then
    { s with
      account.closing := s.account.closing.map fun i =>
        match i with
        | .channel old => if old.channel = new.channel then .channel (mergeBills old new) else i
        | _ => i }
  else { s with account.closing := s.account.closing ++ [.channel new] }

/-- Settle a channel that closes (R151): book it, then log it or let it wait. -/
def settleChannel (c : Nat) (ch : Channel) (s : State) : State :=
  let bill := s.billOf c ch
  let s := book ch.account .channelMinutes bill.minutes s
  let s := book ch.account .channelRevenue bill.charge s
  if s.logOpen then enterLog (.channel bill) s else waitBill bill s

/-- Is the closing-queue item a pending recovery? -/
def ClosingItem.isRecovery : ClosingItem → Bool
  | .recovery .. => true
  | _ => false

/-- A RECOVERY settlement (R155). -/
def settleRecovery (serial account minute : Nat) (s : State) : State :=
  if s.logOpen then enterLog (.recovery serial account minute) s
  else if (s.account.closing.filter ClosingItem.isRecovery).length < Config.recoveryCapacity then
    { s with account.closing := s.account.closing ++ [.recovery serial account minute] }
  else queueEvent .recoveryUnlogged [serial, account, minute] s

/-- The oldest item of the closing queue moves into the log (R156). -/
def moveClosing (s : State) : State :=
  match s.account.closing with
  | [] => s
  | item :: rest =>
    let s := { s with account.closing := rest }
    match item with
    | .channel b => enterLog (.channel b) s
    | .recovery serial account minute => enterLog (.recovery serial account minute) s
    | .hire serial =>
      match Tab.get s.ledger.hires serial with
      | none => s
      | some h =>
        match h.closing with
        | none => s
        | some c => hireLeaves serial (enterLog (.hire serial h.account h.tariff h.start c) s)

/-- A new hire record (R123). -/
def openHire (i : Issue) (s : State) : State :=
  modAccount i.account (fun r => { r with depositsHeld := r.depositsHeld + i.deposit })
    { s with
      ledger.hires := Tab.set s.ledger.hires i.serial
        { account := i.account, tariff := i.tariff, tag := i.tag, deposit := i.deposit, start := s.clock.minute
          overdue := false, closing := none } }

/-- Is the hire record of a serial OPEN? -/
def State.hireOpen (s : State) (serial : Nat) : Bool :=
  (Tab.get s.ledger.hires serial).any fun h => h.closing.isNone

/-- Is the hire record of a serial CLOSING? -/
def State.hireClosing (s : State) (serial : Nat) : Bool :=
  (Tab.get s.ledger.hires serial).any fun h => h.closing.isSome

end Sys2Proof.Machine
end

