-- ==== Sys2Proof/Machine/Planner.lean ====
section
/-! DEFINITION. Channel Planner (chapter 1): subcarrier searches, conflicts, the peer claim table, the merged zone, and
trunk claims up to the point where their users are told. -/

namespace Sys2Proof.Machine

/-- Queue a CLAIM frame (section 9.1). -/
def sendClaim (r : Resource) (a : ClaimAction) (c : Nat) (l : Tag) (s : State) : State :=
  enqueueFrame 0 (.claim r a c l) s

/-- Is the station in the merged zone? -/
def State.inZone (s : State) (q : Nat) : Bool := s.planner.zone.contains q

/-! ### Subcarrier searches (R8, R12) -/

/-- Does an own channel have the subcarrier? -/
def State.ownSubcarrier (s : State) (sc : Nat) : Bool := s.planner.channels.any fun e => e.2.subcarrier = some sc

/-- Does a zone station claim the subcarrier? -/
def State.zoneSubcarrier (s : State) (sc : Nat) : Bool :=
  s.planner.peerClaims.any fun e => e.subcarrier = sc && s.inZone e.station

/-- The order in which a search examines the subcarriers: from the home subcarrier upward (R8). -/
def State.candidates (s : State) : List Nat := (List.range 32).map fun i => (s.self + i) % 32

/-- The first free candidate (R8). A channel that gives up its subcarrier still has it here, so its search passes
over it (R11). -/
def State.freeSubcarrier (s : State) : Option Nat :=
  s.candidates.find? fun sc => !s.ownSubcarrier sc && !s.zoneSubcarrier sc

/-- A subcarrier search for channel c (R8). -/
def search (c : Nat) (s : State) : State :=
  match Tab.get s.planner.channels c with
  | none => s
  | some ch =>
    match s.freeSubcarrier with
    | some sc =>
      sendClaim (.subcarrier sc) .claim c ch.language
        (modChannel c
          (fun ch =>
            { ch with
              state := if ch.everOnAir then .shifting else .claiming
              subcarrier := some sc, confirmed := false, window := some Config.claimWindowMs, refresh := none })
          s)
    | none =>
      let s := modChannel c
        (fun ch =>
          { ch with state := .starved, subcarrier := none, confirmed := false, window := none, refresh := none })
        s
      if ch.state = .starved then s else queueEvent .channelStarved [c] s

/-- The searches of one event (R8, R12): the fresh channels and every STARVED one, in ascending number. -/
def searchWaiting (fresh : List Nat) (s : State) : State :=
  let due := s.planner.channels.filter fun e => fresh.contains e.1 || e.2.state = .starved
  forEach (Tab.keys due) search s

/-! ### Conflicts (R11) -/

/-- Channel c gives way to station q on its subcarrier (R11). The subcarrier leaves the mask here, as a change of its
own: where several channels give way in one event, a mask word that starts at the first is followed by another
(log 55). -/
def giveWay (q c sc : Nat) (s : State) : State :=
  match Tab.get s.planner.channels c with
  | none => s
  | some ch =>
    let s := modChannel c
      (fun ch =>
        { ch with
          state := if ch.state = .onAir then .shifting else ch.state
          window := none, refresh := none })
      s
    let s := searchWaiting [c] (sendClaim (.subcarrier sc) .release c ch.language (syncMask s))
    if ch.state = .onAir then queueEvent .claimYielded [c, sc, q] s else s

/-- Queue a REFRESH of a channel's subcarrier; a running refresh timer restarts (R10). -/
def refreshClaim (c : Nat) (s : State) : State :=
  match Tab.get s.planner.channels c with
  | none => s
  | some ch =>
    match ch.subcarrier with
    | none => s
    | some sc =>
      sendClaim (.subcarrier sc) .refresh c ch.language
        (modChannel c (fun ch => { ch with refresh := ch.refresh.map fun _ => Config.refreshMs }) s)

/-- Test a zone station's claim against own channels (R11): the lower station number keeps the subcarrier. -/
def testClaim (q sc : Nat) (s : State) : State :=
  let met := Tab.keys (s.planner.channels.filter fun e => e.2.subcarrier = some sc)
  forEach met (fun c s => if q < s.self then giveWay q c sc s else refreshClaim c s) s

/-! ### The peer claim table (R18) -/

/-- Is the entry that of a station and subcarrier? -/
def PeerClaim.isFor (q sc : Nat) (e : PeerClaim) : Bool := e.station = q && e.subcarrier = sc

/-- Enter a CLAIM or REFRESH (R18). -/
def storeClaim (q sc c : Nat) (l : Tag) (s : State) : State :=
  let new : PeerClaim := { station := q, subcarrier := sc, channel := c, language := l, age := 0 }
  let claims := s.planner.peerClaims
  let outside := fun e : PeerClaim => !s.inZone e.station
  if claims.any (PeerClaim.isFor q sc) then
    { s with planner.peerClaims := claims.map fun e => if e.isFor q sc then new else e }
  else if claims.length < Config.peerClaimCapacity then { s with planner.peerClaims := claims ++ [new] }
  else if claims.any outside then { s with planner.peerClaims := claims.eraseP outside ++ [new] }
  else queueEvent .claimTableFull [q, sc] s

/-- Remove an entry: a RELEASE heard, or its expiry (R18, R19). A zone station's makes STARVED channels search. -/
def removeClaim (q sc : Nat) (s : State) : State :=
  let t := { s with planner.peerClaims := s.planner.peerClaims.filter fun e => !e.isFor q sc }
  if s.inZone q then searchWaiting [] t else t

/-! ### The merged zone (R16, R17) -/

/-- The open edges, from this station's reports and its peers'. -/
def State.links (s : State) : List (Nat × Nat) :=
  (s.ownEdges.filter Prod.snd).map (fun e => (s.self, e.1))
    ++ s.line.peers.flatMap fun p => (p.2.edges.filter Prod.snd).map fun e => (p.1, e.1)

/-- The stations of a set and those one edge away, rising. -/
def growZone (links : List (Nat × Nat)) (z : List Nat) : List Nat :=
  (List.range 49).filter fun q =>
    z.contains q || links.any fun l => (l.1 = q && z.contains l.2) || (l.2 = q && z.contains l.1)

/-- Grow a set so many times. -/
def growTimes (links : List (Nat × Nat)) : Nat → List Nat → List Nat
  | 0, z => z
  | n + 1, z => growTimes links n (growZone links z)

/-- The stations reachable from this one (R17). A growth that adds a station uses an edge not used before, so as many
growths as there are edges reach them all. -/
def State.zoneNow (s : State) : List Nat := growTimes s.links s.links.length [s.self]

/-- The lowest of the given stations that claims a subcarrier. -/
def State.lowestClaimant (s : State) (among : List Nat) (sc : Nat) : Option Nat :=
  among.find? fun q => s.planner.peerClaims.any (PeerClaim.isFor q sc)

/-- Recompute the zone (R17): test new members' claims in ascending subcarrier, then search for departed ones. -/
def recomputeZone (s : State) : State :=
  let old := s.planner.zone
  let new := s.zoneNow
  if new = old then s
  else
    let joined := new.filter fun q => !old.contains q
    let t := forEach (List.range 32)
      (fun sc t =>
        match t.lowestClaimant joined sc with
        | some q => testClaim q sc t
        | none => t)
      { s with planner.zone := new }
    if old.any fun q => !new.contains q then searchWaiting [] t else t

/-! ### Trunk claims (R20, R21) -/

/-- Who holds trunk t. -/
def State.trunk (s : State) (t : Nat) : Option TrunkEntry := Tab.get s.planner.trunks t

/-- Put an entry for trunk t. -/
def setTrunk (t : Nat) (e : TrunkEntry) (s : State) : State :=
  { s with planner.trunks := Tab.set s.planner.trunks t e }

/-- The lowest free trunk (R21). -/
def State.freeTrunk (s : State) : Option Nat := Tab.firstFree s.planner.trunks 1 12

/-- The channel and language a user's CLAIM carries (R21). -/
def State.trunkLabel (s : State) : TrunkUser → Nat × Tag
  | .exported c => (c, ((Tab.get s.planner.channels c).map Channel.language).getD ⟨0, 0, 0⟩)
  | .feed k =>
    match Tab.get s.feed.contexts k with
    | some f => (f.target, f.language)
    | none => (0, ⟨0, 0, 0⟩)

/-- Queue a CLAIM frame for a user's trunk. -/
def sendTrunkClaim (t : Nat) (a : ClaimAction) (u : TrunkUser) (s : State) : State :=
  sendClaim (.trunk t) a (s.trunkLabel u).1 (s.trunkLabel u).2 s

/-- Take a free trunk in WINDOW for a user (R21). -/
def takeTrunk (t : Nat) (u : TrunkUser) (s : State) : State :=
  sendTrunkClaim t .claim u (setTrunk t (.own .window false u (some Config.claimWindowMs) none) s)

/-- Is the entry this station's claim for a user? -/
def TrunkEntry.ownedBy (u : TrunkUser) : TrunkEntry → Bool
  | .own _ _ v _ _ => v = u
  | .peer _ _ => false

/-- The trunk claimed for a user. -/
def State.trunkOf (s : State) (u : TrunkUser) : Option Nat :=
  (s.planner.trunks.find? fun e => e.2.ownedBy u).map Prod.fst

/-- Trunk t's claim for a user is given up (R21, R23): the sending route goes, the entry becomes free, a RELEASE is
queued. -/
def giveUpTrunk (t : Nat) (u : TrunkUser) (s : State) : State :=
  let s := setRoute (sendOutput t) .none s
  sendTrunkClaim t .release u { s with planner.trunks := Tab.erase s.planner.trunks t }

/-- A user gives up its trunk, if it has one (R21, R23). -/
def releaseTrunk (u : TrunkUser) (s : State) : State :=
  match s.trunkOf u with
  | none => s
  | some t => giveUpTrunk t u s

/-- Every own trunk claim that remains is released (R2). -/
def releaseOwnTrunks (s : State) : State :=
  forEach (Tab.keys s.planner.trunks)
    (fun t s =>
      match s.trunk t with
      | some (.own _ _ u _ _) => giveUpTrunk t u s
      | _ => s)
    s

/-- Take a GRANT or READY of a trunk as a peer's REFRESH of it (R64, R84). -/
def adoptTrunk (q t : Nat) (s : State) : State := if (s.trunk t).isNone then setTrunk t (.peer q 0) s else s

/-- Is trunk t free or held by station q (R64, R84)? -/
def State.trunkOpenTo (s : State) (q t : Nat) : Bool :=
  match s.trunk t with
  | none => true
  | some (.peer p _) => p = q
  | some (.own ..) => false

end Sys2Proof.Machine
end

