-- ==== Sys2Proof/Machine/Relay.lean ====
section
/-! DEFINITION. Relay Unit (chapter 3): pedigrees and their changes, booth inputs, dropped relays, the remote channel
directory and exports. -/

namespace Sys2Proof.Machine

/-! ### Pedigrees (R53, R54) -/

/-- The floor pedigree (section 3.1). -/
def State.floorPedigree (s : State) : Pedigree := [⟨s.self, 0, s.planner.floorTag⟩]

/-- The directory entry of a remote channel (R62). -/
def State.remote (s : State) (q c : Nat) : Option DirEntry :=
  s.relay.directory.find? fun e => e.station = q && e.channel = c

/-- Booth b's record. -/
def State.boothRec (s : State) (b : Nat) : Option Booth := Tab.get s.booth.booths b

/-- Channel c's entry, if it is open. -/
def State.channel (s : State) (c : Nat) : Option Channel := Tab.get s.planner.channels c

/-- The pedigree of a source (R53). -/
def State.sourcePedigree (s : State) : Selection → Pedigree
  | .floor | .nothing => s.floorPedigree
  | .own c => ((s.channel c).map Channel.pedigree).getD s.floorPedigree
  | .remote q c => ((s.remote q c).map DirEntry.pedigree).getD s.floorPedigree

/-- The input pedigree of booth b (R53). -/
def State.inputPedigree (s : State) (b : Nat) : Pedigree :=
  s.sourcePedigree (((s.boothRec b).map Booth.input).getD .floor)

/-- The pedigree booth b gives what it speaks in a language (R53). -/
def State.spokenPedigree (s : State) (b : Nat) (l : Tag) : Pedigree := s.inputPedigree b ++ [⟨s.self, b, l⟩]

/-- The pedigree an open channel should have (R53, R54). -/
def State.channelPedigree (s : State) (c : Nat) (ch : Channel) : Pedigree :=
  if c = 0 then s.floorPedigree
  else
    match ch.holder with
    | .desk b _ => s.spokenPedigree b ch.language
    | .feed k => ((Tab.get s.feed.contexts k).map Feed.pedigree).getD ch.pedigree
    | .none => if ch.everHeld then ch.pedigree else s.floorPedigree ++ [⟨s.self, ch.firstBooth, ch.language⟩]

/-- Does a sending context's feed have an output pedigree (R53)? -/
def State.replaces (s : State) (k : Nat) (f : Feed) : Bool :=
  f.side = .sending && (s.boothRec f.booth).any fun b => b.feed = some k

/-! ### Relay selections (R56) -/

/-- The booths whose input is a source, rising. -/
def State.listeners (s : State) (src : Selection) : List Nat :=
  Tab.keys (s.booth.booths.filter fun e => e.2.input = src)

/-- The languages a booth puts out (R56 test 3). -/
def State.outputLanguages (s : State) (bo : Booth) : List Tag :=
  let ofChannel := fun o : Option Nat => (o.bind s.channel).map Channel.language
  let ofFeed := bo.feed.bind fun k => (Tab.get s.feed.contexts k).map Feed.language
  [ofChannel bo.outputA, ofChannel bo.outputB, ofFeed].filterMap id

/-- The language of a source. -/
def State.sourceLanguage (s : State) : Selection → Option Tag
  | .own c => (s.channel c).map Channel.language
  | .remote q c => (s.remote q c).map DirEntry.language
  | _ => none

/-- Does the source exist (R56 test 1)? -/
def State.sourceExists (s : State) : Selection → Bool
  | .own c => within 1 c 31 && (s.channel c).isSome
  | .remote q c => (s.remote q c).any fun e => e.state ≠ .closed
  | _ => true

/-- Is the source an output of the booth (R56 test 2)? -/
def State.isOwnOutput (s : State) (b : Nat) (bo : Booth) : Selection → Bool
  | .own c => bo.outputA = some c || bo.outputB = some c
  | .remote q c =>
    s.feed.contexts.any fun e => e.2.side = .sending && e.2.booth = b && e.2.partner = q && e.2.target = c
  | _ => false

/-- Does the source's language differ from every output language (R56 test 3)? -/
def State.languagesDiffer (s : State) (bo : Booth) (src : Selection) : Bool :=
  !(s.sourceLanguage src).any (s.outputLanguages bo).contains

/-- Does a pedigree pass through booth b of this station (R56 test 4)? -/
def State.loops (s : State) (b : Nat) (p : Pedigree) : Bool := p.any fun e => e.station = s.self && e.booth = b

/-- Does a selection pass R56's five tests for booth b? FLOOR and NONE pass in any case. -/
def State.passes (s : State) (b : Nat) (bo : Booth) (src : Selection) : Bool :=
  match src with
  | .floor | .nothing => true
  | _ =>
    s.sourceExists src && !s.isOwnOutput b bo src && s.languagesDiffer bo src
      && !s.loops b (s.sourcePedigree src) && (s.sourcePedigree src).length ≤ 2

/-- Is the selection the input the booth already relays or waits for (R56)? Choosing it again changes nothing. -/
def Booth.hasInput (bo : Booth) (src : Selection) : Bool :=
  bo.input = src && (bo.relay = .relayed || bo.relay = .waiting)

/-- Is a selection accepted for booth b (R56)? One equal to a present input is, whatever the tests would find. -/
def State.accepts (s : State) (b : Nat) (bo : Booth) (src : Selection) : Bool :=
  bo.hasInput src || s.passes b bo src

/-! ### Dropping a relay (R60) -/

/-- Causes of RELAY LOST, in code order (R190). -/
inductive LostCause where
  | loop | depth | output | closed | expired | peerLost | trunk | refused (reason : RefuseReason) | timeout
  deriving DecidableEq, Repr

/-- A cause's code (R190). -/
def LostCause.code : LostCause → Nat
  | .loop => 0 | .depth => 1 | .output => 2 | .closed => 3 | .expired => 4 | .peerLost => 5 | .trunk => 6
  | .refused .closed => 7 | .refused .noTrunk => 8 | .timeout => 9

/-- Does the cause queue a RELAY RELEASE for a remote source (R60)? -/
def LostCause.releases : LostCause → Bool
  | .loop | .depth | .output | .expired | .timeout => true
  | _ => false

/-- The station and channel of a source. -/
def State.sourceKey (s : State) : Selection → Option (Nat × Nat)
  | .own c => some (s.self, c)
  | .remote q c => some (q, c)
  | _ => none

/-- Queue a RELAY RELEASE for a remote source. -/
def sendRelayRelease (b : Nat) (src : Selection) (s : State) : State :=
  match src with
  | .remote q c => enqueueFrame q (.relayRelease c b) s
  | _ => s

/-- Drop booth b's relay (R60). The pedigrees it feeds are recomputed by the caller. -/
def dropRelay (cause : LostCause) (b : Nat) (s : State) : State :=
  match s.boothRec b with
  | none => s
  | some bo =>
    match s.sourceKey bo.input with
    | none => s
    | some (q, c) =>
      let s := modBooth b
        (fun bo => { bo with input := .floor, relay := .lost, sourceTrunk := none, answerWait := none }) s
      let s := queueEvent .relayLost [b, q, c, cause.code] (setRoute (inputOutput b) .floor s)
      if cause.releases then sendRelayRelease b bo.input s else s

/-! ### Pedigree changes (R59) -/

/-- Record a channel's new pedigree and queue its notice (R59). -/
def storePedigree (c : Nat) (s : State) : State :=
  match s.channel c with
  | none => s
  | some ch => queueNotice c (modChannel c (fun x => { x with pedigree := s.channelPedigree c ch }) s)

/-- Record a feed's new output pedigree; in LIVE it is sent at once (R76). -/
def storeFeedPedigree (k : Nat) (s : State) : State :=
  match Tab.get s.feed.contexts k with
  | none => s
  | some f =>
    let p := s.spokenPedigree f.booth f.language
    if p = f.pedigree then s
    else
      let s := modFeed k (fun f => { f with pedigree := p }) s
      if f.state = .live then enqueueFrame f.partner (.feedState f.booth f.target (.live p)) s else s

/-- The given channels whose pedigree no longer agrees with its rule. -/
def State.stale (s : State) (which : Nat → Channel → Bool) : List Nat :=
  Tab.keys (s.planner.channels.filter fun e => which e.1 e.2 && s.channelPedigree e.1 e.2 ≠ e.2.pedigree)

/-- Is the channel held by one of the booths? -/
def Channel.heldByOne (booths : List Nat) (ch : Channel) : Bool :=
  match ch.holder with
  | .desk b _ => booths.contains b
  | _ => false

/-- The feed outputs of the given booths, by context number. -/
def State.feedsOf (s : State) (booths : List Nat) : List Nat :=
  Tab.keys (s.feed.contexts.filter fun e => booths.contains e.2.booth && s.replaces e.1 e.2)

/-- Check a booth against its source's new pedigree (R59 step 1). A source that meets both causes drops the relay with
LOOP (log 50). -/
def recheckBooth (src : Selection) (b : Nat) (s : State) : State :=
  let p := s.sourcePedigree src
  if s.loops b p then dropRelay .loop b s
  else if 3 ≤ p.length then dropRelay .depth b s
  else s

/-- Handle pedigree changes in the order they arise (R59): recheck the booths on the source, then recompute what they
hold, channels rising and feed outputs after. The number bounds the changes handled; a chain is at most three deep. -/
def followChanges : Nat → List Selection → State → State
  | 0, _, s => s
  | _, [], s => s
  | n + 1, src :: rest, s =>
    let booths := s.listeners src
    let s := forEach booths (recheckBooth src) s
    let changed := s.stale fun _ ch => ch.heldByOne booths
    let s := forEach (s.feedsOf booths) storeFeedPedigree (forEach changed storePedigree s)
    followChanges n (rest ++ changed.map Selection.own) s

/-- How many changes one event may bring (section 3.3). -/
abbrev changeBound : Nat := 200

/-- Recompute the given channels and the feed outputs of the given booths, and follow what changes (R59). -/
def recompute (which : Nat → Channel → Bool) (booths : List Nat) (s : State) : State :=
  let changed := s.stale which
  let s := forEach (s.feedsOf booths) storeFeedPedigree (forEach changed storePedigree s)
  followChanges changeBound (changed.map Selection.own) s

/-- Recompute what the given booths speak into. -/
def recomputeBooths (booths : List Nat) (s : State) : State := recompute (fun _ ch => ch.heldByOne booths) booths s

/-- Recompute one channel. -/
def recomputeChannel (c : Nat) (s : State) : State := recompute (fun k _ => k = c) [] s

/-- Drop the relays of several booths for one cause, then recompute what they speak into. -/
def dropRelays (cause : LostCause) (booths : List Nat) (s : State) : State :=
  recomputeBooths booths (forEach booths (dropRelay cause) s)

/-- The relay of a booth rechecked against its outputs (R61). -/
def recheckOutputs (b : Nat) (s : State) : State :=
  match s.boothRec b with
  | none => s
  | some bo =>
    if s.isOwnOutput b bo bo.input || !s.languagesDiffer bo bo.input then dropRelays .output [b] s else s

/-! ### Taking a selection (R57, R58) -/

/-- Take an accepted selection (R56 to R58). -/
def applySelection (b : Nat) (src : Selection) (s : State) : State :=
  match s.boothRec b with
  | none => s
  | some bo =>
    if bo.hasInput src then s
    else
      let s := sendRelayRelease b bo.input s
      let take := fun (st : RelayStatus) (wait : Option Nat) (route : Source) (s : State) =>
        setRoute (inputOutput b) route
          (modBooth b (fun bo => { bo with input := src, relay := st, sourceTrunk := none, answerWait := wait }) s)
      recomputeBooths [b]
        (match src with
        | .floor => take .none none .floor s
        | .nothing => take .none none .none s
        | .own c => take .relayed none (.bus c) s
        | .remote q c =>
          enqueueFrame q (.relayRequest c b) (take .waiting (some Config.relayAnswerMs) .none s))

/-! ### The remote channel directory (R62, R63) -/

/-- Is the entry for a remote channel? -/
def DirEntry.isFor (q c : Nat) (e : DirEntry) : Bool := e.station = q && e.channel = c

/-- A CHANNEL NOTICE is entered (R62). -/
def enterNotice (q c : Nat) (l : Tag) (st : NoticeState) (t : Option Nat) (p : Pedigree) (s : State) : State :=
  let new : DirEntry := { station := q, channel := c, language := l, pedigree := p, state := st, trunk := t, age := 0 }
  match s.remote q c with
  | some old =>
    let s := { s with relay.directory := s.relay.directory.map fun e => if e.isFor q c then new else e }
    let s := if old.pedigree = p then s else followChanges changeBound [.remote q c] s
    if st = .closed then dropRelays .closed (s.listeners (.remote q c)) s else s
  | none =>
    let unnamed := fun e : DirEntry => (s.listeners (.remote e.station e.channel)).isEmpty
    if st = .closed then s
    else if s.relay.directory.length < Config.directoryCapacity then
      { s with relay.directory := s.relay.directory ++ [new] }
    else { s with relay.directory := s.relay.directory.eraseP unnamed ++ [new] }

/-- A directory entry expires (R63). -/
def expireEntry (q c : Nat) (s : State) : State :=
  if (s.remote q c).isNone then s
  else
    dropRelays .expired (s.listeners (.remote q c))
      { s with relay.directory := s.relay.directory.filter fun e => !e.isFor q c }

/-- Is the input a channel of station q? -/
def fromStation (q : Nat) : Selection → Bool
  | .remote p _ => p = q
  | _ => false

/-- Peer q is lost or changes epoch: its entries go and relays through it are dropped (R63). -/
def dropPeerEntries (q : Nat) (s : State) : State :=
  let booths := Tab.keys (s.booth.booths.filter fun e => fromStation q e.2.input)
  dropRelays .peerLost booths { s with relay.directory := s.relay.directory.filter fun e => e.station ≠ q }

/-! ### Exports (R66 to R68) -/

/-- Put booth b of station q in a listener set (R66). -/
def addListener (q b : Nat) (ls : List Listener) : List Listener :=
  if ls.any fun l => l.station = q then
    ls.map fun l => if l.station = q && !l.booths.contains b then { l with booths := l.booths ++ [b] } else l
  else ls ++ [{ station := q, booths := [b] }]

/-- Take booth b of station q, or every booth for 0, out of a listener set (R67). -/
def dropListener (q b : Nat) (ls : List Listener) : List Listener :=
  (ls.map fun l =>
    if l.station = q then { l with booths := if b = 0 then [] else l.booths.filter fun x => x ≠ b } else l).filter
    fun l => !l.booths.isEmpty

/-- Queue a RELAY ANSWER to every listener, in the set's order (R68). -/
def answerListeners (c : Nat) (o : RelayOutcome) (ls : List Listener) (s : State) : State :=
  forEach (ls.map Listener.station) (fun q s => enqueueFrame q (.relayAnswer c o) s) s

/-- Remove an export record, giving up its trunk (R67). -/
def dropExport (c : Nat) (s : State) : State :=
  let s := releaseTrunk (.exported c) s
  { s with relay.exported := Tab.erase s.relay.exported c }

/-- An export ends (R67). -/
def endExport (c : Nat) (s : State) : State := queueNotice c (dropExport c s)

/-- A RELAY REQUEST (R66). -/
def requestRelay (q c b : Nat) (s : State) : State :=
  match s.channel c with
  | none => enqueueFrame q (.relayAnswer c (.refuse .closed)) s
  | some _ =>
    match Tab.get s.relay.exported c with
    | some e =>
      let s :=
        { s with relay.exported := Tab.set s.relay.exported c { e with listeners := addListener q b e.listeners } }
      match s.exportTrunk c with
      | some t => enqueueFrame q (.relayAnswer c (.grant t)) (setRoute (sendOutput t) (.bus c) s)
      | none => s
    | none =>
      match s.freeTrunk with
      | none => enqueueFrame q (.relayAnswer c (.refuse .noTrunk)) s
      | some t =>
        let s := takeTrunk t (.exported c) s
        { s with relay.exported := Tab.set s.relay.exported c { trunk := t, listeners := addListener q b [] } }

/-- Take booth b of station q out of channel c's export; an empty set ends it (R67). -/
def leaveExport (q c b : Nat) (s : State) : State :=
  match Tab.get s.relay.exported c with
  | none => s
  | some e =>
    let ls := dropListener q b e.listeners
    let s := { s with relay.exported := Tab.set s.relay.exported c { e with listeners := ls } }
    if ls.isEmpty then endExport c s else s

/-- The export's trunk is won (R68). -/
def exportWon (c t : Nat) (s : State) : State :=
  match Tab.get s.relay.exported c with
  | none => s
  | some e => queueNotice c (setRoute (sendOutput t) (.bus c) (answerListeners c (.grant t) e.listeners s))

/-- The export now claims trunk t (R68). -/
def exportMoved (c t : Nat) (s : State) : State :=
  { s with relay.exported := Tab.modify s.relay.exported c fun e => { e with trunk := t } }

/-- No trunk is free for the export (R68). -/
def exportStranded (c : Nat) (s : State) : State :=
  match Tab.get s.relay.exported c with
  | none => s
  | some e => endExport c (answerListeners c (.refuse .noTrunk) e.listeners s)

/-- A channel closes: its export ends, relays from it are dropped, its last notice is queued (R13 step 4, R67, R69). -/
def closeRelays (c : Nat) (s : State) : State :=
  let s := dropRelays .closed (s.listeners (.own c)) (dropExport c s)
  match s.channel c with
  | none => s
  | some ch => enqueueFrame 0 (.channelNotice c ch.language .closed none ch.pedigree) s

/-! ### Grants, refusals and trunk changes at the requesting station (R64, R65) -/

/-- A GRANT reaches a booth that names the source (R64). -/
def grantBooth (t b : Nat) (s : State) : State :=
  match s.boothRec b with
  | none => s
  | some bo =>
    if bo.relay = .relayed && bo.sourceTrunk = some t then s
    else
      setRoute (inputOutput b) (.trunk t)
        (modBooth b (fun bo => { bo with relay := .relayed, sourceTrunk := some t, answerWait := none }) s)

/-- A RELAY ANSWER GRANT (R64). -/
def takeGrant (q c t : Nat) (s : State) : State :=
  if !s.trunkOpenTo q t then s
  else
    let s := adoptTrunk q t s
    match s.listeners (.remote q c) with
    | [] => enqueueFrame q (.relayRelease c 0) s
    | booths => forEach booths (grantBooth t) s

/-- The booths RELAYED on trunk t follow its entry (R65). -/
def followTrunkBooths (t : Nat) (s : State) : State :=
  let on := s.booth.booths.filter fun e => e.2.sourceTrunk = some t
  let owned := fun bo : Booth =>
    match s.trunk t with
    | some (.peer p _) => fromStation p bo.input
    | _ => false
  match s.trunk t with
  | none => dropRelays .trunk (Tab.keys on) s
  | some _ =>
    forEach (Tab.keys (on.filter fun e => !owned e.2))
      (fun b s =>
        setRoute (inputOutput b) .none
          (modBooth b
            (fun bo =>
              { bo with relay := .waiting, sourceTrunk := none, answerWait := some Config.relayAnswerMs }) s))
      s

end Sys2Proof.Machine
end

