-- ==== Sys2Proof/Machine/Holders.lean ====
section
/-! DEFINITION. Who holds what (sections 2.2, 2.6, 2.7): a booth's selected output, the holder of a channel and its
changes, the passing of a channel to a waiting feed, the reports of a held feed, forced ends of a hold, and the gates
and lamps of desks (section 2.8). -/

namespace Sys2Proof.Machine

/-- What an output denotes (R27, R30). -/
inductive Held where
  | channel (c : Nat)
  | feed (k : Nat)
  deriving DecidableEq, Repr

/-- What an output of a booth denotes: output A with a feed replacement is the feed (R27, R47). -/
def Booth.denotes (bo : Booth) : Output → Option Held
  | .a =>
    match bo.feed with
    | some k => some (.feed k)
    | none => bo.outputA.map .channel
  | .b => bo.outputB.map .channel

/-- What the selected output denotes. -/
def Booth.target (bo : Booth) : Option Held := bo.denotes bo.selected

/-- Does a desk in this state hold (R28)? -/
def DeskState.holds : DeskState → Bool
  | .live | .cough | .overlapIn | .overlapOut => true
  | _ => false

/-- The source of a channel bus for a holder (R31, R84). -/
def State.busSource (s : State) : Holder → Source
  | .none => .none
  | .desk b _ => .mic b
  | .feed k =>
    match (Tab.get s.feed.contexts k).bind Feed.trunk with
    | some t => .trunk t
    | none => .none

/-- Is a change between two holders no holder change, being within one booth (R31)? -/
def Holder.sameHolder : Holder → Holder → Bool
  | .desk b _, .desk b' _ => b = b'
  | h, h' => h = h'

/-- Give channel c a holder (R30, R31). A change of desk within the booth changes the field alone; a holder change
sets the bus route and the pedigree. Gates, lamps, map and notice follow when the step settles (log 9). -/
def setHolder (c : Nat) (h : Holder) (s : State) : State :=
  match s.channel c with
  | none => s
  | some ch =>
    let s := modChannel c (fun ch => { ch with holder := h, everHeld := ch.everHeld || h ≠ .none }) s
    if ch.holder.sameHolder h then s else recomputeChannel c (setRoute (busOutput c) (s.busSource h) s)

/-- The receiving context that waits for channel c: BLOCKED, or ROUTED with its sender live (R82, R83). -/
def State.waitingFeed (s : State) (c : Nat) : Option Nat :=
  (s.feed.contexts.find? fun e =>
    e.2.side = .receiving && e.2.target = c
      && (e.2.state = .blocked || (e.2.state = .routed && e.2.senderLive))).map Prod.fst

/-- A receiving context takes hold of its channel (R81, R82). -/
def feedTakes (k c : Nat) (s : State) : State :=
  setHolder c (.feed k) (modFeed k (fun f => { f with state := .holding, blockedWait := none }) s)

/-- The last local holder leaves channel c: it passes directly to a waiting feed in SESSION, or is unheld (R48, R82,
R83). -/
def vacate (c : Nat) (s : State) : State :=
  match s.waitingFeed c with
  | some k => if s.planner.hall = .session then feedTakes k c s else setHolder c .none s
  | none => setHolder c .none s

/-! ### Reports to the Feed Unit (R47, R75, R76) -/

/-- Queue a FEED STATE to the partner of a context. -/
def sendFeedState (f : Feed) (x : FeedSignal) (s : State) : State :=
  enqueueFrame f.partner (.feedState f.booth f.target x) s

/-- The booth comes to hold the feed (R75, R76). -/
def reportHeld (k : Nat) (s : State) : State :=
  match Tab.get s.feed.contexts k with
  | none => s
  | some f =>
    let s := modFeed k (fun f => { f with boothHeld := true }) s
    if f.state = .ready || f.state = .silent then
      sendFeedState f (.live f.pedigree) (modFeed k (fun f => { f with state := .live }) s)
    else s

/-- The booth stops holding the feed (R75, R76). -/
def reportUnheld (k : Nat) (s : State) : State :=
  match Tab.get s.feed.contexts k with
  | none => s
  | some f =>
    let s := modFeed k (fun f => { f with boothHeld := false }) s
    if f.state = .live then sendFeedState f .silent (modFeed k (fun f => { f with state := .silent }) s) else s

/-- A booth's desk takes hold of what an output denotes. -/
def gain (b d : Nat) (h : Option Held) (s : State) : State :=
  match h with
  | some (.channel c) => setHolder c (.desk b d) s
  | some (.feed k) => reportHeld k s
  | none => s

/-- A booth stops holding what an output denotes. -/
def leave (h : Option Held) (s : State) : State :=
  match h with
  | some (.channel c) => vacate c s
  | some (.feed k) => reportUnheld k s
  | none => s

/-! ### Forced ends (R43, R45) -/

/-- Causes of HOLD LOST, in code order (R190). -/
inductive HoldCause where
  | takeOver | feed | closed | offline
  deriving DecidableEq, Repr

/-- A cause's code (R190). -/
def HoldCause.code : HoldCause → Nat
  | .takeOver => 0 | .feed => 1 | .closed => 2 | .offline => 3

/-- A desk goes OFF with its cough mark cleared. -/
def deskOff (d : Nat) (s : State) : State := modDesk d (fun r => { r with state := .off, cough := false }) s

/-- Every holding desk of a booth goes OFF, its overlap ends and it holds nothing (R43, R45). -/
def desksOff (b : Nat) (s : State) : State :=
  match s.boothRec b with
  | none => s
  | some bo =>
    let holding := bo.desks.filter fun d => (Tab.get s.booth.desks d).any fun r => r.state.holds
    modBooth b (fun bo => { bo with holding := none, partner := none, overlap := none }) (forEach holding deskOff s)

/-- The channel field of HOLD LOST: the channel, or 255 for a feed (R190). -/
def heldCode : Option Held → Nat
  | some (.channel c) => c
  | _ => 255

/-- Force a booth's hold off with a cause (R43). What it held is passed on by the caller. -/
def forceOff (b : Nat) (cause : HoldCause) (s : State) : State :=
  match s.boothRec b with
  | none => s
  | some bo => queueEvent .holdLost [b, heldCode bo.target, cause.code] (desksOff b s)

/-- Every desk goes OFF as the hall leaves SESSION, with no HOLD LOST (R45). The hall state has already changed. The booths
are taken in rising number (log 8). -/
def releaseHall (s : State) : State :=
  forEach (Tab.keys (s.booth.booths.filter fun e => e.2.holding.isSome))
    (fun b s =>
      match s.boothRec b with
      | none => s
      | some bo => leave bo.target (desksOff b s))
    s

/-! ### Gates and lamps (R49, R50) -/

/-- A desk's gate (R49). -/
def State.gateOf (s : State) (r : Desk) : Bool :=
  s.planner.hall = .session
    && (r.state = .live || ((r.state = .overlapIn || r.state = .overlapOut) && !r.cough))

/-- Steady or dark. -/
def lit (b : Bool) : LampValue := if b then .steady else .dark

/-- Is the channel held by another booth than b, or by a feed (R30)? -/
def State.heldElsewhere (s : State) (b c : Nat) : Bool :=
  match s.channel c with
  | none => false
  | some ch =>
    s.channelHeld c ch && (match ch.holder with
      | .desk b' _ => b' ≠ b
      | _ => true)

/-- Is the selected output a local channel not ON AIR, or a feed still claiming its trunk (R50)? -/
def State.offAir (s : State) : Option Held → Bool
  | none => false
  | some (.channel c) => !(s.channel c).any fun ch => ch.state = .onAir
  | some (.feed k) => (Tab.get s.feed.contexts k).any fun f => f.state = .claiming

/-- Does a BLOCKED receiving context target what the booth holds (R48)? -/
def State.handOffDue (s : State) : Option Held → Bool
  | some (.channel c) =>
    s.feed.contexts.any fun e => e.2.side = .receiving && e.2.target = c && e.2.state = .blocked
  | _ => false

/-- A desk's lamp set (R50). An OFFLINE desk's is computed as for an OFF desk. -/
def State.lampsOf (s : State) (d : Nat) (r : Desk) : Lamps :=
  match s.boothRec r.booth with
  | none => ⟨.dark, .dark, .dark, .dark, .dark, .dark⟩
  | some bo =>
    let holds := r.state.holds
    { live := if s.gateOf r then .steady else if r.state = .cough || r.cough then .blinking else .dark
      boothBusy := lit (!holds && bo.holding.any fun h => h ≠ d)
      engaged := lit (!holds && (match bo.target with
        | some (.channel c) => s.heldElsewhere r.booth c
        | _ => false))
      offAir := lit (s.offAir bo.target)
      relayLost := lit (bo.relay = .lost)
      handOff := lit (holds && s.handOffDue bo.target) }

/-- Bring one desk's gate and lamps up to date, queuing what changed (R49, R50). -/
def refreshDesk (d : Nat) (s : State) : State :=
  match Tab.get s.booth.desks d with
  | none => s
  | some r =>
    let gate := s.gateOf r
    let lamps := s.lampsOf d r
    let s :=
      if gate = r.gate then s else queueMessage (.gate d gate) .plain (modDesk d (fun r => { r with gate := gate }) s)
    if lamps = r.lamps then s
    else queueMessage (.lamps d lamps none) .plain (modDesk d (fun r => { r with lamps := lamps }) s)

/-- Bring every desk's gate and lamps up to date. -/
def refreshDesks (s : State) : State := forEach (Tab.keys s.booth.desks) refreshDesk s

end Sys2Proof.Machine
end

