-- ==== Sys2Proof/Machine/Feeds.lean ====
section
/-! DEFINITION. Feed Unit (chapter 4): how a context ends, the sending side's trunk, the receiving side's states, and
the outcomes of trunk claims told to their users (R22, R68, R77). -/

namespace Sys2Proof.Machine

/-- Causes of FEED ENDED, in code order (R190). -/
inductive FeedCause where
  | host | declined | timeout | noTrunk | closed | dark | unknown | peerLost | line
  deriving DecidableEq, Repr

/-- A cause's code (R190). -/
def FeedCause.code : FeedCause → Nat
  | .host => 0 | .declined => 1 | .timeout => 2 | .noTrunk => 3 | .closed => 4 | .dark => 5 | .unknown => 6
  | .peerLost => 7 | .line => 8

/-- The cause an END(reason) received gives (R87). -/
def causeOf : EndReason → FeedCause
  | .host => .host | .timeout => .timeout | .noTrunk => .noTrunk | .closed => .closed | .dark => .dark
  | .unknown => .unknown

/-- A feed context in use. -/
def State.context (s : State) (k : Nat) : Option Feed := Tab.get s.feed.contexts k

/-- Free a context. -/
def freeContext (k : Nat) (s : State) : State := { s with feed.contexts := Tab.erase s.feed.contexts k }

/-- Clear the booth's feed replacement, forcing off a hold of the feed (R47, R86). -/
def endReplacement (k b : Nat) (s : State) : State :=
  match s.boothRec b with
  | none => s
  | some bo =>
    if bo.feed = some k then
      let s := if bo.holding.isSome && bo.selected = .a then forceOff b .feed s else s
      modBooth b (fun bo => { bo with feed := none }) s
    else s

/-- A context ends with a cause and an origin (R86). -/
def endFeedContext (k : Nat) (cause : FeedCause) (partner : Bool) (s : State) : State :=
  match s.context k with
  | none => s
  | some f =>
    let s :=
      match f.side with
      | .sending =>
        recheckOutputs f.booth (freeContext k (endReplacement k f.booth (releaseTrunk (.feed k) s)))
      | .receiving =>
        let s := freeContext k s
        if f.state = .holding then setHolder f.target .none s else s
    queueEvent .feedEnded [k, f.partner, cause.code, if partner then 1 else 0] s

/-- Send END with a reason, and end the context with a local origin (R86, R87). -/
def endWith (k : Nat) (reason : EndReason) (s : State) : State :=
  match s.context k with
  | none => s
  | some f => endFeedContext k (causeOf reason) false (sendFeedState f (.ended reason) s)

/-! ### The sending side (R74 to R77) -/

/-- The feed replacement begins (R47): a hold of output A's channel is forced off first. -/
def beginReplacement (k b : Nat) (s : State) : State :=
  match s.boothRec b with
  | none => s
  | some bo =>
    let s := if bo.holding.isSome && bo.selected = .a then leave bo.target (forceOff b .feed s) else s
    recheckOutputs b (recomputeBooths [b] (modBooth b (fun bo => { bo with feed := some k }) s))

/-- FEED ANSWER ACCEPT reaches an OFFERED context (R74). -/
def acceptOffer (k : Nat) (s : State) : State :=
  match s.context k with
  | none => s
  | some f =>
    let s := modFeed k (fun f => { f with answerWait := none }) s
    match s.freeTrunk with
    | none => endWith k .noTrunk s
    | some t =>
      beginReplacement k f.booth
        (modFeed k (fun f => { f with state := .claiming, trunk := some t }) (takeTrunk t (.feed k) s))

/-- The trunk is won (R75): READY, and LIVE at once if the booth holds the feed. -/
def feedWon (k t : Nat) (s : State) : State :=
  match s.context k with
  | none => s
  | some f =>
    let s := modFeed k (fun f => { f with state := .ready, trunk := some t }) s
    let s := setRoute (sendOutput t) (.mic f.booth) (sendFeedState f (.ready t) s)
    if f.boothHeld then reportHeld k s else s

/-- A new candidate is being claimed (R77, log 15). -/
def feedMoved (k t : Nat) (s : State) : State :=
  modFeed k
    (fun f =>
      { f with state := .claiming, trunk := if f.state = .claiming then some t else none }) s

/-! ### Trunk claims and their users (R21, R22) -/

/-- Tell the user of a trunk claim that it is won. -/
def tellWon (u : TrunkUser) (t : Nat) (s : State) : State :=
  match u with
  | .exported c => exportWon c t s
  | .feed k => feedWon k t s

/-- A new search for the same user after its trunk was lost or yielded, and what the user is told (R22). -/
def searchTrunk (u : TrunkUser) (s : State) : State :=
  match s.freeTrunk, u with
  | some t, .exported c => exportMoved c t (takeTrunk t u s)
  | some t, .feed k => feedMoved k t (takeTrunk t u s)
  | none, .exported c => exportStranded c s
  | none, .feed k => endWith k .noTrunk s

/-- An own trunk claim gives way to station q (R22). -/
def yieldTrunk (q t : Nat) (u : TrunkUser) (s : State) : State :=
  let s := sendTrunkClaim t .release u (setTrunk t (.peer q 0) s)
  searchTrunk u (setRoute (sendOutput t) .none s)

/-- The receiving contexts on trunk t follow its entry (R84). -/
def followTrunkFeeds (t : Nat) (s : State) : State :=
  let owned := fun f : Feed =>
    match s.trunk t with
    | some (.peer p _) => p = f.partner
    | _ => false
  let left := s.feed.contexts.filter fun e => e.2.side = .receiving && e.2.trunk = some t && !owned e.2
  forEach (Tab.keys left)
    (fun k s =>
      match s.context k with
      | none => s
      | some f =>
        let s := modFeed k (fun f => { f with trunk := none, readyWait := some Config.readyMs }) s
        if f.state = .holding then setRoute (busOutput f.target) .none s else s)
    s

/-- Relays and feeds on trunk t follow a change of its entry (R65, R84). -/
def followTrunk (t : Nat) (s : State) : State := followTrunkFeeds t (followTrunkBooths t s)

/-- Trunk t becomes free: its holder released it, or its claim expired (R20). -/
def freePeerTrunk (t : Nat) (s : State) : State :=
  followTrunk t { s with planner.trunks := Tab.erase s.planner.trunks t }

/-- Queue a REFRESH of an own trunk claim; a running refresh timer restarts (R22, log 29). -/
def refreshTrunk (t : Nat) (s : State) : State :=
  match s.trunk t with
  | some (.own ph cf u w r) =>
    sendTrunkClaim t .refresh u (setTrunk t (.own ph cf u w (r.map fun _ => Config.refreshMs)) s)
  | _ => s

/-- A CLAIM or REFRESH of trunk t from peer q (R20, R22). -/
def hearTrunkClaim (q t : Nat) (s : State) : State :=
  match s.trunk t with
  | none => setTrunk t (.peer q 0) s
  | some (.peer p _) =>
    if q = p then setTrunk t (.peer q 0) s
    else if q < p then followTrunk t (setTrunk t (.peer q 0) s)
    else s
  | some (.own _ _ u _ _) => if q < s.self then yieldTrunk q t u s else refreshTrunk t s

/-- The window of an own trunk claim expires (R21, R26). -/
def winTrunk (t : Nat) (s : State) : State :=
  match s.trunk t with
  | some (.own ph _ u (some _) _) =>
    let s := setTrunk t (.own .held (s.line.state ≠ .offLine) u none (some Config.refreshMs)) s
    if ph = .window then tellWon u t s else s
  | _ => s

/-! ### The receiving side (R78 to R84) -/

/-- The context of a side with a key (R72): the lowest number. -/
def State.matchFeed (s : State) (side : Side) (q b c : Nat) : Option Nat :=
  (s.feed.contexts.find? fun e =>
    e.2.side = side && e.2.partner = q && e.2.booth = b && e.2.target = c).map Prod.fst

/-- The cases of FEED OFFER REFUSED, in code order (R78, R190). -/
inductive OfferCase where
  | closed | language | targeted | full
  deriving DecidableEq, Repr

/-- A case's code. -/
def OfferCase.code : OfferCase → Nat
  | .closed => 0 | .language => 1 | .targeted => 2 | .full => 3

/-- Why an offer is declined at once (R78), if it is: where several of the four tests hold, the first in the rule's
list (log 54). -/
def State.offerRefused (s : State) (l : Tag) (c : Nat) : Option OfferCase :=
  match s.channel c with
  | none => some .closed
  | some ch =>
    if !within 1 c 31 then some .closed
    else if l ≠ ch.language then some .language
    else if s.feed.contexts.any fun e => e.2.side = .receiving && e.2.target = c then some .targeted
    else if (Tab.firstFree s.feed.contexts 1 4).isNone then some .full
    else none

/-- A FEED OFFER (R78). One that names booth 0, which no rule discards, is taken as any other (log 37). -/
def hearOffer (q b : Nat) (l : Tag) (c : Nat) (p : Pedigree) (s : State) : State :=
  let s :=
    match s.matchFeed .receiving q b c with
    | some k => endFeedContext k .unknown true s
    | none => s
  match s.offerRefused l c, Tab.firstFree s.feed.contexts 1 4 with
  | some why, _ =>
    queueEvent .feedOfferRefused [q, b, c, why.code] (enqueueFrame q (.feedAnswer b c false) s)
  | none, none => s
  | none, some k =>
    queueEvent .feedOffered [k, q, b, c]
      { s with
        feed.contexts := Tab.set s.feed.contexts k
          { side := .receiving, state := .offered, partner := q, booth := b, target := c, language := l
            trunk := none, pedigree := p, boothHeld := false, senderLive := false
            answerWait := some Config.feedAnswerMs, readyWait := none, blockedWait := none } }

/-- A context in ROUTED whose sender is live, in SESSION: it takes its channel, or is BLOCKED by a local booth (R81,
R82). -/
def enterLive (k : Nat) (s : State) : State :=
  match s.context k with
  | none => s
  | some f =>
    if s.planner.hall ≠ .session then s
    else
      match (s.channel f.target).map Channel.holder with
      | some (.desk b _) =>
        queueEvent .feedBlocked [k, f.target, b]
          (modFeed k (fun f => { f with state := .blocked, blockedWait := some Config.blockedMs }) s)
      | _ => feedTakes k f.target s

/-- LIVE reaches a receiving context (R80, R81). -/
def takeLive (k : Nat) (p : Pedigree) (s : State) : State :=
  match s.context k with
  | none => s
  | some f =>
    if f.state = .offered then s
    else
      let s := modFeed k (fun f => { f with senderLive := true, pedigree := p }) s
      match f.state with
      | .routed => enterLive k s
      | .holding => recomputeChannel f.target s
      | _ => s

/-- SILENT reaches a receiving context (R80, R81). -/
def takeSilent (k : Nat) (s : State) : State :=
  match s.context k with
  | none => s
  | some f =>
    if f.state = .offered then s
    else
      let s := modFeed k (fun f => { f with senderLive := false }) s
      let routed := modFeed k (fun f => { f with state := .routed, blockedWait := none }) s
      match f.state with
      | .holding => setHolder f.target .none routed
      | .blocked => routed
      | _ => s

/-- READY(t) reaches a receiving context (R80, R84). -/
def takeReady (k t : Nat) (s : State) : State :=
  match s.context k with
  | none => s
  | some f =>
    if !s.trunkOpenTo f.partner t then s
    else
      let s := adoptTrunk f.partner t s
      let onTrunk := modFeed k (fun f => { f with trunk := some t, readyWait := none }) s
      match f.state with
      | .accepted =>
        let s := modFeed k (fun f => { f with state := .routed }) onTrunk
        if f.senderLive then enterLive k s else s
      | .holding => setRoute (busOutput f.target) (.trunk t) onTrunk
      | .routed | .blocked => onTrunk
      | _ => s

/-- The blocked wait expires: the holding booth is forced off and the feed takes the channel (R82). -/
def endBlocked (k : Nat) (s : State) : State :=
  match s.context k with
  | none => s
  | some f =>
    let s :=
      match (s.channel f.target).map Channel.holder with
      | some (.desk b _) => forceOff b .feed s
      | _ => s
    feedTakes k f.target s

/-- The hall leaves SESSION: receiving contexts stop holding (R85). -/
def restFeeds (s : State) : State :=
  forEach (Tab.keys (s.feed.contexts.filter fun e => e.2.state = .holding || e.2.state = .blocked))
    (fun k s =>
      match s.context k with
      | none => s
      | some f =>
        let s := modFeed k (fun f => { f with state := .routed, blockedWait := none }) s
        if f.state = .holding then setHolder f.target .none s else s)
    s

/-- The hall enters SESSION: routed feeds whose sender is live hold again (R85). -/
def wakeFeeds (s : State) : State :=
  forEach
    (Tab.keys (s.feed.contexts.filter fun e => e.2.side = .receiving && e.2.state = .routed && e.2.senderLive))
    (fun k s =>
      match s.context k with
      | none => s
      | some f => feedTakes k f.target s)
    s

/-- End every context a predicate picks, in ascending number, sending nothing (R88). -/
def endFeeds (p : Feed → Bool) (cause : FeedCause) (s : State) : State :=
  forEach (Tab.keys (s.feed.contexts.filter fun e => p e.2)) (fun k => endFeedContext k cause false) s

end Sys2Proof.Machine
end

