-- ==== Sys2Proof/Machine/Booths.lean ====
section
/-! DEFINITION. Booth Controller (sections 2.3 to 2.6): desk keys, overlaps, channel interlock, and desks that go
OFFLINE and come back. -/

namespace Sys2Proof.Machine

/-- A desk record. -/
def State.desk (s : State) (d : Nat) : Option Desk := Tab.get s.booth.desks d

/-- A refused key: a LAMPS message with the desk's unchanged set and the flash of one lamp (R51). -/
def flash (d : Nat) (l : Lamp) (s : State) : State :=
  match s.desk d with
  | none => s
  | some r => queueMessage (.lamps d r.lamps (some l)) .plain s

/-- LIVE or COUGH by the cough mark, which is cleared (R36, R37). -/
def settleDesk (d : Nat) (s : State) : State :=
  modDesk d (fun r => { r with state := if r.cough then .cough else .live, cough := false }) s

/-- Make a desk the holding desk of booth b, and name it as the holder of the booth's channel. -/
def nameHolder (b d : Nat) (s : State) : State :=
  match s.boothRec b with
  | none => s
  | some bo =>
    let s := modBooth b (fun bo => { bo with holding := some d }) s
    match bo.target with
    | some (.channel c) => setHolder c (.desk b d) s
    | _ => s

/-- The overlap of a booth stops running. -/
def stopOverlap (b : Nat) (s : State) : State := modBooth b (fun bo => { bo with partner := none, overlap := none }) s

/-- The overlap ends as at its expiry: the IN desk holds (R36). -/
def endOverlap (b : Nat) (s : State) : State :=
  match s.boothRec b with
  | none => s
  | some bo =>
    match bo.holding, bo.partner with
    | some out, some inn => nameHolder b inn (settleDesk inn (deskOff out (stopOverlap b s)))
    | _, _ => s

/-- The overlap is cancelled: the OUT desk holds (R37). -/
def cancelOverlap (b : Nat) (s : State) : State :=
  match s.boothRec b with
  | none => s
  | some bo =>
    match bo.holding, bo.partner with
    | some out, some inn => settleDesk out (deskOff inn (stopOverlap b s))
    | _, _ => s

/-- The sole holding desk of a booth gives up the hold (R39). -/
def endHold (b d : Nat) (s : State) : State :=
  match s.boothRec b with
  | none => s
  | some bo => leave bo.target (deskOff d (modBooth b (fun bo => { bo with holding := none }) s))

/-- Force the other holder of channel c off for booth b (R34, R83). The channel is given its new holder next. -/
def oust (c b : Nat) (s : State) : State :=
  match (s.channel c).map Channel.holder with
  | some (.desk b' _) => forceOff b' .takeOver s
  | some (.feed k) =>
    queueEvent .feedPreempted [k, c, b] (modFeed k (fun f => { f with state := .routed }) s)
  | _ => s

/-- The answer of the tests that R33 and R42 share, made of what an output denotes. -/
inductive Access where
  | free
  | refused (lamp : Lamp)
  | takeOver (c : Nat)
  deriving DecidableEq, Repr

/-- Tests 2 and 3 of R33, and test 1 of R42: is there something to hold? -/
def State.nothingToHold (s : State) : Option Held → Bool
  | none => true
  | some (.channel c) => (s.channel c).isNone
  | some (.feed _) => false

/-- Test 5 of R33, and test 2 of R42: channel interlock (R34). -/
def State.interlock (s : State) (b : Nat) : Option Held → Access
  | some (.channel c) =>
    if s.heldElsewhere b c then (if s.cfg.interlock = .refuse then .refused .engaged else .takeOver c) else .free
  | _ => .free

/-- Make way by an interlock answer. -/
def makeWay (b : Nat) (a : Access) (s : State) : State :=
  match a with
  | .takeOver c => oust c b s
  | _ => s

/-- A TAKE past R33 and R34: the booth's handover mode decides (R35, R36). -/
def handOver (b d : Nat) (bo : Booth) (s : State) : State :=
  match bo.holding with
  | none =>
    gain b d bo.target
      (modDesk d (fun r => { r with state := .live }) (modBooth b (fun bo => { bo with holding := some d }) s))
  | some h =>
    match bo.mode with
    | .interlock => flash d .boothBusy s
    | .takeOver => nameHolder b d (modDesk d (fun r => { r with state := .live }) (deskOff h s))
    | .overlap =>
      modBooth b (fun bo => { bo with partner := some d, overlap := some bo.overlapMs })
        (modDesk d (fun r => { r with state := .overlapIn })
          (modDesk h (fun r => { r with cough := r.state = .cough, state := .overlapOut }) s))

/-- TAKE (R33 to R35). -/
def keyTake (d : Nat) (r : Desk) (bo : Booth) (s : State) : State :=
  if r.state ≠ .off then s
  else if s.planner.hall ≠ .session || s.nothingToHold bo.target then flash d .offAir s
  else if bo.overlap.isSome then flash d .boothBusy s
  else
    match s.interlock r.booth bo.target with
    | .refused l => flash d l s
    | a => handOver r.booth d bo (makeWay r.booth a s)

/-- RELEASE (R37, R39). -/
def keyRelease (d : Nat) (r : Desk) (s : State) : State :=
  match r.state with
  | .overlapOut => endOverlap r.booth s
  | .overlapIn => cancelOverlap r.booth s
  | .live | .cough => endHold r.booth d s
  | _ => s

/-- COUGH ON and COUGH OFF (R38, R40). -/
def keyCough (d : Nat) (on : Bool) (r : Desk) (s : State) : State :=
  match r.state with
  | .live | .cough => modDesk d (fun r => { r with state := if on then .cough else .live }) s
  | .overlapIn | .overlapOut => modDesk d (fun r => { r with cough := on }) s
  | _ => s

/-- OUTPUT A and OUTPUT B (R38, R41, R42). -/
def keyOutput (d : Nat) (o : Output) (r : Desk) (bo : Booth) (s : State) : State :=
  let b := r.booth
  if bo.selected = o then s
  else if bo.overlap.isSome then flash d .boothBusy s
  else
    match bo.holding with
    | none => modBooth b (fun bo => { bo with selected := o }) s
    | some h =>
      if h ≠ d then flash d .boothBusy s
      else if s.nothingToHold (bo.denotes o) then flash d .offAir s
      else
        match s.interlock b (bo.denotes o) with
        | .refused l => flash d l s
        | a =>
          let s := modBooth b (fun bo => { bo with selected := o }) (makeWay b a s)
          gain b d (bo.denotes o) (leave bo.target s)

/-- RELAY(selection) (R56). -/
def keyRelay (d : Nat) (src : Selection) (r : Desk) (bo : Booth) (s : State) : State :=
  if s.accepts r.booth bo src then applySelection r.booth src s else flash d .relayLost s

/-- One key of a desk, whole (R32). A desk in no booth's list has none. -/
def takeKey (d : Nat) (k : Key) (s : State) : State :=
  match s.desk d with
  | none => s
  | some r =>
    match s.boothRec r.booth with
    | none => s
    | some bo =>
      match k with
      | .take => keyTake d r bo s
      | .release => keyRelease d r s
      | .coughOn => keyCough d true r s
      | .coughOff => keyCough d false r s
      | .outputA => keyOutput d .a r bo s
      | .outputB => keyOutput d .b r bo s
      | .relay src => keyRelay d src r bo s

/-- A desk's drop goes OFFLINE (R44): as a RELEASE, then OFFLINE; a sole holding desk queues HOLD LOST. -/
def deskOffline (d : Nat) (s : State) : State :=
  match s.desk d with
  | none => s
  | some r =>
    let sole := r.state = .live || r.state = .cough
    let s :=
      match s.boothRec r.booth with
      | some bo =>
        if sole then queueEvent .holdLost [r.booth, heldCode bo.target, HoldCause.offline.code] s else s
      | none => s
    modDesk d (fun r => { r with state := .offline, cough := false }) (keyRelease d r s)

/-- A desk answers again (R44): OFF, its gate closed and its lamp set shown. -/
def deskBack (d : Nat) (s : State) : State :=
  match s.desk d with
  | none => s
  | some r =>
    queueMessage (.lamps d r.lamps none) .plain
      (queueMessage (.gate d false) .plain (modDesk d (fun r => { r with state := .off, gate := false }) s))

/-- The overlap timer expires (R36). -/
def expireOverlap (b : Nat) (s : State) : State :=
  match s.boothRec b with
  | some bo => if bo.overlap.isSome then endOverlap b s else s
  | none => s

end Sys2Proof.Machine
end

