-- ==== Sys2Proof/Machine/MapBuilder.lean ====
section
/-! DEFINITION. Map Builder and Carrier Modulator (chapter 5): the back map, the switch at a cycle end, the leaving of
DARK, mask words; and how a step settles. -/

namespace Sys2Proof.Machine

/-- A channel's status in the map (R90); an ever-on-air channel in CLAIMING does not occur. -/
def State.mapStatus (s : State) (c : Nat) (ch : Channel) : MapStatus :=
  match ch.state with
  | .onAir => if s.channelHeld c ch then .live else .silent
  | .starved => .unavailable
  | _ => .retuning

/-- A channel's record (R89, R90). -/
def State.mapRecord (s : State) (c : Nat) (ch : Channel) : MapRecord :=
  { channel := c, language := ch.language, status := s.mapStatus c ch, relay := ch.pedigree.length = 3
    subcarrier := if ch.state = .onAir then ch.subcarrier else none }

/-- The records of the channels that have been on air, rising (R89). -/
def State.mapRecords (s : State) : List MapRecord :=
  (s.planner.channels.filter fun e => e.2.everOnAir).map fun e => s.mapRecord e.1 e.2

/-- The map the channel table and hall state give (R91). -/
def State.mapNow (s : State) : RMap := { station := s.self, version := s.map.front.version, records := s.mapRecords }

/-- Rebuild the back map (R91). -/
def rebuildMap (s : State) : State := { s with map.back := s.mapNow }

/-- The subcarrier field of a channel's record, where the map has one. -/
def recordOf (m : RMap) (c : Nat) : Option MapRecord := m.records.find? fun r => r.channel = c

/-- Is the new front a retune version (R93)? -/
def isRetune (old new : RMap) : Bool :=
  new.records.any fun r => (recordOf old r.channel).any fun o => o.subcarrier ≠ r.subcarrier

/-- The back map becomes the front (R92). -/
def switchMap (hold : Nat) (s : State) : State :=
  { s with
    map.front := { s.map.back with version := (s.map.front.version + 1) % 256 }
    map.holdCount := hold }

/-- The end of a map cycle (R92, R93). -/
def endCycle (s : State) : State :=
  let hold := s.map.holdCount - 1
  if s.map.back.records = s.map.front.records || 0 < hold then { s with map.holdCount := hold }
  else switchMap (if s.cfg.hold && isRetune s.map.front s.map.back then s.cfg.retuneHold else 0) s

/-- The radiator turns on as the hall leaves DARK: the back map becomes the front at once (R94, R97). -/
def leaveDarkMap (s : State) : State := switchMap 0 (setRadiator true (rebuildMap s))

/-- The radiator turns off as the hall enters DARK (R94, R97). -/
def enterDarkMap (s : State) : State := setRadiator false { s with map.holdCount := 0 }

/-- The mask word on the output is complete (R96): a following word starts where the values differ from
those it carried. Where they have changed and come back to them, none follows (log 43). -/
def endMaskWord (s : State) : State :=
  match s.map.sending with
  | none => s
  | some w =>
    let now : MaskWord := ⟨s.map.radiator, s.map.mask⟩
    { s with map.driver := some w, map.sending := if now = w then none else some now }

/-- Channel 0's bus is the floor feed while channel 0 counts as held (R5, R110). -/
def routeFloor (s : State) : State :=
  setRoute (busOutput 0) (if (s.channel 0).any (s.channelHeld 0) then .floor else .none) s

/-- Queue a notice for every channel whose notice state has changed (R69). -/
def announce (s : State) : State :=
  forEach (Tab.keys (s.planner.channels.filter fun e => s.noticeState e.1 e.2 ≠ e.2.announced)) queueNotice s

/-- How a step settles (log 9): what follows other state in the same event is brought up to date. -/
def settle (s : State) : State := syncMask (rebuildMap (announce (refreshDesks (routeFloor s))))

/-- An event that reaches the blocks while they run, settled. -/
def event (f : State → State) (s : State) : State := if s.running then settle (f s) else s

end Sys2Proof.Machine
end

