-- ==== Sys2Proof/Machine/Channels.lean ====
section
/-! DEFINITION. The life of a channel (sections 1.1 to 1.5): opening, window expiry, closing, the hall states, the
floor language, and the timers and line events that act on own claims (section 1.9). -/

namespace Sys2Proof.Machine

/-- The first booth of a channel at its opening (R54): the lowest-numbered with the channel assigned, or 0. -/
def State.firstBoothOf (s : State) (c : Nat) : Nat :=
  ((s.booth.booths.find? fun e => e.2.outputA = some c || e.2.outputB = some c).map Prod.fst).getD 0

/-- The entry of a channel as it opens, before its search (R7). -/
def State.newChannel (s : State) (c : Nat) (l : Tag) (account : Nat) : Channel :=
  { state := .claiming, language := l, subcarrier := none, confirmed := false, account, holder := .none
    liveSeconds := 0, opening := s.clock.minute
    pedigree := if c = 0 then s.floorPedigree else s.floorPedigree ++ [⟨s.self, s.firstBoothOf c, l⟩]
    everOnAir := false, window := none, refresh := none, firstBooth := s.firstBoothOf c, everHeld := false
    notice := none, announced := .closed }

/-- Open a channel (R7): its entry, its opening notice, its search, and the recheck of relays at its booths (R61). -/
def openAChannel (c : Nat) (l : Tag) (account : Nat) (s : State) : State :=
  let assigned := Tab.keys (s.booth.booths.filter fun e => e.2.outputA = some c || e.2.outputB = some c)
  let s := { s with planner.channels := Tab.set s.planner.channels c (s.newChannel c l account) }
  forEach assigned recheckOutputs (search c (queueNotice c s))

/-- The claim window of a channel expires (R9, R26). -/
def winChannel (c : Nat) (s : State) : State :=
  match s.channel c with
  | none => s
  | some ch =>
    if ch.window.isNone then s
    else
      modChannel c
        (fun ch =>
          { ch with
            state := .onAir, everOnAir := true, confirmed := s.line.state ≠ .offLine
            window := none, refresh := some Config.refreshMs })
        s

/-- The refresh timer of an ON AIR channel expires (R10). -/
def refreshChannel (c : Nat) (s : State) : State :=
  match s.channel c with
  | none => s
  | some ch =>
    if ch.refresh.isNone then s
    else if s.line.state = .offLine then modChannel c (fun ch => { ch with refresh := some Config.refreshMs }) s
    else refreshClaim c s

/-- The refresh timer of an own trunk claim expires (R21). -/
def refreshOwnTrunk (t : Nat) (s : State) : State :=
  match s.trunk t with
  | some (.own ph cf u w (some _)) =>
    if s.line.state = .offLine then setTrunk t (.own ph cf u w (some Config.refreshMs)) s else refreshTrunk t s
  | _ => s

/-- Any holder of a closing channel is forced off (R13 step 1, R46, R87). -/
def closeHolders (c : Nat) (s : State) : State :=
  let s :=
    match (s.channel c).map Channel.holder with
    | some (.desk b _) => forceOff b .closed s
    | _ => s
  let feeds := Tab.keys (s.feed.contexts.filter fun e => e.2.side = .receiving && e.2.target = c)
  setHolder c .none (forEach feeds (fun k => endWith k .closed) s)

/-- A closing channel leaves the mask, and its claim is released (R13 steps 2 and 3). The mask changes here and not at
the end of the step (log 55). -/
def closeClaim (c : Nat) (s : State) : State :=
  match s.channel c with
  | none => s
  | some ch =>
    let s := syncMask
      (modChannel c (fun ch => { ch with state := .claiming, window := none, refresh := none, notice := none }) s)
    match ch.subcarrier with
    | some sc => sendClaim (.subcarrier sc) .release c ch.language s
    | none => s

/-- The settlement of a closing channel (R13 step 5). -/
def closeAccount (c : Nat) (s : State) : State :=
  match s.channel c with
  | none => s
  | some ch => if ch.everOnAir then settleChannel c ch s else s

/-- Close a channel, in the order of R13. -/
def closeAChannel (c : Nat) (s : State) : State :=
  let s := closeAccount c (closeRelays c (closeClaim c (closeHolders c s)))
  let s := setRoute (busOutput c) .none { s with planner.channels := Tab.erase s.planner.channels c }
  searchWaiting [] (rebuildMap s)

/-- Close every open channel, rising (R2, R14). -/
def closeAll (s : State) : State := forEach (Tab.keys s.planner.channels) closeAChannel s

/-! ### Hall states (R1 to R3) -/

/-- Every booth input that is not FLOOR is set to FLOOR with status NONE (R70). -/
def floorBooths (s : State) : State :=
  forEach (Tab.keys s.booth.booths)
    (fun b s =>
      match s.boothRec b with
      | none => s
      | some bo =>
        let s := sendRelayRelease b bo.input s
        let s := modBooth b
          (fun bo => { bo with input := .floor, relay := .none, sourceTrunk := none, answerWait := none }) s
        setRoute (inputOutput b) .floor s)
    s

/-- Enter DARK (R2, R45, R70, R85, R97). -/
def enterDark (s : State) : State :=
  let s := releaseHall { s with planner.hall := .dark }
  let s := restFeeds s
  let s := closeAll (recomputeBooths (Tab.keys s.booth.booths) (floorBooths s))
  let s := forEach (Tab.keys s.feed.contexts) (fun k => endWith k .dark) s
  enterDarkMap (releaseOwnTrunks s)

/-- Enter RECESS from SESSION (R3, R45, R85). -/
def enterRecess (s : State) : State := restFeeds (releaseHall { s with planner.hall := .recess })

/-- Leave DARK for a hall state (R3, R94). -/
def leaveDark (h : HallState) (s : State) : State :=
  leaveDarkMap (openAChannel 0 s.planner.floorTag 0 { s with planner.hall := h })

/-- Change the hall state (R1). -/
def changeHall (h : HallState) (s : State) : State :=
  if h = s.planner.hall then s
  else
    match s.planner.hall, h with
    | _, .dark => enterDark s
    | .dark, _ => leaveDark h s
    | _, .recess => enterRecess s
    | _, .session => wakeFeeds { s with planner.hall := .session }

/-- Set the floor tag (R6, R54). A notice goes out where the language of channel 0 changes (R69). -/
def changeFloor (l : Tag) (s : State) : State :=
  let s := { s with planner.floorTag := l }
  let s :=
    match s.channel 0 with
    | none => s
    | some ch =>
      let s := refreshClaim 0 (modChannel 0 (fun ch => { ch with language := l }) s)
      if ch.language = l then s else queueNotice 0 s
  let onFloor := Tab.keys (s.booth.booths.filter fun e => e.2.input = .floor || e.2.input = .nothing)
  recompute (fun _ _ => true) onFloor s

/-! ### Walls (R15) -/

/-- A wall input's pin changes level: on a bound input of a running station the debounce starts, or stops at a
revert. -/
def moveWall (w : Nat) (isOpen : Bool) (s : State) : State :=
  let bound := s.running && Tab.has s.cfg.walls w
  { s with
    planner.walls := Tab.modify s.planner.walls w fun x =>
      { x with
        level := isOpen
        debounce :=
          if !bound || isOpen = x.position then none
          else if isOpen = x.level then x.debounce
          else some Config.debounceMs } }

/-- The code of a wall's position in an event: R15 lists open, closed (section 10.7.1). -/
def positionCode (isOpen : Bool) : Nat := if isOpen then 0 else 1

/-- A wall input has held its new level for 200 ms (R15). -/
def settleWall (w : Nat) (s : State) : State :=
  match Tab.get s.planner.walls w, Tab.get s.cfg.walls w with
  | some x, some neighbour =>
    if x.debounce.isNone then s
    else
      let s :=
        { s with
          planner.walls := Tab.modify s.planner.walls w fun x => { x with position := x.level, debounce := none } }
      recomputeZone (queuePresence (queueEvent .wallChanged [w, neighbour, positionCode x.level] s))
  | _, _ => s

/-! ### The line's events for own claims (R25, R26) -/

/-- The station goes OFF-LINE: own claims lose their confirmation and the zone is recomputed (R25). -/
def unconfirmClaims (s : State) : State :=
  recomputeZone
    { s with
      planner.channels := Tab.mapAll s.planner.channels fun ch => { ch with confirmed := false }
      planner.trunks := Tab.mapAll s.planner.trunks fun e =>
        match e with
        | .own ph _ u w r => .own ph false u w r
        | .peer q age => .peer q age }

/-- Re-announce the claim of one channel (R26). -/
def reannounceChannel (c : Nat) (s : State) : State :=
  match s.channel c with
  | none => s
  | some ch =>
    match ch.subcarrier with
    | none => s
    | some sc =>
      if ch.confirmed then s
      else
        sendClaim (.subcarrier sc) .claim c ch.language
          (modChannel c (fun ch => { ch with window := some Config.claimWindowMs, refresh := none }) s)

/-- Re-announce one own trunk claim (R26). -/
def reannounceTrunk (t : Nat) (s : State) : State :=
  match s.trunk t with
  | some (.own ph false u _ _) =>
    sendTrunkClaim t .claim u (setTrunk t (.own ph false u (some Config.claimWindowMs) none) s)
  | _ => s

/-- The rejoin: own claims are announced again and STARVED channels search (R26). -/
def reannounce (s : State) : State :=
  let s := forEach (Tab.keys s.planner.channels) reannounceChannel s
  searchWaiting [] (forEach (Tab.keys s.planner.trunks) reannounceTrunk s)

/-- The Relay Unit at the rejoin: a notice for every channel, and the HELD exports' grants again (R70). -/
def regrant (s : State) : State :=
  let s := forEach (Tab.keys s.planner.channels) queueNotice s
  forEach (Tab.keys s.relay.exported)
    (fun c s =>
      match Tab.get s.relay.exported c, s.exportTrunk c with
      | some e, some t => answerListeners c (.grant t) e.listeners s
      | _, _ => s)
    s

end Sys2Proof.Machine
end

