-- ==== Sys2Proof/Machine/Ledger.lean ====
section
/-! DEFINITION. Hire Ledger (chapter 7): orphans and their queries, returns reported by other stations, overdue hires,
losses and recoveries. Deciding a docked receiver stands with the dock. -/

namespace Sys2Proof.Machine

/-! ### Orphans (R129 to R132) -/

/-- The orphan of a serial. -/
def State.orphan (s : State) (serial : Nat) : Option Orphan := s.ledger.orphans.find? fun o => o.serial = serial

/-- Change the orphan of a serial. -/
def modOrphan (serial : Nat) (f : Orphan → Orphan) (s : State) : State :=
  { s with ledger.orphans := s.ledger.orphans.map fun o => if o.serial = serial then f o else o }

/-- Remove the orphan of a serial. -/
def removeOrphan (serial : Nat) (s : State) : State :=
  { s with ledger.orphans := s.ledger.orphans.filter fun o => o.serial ≠ serial }

/-- Causes of ORPHAN DISCARDED, in code order (R129, R131). -/
inductive DiscardCause where
  | full | limit
  deriving DecidableEq, Repr

/-- A cause's code. -/
def DiscardCause.code : DiscardCause → Nat
  | .full => 0 | .limit => 1

/-- Discard an orphan (R129, R131). -/
def discardOrphan (o : Orphan) (cause : DiscardCause) (s : State) : State :=
  queueEvent .orphanDiscarded [o.serial, o.owner, cause.code] (removeOrphan o.serial s)

/-- Query an orphan's owner (R131). -/
def queryOrphan (o : Orphan) (s : State) : State :=
  enqueueFrame o.owner (.returnQuery o.serial o.minute o.battery)
    (modOrphan o.serial
      (fun o => { o with queries := o.queries + 1, answerWait := some Config.orphanAnswerMs }) s)

/-- Query an orphan, or discard it at its limit (R131, R132; log 39 for a join). -/
def queryOrDiscard (o : Orphan) (s : State) : State :=
  if Config.queryLimit ≤ o.queries then discardOrphan o .limit s else queryOrphan o s

/-- Act on each orphan a predicate picks, in list order. -/
def forOrphans (p : Orphan → Bool) (f : Orphan → State → State) (s : State) : State :=
  (s.ledger.orphans.filter p).foldl (fun s o => f o s) s

/-- Peer q is heard joining: its waiting orphans are queried (R132). -/
def joinOrphans (q : Nat) (s : State) : State :=
  forOrphans (fun o => o.owner = q && o.answerWait.isNone) queryOrDiscard s

/-- Peer q changes epoch: its orphans are queried afresh (R132). -/
def refreshOrphans (q : Nat) (s : State) : State := forOrphans (fun o => o.owner = q) queryOrDiscard s

/-- An orphan's answer wait ends (R131). -/
def endOrphanWait (o : Orphan) (s : State) : State :=
  if Config.queryLimit ≤ o.queries then discardOrphan o .limit s
  else modOrphan o.serial (fun o => { o with answerWait := none }) s

/-- Peer q is lost: running waits of its orphans end (R132). -/
def loseOrphans (q : Nat) (s : State) : State :=
  forOrphans (fun o => o.owner = q && o.answerWait.isSome) endOrphanWait s

/-- The answer wait of a serial's orphan expires (R131). -/
def expireOrphan (serial : Nat) (s : State) : State :=
  match s.orphan serial with
  | some o => if o.answerWait.isSome then endOrphanWait o s else s
  | none => s

/-- Make an orphan for a receiver of station q (R129, R130). -/
def remoteReturn (slot q serial minute battery : Nat) (s : State) : State :=
  if (s.orphan serial).isSome then s
  else
    let s :=
      match s.ledger.orphans with
      | oldest :: _ =>
        if Config.orphanCapacity ≤ s.ledger.orphans.length then discardOrphan oldest .full s else s
      | [] => s
    let o : Orphan := { serial, owner := q, minute, battery, queries := 0, answerWait := none }
    let s := queueEvent .remoteReturn [slot, serial, q, minute]
      { s with ledger.orphans := s.ledger.orphans ++ [o] }
    if Tab.has s.line.peers q then queryOrphan o s else s

/-- The outcome's code and the amounts of RETURN ANSWERED (R131). -/
def answeredFields : ReturnOutcome → List Nat
  | .closed _ _ time lossFee deposit =>
    [0, (figuresOf time lossFee deposit).refund, (figuresOf time lossFee deposit).due]
  | .recovered _ => [1, 0, 0]
  | .notOpen => [2, 0, 0]

/-- A RETURN ANSWER from station q (R131). -/
def hearReturnAnswer (q serial : Nat) (o : ReturnOutcome) (s : State) : State :=
  if (s.orphan serial).any fun x => x.owner = q then
    queueEvent .returnAnswered (serial :: answeredFields o) (removeOrphan serial s)
  else s

/-! ### The lost list (R136, R137) -/

/-- The lost-list entry of a serial. -/
def State.lostEntry (s : State) (serial : Nat) : Option Lost := s.ledger.lost.find? fun e => e.serial = serial

/-- Remove the entry of a serial. -/
def removeLost (serial : Nat) (s : State) : State :=
  { s with ledger.lost := s.ledger.lost.filter fun e => e.serial ≠ serial }

/-- An entry joins the lost list (R137). -/
def joinLost (serial account : Nat) (s : State) : State :=
  let s := removeLost serial s
  let s :=
    match s.ledger.lost with
    | oldest :: rest =>
      if Config.lostCapacity ≤ s.ledger.lost.length then
        queueEvent .lostListDropped [oldest.serial, oldest.account] { s with ledger.lost := rest }
      else s
    | [] => s
  { s with ledger.lost := s.ledger.lost ++ [{ serial, account, declared := s.clock.minute }] }

/-- Recover a lost receiver (R127, R133). -/
def recoverLost (e : Lost) (minute : Nat) (s : State) : State :=
  settleRecovery e.serial e.account minute (removeLost e.serial s)

/-! ### Returns reported by other stations (R133) -/

/-- The CLOSED answer of a closing outcome. -/
def Closing.answer (c : Closing) : ReturnOutcome :=
  .closed c.kind c.endMinute c.figures.timeCharge c.figures.lossFee c.figures.deposit

/-- A RETURN QUERY from station q (R133). -/
def hearReturnQuery (q serial minute battery : Nat) (s : State) : State :=
  let answer := fun (o : ReturnOutcome) (s : State) => enqueueFrame q (.returnAnswer serial o) s
  match Tab.get s.ledger.hires serial, s.lostEntry serial with
  | some { closing := none, account, tariff, tag, deposit, start, overdue }, _ =>
    let h : Hire := { closing := none, account, tariff, tag, deposit, start, overdue }
    let c := s.closingOf h .ret minute (some q)
    queueEvent .peerReturn [serial, q, 0, battery] (answer c.answer (closeHire serial .ret minute (some q) s))
  | _, some e =>
    queueEvent .peerReturn [serial, q, 1, battery] (answer (.recovered e.declared) (recoverLost e s.clock.minute s))
  | some { closing := some c, .. }, none => answer c.answer s
  | none, none => answer .notOpen s

/-! ### Overdue hires (R135) -/

/-- The overdue test of one hire. -/
def testOverdue (serial : Nat) (s : State) : State :=
  match Tab.get s.ledger.hires serial with
  | none => s
  | some h =>
    let days := daysTouched s.cfg.dayBoundary h.start s.clock.minute
    if h.closing.isNone && !h.overdue && (s.tariff h.tariff).horizon < days then
      queueEvent .overdue [serial, h.account, h.start, days]
        { s with ledger.hires := Tab.modify s.ledger.hires serial fun h => { h with overdue := true } }
    else s

/-- The overdue test of every hire, in rising serial. -/
def testAllOverdue (s : State) : State := forEach (Tab.keys s.ledger.hires) testOverdue s

end Sys2Proof.Machine
end

