-- ==== Sys2Proof/Machine/Line.lean ====
section
/-! DEFINITION. Line Interface (chapter 9): attempts to send, the fault scores and line states, the rejoin, the peer
table, and the taking of a received frame. -/

namespace Sys2Proof.Machine

/-! ### Line states (R163 to R167) -/

/-- May the station send and receive (section 9.4)? -/
def LineState.live : LineState → Bool
  | .joined | .quiet => true
  | _ => false

/-- Queue LINE STATE with both scores (R165 to R167). -/
def tellLine (s : State) : State :=
  queueEvent .lineState [s.line.state.code, s.line.txScore, s.line.rxScore] s

/-- Enter OFF-LINE (R166). -/
def goOffLine (s : State) : State :=
  let s :=
    { s with
      line.state := .offLine
      line.queue := s.line.queue.map fun f => { f with sending := none }
      line.peers := []
      line.sequences := 0 }
  tellLine (endFeeds (fun _ => true) .line (unconfirmClaims s))

/-- Test the scores against the thresholds (R165, R166). -/
def testScores (s : State) : State :=
  if !s.line.state.live then s
  else if 200 ≤ s.line.txScore then goOffLine s
  else if s.line.state = .joined && (100 ≤ s.line.txScore || 100 ≤ s.line.rxScore) then
    tellLine { s with line.state := .quiet }
  else if s.line.state = .quiet && s.line.txScore < 100 && s.line.rxScore < 100 then
    tellLine { s with line.state := .joined }
  else s

/-- Queue a PRESENCE and start the presence timer (R164, R167). -/
def startPresence (s : State) : State :=
  queuePresence { s with line.presence := some Config.presenceMs }

/-- Thirteen recessive bits while JOINING (R164). -/
def joinLine (s : State) : State :=
  if s.line.state = .joining then startPresence { s with line.state := .joined } else s

/-- The rejoin (R167). -/
def rejoinLine (s : State) : State :=
  if s.line.state = .offLine then
    let s := startPresence
      { s with
        line.state := .joined, line.txScore := 0, line.rxScore := 0, line.sequences := 0
        line.epoch := (s.line.epoch + 1) % 256 }
    tellLine (regrant (reannounce s))
  else s

/-- A recessive sequence counted while OFF-LINE (R166, R167). -/
def countSequence (s : State) : State :=
  if s.line.state = .offLine then
    let n := s.line.sequences + 1
    if Config.rejoinSequences ≤ n then rejoinLine s else { s with line.sequences := n }
  else s

/-- The presence timer (R166, R171): it queues nothing while OFF-LINE. -/
def expirePresence (s : State) : State :=
  if s.line.presence.isNone then s
  else if s.line.state.live then queuePresence s
  else { s with line.presence := some Config.presenceMs }

/-! ### Attempts to send (R160, R161, R168) -/

/-- The head of the queue: the oldest frame of the lowest precedence number (R168). -/
def headFrame (l : List TxFrame) : Option TxFrame :=
  (List.range 5).findSome? fun p => l.find? fun f => f.payload.precedence = p

/-- Change the first frame equal to f. -/
def changeFrame (f : TxFrame) (g : TxFrame → TxFrame) : List TxFrame → List TxFrame
  | [] => []
  | x :: rest => if x = f then g x :: rest else x :: changeFrame f g rest

/-- The frame in transmission. -/
def State.frameOut (s : State) : Option TxFrame := s.line.queue.find? fun f => f.sending.isSome

/-- Start the frame at the head of the queue, with the epoch as it stands (R159, R160). -/
def startFrame (s : State) : State :=
  if !s.line.state.live || s.frameOut.isSome then s
  else
    match headFrame s.line.queue with
    | none => s
    | some f =>
      { s with
        line.queue := changeFrame f (fun f => { f with sending := some s.line.epoch }) s.line.queue
        line.drive := .frame (frameBits s.self f.dest s.line.epoch f.payload) }

/-- An attempt that ends with the frame still to be sent: it is no longer in transmission, its NO ACK count is set, and
it is removed where a newer frame of its key waits behind it (R161, R169). -/
def keepFrame (f : TxFrame) (noAcks : Nat) (s : State) : State :=
  if s.line.queue.any (supersededBy f.payload) then { s with line.queue := s.line.queue.erase f }
  else
    { s with
      line.queue := changeFrame f (fun f => { f with sending := none, noAcks := noAcks }) s.line.queue }

/-- Arbitration is lost (R160). -/
def loseArbitration (s : State) : State :=
  let s := startFrame s
  match s.frameOut with
  | none => s
  | some f => keepFrame f 0 { s with line.drive := .nothing }

/-- The attempt succeeds (R161). -/
def succeed (s : State) : State :=
  let s := startFrame s
  match s.frameOut with
  | none => s
  | some f =>
    testScores
      { s with
        line.queue := s.line.queue.erase f, line.txScore := s.line.txScore - 1, line.drive := .nothing }

/-- How a station signals a fault: a mark in JOINED, recessively in QUIET (R162). -/
def State.faultDrive (s : State) : LineDrive := if s.line.state = .quiet then .recessive else .faultMark

/-- The attempt fails (R161 to R163). -/
def fail (fault : SendFault) (s : State) : State :=
  let s := startFrame s
  match s.frameOut with
  | none => s
  | some f =>
    let noAcks := if fault = .noAck then f.noAcks + 1 else 0
    let cost := if fault = .noAck && s.line.state = .quiet then 0 else 8
    let s := { s with line.drive := s.faultDrive, line.txScore := s.line.txScore + cost }
    let s :=
      if Config.noAckLimit ≤ noAcks then
        queueEvent .frameUnheard [f.payload.code, f.dest] { s with line.queue := s.line.queue.erase f }
      else keepFrame f noAcks s
    testScores s

/-! ### Peers (R172 to R174) -/

/-- A peer is lost or changes epoch: the Channel Planner drops what it held (R24). The trunks it held become free
before relays and feeds through it end by their own rules. -/
def dropPeerClaims (q : Nat) (s : State) : State :=
  let held := fun e : TrunkEntry =>
    match e with
    | .peer p _ => p = q
    | .own .. => false
  searchWaiting []
    (recomputeZone
      { s with
        planner.peerClaims := s.planner.peerClaims.filter fun e => e.station ≠ q
        planner.trunks := s.planner.trunks.filter fun e => !held e.2 })

/-- Peer q leaves every listener set (R67). -/
def dropPeerListener (q : Nat) (s : State) : State :=
  forEach (Tab.keys s.relay.exported) (fun c => leaveExport q c 0) s

/-- What a peer lost and a change of epoch have in common (R24, R63, R67, R88). -/
def dropPeer (q : Nat) (s : State) : State :=
  endFeeds (fun f => f.partner = q) .peerLost (dropPeerListener q (dropPeerEntries q (dropPeerClaims q s)))

/-- A peer unheard for 7 s is lost (R174); one heard since, its time begun again, is not. -/
def losePeer (q : Nat) (s : State) : State :=
  match Tab.get s.line.peers q with
  | none => s
  | some p =>
    if p.age < Config.peerLostMs then s
    else
      let s := dropPeer q { s with line.peers := Tab.erase s.line.peers q }
      queueEvent .peerLost [q, p.epoch] (loseOrphans q s)

/-- A frame from a peer is taken first by the peer table (R172, R173). -/
def notePeer (q epoch : Nat) (s : State) : State :=
  match Tab.get s.line.peers q with
  | none =>
    let s := { s with line.peers := Tab.set s.line.peers q { epoch, edges := [], age := 0 } }
    queueEvent .peerJoined [q, epoch] (joinOrphans q s)
  | some p =>
    if p.epoch = epoch then { s with line.peers := Tab.set s.line.peers q { p with age := 0 } }
    else
      let s := dropPeer q { s with line.peers := Tab.set s.line.peers q { epoch, edges := [], age := 0 } }
      queueEvent .peerJoined [q, epoch] (refreshOrphans q s)

/-- A PRESENCE with a changed edge list (R16, R172). -/
def takeEdges (q : Nat) (edges : List (Nat × Bool)) (s : State) : State :=
  match Tab.get s.line.peers q with
  | none => s
  | some p =>
    if p.edges = edges then s
    else recomputeZone { s with line.peers := Tab.set s.line.peers q { p with edges := edges } }

/-! ### Receiving (R161 to R163, R175, R176) -/

/-- A frame is received correctly to its end: acknowledged, and counted good (R161, R163). -/
def countGood (s : State) : State :=
  testScores { s with line.drive := .acknowledge, line.rxScore := s.line.rxScore - 1 }

/-- A correctly received frame of a kind (R172 to R176): own numbers and impossible sources make no entry; otherwise
the peer table takes it, and it is delivered. -/
def receive (f : Sender) (kind : Nat) (deliver : State → State) (s : State) : State :=
  if !s.line.state.live then s
  else
    let s := countGood s
    if f.station = s.self then queueEvent .duplicateStation [kind, f.epoch] s
    else if !stationOk f.station then s
    else deliver (notePeer f.station f.epoch s)

/-- A correctly received frame with a payload; one that breaks R175's ranges is discarded at delivery. -/
def receivePayload (f : Sender) (p : Payload) (deliver : State → State) (s : State) : State :=
  receive f p.code (if p.ok then deliver else id) s

/-- A fault in a received frame (R162, R163). -/
def receiveFaulty (fault : FrameFault) (s : State) : State :=
  if !s.line.state.live || fault = .otherMark then s
  else testScores { s with line.drive := s.faultDrive, line.rxScore := min (s.line.rxScore + 1) 255 }

end Sys2Proof.Machine
end

