-- ==== Sys2Proof/Machine/Dock.lean ====
section
/-! DEFINITION. Dock Manager (sections 6.5 to 6.9) with the Hire Ledger's decision of a docked receiver (section 7.2):
slots, the ready queue, issues. -/

namespace Sys2Proof.Machine

/-- Slot k's record. -/
def State.slot (s : State) (k : Nat) : Option Slot := Tab.get s.dock.slots k

/-- A slot record as CONFIGURE creates it (R111). -/
def Slot.empty : Slot :=
  { state := .empty, serial := none, battery := none, mark := none, chargeStart := none, low := false, cause := none
    latchOpen := false, clearMark := false, startUp := false, hold := none }

/-- Empty a slot (R115). -/
def clearSlot (k : Nat) (s : State) : State := modSlot k (fun _ => Slot.empty) s

/-- Discard a slot's queued and deferred message of a target (R115, R118 to R120). -/
def discardMessages (t : Target) (s : State) : State :=
  removeMessages (sameQueued t) { s with panel.deferred := s.panel.deferred.erase t }

/-! ### The ready queue (R117) -/

/-- Does the entry stand before slot k, placed through its start-up identification? -/
def ReadyEntry.before (k : Nat) (e : ReadyEntry) : Bool := e.startUp && e.slot < k

/-- Place slot k after the last start-up entry of a lower number, and before every other (R117). -/
def placeStartUp (k : Nat) (l : List ReadyEntry) : List ReadyEntry :=
  match l with
  | [] => [⟨k, true⟩]
  | e :: rest =>
    if (e :: rest).any (ReadyEntry.before k) then e :: placeStartUp k rest else ⟨k, true⟩ :: e :: rest

/-- A slot joins the ready queue as it becomes READY (R117). -/
def joinReady (k : Nat) (startUp : Bool) (s : State) : State :=
  { s with dock.ready := if startUp then placeStartUp k s.dock.ready else s.dock.ready ++ [⟨k, false⟩] }

/-- A slot leaves the ready queue (R117). -/
def leaveReady (k : Nat) (s : State) : State :=
  { s with dock.ready := s.dock.ready.filter fun e => e.slot ≠ k }

/-! ### Identification (R112, R125, R128) -/

/-- A slot's identification is complete (R112): CHARGING, and READY when the battery is at or above R. -/
def completeSlot (k serial battery : Nat) (mark : HireMark) (s : State) : State :=
  match s.slot k with
  | none => s
  | some sl =>
    let ready := s.cfg.readyLevel ≤ battery
    let s := modSlot k
      (fun sl =>
        { sl with
          state := if ready then .ready else .charging
          serial := some serial, battery := some battery, mark := some mark
          chargeStart := if ready then none else some s.clock.minute
          low := battery < 5, cause := none, startUp := false, hold := none })
      s
    if ready then joinReady k sl.startUp s else s

/-- Does another slot than k hold the serial docked (R111, R112)? -/
def State.dockedElsewhere (s : State) (k serial : Nat) : Bool :=
  s.dock.slots.any fun e =>
    e.1 ≠ k && e.2.serial = some serial
      && (e.2.state = .charging || e.2.state = .ready || e.2.state = .issuing)

/-- The mark as R104 reads it: a station above 48 is station 0. -/
def markRead (r : Receiver) : HireMark :=
  { station := if 48 < r.markStation then 0 else r.markStation, tag := r.markTag }

/-- The return minute handed to the Hire Ledger (R112). -/
def State.returnMinute (s : State) (sl : Slot) : Nat :=
  if sl.startUp then s.dock.warmMinute.getD s.clock.minute else s.clock.minute

/-- Own records decide first (R125 step 1): a local return or a local recovery. -/
def decideRecords (k serial minute : Nat) (mark : HireMark) (s : State) : State :=
  match Tab.get s.ledger.hires serial, s.lostEntry serial with
  | some { closing := none, account, .. }, _ =>
    queueEvent .receiverReturned [k, serial, account, mark.station]
      (closeHire serial .ret minute (some s.self) s)
  | _, some e => queueEvent .receiverRecovered [k, serial, e.account, e.declared] (recoverLost e minute s)
  | _, none => s

/-- The mark decides next (R125 step 2); known tells of an OPEN record, a lost-list entry or a CLOSING record found
before step 1. -/
def decideMark (k serial battery minute : Nat) (mark : HireMark) (known : Bool) (s : State) : State :=
  if mark.station = 0 then s
  else if mark.station = s.self then
    if known then s else queueEvent .unknownHireMark [k, serial] s
  else remoteReturn k mark.station serial minute battery s

/-- A CLEAR MARK is owed and queued (R112). -/
def oweClearMark (k : Nat) (s : State) : State :=
  queueMessage (.clearMark k) .plain (modSlot k (fun sl => { sl with clearMark := true }) s)

/-- Decide a receiver (R125) that is no duplicate. -/
def decideReceiver (k serial battery : Nat) (mark : HireMark) (s : State) : State :=
  match s.slot k with
  | none => s
  | some sl =>
    let minute := s.returnMinute sl
    let known := Tab.has s.ledger.hires serial || (s.lostEntry serial).isSome
    let s := decideMark k serial battery minute mark known (decideRecords k serial minute mark s)
    let s := if mark.station = 0 then s else oweClearMark k s
    if s.hireClosing serial then
      queueEvent .returnHeld [k, serial]
        (modSlot k (fun sl => { sl with hold := some ⟨serial, mark, false⟩ }) s)
    else completeSlot k serial battery mark s

/-- An answered IDENTIFY of a READING slot (R112): a duplicate, or a receiver to decide. -/
def identifySlot (k serial battery : Nat) (mark : HireMark) (s : State) : State :=
  if s.dockedElsewhere k serial then
    queueEvent .slotFault [k, SlotCause.duplicate.code, serial]
      (modSlot k
        (fun sl =>
          { sl with
            state := .fault, cause := some .duplicate, serial := some serial, battery := some battery
            startUp := false, hold := none })
        s)
  else decideReceiver k serial battery mark s

/-! ### Issues (R118 to R120) -/

/-- Messages queued for an issue are for something that has ended. -/
def disownMessages (n : Nat) (s : State) : State :=
  { s with
    panel.outbound := s.panel.outbound.map fun m =>
      if m.origin = .issue n then { m with origin := .ended } else m }

/-- An issue context ends: its queued PRESET is discarded (R119, R120). -/
def endIssue (n k : Nat) (s : State) : State :=
  discardMessages (.preset k) (disownMessages n { s with dock.issues := Tab.erase s.dock.issues n })

/-- Causes of ISSUE CANCELLED, in code order (R120). -/
inductive CancelCause where
  | timeout | host | link
  deriving DecidableEq, Repr

/-- A cause's code. -/
def CancelCause.code : CancelCause → Nat
  | .timeout => 0 | .host => 1 | .link => 2

/-- Cancel an issue with cause TIMEOUT or HOST (R120). -/
def cancelIssue (n : Nat) (cause : CancelCause) (s : State) : State :=
  match Tab.get s.dock.issues n with
  | none => s
  | some i =>
    let k := i.slot
    let s := { s with dock.issues := Tab.erase s.dock.issues n }
    let s := modSlot k (fun sl => { sl with latchOpen := false }) (disownMessages n s)
    let s := oweClearMark k (queueMessage (.latch k false) .plain s)
    let s := modSlot k (fun sl => { sl with state := .ready }) (discardMessages (.preset k) s)
    queueEvent .issueCancelled [n, k, i.serial, cause.code]
      { s with dock.ready := ⟨k, false⟩ :: s.dock.ready }

/-- An issue fails: its PRESET or LATCH open ended silent (R120). -/
def failIssue (n : Nat) (i : Issue) (kind : MsgKind) (s : State) : State :=
  let s := endIssue n i.slot s
  queueEvent .issueFailed [n, i.slot, i.serial, kind.code]
    (modSlot i.slot (fun sl => { sl with state := .fault, cause := some .link, latchOpen := false }) s)

/-! ### Removal, insertion and drop loss (R112, R115, R116, R119) -/

/-- A slot empties (R115, R107): its record is cleared, its CLEAR MARK discarded, and a LATCH recorded in the deferred
list has lost its cause (log 48). -/
def emptySlot (k : Nat) (s : State) : State :=
  discardMessages (.clearMark k)
    (clearSlot k { s with panel.deferred := s.panel.deferred.erase (.latch k) })

/-- A removal (R115): what it does by the slot's state; an EMPTY slot has none, and a reply to one in OFFLINE is
slotBack's (R116). -/
def removeReceiver (k : Nat) (s : State) : State :=
  match s.slot k with
  | none => s
  | some sl =>
    let serial := sl.serial.getD 0
    match sl.state with
    | .empty | .offline => s
    | .reading =>
      queueEvent .slotCleared [k, SlotState.reading.code] (emptySlot k (discardMessages (.identify k) s))
    | .charging => queueEvent .unissuedRemoval [k, serial] (emptySlot k s)
    | .ready => queueEvent .unissuedRemoval [k, serial] (emptySlot k (leaveReady k s))
    | .fault =>
      queueEvent .slotCleared [k, SlotState.fault.code, (sl.cause.map SlotCause.code).getD 0] (emptySlot k s)
    | .issuing =>
      match s.issueOf k with
      | none => emptySlot k s
      | some (n, i) =>
        if i.phase = .presetting then
          queueEvent .unissuedRemoval [k, i.serial] (emptySlot k (endIssue n k s))
        else queueEvent .issued [n, k, i.serial, i.account] (emptySlot k (openHire i (endIssue n k s)))

/-- A receiver is found in an EMPTY slot: the slot is READING (R112). -/
def startReading (k : Nat) (s : State) : State := modSlot k (fun sl => { sl with state := .reading }) s

/-- An insertion (R112). -/
def insertReceiver (k : Nat) (s : State) : State := queueMessage (.identify k) .plain (startReading k s)

/-- The receiver was exchanged between two polls (R113): a removal, then an insertion answered by this reply. -/
def exchangeReceiver (k serial battery : Nat) (mark : HireMark) (s : State) : State :=
  identifySlot k serial battery mark (startReading k (removeReceiver k s))

/-- A battery reading of a docked receiver (R113). -/
def readBattery (k battery : Nat) (sl : Slot) (s : State) : State :=
  let s := modSlot k (fun sl => { sl with battery := some battery }) s
  match sl.state with
  | .charging =>
    if s.cfg.readyLevel ≤ battery then
      joinReady k false (modSlot k (fun sl => { sl with state := .ready, chargeStart := none }) s)
    else s
  | .ready =>
    if battery < s.cfg.readyLevel - 10 then
      leaveReady k (modSlot k (fun sl => { sl with state := .charging, chargeStart := some s.clock.minute }) s)
    else s
  | _ => s

/-- A receiver answers IDENTIFY (R112, R113, R128); a reply to a slot in OFFLINE is slotBack's (R116). -/
def hearReceiver (k : Nat) (r : Receiver) (s : State) : State :=
  match s.slot k with
  | none => s
  | some sl =>
    match sl.state with
    | .empty | .issuing | .offline => s
    | .reading =>
      match sl.hold with
      | none => identifySlot k r.serial r.battery (markRead r) s
      | some h =>
        if h.serial ≠ r.serial then exchangeReceiver k r.serial r.battery (markRead r) s
        else if h.released then completeSlot k r.serial r.battery h.mark s
        else s
    | .charging | .ready =>
      if sl.serial = some r.serial then readBattery k r.battery sl s
      else exchangeReceiver k r.serial r.battery (markRead r) s
    | .fault =>
      if sl.serial = some r.serial then readBattery k r.battery sl s
      else if sl.serial.isSome then exchangeReceiver k r.serial r.battery (markRead r) s
      else s

/-- A slot's drop goes OFFLINE (R116). Low at insertion and the start-up flag are cleared with the fields the rule lists
(log 46). -/
def slotOffline (k : Nat) (s : State) : State :=
  match s.slot k with
  | none => s
  | some sl =>
    let s :=
      match s.issueOf k with
      | some (n, i) =>
        if sl.state = .issuing then
          queueEvent .issueCancelled [n, k, i.serial, CancelCause.link.code] (endIssue n k s)
        else s
      | none => s
    queueEvent .slotFault [k, SlotCause.link.code, 0]
      (modSlot k (fun _ => { Slot.empty with state := .offline, cause := some .link }) (leaveReady k s))

/-- An OFFLINE slot answers again (R116): EMPTY, or FAULT with no serial. -/
def slotBack (k : Nat) (occupied : Bool) (s : State) : State :=
  modSlot k
    (fun _ => if occupied then { Slot.empty with state := .fault, cause := some .link } else Slot.empty) s

/-- Correct a latch whose reported position is not the one wanted (R116). The poll that finds a receiver gone sets the
latch wanted itself; its own report corrects nothing (section 6.10 at 36 s, log 41). -/
def correctLatch (k : Nat) (latchOpen before : Bool) (s : State) : State :=
  match s.slot k with
  | none => s
  | some sl =>
    if latchOpen = sl.latchOpen || before ≠ sl.latchOpen || s.panel.outbound.any (fun m => m.body.target = .latch k)
    then s
    else queueMessage (.latch k sl.latchOpen) .plain s

/-- An answered slot POLL (R112, R115, R116). -/
def hearSlotPoll (k : Nat) (occupied latchOpen : Bool) (s : State) : State :=
  match s.slot k with
  | none => s
  | some sl =>
    let s :=
      match sl.state with
      | .offline => slotBack k occupied s
      | .empty => if occupied then insertReceiver k s else modSlot k (fun sl => { sl with startUp := false }) s
      | _ => if occupied then s else removeReceiver k s
    correctLatch k latchOpen sl.latchOpen s

/-! ### The minute tick (R113, R114) -/

/-- An IDENTIFY for every slot in CHARGING or READY (R113). -/
def readSlots (s : State) : State :=
  forEach (Tab.keys (s.dock.slots.filter fun e => e.2.state = .charging || e.2.state = .ready))
    (fun k => queueMessage (.identify k) .plain) s

/-- A charging slot goes to FAULT (R114). -/
def faultSlot (k : Nat) (cause : SlotCause) (s : State) : State :=
  queueEvent .slotFault [k, cause.code, ((s.slot k).bind Slot.serial).getD 0]
    (modSlot k (fun sl => { sl with state := .fault, cause := some cause, chargeStart := none }) s)

/-- A charging slot's charge start, not later than the present minute (R114). -/
def State.chargeStart (s : State) (sl : Slot) : Nat := min (sl.chargeStart.getD s.clock.minute) s.clock.minute

/-- Set a charging slot's charge start back to the present minute where the clock was set back (R114). -/
def correctCharge (k : Nat) (s : State) : State :=
  modSlot k (fun sl => if sl.state = .charging then { sl with chargeStart := some (s.chargeStart sl) } else sl) s

/-- The DEAD CELL test of a slot (R114). -/
def testDeadCell (k : Nat) (s : State) : State :=
  match s.slot k with
  | none => s
  | some sl =>
    if sl.state = .charging && 30 ≤ s.clock.minute - s.chargeStart sl then
      let s := modSlot k (fun sl => { sl with low := false }) s
      if sl.low && sl.battery.any (· < 10) then faultSlot k .deadCell s else s
    else s

/-- The CHARGE TIMEOUT test of a slot (R114). -/
def testChargeTimeout (k : Nat) (s : State) : State :=
  match s.slot k with
  | none => s
  | some sl =>
    if sl.state = .charging && 240 ≤ s.clock.minute - s.chargeStart sl then faultSlot k .chargeTimeout s else s

/-- The charge tests of every slot (R114). -/
def testCharging (s : State) : State :=
  forEach (Tab.keys s.dock.slots) (fun k s => testChargeTimeout k (testDeadCell k (correctCharge k s))) s

end Sys2Proof.Machine
end

