-- ==== Sys2Proof/Machine/Panel.lean ====
section
/-! DEFINITION. Panel Bus Controller (sections 6.1 to 6.4): the arbiter and its poll rounds, the exchange on the line,
answered and silent exchanges, drop supervision. -/

namespace Sys2Proof.Machine

/-! ### The arbiter (R106, R108) -/

/-- The message the arbiter sends: the oldest of the earliest class (R106). -/
def nextMessage (l : List Message) : Option Message :=
  (List.range 5).findSome? fun c => l.find? fun m => m.body.cls = c && !m.sending

/-- Mark the first message equal to m as in transmission. -/
def markSending (m : Message) : List Message → List Message
  | [] => []
  | n :: rest => if n = m then { n with sending := true } :: rest else n :: markSending m rest

/-- The source a ROUTE carries, read as its transmission begins (R106). -/
def State.sourceOf (s : State) : Body → Source
  | .route o => s.route o
  | _ => .none

/-- A message goes on the line (R103). -/
def sendMessage (m : Message) (s : State) : State :=
  { s with
    panel.outbound := markSending m s.panel.outbound
    panel.exchange := some .message
    panel.out := .words (m.body.words (s.sourceOf m.body)) }

/-- A poll goes on the line (R103). -/
def sendPoll (a : Nat) (rest : List Nat) (s : State) : State :=
  { s with panel.polls := some rest, panel.exchange := some (.poll a), panel.out := .words (pollWords a) }

/-- The addresses of the drops a predicate picks, rising. -/
def State.dropsWhere (s : State) (p : Drop → Bool) : List Nat := Tab.keys (s.panel.drops.filter fun e => p e.2)

/-- The slots of a round in the order they are polled: ONLINE, from the rotation point, wrapping, at most eight. -/
def State.roundSlots (s : State) : List Nat :=
  let slots := (Tab.keys s.dock.slots).filter fun k => s.dropOnline (slotAddress k)
  let from_ := slots.filter fun k => s.panel.rotation ≤ k
  let before := slots.filter fun k => k < s.panel.rotation
  (from_ ++ before).take 8

/-- The polls of a round (R108). -/
def State.roundPolls (s : State) : List Nat :=
  (s.dropsWhere fun d => d.kind = .desk && d.online) ++ s.roundSlots.map slotAddress
    ++ if s.panel.round = 0 then s.dropsWhere (fun d => !d.online) else []

/-- The rotation point past the last slot polled, wrapping to slot 1 (R108). -/
def State.nextRotation (s : State) : Nat :=
  match s.roundSlots.getLast? with
  | none => s.panel.rotation
  | some k => if k < s.dock.slots.length then k + 1 else 1

/-- Make up a round at its start (R108). -/
def beginRound (s : State) : State :=
  { s with panel.polls := some s.roundPolls, panel.rotation := s.nextRotation }

/-- End a round: the counter advances (R108). -/
def endRound (s : State) : State := { s with panel.round := (s.panel.round + 1) % 16, panel.polls := none }

/-- Send the next poll, beginning rounds as they are due; a round with no poll in it ends at once (R108). A round that
has sent its last poll ends, and the next takes its make-up, when the arbiter next needs a poll (log 58). The number
bounds the rounds tried: after sixteen empty ones no drop is there to poll. -/
def nextPoll : Nat → State → State
  | 0, s => s
  | n + 1, s =>
    match s.panel.polls with
    | none => nextPoll n (beginRound s)
    | some [] => nextPoll n (endRound s)
    | some (a :: rest) => sendPoll a rest s

/-- The line is free: the arbiter sends a message, or the next poll (R108). -/
def startExchange (s : State) : State :=
  if s.panel.exchange.isSome then s
  else
    match nextMessage s.panel.outbound with
    | some m => sendMessage m s
    | none => nextPoll 40 s

/-! ### The exchange that ends -/

/-- The message in transmission. -/
def State.onLine (s : State) : Option Message := s.panel.outbound.find? Message.sending

/-- What ended: a poll, or a message. -/
inductive Ended where
  | poll
  | message (m : Message)
  deriving DecidableEq, Repr

/-- The exchange with a drop of a kind that ends now: the one on the line if it matches; with the line free, a poll,
or the first queued message of the drop and kind, standing for the whole exchange (log 6). -/
def State.ending (s : State) (a : Nat) (kind : MsgKind) : Option Ended :=
  match s.panel.exchange with
  | some (.poll b) => if b = a && kind = .poll then some .poll else none
  | some .message =>
    match s.onLine with
    | some m => if m.body.drop = a && m.body.kind = kind then some (.message m) else none
    | none => none
  | none =>
    if kind = .poll then some .poll
    else (s.panel.outbound.find? fun m => m.body.drop = a && m.body.kind = kind).map .message

/-- The exchange is over: the line is free and its message leaves the queue (R106). -/
def endExchange (e : Ended) (s : State) : State :=
  let s := { s with panel.exchange := none }
  match e with
  | .poll => s
  | .message m => { s with panel.outbound := s.panel.outbound.erase m }

/-- The room a message leaves is filled from the deferred list (R107). -/
def fillRoom (s : State) : State := refill s.panel.deferred.length s

/-! ### Drop supervision (R105, R110) -/

/-- Change a drop's entry. -/
def modDrop (a : Nat) (f : Drop → Drop) (s : State) : State :=
  { s with panel.drops := Tab.modify s.panel.drops a f }

/-- The matrix answers again: a ROUTE for each of its outputs (R110). -/
def restoreRoutes (s : State) : State := forEach (List.range 52) (fun o => queueMessage (.route o) .plain) s

/-- An answered exchange with a drop (R105): it counts no silence; an OFFLINE drop comes back, and its owner is told.
A slot's owner takes the answer itself (R116). -/
def dropAnswers (a : Nat) (s : State) : State :=
  match Tab.get s.panel.drops a with
  | none => s
  | some d =>
    let s := modDrop a (fun d => { d with online := true, silences := 0 }) s
    if d.online then s
    else
      let s := queueEvent .dropOnline [a, d.kind.code] s
      match d.kind with
      | .desk => deskBack a s
      | .matrix => restoreRoutes s
      | .slot => s

/-- A drop goes OFFLINE (R105): its messages go, and its owner is told. -/
def dropGoesOffline (a : Nat) (kind : DropKind) (s : State) : State :=
  let s := queueEvent .dropOffline [a, kind.code] (modDrop a (fun d => { d with online := false }) s)
  let s := { s with panel.deferred := s.panel.deferred.filter fun t => t.drop ≠ a }
  let s := removeMessages (fun m => m.body.drop = a) s
  match kind with
  | .desk => deskOffline a s
  | .slot => slotOffline (a - 31) s
  | .matrix => s

/-- A silent exchange counts against its drop (R105). -/
def countSilence (a : Nat) (s : State) : State :=
  match Tab.get s.panel.drops a with
  | none => s
  | some d =>
    if !d.online then s
    else
      let s := modDrop a (fun d => { d with silences := min (d.silences + 1) 3 }) s
      if 3 ≤ d.silences + 1 then dropGoesOffline a d.kind s else s

/-! ### Answered exchanges -/

/-- An answered exchange: it ends, the drop answers, then its owner takes the reply, then deferred entries follow. -/
def answered (a : Nat) (kind : MsgKind) (act : Ended → State → State) (s : State) : State :=
  match s.ending a kind with
  | none => s
  | some e => fillRoom (act e (dropAnswers a (endExchange e s)))

/-- The keys of a desk's reply, each whole before the next and settled (R32). -/
def takeKeys (d : Nat) (ks : List Key) (s : State) : State := ks.foldl (fun s k => settle (takeKey d k s)) s

/-- A desk's reply (R32, R44): one that brings the desk back has its keys discarded. -/
def hearDesk (d : Nat) (ks : List Key) (s : State) : State :=
  let back := !s.dropOnline d
  answered d .poll (fun _ s => if back then s else takeKeys d ks s) s

/-- An IDENTIFY reply (R104, R113): no receiver is a removal; serial 0 or a battery above 100 is silent. A slot in
OFFLINE leaves it by what the reply reports (R116). -/
def hearIdentify (k : Nat) (r : Option Receiver) (s : State) : State :=
  if (s.slot k).any fun sl => sl.state = .offline then slotBack k r.isSome s
  else
    match r with
    | none => removeReceiver k s
    | some r => hearReceiver k r s

/-- The issue whose message it is, if it is still in use (R119, R120). -/
def State.issueFor (s : State) (m : Message) : Option (Nat × Issue) :=
  match m.origin with
  | .issue n => (Tab.get s.dock.issues n).map fun i => (n, i)
  | _ => none

/-- Put an issue in its next phase. -/
def setPhase (n : Nat) (ph : IssuePhase) (removal : Option Nat) (s : State) : State :=
  { s with dock.issues := Tab.modify s.dock.issues n fun i => { i with phase := ph, removal := removal } }

/-- An answered PRESET (R119). -/
def hearPreset (k : Nat) (m : Message) (s : State) : State :=
  match s.issueFor m with
  | some (n, i) =>
    if i.phase = .presetting then
      queueMessage (.latch k true) (.issue n)
        (modSlot k (fun sl => { sl with latchOpen := true }) (setPhase n .unlatching none s))
    else s
  | none => s

/-- An answered LATCH (R119): only the LATCH open of an issue in UNLATCHING sets anything. -/
def hearLatch (m : Message) (s : State) : State :=
  match s.issueFor m with
  | some (n, i) =>
    if i.phase = .unlatching then setPhase n .awaitingRemoval (some Config.removalMs) s else s
  | none => s

/-- An answered CLEAR MARK (R112); one whose request was dropped sets nothing (log 26). -/
def hearClearMark (k : Nat) (m : Message) (s : State) : State :=
  if m.origin = .ended then s else modSlot k (fun sl => { sl with clearMark := false }) s

/-- Act on an ended message. -/
def onMessage (f : Message → State → State) (e : Ended) (s : State) : State :=
  match e with
  | .message m => f m s
  | .poll => s

/-! ### Silent exchanges (R109) -/

/-- Is a silent message of the kind queued again (R109)? A PRESET is not, nor a message of an issue that has ended. -/
def repeated (m : Message) : Bool := m.body.kind ≠ .preset && m.origin = .plain

/-- A silent exchange: the message leaves the queue; a live issue's PRESET or LATCH open fails the issue; the silence
counts; a message of a drop still ONLINE is made afresh from its owner's state (R105, R107, R109, R120). -/
def silent (a : Nat) (kind : MsgKind) (s : State) : State :=
  match s.ending a kind with
  | none => s
  | some e =>
    let s := endExchange e s
    match e with
    | .poll => fillRoom (countSilence a s)
    | .message m =>
      let s :=
        match s.issueFor m with
        | some (n, i) => failIssue n i kind s
        | none => s
      let s := countSilence a s
      let s :=
        if repeated m && s.dropOnline a then
          match messageFor s m.body.target with
          | some (b, o) => queueMessage b o s
          | none => s
        else s
      fillRoom s

/-- Abandon the exchange on the line (R108). -/
def cutExchange (s : State) : State := { s with panel.exchange := none, panel.out := .nothing }

end Sys2Proof.Machine
end

