-- ==== Sys2Proof/Machine/Station.lean ====
section
/-! DEFINITION. Station Clock and Supply Monitor (sections 10.4 to 10.6): the ticks, the records configuration creates,
START, RETAIN, warm and cold starts. -/

namespace Sys2Proof.Machine

/-! ### Ticks (R113, R114, R135, R150, R185) -/

/-- A channel's live seconds at a second tick (R150). -/
def liveSecond (s : State) (c : Nat) (ch : Channel) : Channel :=
  if s.channelHeld c ch && ch.state = .onAir then { ch with liveSeconds := satAdd ch.liveSeconds 1 } else ch

/-- The second tick reaches the channels (R150). -/
def countLive (s : State) : State :=
  { s with planner.channels := s.planner.channels.map fun e => (e.1, liveSecond s e.1 e.2) }

/-- The minute tick reaches the dock and the ledger (R113, R114, R135). -/
def minuteWork (s : State) : State := testAllOverdue (testCharging (readSlots s))

/-- The second count advances (R185): does the minute count rise, and the machine after it. -/
def advanceClock (s : State) : Bool × State :=
  let t := { s with clock.second := (s.clock.second + 1) % 60 }
  if s.clock.second = 59 && s.clock.minute < Config.minuteMax then
    (true, { t with clock.minute := s.clock.minute + 1 })
  else (false, t)

/-- A second tick, with the minute tick where the minute count rises (R185). -/
def tickSecond (s : State) : State :=
  let rose := (advanceClock s).1
  let s := (advanceClock s).2
  event (fun s => if rose then minuteWork (countLive s) else countLive s) s

/-- A minute tick by itself (log 3): the minute count rises and the second count begins again. -/
def tickMinute (s : State) : State :=
  if s.clock.minute < Config.minuteMax then
    event minuteWork { s with clock.minute := s.clock.minute + 1, clock.second := 0 }
  else s

/-! ### Records (R183, R188) -/

/-- A booth record as configuration creates it (R27, R55). -/
def freshBooth (b : BoothConfig) : Booth :=
  { desks := b.desks, outputA := none, outputB := none, feed := none, selected := .a, input := .floor, relay := .none
    sourceTrunk := none, answerWait := none, mode := b.mode, overlapMs := 100 * b.overlapSteps, holding := none
    partner := none, overlap := none }

/-- Every lamp DARK. -/
def Lamps.allDark : Lamps := ⟨.dark, .dark, .dark, .dark, .dark, .dark⟩

/-- A desk record as configuration creates it (R28). -/
def freshDesk (b : Nat) : Desk := { booth := b, state := .off, cough := false, lamps := .allDark, gate := false }

/-- The desk records of a configuration, in rising address. -/
def freshDesks (cfg : StationConfig) : Table Desk :=
  (cfg.booths.flatMap fun e => e.2.desks.map fun d => (d, e.1)).foldl
    (fun t x => Tab.set t x.1 (freshDesk x.2)) []

/-- An ONLINE drop (R105). -/
def freshDrop (k : DropKind) : Drop := { kind := k, online := true, silences := 0 }

/-- The drop table of a configuration (R105). -/
def freshDrops (cfg : StationConfig) : Table Drop :=
  ((0, freshDrop .matrix) :: (freshDesks cfg).map fun e => (e.1, freshDrop .desk))
    ++ (List.range cfg.slotCount).map fun k => (slotAddress (k + 1), freshDrop .slot)

/-- The slot records of a configuration (R111). -/
def freshSlots (cfg : StationConfig) : Table Slot := (List.range cfg.slotCount).map fun k => (k + 1, Slot.empty)

/-- An account record as CONFIGURE creates it (R147). -/
def freshAccount (rate : Nat) : Account :=
  { rate, depositsHeld := 0, hireRevenue := 0, lossRevenue := 0, refunds := 0, balanceDue := 0, channelMinutes := 0
    channelRevenue := 0, saturated := false }

/-- The blocks' unretained records, as CONFIGURE and a warm start create them (R14, R27, R28, R55, R71, R94, R105, R111,
R121). The wall pins keep their levels. -/
def freshBlocks (s : State) : State :=
  { s with
    planner :=
      { hall := .dark, floorTag := s.cfg.floorTag, channels := [], zone := [s.self], peerClaims := [], trunks := []
        walls := Tab.mapAll s.planner.walls fun w => { w with position := false, debounce := none } }
    booth := { booths := s.cfg.booths.map fun e => (e.1, freshBooth e.2), desks := freshDesks s.cfg }
    relay := { directory := [], exported := [] }
    feed := { contexts := [] }
    map :=
      { front := ⟨s.self, 0, []⟩, back := ⟨s.self, 0, []⟩, holdCount := 0, radiator := false, mask := []
        sending := none, driver := s.map.driver }
    line := { State.reset.line with epoch := s.line.epoch }
    panel := { State.reset.panel with drops := freshDrops s.cfg }
    dock := { State.reset.dock with slots := freshSlots s.cfg } }

/-- CONFIGURE's effect (R183). -/
def configureStation (cfg : StationConfig) (s : State) : State :=
  let s :=
    { s with
      clock.config := some cfg
      clock.station := .configured
      clock.runMark := false
      clock.retainedValid := s.clock.retentionPresent }
  freshBlocks { s with account.accounts := cfg.rates.map fun e => (e.1, freshAccount e.2) }

/-! ### Beginning to run (R184, R188) -/

/-- The panel bus begins (R103, R105, R110, R121). GATE messages are queued in rising desk address, then LAMPS
(log 9). -/
def beginPanel (s : State) : State :=
  let drops := Tab.mapAll s.panel.drops fun d => { d with online := true, silences := 0 }
  let s := { s with panel := { State.reset.panel with drops := drops, out := .lineBreak } }
  let s := { s with booth.desks := Tab.mapAll s.booth.desks fun r => { r with gate := false, lamps := .allDark } }
  let s := forEach (Tab.keys s.booth.desks) (fun d => queueMessage (.gate d false) .plain) s
  let s := forEach (Tab.keys s.booth.desks) (fun d => queueMessage (.lamps d .allDark none) .plain) s
  forEach (Tab.keys s.booth.booths) (fun b => setRoute (inputOutput b) .floor) s

/-- The dock begins: every slot with its start-up flag (R111). -/
def beginDock (s : State) : State :=
  { s with
    dock.slots := Tab.mapAll s.dock.slots fun _ => { Slot.empty with startUp := true }
    dock.ready := []
    dock.issues := [] }

/-- The wall inputs are read, every own edge taken as closed (R15): an open pin of a bound input starts its debounce. -/
def beginWalls (s : State) : State :=
  { s with
    planner.walls := s.planner.walls.map fun e =>
      (e.1,
        { e.2 with
          position := false
          debounce := if Tab.has s.cfg.walls e.1 && e.2.level then some Config.debounceMs else none }) }

/-- The line begins (R164). -/
def beginLine (s : State) : State :=
  { s with line := { State.reset.line with epoch := s.line.epoch, state := .joining } }

/-- The blocks begin their work (R184). START's mask word, OFF and empty, is one with such a word that a warm start left
on the output (log 56). -/
def beginRunning (s : State) : State :=
  let s :=
    { s with
      clock.station := .running
      planner.hall := .dark
      map.sending := some ⟨false, []⟩ }
  recomputeZone (beginWalls (beginDock (beginPanel (beginLine s))))

/-- START's effect (R184). -/
def startStation (s : State) : State :=
  beginRunning { s with clock.runMark := true, dock.warmMinute := none }

/-! ### RETAIN, warm start, cold start (R187 to R189) -/

/-- Feed contexts are freed without frames and without events (R88). Their own trunk claims, which R23 lets none outlive
its user, stand as they are until the restart clears the trunk table (log 49). A booth that held a feed keeps its
holding desk until the restart, with no feed to hold (log 53). -/
def freeFeeds (s : State) : State :=
  { s with
    feed.contexts := []
    booth.booths := Tab.mapAll s.booth.booths fun b => { b with feed := none } }

/-- Every open channel is closed as the blocks stop (R14). The feed contexts stand aside until they are freed: R88 lets
them end with no frame and no event. -/
def closeForStop (s : State) : State :=
  { closeAll { s with feed.contexts := [] } with feed.contexts := s.feed.contexts }

/-- Relay records are cleared (R70): directory, exports, and every booth's relay context. -/
def clearRelays (s : State) : State :=
  { s with
    relay := { directory := [], exported := [] }
    booth.booths := Tab.mapAll s.booth.booths fun b =>
      { b with input := .floor, relay := .none, sourceTrunk := none, answerWait := none } }

/-- The radiator is turned off with the hall DARK, its OFF word complete before the station stops (R14, R97). -/
def stopRadiator (s : State) : State :=
  { s with
    planner.hall := .dark
    map.radiator := false, map.holdCount := 0, map.sending := none, map.driver := some ⟨false, []⟩ }

/-- The panel line and the Centre Line stop (R108, R164). -/
def stopLines (s : State) : State := cutExchange { s with line := { State.reset.line with epoch := s.line.epoch } }

/-- What the blocks of a RUNNING station do before its memory is frozen or a reset takes effect, in the order of
R187: channels, issue contexts (R121), feed contexts and relay records, radiator, lines. -/
def stopBlocks (s : State) : State :=
  let s := { closeForStop s with dock.issues := [] }
  stopLines (stopRadiator (clearRelays (freeFeeds s)))

/-- Enter RETAIN (R187). -/
def enterRetainState (s : State) : State :=
  if s.clock.station = .retain then s
  else
    let s := if s.running then settle (stopBlocks s) else s
    { s with clock.station := .retain, clock.resetHeld := false }

/-- A cold start (R189): everything is empty but the waiting commands and what stands outside the part, which are the
supply state, the retention supply and the wall pins (log 7). -/
def coldStart (s : State) : State :=
  { State.reset with
    pending := s.pending
    clock := { State.reset.clock with supply := s.clock.supply, retentionPresent := s.clock.retentionPresent }
    planner.walls := Tab.mapAll s.planner.walls fun w => { w with position := false, debounce := none }
    map.driver := s.map.driver }

/-- Causes of WARM START, in code order (R188). -/
inductive WarmCause where
  | supply | reset
  deriving DecidableEq, Repr

/-- A cause's code. -/
def WarmCause.code : WarmCause → Nat
  | .supply => 0 | .reset => 1

/-- The blocks as a warm start leaves them, CONFIGURED or about to run: their unretained records, every slot with its
start-up flag (R111), and a mask word OFF and empty on its way to the driver (R96, log 44). -/
def warmBlocks (s : State) : State :=
  let s := freshBlocks s
  { s with
    map.sending := some ⟨false, []⟩
    dock.slots := Tab.mapAll s.dock.slots fun sl => { sl with startUp := true } }

/-- A warm start (R188). One that ends in CONFIGURED sends no break (log 57). -/
def warmStart (cause : WarmCause) (s : State) : State :=
  let s :=
    warmBlocks
      { s with
        clock.resetHeld := false
        clock.supply := if cause = .supply then .normal else s.clock.supply
        clock.station := .configured
        line.epoch := (s.line.epoch + 1) % 256
        port := { answer := none, shifted := [] }
        ledger.orphans := s.ledger.orphans.map fun o => { o with answerWait := none } }
  let s := queueEvent .warmStart [cause.code] (clearEvents { s with dock.warmMinute := some s.clock.minute })
  settle (if s.clock.runMark then beginRunning s else s)

/-- Restart from the retained memory where it is valid and its check matches, cold otherwise (R188, R189). -/
def restart (cause : WarmCause) (checkMatches : Bool) (s : State) : State :=
  if s.clock.retainedValid && checkMatches then warmStart cause s
  else coldStart { s with clock.supply := if cause = .supply then .normal else s.clock.supply }

/-- The supply falls below WARN (R187); in RETAIN and when already LOW nothing falls (log 33). -/
def supplyFalls (s : State) : State :=
  if s.clock.station = .retain || s.clock.supply = .low then s
  else queueEvent .supplyLow [] { s with clock.supply := .low }

/-- The supply rises above WARN (R187). -/
def supplyRises (checkMatches : Bool) (s : State) : State :=
  if s.clock.station = .retain then restart .supply checkMatches s else { s with clock.supply := .normal }

/-- RESET is asserted (R187 to R189). -/
def assertReset (s : State) : State :=
  if s.clock.station = .retain || s.clock.resetHeld then s
  else if s.clock.station = .unconfigured || !s.clock.retentionPresent || !s.clock.retainedValid then coldStart s
  else
    let s := if s.running then settle (stopBlocks s) else s
    { s with clock.resetHeld := true }

/-- RESET is released (R188): the warm start held until now, or a cold one where the memory's check fails. -/
def releaseReset (checkMatches : Bool) (s : State) : State :=
  if s.clock.resetHeld then restart .reset checkMatches s else s

/-- Main power is applied (R189): a cold start where the retained memory is invalid. -/
def applyPower (aboveWarn retentionPresent : Bool) (s : State) : State :=
  let s :=
    { s with
      clock.retentionPresent := retentionPresent
      clock.retainedValid := s.clock.retainedValid && retentionPresent }
  if s.clock.retainedValid then s
  else coldStart { s with clock.supply := if aboveWarn then .normal else .low }

/-- The retention supply fails (R189): the retained memory becomes invalid. -/
def failRetention (s : State) : State :=
  { s with clock.retentionPresent := false, clock.retainedValid := false }

end Sys2Proof.Machine
end

