-- ==== Sys2Proof/Machine/Port.lean ====
section
/-! DEFINITION. Command Port (sections 10.1, 10.2): how a block is checked and answered, answer transfers, and the
bytes of the answers the read commands give. -/

namespace Sys2Proof.Machine

/-- What a command's own tests decide (R179): a refusal code, the data of a read that changes nothing, the data of a
read that took an event from the queue and touched no block, or the answer's data and the machine afterwards. -/
inductive Verdict where
  | refuse (r : Result)
  | tell (data : List Byte)
  | took (data : List Byte) (s : State)
  | accept (data : List Byte) (s : State)
  deriving DecidableEq, Repr

/-- Place an answer in the buffer. -/
def putAnswer (r : Result) (data : List Byte) (s : State) : State := { s with port.answer := some ⟨r, data⟩ }

/-- The parameter bytes as numbers. -/
def numbers (params : List Byte) : List Nat := params.map BitVec.toNat

/-- Does the port answer a transfer: not while RESET is held, and not in RETAIN (R178, R188)? -/
def State.portDriven (s : State) : Bool := s.clock.station ≠ .retain && !s.clock.resetHeld

/-- What a transfer shifts out (R178). In RETAIN the host reads a status byte of 0. -/
def shiftOut (bytes : List Byte) (s : State) : State :=
  if s.clock.resetHeld then s
  else if s.clock.station = .retain then { s with port.shifted := [0] }
  else { s with port.shifted := bytes }

/-- A complete command block (R178, R179): its length, the station states it is taken in, its own tests. A refused
block changes nothing but the answer; an unread answer refuses it with BUSY, shown in the status byte alone. -/
def command (length : Nat) (taken : StationState → Bool) (act : List Nat → State → Verdict) (params : List Byte)
    (s : State) : State :=
  let t := shiftOut [s.statusByte] s
  if !s.portDriven || s.port.answer.isSome then t
  else if params.length ≠ length then putAnswer .range [] t
  else if !taken s.clock.station then putAnswer .state [] t
  else
    match act (numbers params) t with
    | .refuse r => putAnswer r [] t
    | .tell data => putAnswer .done data t
    | .took data u => putAnswer .done data u
    | .accept data u => putAnswer .done data (settle u)

/-- The station states of section 10.2. -/
def inC (st : StationState) : Bool := st = .configured
def inU (st : StationState) : Bool := st = .unconfigured
def inR (st : StationState) : Bool := st = .running
def inCR (st : StationState) : Bool := st = .configured || st = .running
def inUCR (st : StationState) : Bool := st ≠ .retain

/-- Refuse with a code unless a test holds. -/
def require (ok : Bool) (r : Result) (v : Verdict) : Verdict := if ok then v else .refuse r

/-- An answer transfer that shifts out so many bytes of the answer (R178): one that reaches the last byte empties the
buffer. An empty buffer shifts out NONE with length 0. -/
def answerTransfer (shifted : Nat) (s : State) : State :=
  let bytes := (s.port.answer.map Answer.bytes).getD (Answer.bytes ⟨.none, []⟩)
  let t := shiftOut (s.statusByte :: bytes.take shifted) s
  if s.portDriven && bytes.length ≤ shifted then { t with port.answer := none } else t

/-! ### Answer data (section 10.7.1) -/

/-- A channel's entry (R4): number and state, then every other field with its presence flag; ever on air last. -/
def bChannel (s : State) (c : Nat) : List Byte :=
  let o := s.channel c
  b1 c ++ b1 ((o.map fun ch => ch.state.code).getD 0) ++ bOpt 3 bTag (o.map Channel.language)
    ++ bOpt 1 b1 (o.bind Channel.subcarrier) ++ bOpt 1 bBool (o.map Channel.confirmed)
    ++ bOpt 1 b1 (o.map Channel.account) ++ bOpt 3 bHolder (o.map Channel.holder)
    ++ bOpt 4 (be 4) (o.map Channel.liveSeconds) ++ bOpt 3 (be 3) (o.map Channel.opening)
    ++ bOpt 1 bPedigree (o.map Channel.pedigree) ++ bBool (o.any Channel.everOnAir)

/-- The time left on an overlap, in milliseconds rounded up to the next 100 (R29). -/
def overlapLeft (ms : Nat) : Nat := (ms + 99) / 100 * 100

/-- A booth's record and its desks (R27, R29). -/
def bBooth (s : State) (b : Nat) (bo : Booth) : List Byte :=
  b1 b ++ bList b1 bo.desks ++ bOpt 1 b1 bo.outputA ++ bOpt 1 b1 bo.outputB ++ bOpt 1 b1 bo.feed
    ++ b1 bo.selected.code ++ bSelection bo.input ++ b1 bo.relay.code ++ b1 bo.mode.code ++ be 2 bo.overlapMs
    ++ bOpt 1 b1 bo.holding ++ bOpt 1 b1 bo.partner ++ bOpt 2 (fun ms => be 2 (overlapLeft ms)) bo.overlap
    ++ bList
      (fun d =>
        match s.desk d with
        | some r => b1 r.state.code ++ bBool r.cough ++ bLamps r.lamps
        | none => List.replicate 8 0)
      bo.desks

/-- A directory entry (R62), in the order of the rule. -/
def bDirEntry (e : DirEntry) : List Byte :=
  b1 e.station ++ b1 e.channel ++ bTag e.language ++ bPedigree e.pedigree ++ b1 e.state.code ++ bOpt 1 b1 e.trunk
    ++ b1 (e.age / 1000)

/-- Directory entries in rising channel number (R63). -/
def State.entriesOf (s : State) (q : Nat) : List DirEntry :=
  (List.range 32).filterMap fun c => s.remote q c

/-- The trunks a station holds (R177). -/
def State.trunksOf (s : State) (q : Nat) : List Nat :=
  Tab.keys (s.planner.trunks.filter fun e =>
    match e.2 with
    | .peer p _ => p = q
    | .own .. => false)

/-- What READ PEER answers (R177): the subcarriers in the age order of the claim table, the trunks in rising number
(log 51). -/
def bPeer (s : State) (q : Nat) : List Byte :=
  (match Tab.get s.line.peers q with
    | some p => b1 1 ++ b1 p.epoch ++ bEdges p.edges ++ b1 (p.age / 1000)
    | none => b1 0 ++ b1 0 ++ b1 0 ++ b1 0)
    ++ bBool (s.inZone q)
    ++ bList (fun e : PeerClaim => b1 e.subcarrier ++ b1 e.channel ++ bTag e.language)
      (s.planner.peerClaims.filter fun e => e.station = q)
    ++ bList b1 (s.trunksOf q) ++ bList bDirEntry (s.entriesOf q)

/-- A hire record (R122), in the order of the rule. -/
def bHire (serial : Nat) (h : Hire) : List Byte :=
  be 3 serial ++ b1 h.account ++ b1 h.tariff ++ bTag h.tag ++ be 3 h.deposit ++ be 3 h.start
    ++ b1 (if h.closing.isNone then 0 else 1) ++ bBool h.overdue ++ bOpt 29 bClosing h.closing

/-- The time charge a return at the present minute would give, for an OPEN record (R138). -/
def bEstimate (s : State) (h : Hire) : List Byte :=
  bOpt 4 (be 4) (if h.closing.isNone then some (s.hireCharge h s.clock.minute) else none)

/-- A lost-list entry (R137). -/
def bLost (e : Lost) : List Byte := be 3 e.serial ++ b1 e.account ++ be 3 e.declared

/-- An orphan (R129). -/
def bOrphan (o : Orphan) : List Byte :=
  be 3 o.serial ++ b1 o.owner ++ be 3 o.minute ++ b1 o.battery ++ b1 o.queries ++ bWait o.answerWait

/-- What READ HIRE EXACT answers (R138): the parts the three collections hold, then the estimate. -/
def bExact (s : State) (serial : Nat) : List Byte :=
  let h := Tab.get s.ledger.hires serial
  bOpt 46 (bHire serial) h ++ bOpt 7 bLost (s.lostEntry serial) ++ bOpt 11 bOrphan (s.orphan serial)
    ++ (match h with
      | some h => bEstimate s h
      | none => bOpt 4 (be 4) none)

/-- A settlement record (R152): kind, number and fields in the order of the table; a HIRE's loss fee is not one of
them. -/
def bSettlement (r : LogRecord) : List Byte :=
  match r.settlement with
  | .hire serial account tariff start c =>
    b1 c.kind.code ++ be 2 r.number ++ be 3 serial ++ b1 account ++ b1 tariff ++ be 3 start ++ be 3 c.endMinute
      ++ bOpt 1 b1 c.returnedAt ++ be 4 c.figures.timeCharge ++ be 3 c.figures.deposit ++ be 4 c.figures.applied
      ++ be 4 c.figures.refund ++ be 4 c.figures.due
      ++ (if c.kind = .loss then be 4 c.figures.lossFee else [])
  | .recovery serial account minute => b1 2 ++ be 2 r.number ++ be 3 serial ++ b1 account ++ be 3 minute
  | .channel b =>
    b1 3 ++ be 2 r.number ++ b1 b.channel ++ b1 b.account ++ be 3 b.opening ++ be 3 b.close ++ be 4 b.liveSeconds
      ++ be 4 b.minutes ++ be 4 b.charge

/-- An account record (R147). -/
def bAccount (r : Account) : List Byte :=
  be 4 r.rate ++ be 4 r.depositsHeld ++ be 4 r.hireRevenue ++ be 4 r.lossRevenue ++ be 4 r.refunds
    ++ be 4 r.balanceDue ++ be 4 r.channelMinutes ++ be 4 r.channelRevenue ++ bBool r.saturated

/-- How many hire records a predicate picks. -/
def State.countHires (s : State) (p : Hire → Bool) : Nat := (s.ledger.hires.filter fun e => p e.2).length

/-- Is the closing-queue item a pending channel settlement of a bill the predicate picks? -/
def isBill (p : ChannelBill → Bool) : ClosingItem → Bool
  | .channel b => p b
  | _ => false

/-- Is the closing-queue item a CLOSING hire record? -/
def isHireItem : ClosingItem → Bool
  | .hire _ => true
  | _ => false

/-- The counts of the closing queue a predicate picks. -/
def State.countClosing (s : State) (p : ClosingItem → Bool) : Nat := (s.account.closing.filter p).length

/-- What READ ACCOUNT answers (R157): OPEN records, CLOSING records and pending settlements, each counted by itself
(log 51). -/
def bAccountOf (s : State) (a : Nat) (r : Account) : List Byte :=
  bAccount r ++ be 2 (s.countHires fun h => h.account = a && h.closing.isNone)
    ++ be 2 (s.countHires fun h => h.account = a && h.closing.isSome)
    ++ b1 (s.countClosing (isBill fun b => b.account = a))

/-! ### READ STATUS (R180) -/

/-- Section 1, GENERAL. -/
def bGeneral (s : State) : List Byte :=
  [Config.partIdentity] ++ b1 s.clock.station.code ++ b1 s.self ++ b1 s.planner.hall.code ++ be 3 s.clock.minute
    ++ b1 s.clock.second ++ b1 s.clock.supply.code ++ b1 s.events.queue.length ++ be 2 s.events.overrun
    ++ be 2 (s.countHires fun h => h.closing.isNone) ++ be 2 (s.countHires fun h => h.closing.isSome)
    ++ b1 s.ledger.lost.length ++ b1 s.ledger.orphans.length ++ b1 s.account.log.length
    ++ be 2 (s.countClosing isHireItem) ++ b1 (s.countClosing (isBill fun _ => true))
    ++ b1 (s.countClosing ClosingItem.isRecovery)

/-- A trunk's entry (log 11): 0 free, 1 a peer, 2 this station. -/
def bTrunk : Option TrunkEntry → List Byte
  | none => List.replicate 6 0
  | some (.peer q _) => b1 1 ++ b1 q ++ List.replicate 4 0
  | some (.own ph cf (.exported c) _ _) => b1 2 ++ b1 0 ++ b1 ph.code ++ bBool cf ++ b1 0 ++ b1 c
  | some (.own ph cf (.feed k) _ _) => b1 2 ++ b1 0 ++ b1 ph.code ++ bBool cf ++ b1 1 ++ b1 k

/-- Section 2, PLANNER. -/
def bPlanner (s : State) : List Byte :=
  bList b1 s.planner.zone ++ bList (fun i => bTrunk (s.trunk (i + 1))) (List.range 12)
    ++ bList
      (fun c =>
        match s.channel c with
        | some ch => b1 ch.state.code ++ bOpt 1 b1 ch.subcarrier
        | none => b1 0 ++ bOpt 1 b1 none)
      (List.range 32)

/-- Section 3, MAP. The emission mask is a counted list of subcarriers, n follows the map mode, and the settings a mode
or coding does not use are answered as CONFIGURE carried them (log 11). -/
def bMap (s : State) : List Byte :=
  let c := s.cfg.carrier
  b1 s.map.front.version ++ b1 s.map.holdCount ++ bBool s.cfg.hold ++ b1 s.cfg.retuneHold ++ bBool s.map.radiator
    ++ bList b1 s.map.mask ++ b1 c.coding.code ++ b1 c.high ++ b1 c.low ++ b1 c.mark0 ++ b1 c.mark1 ++ b1 c.space
    ++ b1 c.high2 ++ b1 c.low2 ++ b1 c.bitLength

/-- Section 4, LINE: the five numbers of frames queued stand with no count before them (log 51). -/
def bLine (s : State) : List Byte :=
  b1 s.line.state.code ++ b1 s.line.epoch ++ b1 s.line.sequences ++ b1 s.line.txScore ++ b1 s.line.rxScore
    ++ (List.range 5).flatMap fun p => b1 (s.line.queue.filter fun f => f.payload.precedence = p).length

/-- A feed context (R71), in the order of the rule. Booth held and sender live, which each belong to one side, are
answered on both, 0 on the other, and the wait as three: answer, ready and blocked, each with its presence (log 51). -/
def bFeed (k : Nat) (f : Feed) : List Byte :=
  b1 k ++ b1 f.side.code ++ b1 f.state.code ++ b1 f.partner ++ b1 f.booth ++ b1 f.target ++ bTag f.language
    ++ bOpt 1 b1 f.trunk ++ bPedigree f.pedigree ++ bBool f.boothHeld ++ bBool f.senderLive ++ bWait f.answerWait
    ++ bWait f.readyWait ++ bWait f.blockedWait

/-- Section 5, FEEDS. -/
def bFeeds (s : State) : List Byte := bList (fun e => bFeed e.1 e.2) s.feed.contexts

/-- Section 6, PANEL. A drop's item is its address, kind, status and silence count (log 51). -/
def bPanel (s : State) : List Byte :=
  bList (fun e : Nat × Drop => b1 e.1 ++ b1 e.2.kind.code ++ b1 (if e.2.online then 0 else 1) ++ b1 e.2.silences)
    s.panel.drops
    ++ bList (fun o => b1 (s.route o).code) (List.range 52)

/-- A slot record (R111). Latch wanted is coded OPEN 1, CLOSED 0 (log 11). -/
def bSlot (k : Nat) (sl : Slot) : List Byte :=
  b1 k ++ b1 sl.state.code ++ bOpt 3 (be 3) sl.serial ++ bOpt 1 b1 sl.battery
    ++ bOpt 4 (fun m : HireMark => b1 m.station ++ bTag m.tag) sl.mark ++ bOpt 3 (be 3) sl.chargeStart
    ++ bBool sl.low ++ bOpt 1 (fun c : SlotCause => b1 c.code) sl.cause ++ bBool sl.latchOpen ++ bBool sl.clearMark
    ++ bBool sl.startUp

/-- An issue context (R118). -/
def bIssue (n : Nat) (i : Issue) : List Byte :=
  b1 n ++ b1 i.slot ++ be 3 i.serial ++ b1 i.account ++ b1 i.tariff ++ be 3 i.deposit ++ bTag i.tag
    ++ b1 i.phase.code ++ bWait i.removal

/-- Section 7, DOCK. -/
def bDock (s : State) : List Byte :=
  bList (fun e => bSlot e.1 e.2) s.dock.slots ++ bList (fun e : ReadyEntry => b1 e.slot) s.dock.ready
    ++ bList (fun e => bIssue e.1 e.2) s.dock.issues

/-- A tariff (R141): money fields take 4 bytes, and the others the widths CONFIGURE carries them in (log 10). -/
def bTariff (t : Tariff) : List Byte :=
  be 2 t.unit ++ be 4 t.price ++ b1 t.grace ++ be 4 t.cap ++ be 4 t.lossFee ++ b1 t.horizon

/-- Section 8, TARIFFS. -/
def bTariffs (s : State) : List Byte := bList (fun e => bTariff e.2) s.cfg.tariffs ++ be 2 s.cfg.dayBoundary

/-- A section of READ STATUS (R180). -/
def bStatus (s : State) : Nat → List Byte
  | 1 => bGeneral s
  | 2 => bPlanner s
  | 3 => bMap s
  | 4 => bLine s
  | 5 => bFeeds s
  | 6 => bPanel s
  | 7 => bDock s
  | _ => bTariffs s

end Sys2Proof.Machine
end

