-- ==== Sys2Proof/Machine/Commands.lean ====
section
/-! DEFINITION. The host's commands (section 10.2) and the port's other transfers: one meaning each. -/

namespace Sys2Proof.Machine

/-- What a command of the machine answers. -/
abbrev Answered := Host.Outcome State Fault Refusal

/-! ### Configuration, start and clock -/

/-- CONFIGURE's own tests and effect (R183). -/
def actConfigure (p : List Nat) (s : State) : Verdict :=
  require (configureOk p) .range (.accept [] (configureStation (configOf p) s))

/-- CONFIGURE (R183). -/
def execConfigure (params : List Byte) (s : State) : Answered := .next (command 248 inU actConfigure params s)

/-- START's effect (R184). -/
def actStart (_ : List Nat) (s : State) : Verdict := .accept [] (startStation s)

/-- START (R184). -/
def execStart (params : List Byte) (s : State) : Answered := .next (command 0 inC actStart params s)

/-- Set both counts, and test overdue at the new minute (R135, R186). -/
def setClockTo (minute second : Nat) (s : State) : State :=
  testAllOverdue { s with clock.minute := minute, clock.second := second }

/-- SET CLOCK's own tests and effect (R186). -/
def actSetClock (p : List Nat) (s : State) : Verdict :=
  let minute := field p 0 3
  let second := field p 3 1
  require (second ≤ 59) .range
    (require (!(minute < s.clock.minute && !s.ledger.hires.isEmpty)) .clockBack
      (.accept (be 3 minute ++ b1 second) (setClockTo minute second s)))

/-- SET CLOCK (R186). -/
def execSetClock (params : List Byte) (s : State) : Answered := .next (command 4 inCR actSetClock params s)

/-! ### The hall and its channels -/

/-- The hall state a code names (R1). -/
def hallOf : Nat → Option HallState
  | 0 => some .dark
  | 1 => some .recess
  | 2 => some .session
  | _ => none

/-- A channel's state code, 0 for CLOSED. -/
def State.stateCode (s : State) (c : Nat) : Nat := ((s.channel c).map fun ch => ch.state.code).getD 0

/-- SET HALL STATE's own tests and effect (R1). -/
def actSetHallState (p : List Nat) (s : State) : Verdict :=
  match hallOf (field p 0 1) with
  | none => .refuse .range
  | some h =>
    let t := changeHall h s
    .accept (b1 t.planner.hall.code ++ b1 (t.stateCode 0)) t

/-- SET HALL STATE (R1). -/
def execSetHallState (params : List Byte) (s : State) : Answered := .next (command 1 inR actSetHallState params s)

/-- SET FLOOR LANGUAGE's own test and effect (R6). -/
def actSetFloorLanguage (p : List Nat) (s : State) : Verdict :=
  require (tagAt p 0).ok .range (.accept [] (changeFloor (tagAt p 0) s))

/-- SET FLOOR LANGUAGE (R6). -/
def execSetFloorLanguage (params : List Byte) (s : State) : Answered :=
  .next (command 3 inCR actSetFloorLanguage params s)

/-- Does a pending settlement of the channel wait under another account (R7)? -/
def State.pendingElsewhere (s : State) (c account : Nat) : Bool :=
  s.account.closing.any (isBill fun b => b.channel = c && b.account ≠ account)

/-- OPEN CHANNEL's own tests and effect (R7). -/
def actOpenChannel (p : List Nat) (s : State) : Verdict :=
  let c := field p 0 1
  let l := tagAt p 1
  let account := field p 4 1
  require (s.planner.hall ≠ .dark) .state
    (require (within 1 c 31 && l.ok && account ≤ 31) .range
      (require ((s.channel c).isNone && !s.pendingElsewhere c account) .state
        (let t := openAChannel c l account s
         .accept (b1 (t.stateCode c) ++ bOpt 1 b1 ((t.channel c).bind Channel.subcarrier)) t)))

/-- OPEN CHANNEL (R7). -/
def execOpenChannel (params : List Byte) (s : State) : Answered := .next (command 5 inR actOpenChannel params s)

/-- CLOSE CHANNEL's own tests and effect (R13). -/
def actCloseChannel (p : List Nat) (s : State) : Verdict :=
  let c := field p 0 1
  require (within 1 c 31) .range
    (require (s.channel c).isSome .state (.accept [] (closeAChannel c s)))

/-- CLOSE CHANNEL (R13). -/
def execCloseChannel (params : List Byte) (s : State) : Answered := .next (command 1 inR actCloseChannel params s)

/-! ### Booths and feeds -/

/-- Assign a channel or none to an output (R52, R54, R61). -/
def assign (b : Nat) (o : Output) (c : Option Nat) (s : State) : State :=
  let s := modBooth b
    (fun bo =>
      match o with
      | .a => { bo with outputA := c }
      | .b => { bo with outputB := c })
    s
  let s :=
    match c with
    | some c =>
      recomputeChannel c (modChannel c (fun ch => { ch with firstBooth := if ch.firstBooth = 0 then b else ch.firstBooth }) s)
    | none => s
  recheckOutputs b s

/-- ASSIGN OUTPUT's own tests and effect (R52). -/
def actAssignOutput (p : List Nat) (s : State) : Verdict :=
  let b := field p 0 1
  let x := field p 2 1
  let c := if x = 255 then none else some x
  match s.boothRec b with
  | none => .refuse .range
  | some bo =>
    let o : Output := if field p 1 1 = 0 then .a else .b
    let other := if o = .a then bo.outputB else bo.outputA
    require (within 1 b 8 && field p 1 1 ≤ 1 && (x = 255 || within 1 x 31)) .range
      (require (!(bo.holding.isSome && bo.selected = o) && !(c.isSome && other = c)) .state
        (let t := assign b o c s
         let after := (t.boothRec b).getD bo
         .accept (bOpt 1 b1 after.outputA ++ bOpt 1 b1 after.outputB ++ b1 after.selected.code) t))

/-- ASSIGN OUTPUT (R52). -/
def execAssignOutput (params : List Byte) (s : State) : Answered := .next (command 3 inCR actAssignOutput params s)

/-- The selection SELECT RELAY names (section 10.7.1). -/
def selectionOf (p : List Nat) : Option Selection :=
  match field p 1 1 with
  | 0 => some .floor
  | 1 => some .nothing
  | 2 => some (.own (field p 3 1))
  | 3 => some (.remote (field p 2 1) (field p 3 1))
  | _ => none

/-- SELECT RELAY's own tests and effect (R56). -/
def actSelectRelay (p : List Nat) (s : State) : Verdict :=
  let b := field p 0 1
  match s.boothRec b, selectionOf p with
  | some bo, some src =>
    require (s.accepts b bo src) .range
      (let t := applySelection b src s
       let after := (t.boothRec b).getD bo
       .accept (bSelection after.input ++ b1 after.relay.code) t)
  | _, _ => .refuse .range

/-- SELECT RELAY (R56 to R58). -/
def execSelectRelay (params : List Byte) (s : State) : Answered := .next (command 4 inR actSelectRelay params s)

/-- A sending context as OFFER FEED makes it (R73). -/
def State.offerContext (s : State) (a b c : Nat) (l : Tag) : Feed :=
  { side := .sending, state := .offered, partner := a, booth := b, target := c, language := l, trunk := none
    pedigree := s.spokenPedigree b l, boothHeld := false, senderLive := false
    answerWait := some Config.feedAnswerMs, readyWait := none, blockedWait := none }

/-- Offer a feed (R73). -/
def offer (k a b c : Nat) (l : Tag) (s : State) : State :=
  let f := s.offerContext a b c l
  enqueueFrame a (.feedOffer b l c f.pedigree) { s with feed.contexts := Tab.set s.feed.contexts k f }

/-- OFFER FEED's own tests and effect (R73). -/
def actOfferFeed (p : List Nat) (s : State) : Verdict :=
  let b := field p 0 1
  let a := field p 1 1
  let c := field p 2 1
  require (s.planner.hall ≠ .dark) .state
    (match s.boothRec b with
    | none => .refuse .range
    | some bo =>
      require (stationOk a && a ≠ s.self && within 1 c 31) .range
        (require
          (bo.holding.isNone && !s.feed.contexts.any fun e => e.2.side = .sending && e.2.booth = b) .state
          (match s.remote a c, Tab.firstFree s.feed.contexts 1 4 with
          | none, _ => .refuse .unknown
          | some e, free =>
            require (e.state ≠ .closed) .unknown
              (match free with
              | none => .refuse .full
              | some k => .accept (b1 k) (offer k a b c e.language s)))))

/-- OFFER FEED (R73). -/
def execOfferFeed (params : List Byte) (s : State) : Answered := .next (command 3 inR actOfferFeed params s)

/-- The host declines, or its answer wait expires: DECLINE is queued and the context ends (R78, R79). -/
def declineOffer (k : Nat) (cause : FeedCause) (s : State) : State :=
  match s.context k with
  | none => s
  | some f => endFeedContext k cause false (enqueueFrame f.partner (.feedAnswer f.booth f.target false) s)

/-- The host accepts an offer (R79). -/
def acceptByHost (k : Nat) (s : State) : State :=
  match s.context k with
  | none => s
  | some f =>
    modFeed k (fun f => { f with state := .accepted, answerWait := none, readyWait := some Config.readyMs })
      (enqueueFrame f.partner (.feedAnswer f.booth f.target true) s)

/-- ANSWER FEED's own tests and effect (R79). -/
def actAnswerFeed (p : List Nat) (s : State) : Verdict :=
  let k := field p 0 1
  let answer := field p 1 1
  require (within 1 k 4 && answer ≤ 1) .range
    (match s.context k with
    | none => .refuse .unknown
    | some f =>
      require (f.side = .receiving && f.state = .offered) .state
        (.accept [] (if answer = 1 then acceptByHost k s else declineOffer k .declined s)))

/-- ANSWER FEED (R79). -/
def execAnswerFeed (params : List Byte) (s : State) : Answered := .next (command 2 inR actAnswerFeed params s)

/-- END FEED's own tests and effect (R87). -/
def actEndFeed (p : List Nat) (s : State) : Verdict :=
  let k := field p 0 1
  require (within 1 k 4) .range
    (require (s.context k).isSome .unknown (.accept [] (endWith k .host s)))

/-- END FEED (R87). -/
def execEndFeed (params : List Byte) (s : State) : Answered := .next (command 1 inR actEndFeed params s)

/-! ### Receivers -/

/-- Does some open channel carry the tag (R118)? -/
def State.carried (s : State) (l : Tag) : Bool := s.planner.channels.any fun e => e.2.language = l

/-- Drop a slot's CLEAR MARK as an issue takes the slot (R118): queued or deferred it is discarded; in transmission it
ends as it ends. -/
def dropClearMark (k : Nat) (s : State) : State :=
  let s :=
    { s with
      panel.outbound := s.panel.outbound.map fun m =>
        if m.body = .clearMark k && m.sending then { m with origin := .ended } else m }
  discardMessages (.clearMark k) (modSlot k (fun sl => { sl with clearMark := false }) s)

/-- Begin an issue of the slot at the head of the ready queue (R118). -/
def beginIssue (n k account tariff : Nat) (asked : Option Tag) (deposit : Nat) (s : State) : State :=
  let serial := ((s.slot k).bind Slot.serial).getD 0
  let tag :=
    match asked with
    | some l => if s.carried l then l else s.planner.floorTag
    | none => s.planner.floorTag
  let s := modSlot k (fun sl => { sl with state := .issuing }) { s with dock.ready := s.dock.ready.tail }
  let s :=
    { s with
      dock.issues := Tab.set s.dock.issues n
        { slot := k, serial, account, tariff, deposit, tag, phase := .presetting, removal := none } }
  let s :=
    match asked with
    | some l =>
      if s.carried l then s else queueEvent .presetDegraded [n, l.code, s.planner.floorTag.code] s
    | none => s
  let s := if (s.slot k).any Slot.clearMark then dropClearMark k s else s
  queueMessage (.preset k tag s.self) (.issue n) s

/-- ISSUE's own tests and effect (R118). -/
def actIssue (p : List Nat) (s : State) : Verdict :=
  let account := field p 0 1
  let tariff := field p 1 1
  let l := tagAt p 2
  let asked := if l = ⟨0, 0, 0⟩ then none else some l
  let deposit := field p 5 3
  let out := s.ledger.hires.length + s.dock.issues.length
  require (account ≤ 31 && tariff ≤ 7 && asked.all Tag.ok && deposit ≤ Config.depositMax) .range
    (match s.dock.ready with
    | [] => .refuse .empty
    | e :: _ =>
      match Tab.firstFree s.dock.issues 1 4 with
      | none => .refuse .busy
      | some n =>
        require (out < Config.hireCapacity) .full
          (.accept (b1 n ++ b1 e.slot ++ be 3 (((s.slot e.slot).bind Slot.serial).getD 0))
            (beginIssue n e.slot account tariff asked deposit s)))

/-- ISSUE (R118). -/
def execIssue (params : List Byte) (s : State) : Answered := .next (command 8 inR actIssue params s)

/-- CANCEL ISSUE's own tests and effect (R120). -/
def actCancelIssue (p : List Nat) (s : State) : Verdict :=
  let n := field p 0 1
  require (within 1 n 4) .range
    (require (Tab.has s.dock.issues n) .unknown (.accept [] (cancelIssue n .host s)))

/-- CANCEL ISSUE (R120). -/
def execCancelIssue (params : List Byte) (s : State) : Answered := .next (command 1 inR actCancelIssue params s)

/-- Declare a receiver lost (R136, R137). -/
def declare (serial account : Nat) (s : State) : State :=
  joinLost serial account (closeHire serial .loss s.clock.minute none s)

/-- DECLARE LOST's own tests and effect (R136). -/
def actDeclareLost (p : List Nat) (s : State) : Verdict :=
  let serial := field p 0 3
  require (serial ≠ 0) .range
    (match Tab.get s.ledger.hires serial with
    | none => .refuse .unknown
    | some h =>
      require h.closing.isNone .unknown
        (let t := declare serial h.account s
         .accept (bFigures (s.closingOf h .loss s.clock.minute none).figures ++ bBool (!Tab.has t.ledger.hires serial))
          t))

/-- DECLARE LOST (R136). -/
def execDeclareLost (params : List Byte) (s : State) : Answered := .next (command 3 inR actDeclareLost params s)

/-! ### Reads -/

/-- The least serial in the hire table above one (R138). -/
def State.nextHire (s : State) (serial : Nat) : Option (Nat × Hire) := s.ledger.hires.find? fun e => serial < e.1

/-- READ HIRE's own tests and answer (R138). NEXT answers the record with no presence flag, and its estimate (log 51). -/
def actReadHire (p : List Nat) (s : State) : Verdict :=
  let serial := field p 0 3
  match field p 3 1 with
  | 0 =>
    require (serial ≠ 0) .range
      (require (Tab.has s.ledger.hires serial || (s.lostEntry serial).isSome || (s.orphan serial).isSome) .unknown
        (.tell (bExact s serial)))
  | 1 =>
    match s.nextHire serial with
    | none => .refuse .empty
    | some (n, h) => .tell (bHire n h ++ bEstimate s h)
  | _ => .refuse .range

/-- READ HIRE (R138). -/
def execReadHire (params : List Byte) (s : State) : Answered := .next (command 4 inCR actReadHire params s)

/-- READ ACCOUNT's own test and answer (R157). -/
def actReadAccount (p : List Nat) (s : State) : Verdict :=
  match Tab.get s.account.accounts (field p 0 1) with
  | none => .refuse .range
  | some r => .tell (bAccountOf s (field p 0 1) r)

/-- READ ACCOUNT (R157). -/
def execReadAccount (params : List Byte) (s : State) : Answered := .next (command 1 inCR actReadAccount params s)

/-- READ SETTLEMENT's own test and effect (R156). -/
def actReadSettlement (_ : List Nat) (s : State) : Verdict :=
  match s.account.log with
  | [] => .refuse .empty
  | r :: rest =>
    let t := moveClosing { s with account.log := rest }
    .accept (bSettlement r ++ b1 t.account.log.length ++ be 2 t.account.closing.length) t

/-- READ SETTLEMENT (R156). -/
def execReadSettlement (params : List Byte) (s : State) : Answered :=
  .next (command 0 inCR actReadSettlement params s)

/-- READ CHANNEL's own test and answer (R4). -/
def actReadChannel (p : List Nat) (s : State) : Verdict :=
  require (field p 0 1 ≤ 31) .range (.tell (bChannel s (field p 0 1)))

/-- READ CHANNEL (R4). -/
def execReadChannel (params : List Byte) (s : State) : Answered := .next (command 1 inCR actReadChannel params s)

/-- READ BOOTH's own test and answer (R29). -/
def actReadBooth (p : List Nat) (s : State) : Verdict :=
  match s.boothRec (field p 0 1) with
  | none => .refuse .range
  | some bo => .tell (bBooth s (field p 0 1) bo)

/-- READ BOOTH (R29). -/
def execReadBooth (params : List Byte) (s : State) : Answered := .next (command 1 inCR actReadBooth params s)

/-- READ PEER's own test and answer (R177). -/
def actReadPeer (p : List Nat) (s : State) : Verdict :=
  let q := field p 0 1
  require (stationOk q && q ≠ s.self) .range (.tell (bPeer s q))

/-- READ PEER (R177). -/
def execReadPeer (params : List Byte) (s : State) : Answered := .next (command 1 inCR actReadPeer params s)

/-- READ STATUS's own tests and answer (R180). -/
def actReadStatus (p : List Nat) (s : State) : Verdict :=
  let n := field p 0 1
  require (within 1 n 8) .range
    (require (s.clock.station ≠ .unconfigured || n = 1) .state (.tell (bStatus s n)))

/-- READ STATUS (R180). -/
def execReadStatus (params : List Byte) (s : State) : Answered := .next (command 1 inUCR actReadStatus params s)

/-- READ EVENT's own test and effect (R181). -/
def actReadEvent (_ : List Nat) (s : State) : Verdict :=
  match s.events.queue with
  | [] => .refuse .empty
  | e :: _ =>
    let t := dropOldestEvent s
    .took (bEvent e ++ b1 t.events.queue.length) t

/-- READ EVENT (R181). -/
def execReadEvent (params : List Byte) (s : State) : Answered := .next (command 0 inUCR actReadEvent params s)

/-! ### Other transfers (R178, R179) -/

/-- An answer transfer (R178). -/
def execAnswerTransfer (shifted : Nat) (s : State) : Answered := .next (answerTransfer shifted s)

/-- A transfer released before its block is complete (R178): the status byte goes out, the block is discarded. -/
def execIncompleteTransfer (_sent : List Byte) (s : State) : Answered := .next (shiftOut [s.statusByte] s)

/-- A complete block whose code names no command (R179). -/
def execUnknownCommandCode (_code : Byte) (_params : List Byte) (s : State) : Answered :=
  let t := shiftOut [s.statusByte] s
  .next (if !s.portDriven || s.port.answer.isSome then t else putAnswer .unknown [] t)

end Sys2Proof.Machine
end

