-- ==== Sys2Proof/Machine/Frames.lean ====
section
/-! DEFINITION. What is heard on the Centre Line and what becomes of own frames (chapter 9): one meaning for each. -/

namespace Sys2Proof.Machine

/-! ### Claims (R11, R18, R20, R22) -/

/-- A CLAIM or REFRESH of a subcarrier, delivered (R11, R18). -/
def hearClaim (q sc c : Nat) (l : Tag) (s : State) : State :=
  let s := storeClaim q sc c l s
  if s.inZone q then testClaim q sc s else s

/-- CLAIM (R11): action CLAIM or REFRESH for a subcarrier. -/
def execClaim (sender : Sender) (refresh : Bool) (subcarrier channel : Nat) (language : Tag) (s : State) :
    Answered :=
  .next (event (receivePayload sender
    (.claim (.subcarrier subcarrier) (if refresh then .refresh else .claim) channel language)
    (hearClaim sender.station subcarrier channel language)) s)

/-- A RELEASE, delivered (R12, R18, R20). -/
def hearRelease (q : Nat) (r : Resource) (s : State) : State :=
  match r with
  | .subcarrier sc => removeClaim q sc s
  | .trunk t =>
    let s :=
      match s.trunk t with
      | some (.peer p _) => if p = q then freePeerTrunk t s else s
      | _ => s
    if s.inZone q then searchWaiting [] s else s

/-- CLAIM_RELEASE (R18, R20). -/
def execClaimRelease (sender : Sender) (resource : Resource) (channel : Nat) (language : Tag) (s : State) : Answered :=
  .next (event (receivePayload sender (.claim resource .release channel language)
    (hearRelease sender.station resource)) s)

/-- TRUNK_CLAIM (R20, R22): action CLAIM or REFRESH for a trunk. -/
def execTrunkClaim (sender : Sender) (refresh : Bool) (trunk channel : Nat) (language : Tag) (s : State) : Answered :=
  .next (event (receivePayload sender
    (.claim (.trunk trunk) (if refresh then .refresh else .claim) channel language)
    (hearTrunkClaim sender.station trunk)) s)

/-! ### Relays (R62, R64, R66, R67) -/

/-- RELAY_REQUEST (R66). -/
def execRelayRequest (sender : Sender) (channel booth : Nat) (s : State) : Answered :=
  .next (event (receivePayload sender (.relayRequest channel booth) (requestRelay sender.station channel booth)) s)

/-- A RELAY ANSWER, delivered (R64). -/
def hearRelayAnswer (q c : Nat) (o : RelayOutcome) (s : State) : State :=
  match o with
  | .grant t => takeGrant q c t s
  | .refuse r => dropRelays (.refused r) (s.listeners (.remote q c)) s

/-- RELAY_ANSWER (R64). -/
def execRelayAnswer (sender : Sender) (channel : Nat) (outcome : RelayOutcome) (s : State) : Answered :=
  .next (event (receivePayload sender (.relayAnswer channel outcome)
    (hearRelayAnswer sender.station channel outcome)) s)

/-- RELAY_RELEASE (R67). -/
def execRelayRelease (sender : Sender) (channel booth : Nat) (s : State) : Answered :=
  .next (event (receivePayload sender (.relayRelease channel booth) (leaveExport sender.station channel booth)) s)

/-- CHANNEL_NOTICE (R62). -/
def execChannelNotice (sender : Sender) (channel : Nat) (language : Tag) (state : NoticeState) (trunk : Option Nat)
    (pedigree : Pedigree) (s : State) : Answered :=
  .next (event (receivePayload sender (.channelNotice channel language state trunk pedigree)
    (enterNotice sender.station channel language state trunk pedigree)) s)

/-! ### Feeds (R72, R74, R78, R80, R81, R84, R87) -/

/-- FEED_OFFER (R78). -/
def execFeedOffer (sender : Sender) (booth : Nat) (language : Tag) (channel : Nat) (pedigree : Pedigree) (s : State) :
    Answered :=
  .next (event (receivePayload sender (.feedOffer booth language channel pedigree)
    (hearOffer sender.station booth language channel pedigree)) s)

/-- Answer a frame that matches no context with END(UNKNOWN) (R72). -/
def answerUnknown (q b c : Nat) (s : State) : State := enqueueFrame q (.feedState b c (.ended .unknown)) s

/-- A FEED ANSWER, delivered (R72, R74). -/
def hearFeedAnswer (q b c : Nat) (accept : Bool) (s : State) : State :=
  match s.matchFeed .sending q b c with
  | none => if accept then answerUnknown q b c s else s
  | some k =>
    if (s.context k).any fun f => f.state = .offered then
      if accept then acceptOffer k s else endFeedContext k .declined true s
    else s

/-- FEED_ANSWER (R74). -/
def execFeedAnswer (sender : Sender) (booth channel : Nat) (accept : Bool) (s : State) : Answered :=
  .next (event (receivePayload sender (.feedAnswer booth channel accept)
    (hearFeedAnswer sender.station booth channel accept)) s)

/-- A FEED STATE other than END, delivered to the receiving context with its key (R72). -/
def hearFeedState (q b c : Nat) (take : Nat → State → State) (s : State) : State :=
  match s.matchFeed .receiving q b c with
  | some k => take k s
  | none => answerUnknown q b c s

/-- FEED_STATE_READY (R80, R84). -/
def execFeedStateReady (sender : Sender) (booth channel trunk : Nat) (s : State) : Answered :=
  .next (event (receivePayload sender (.feedState booth channel (.ready trunk))
    (hearFeedState sender.station booth channel fun k => takeReady k trunk)) s)

/-- FEED_STATE_LIVE (R80, R81). -/
def execFeedStateLive (sender : Sender) (booth channel : Nat) (pedigree : Pedigree) (s : State) : Answered :=
  .next (event (receivePayload sender (.feedState booth channel (.live pedigree))
    (hearFeedState sender.station booth channel fun k => takeLive k pedigree)) s)

/-- FEED_STATE_SILENT (R80, R81). -/
def execFeedStateSilent (sender : Sender) (booth channel : Nat) (s : State) : Answered :=
  .next (event (receivePayload sender (.feedState booth channel .silent)
    (hearFeedState sender.station booth channel takeSilent)) s)

/-- The context an END is for (R72). NO TRUNK and DARK come from a sender and are for a receiving context, CLOSED comes
from a receiver and is for a sending one (R86). HOST, TIMEOUT and UNKNOWN come from either side: they are for the
context that has the key, and where one of each side has it, for the lower number (log 14). -/
def State.matchEnd (s : State) (q b c : Nat) (r : EndReason) : Option Nat :=
  match r with
  | .noTrunk | .dark => s.matchFeed .receiving q b c
  | .closed => s.matchFeed .sending q b c
  | .host | .timeout | .unknown =>
    match s.matchFeed .receiving q b c, s.matchFeed .sending q b c with
    | some k, some j => some (min k j)
    | some k, none => some k
    | none, j => j

/-- A FEED STATE END, delivered (R72, R87). -/
def hearEnd (q b c : Nat) (r : EndReason) (s : State) : State :=
  match s.matchEnd q b c r with
  | some k => endFeedContext k (causeOf r) true s
  | none => s

/-- FEED_STATE_END (R72, R87). -/
def execFeedStateEnd (sender : Sender) (booth channel : Nat) (reason : EndReason) (s : State) : Answered :=
  .next (event (receivePayload sender (.feedState booth channel (.ended reason))
    (hearEnd sender.station booth channel reason)) s)

/-! ### Returns, presence, and frames that are not delivered (R131, R133, R162, R172, R175, R176) -/

/-- RETURN_QUERY (R133). -/
def execReturnQuery (sender : Sender) (serial minute battery : Nat) (s : State) : Answered :=
  .next (event (receivePayload sender (.returnQuery serial minute battery)
    (hearReturnQuery sender.station serial minute battery)) s)

/-- RETURN_ANSWER (R131). -/
def execReturnAnswer (sender : Sender) (serial : Nat) (outcome : ReturnOutcome) (s : State) : Answered :=
  .next (event (receivePayload sender (.returnAnswer serial outcome)
    (hearReturnAnswer sender.station serial outcome)) s)

/-- PRESENCE (R172). -/
def execPresence (sender : Sender) (edges : List (Nat × Bool)) (s : State) : Answered :=
  .next (event (receivePayload sender (.presence edges) (takeEdges sender.station edges)) s)

/-- DUPLICATE_STATION (R176). -/
def execDuplicateStation (kind epoch : Nat) (s : State) : Answered :=
  .next (event (fun s => receive ⟨s.self, epoch⟩ kind id s) s)

/-- A payload from station q, delivered to the block that takes its kind (R175). -/
def hearPayload (q : Nat) : Payload → State → State
  | .feedOffer b l c p => hearOffer q b l c p
  | .feedAnswer b c a => hearFeedAnswer q b c a
  | .feedState b c (.ready t) => hearFeedState q b c fun k => takeReady k t
  | .feedState b c (.live p) => hearFeedState q b c fun k => takeLive k p
  | .feedState b c .silent => hearFeedState q b c takeSilent
  | .feedState b c (.ended r) => hearEnd q b c r
  | .claim r .release _ _ => hearRelease q r
  | .claim (.subcarrier sc) _ c l => hearClaim q sc c l
  | .claim (.trunk t) _ _ _ => hearTrunkClaim q t
  | .relayRequest c b => requestRelay q c b
  | .relayAnswer c o => hearRelayAnswer q c o
  | .relayRelease c b => leaveExport q c b
  | .returnQuery serial m b => hearReturnQuery q serial m b
  | .returnAnswer serial o => hearReturnAnswer q serial o
  | .channelNotice c l st t p => enterNotice q c l st t p
  | .presence e => takeEdges q e

/-- What a received frame delivers to station self: its payload where it is taken, nothing where it is another station's
or is discarded (R175). -/
def deliverFrame (self : Nat) (f : LineFrame) : State → State :=
  match takenBy self f with
  | some p => hearPayload f.source p
  | none => id

/-- FRAME_FOR_OTHER_STATION (R175): a correctly received frame as its fields stand. -/
def execFrameForOtherStation (frame : LineFrame) (s : State) : Answered :=
  .next (event (fun s => receive frame.sender frame.kind (deliverFrame s.self frame) s) s)

/-- RECEIVE_FAULT (R162, R163). -/
def execReceiveFault (fault : FrameFault) (s : State) : Answered := .next (event (receiveFaulty fault) s)

/-! ### Own frames and the line's state (R160, R161, R164, R166, R167, R171) -/

/-- FRAME_TRANSMIT_START (R159, R160). -/
def execFrameTransmitStart (s : State) : Answered := .next (event startFrame s)

/-- LOST_ARBITRATION (R160). -/
def execLostArbitration (s : State) : Answered := .next (event loseArbitration s)

/-- TRANSMIT_SUCCESS (R161). -/
def execTransmitSuccess (s : State) : Answered := .next (event succeed s)

/-- TRANSMIT_FAILURE (R161, R162). -/
def execTransmitFailure (fault : SendFault) (s : State) : Answered := .next (event (fail fault) s)

/-- LINE_JOINED (R164). -/
def execLineJoined (s : State) : Answered := .next (event joinLine s)

/-- REJOIN (R167). -/
def execRejoin (s : State) : Answered := .next (event rejoinLine s)

/-- PRESENCE_TIMER (R171). -/
def execPresenceTimer (s : State) : Answered := .next (event expirePresence s)

/-- PEER_LOST (R174). -/
def execPeerLost (station : Nat) (s : State) : Answered := .next (event (losePeer station) s)

/-- RECESSIVE_SEQUENCE (R166). -/
def execRecessiveSequence (s : State) : Answered := .next (event countSequence s)

end Sys2Proof.Machine
end

