-- ==== Sys2Proof/Machine/Events.lean ====
section
/-! DEFINITION. Expiries, walls, ticks, the map and mask outputs, the panel bus, and the supply: one meaning for each. -/

namespace Sys2Proof.Machine

/-! ### Claims and trunks (R9, R10, R19 to R21, R26) -/

/-- CLAIM_WINDOW_EXPIRY (R9, R26). -/
def execClaimWindowExpiry (channel : Nat) (s : State) : Answered := .next (event (winChannel channel) s)

/-- TRUNK_WINDOW_EXPIRY (R21, R26). -/
def execTrunkWindowExpiry (trunk : Nat) (s : State) : Answered := .next (event (winTrunk trunk) s)

/-- CLAIM_REFRESH (R10). -/
def execClaimRefresh (channel : Nat) (s : State) : Answered := .next (event (refreshChannel channel) s)

/-- TRUNK_REFRESH (R21). -/
def execTrunkRefresh (trunk : Nat) (s : State) : Answered := .next (event (refreshOwnTrunk trunk) s)

/-- PEER_CLAIM_EXPIRY (R19). -/
def execPeerClaimExpiry (station subcarrier : Nat) (s : State) : Answered :=
  .next (event (fun s =>
    if s.planner.peerClaims.any (PeerClaim.isFor station subcarrier) then removeClaim station subcarrier s else s) s)

/-- PEER_TRUNK_EXPIRY (R20). -/
def execPeerTrunkExpiry (trunk : Nat) (s : State) : Answered :=
  .next (event (fun s =>
    match s.trunk trunk with
    | some (.peer _ _) => freePeerTrunk trunk s
    | _ => s) s)

/-! ### Relays and feeds (R63, R64, R69, R74, R78, R80, R82, R84) -/

/-- DIRECTORY_EXPIRY (R63). -/
def execDirectoryExpiry (station channel : Nat) (s : State) : Answered := .next (event (expireEntry station channel) s)

/-- NOTICE_TIMER (R69). -/
def execNoticeTimer (channel : Nat) (s : State) : Answered :=
  .next (event (fun s =>
    if (s.channel channel).any fun ch => ch.notice.isSome then queueNotice channel s else s) s)

/-- RELAY_ANSWER_WAIT (R64). -/
def execRelayAnswerWait (booth : Nat) (s : State) : Answered :=
  .next (event (fun s =>
    if (s.boothRec booth).any fun bo => bo.answerWait.isSome then dropRelays .timeout [booth] s else s) s)

/-- Is context k of a side in OFFERED with its answer wait running? -/
def State.offerWaits (s : State) (k : Nat) (side : Side) : Bool :=
  (s.context k).any fun f => f.side = side && f.state = .offered && f.answerWait.isSome

/-- FEED_ANSWER_WAIT (R74). -/
def execFeedAnswerWait (context : Nat) (s : State) : Answered :=
  .next (event (fun s => if s.offerWaits context .sending then endWith context .timeout s else s) s)

/-- HOST_ANSWER_WAIT (R78). -/
def execHostAnswerWait (context : Nat) (s : State) : Answered :=
  .next (event (fun s => if s.offerWaits context .receiving then declineOffer context .timeout s else s) s)

/-- READY_WAIT (R80, R84). -/
def execReadyWait (context : Nat) (s : State) : Answered :=
  .next (event (fun s =>
    if (s.context context).any fun f => f.readyWait.isSome then endWith context .timeout s else s) s)

/-- BLOCKED_WAIT (R82). -/
def execBlockedWait (context : Nat) (s : State) : Answered :=
  .next (event (fun s =>
    if (s.context context).any fun f => f.state = .blocked && f.blockedWait.isSome then endBlocked context s
    else s) s)

/-! ### Booths, issues and orphans (R36, R120, R131) -/

/-- OVERLAP_TIMER (R36). -/
def execOverlapTimer (booth : Nat) (s : State) : Answered := .next (event (expireOverlap booth) s)

/-- REMOVAL_TIMER (R120). -/
def execRemovalTimer (context : Nat) (s : State) : Answered :=
  .next (event (fun s =>
    if (Tab.get s.dock.issues context).any fun i => i.removal.isSome then cancelIssue context .timeout s else s) s)

/-- ORPHAN_ANSWER_WAIT (R131). -/
def execOrphanAnswerWait (serial : Nat) (s : State) : Answered := .next (event (expireOrphan serial) s)

/-! ### Walls and the clock (R15, R114, R135, R185) -/

/-- WALL_INPUT_CHANGE (R15). -/
def execWallInputChange (input : Nat) (isOpen : Bool) (s : State) : Answered := .next (moveWall input isOpen s)

/-- WALL_DEBOUNCE (R15). -/
def execWallDebounce (input : Nat) (s : State) : Answered := .next (event (settleWall input) s)

/-- SECOND_TICK (R150, R185). -/
def execSecondTick (s : State) : Answered := .next (tickSecond s)

/-- MINUTE_TICK (R113, R114, R135, R185). -/
def execMinuteTick (s : State) : Answered := .next (tickMinute s)

/-- DEAD_CELL (R114): the test of one slot. -/
def execDeadCell (slot : Nat) (s : State) : Answered :=
  .next (event (fun s => testDeadCell slot (correctCharge slot s)) s)

/-- CHARGE_TIMEOUT (R114): the test of one slot. -/
def execChargeTimeout (slot : Nat) (s : State) : Answered :=
  .next (event (fun s => testChargeTimeout slot (correctCharge slot s)) s)

/-- OVERDUE (R135): the test of one hire. -/
def execOverdue (serial : Nat) (s : State) : Answered := .next (event (testOverdue serial) s)

/-! ### The map and the mask (R92, R93, R96) -/

/-- MAP_CYCLE_END (R92, R93): only a radiator that is on runs cycles. -/
def execMapCycleEnd (s : State) : Answered := .next (event (fun s => if s.map.radiator then endCycle s else s) s)

/-- RETUNE_HOLD_EXPIRY (R93): the cycle end at which a hold count of 1 reaches 0. -/
def execRetuneHoldExpiry (s : State) : Answered :=
  .next (event (fun s => if s.map.radiator && s.map.holdCount = 1 then endCycle s else s) s)

/-- MASK_WORD_SENT (R96). The word of a warm start that ends CONFIGURED completes there (log 44). -/
def execMaskWordSent (s : State) : Answered :=
  .next (if s.portDriven && !s.running then endMaskWord s else event endMaskWord s)

/-! ### The panel bus (R105 to R109, R112, R113, R119) -/

/-- PANEL_EXCHANGE_START (R108). -/
def execPanelExchangeStart (s : State) : Answered := .next (event startExchange s)

/-- DESK_POLL_REPLY (R32). -/
def execDeskPollReply (desk : Nat) (keys : List Key) (s : State) : Answered := .next (event (hearDesk desk keys) s)

/-- SLOT_POLL_REPLY (R112, R115, R116). -/
def execSlotPollReply (slot : Nat) (occupied latchOpen : Bool) (s : State) : Answered :=
  .next (event (answered (slotAddress slot) .poll fun _ => hearSlotPoll slot occupied latchOpen) s)

/-- Is a reply's receiver one that R104 takes as silent? -/
def impossible (r : Receiver) : Bool := r.serial = 0 || 100 < r.battery

/-- IDENTIFY_REPLY (R104, R112, R113, R128). -/
def execIdentifyReply (slot : Nat) (receiver : Option Receiver) (s : State) : Answered :=
  .next (event
    (if receiver.any impossible then silent (slotAddress slot) .identify
    else answered (slotAddress slot) .identify fun _ => hearIdentify slot receiver) s)

/-- PRESET_ANSWERED (R119). -/
def execPresetAnswered (slot : Nat) (s : State) : Answered :=
  .next (event (answered (slotAddress slot) .preset (onMessage (hearPreset slot))) s)

/-- LATCH_ANSWERED (R116, R119). -/
def execLatchAnswered (slot : Nat) (s : State) : Answered :=
  .next (event (answered (slotAddress slot) .latch (onMessage hearLatch)) s)

/-- CLEAR_MARK_ANSWERED (R112). -/
def execClearMarkAnswered (slot : Nat) (s : State) : Answered :=
  .next (event (answered (slotAddress slot) .clearMark (onMessage (hearClearMark slot))) s)

/-- The exchanges whose answer tells its owner nothing (R104): GATE, LAMPS, ROUTE, and a POLL of the matrix. -/
def plainReply (drop : Nat) (kind : MsgKind) : Bool :=
  kind = .gate || kind = .lamps || kind = .route || (kind = .poll && drop = 0)

/-- MESSAGE_ANSWERED (R105). -/
def execMessageAnswered (drop : Nat) (kind : MsgKind) (s : State) : Answered :=
  .next (event (fun s => if plainReply drop kind then answered drop kind (fun _ => id) s else s) s)

/-- EXCHANGE_SILENT (R105, R109, R120). -/
def execExchangeSilent (drop : Nat) (kind : MsgKind) (s : State) : Answered := .next (event (silent drop kind) s)

/-! ### The supply (R187 to R189) -/

/-- SUPPLY_LOW (R187). -/
def execSupplyLow (s : State) : Answered := .next (supplyFalls s)

/-- SUPPLY_RISE_ABOVE_WARN (R187 to R189). -/
def execSupplyRiseAboveWarn (checkMatches : Bool) (s : State) : Answered := .next (supplyRises checkMatches s)

/-- ENTER_RETAIN (R187). -/
def execEnterRetain (s : State) : Answered := .next (enterRetainState s)

/-- RESET_ASSERTED (R187 to R189). -/
def execResetAsserted (s : State) : Answered := .next (assertReset s)

/-- RESET_RELEASED (R188). -/
def execResetReleased (checkMatches : Bool) (s : State) : Answered := .next (releaseReset checkMatches s)

/-- MAIN_POWER_APPLIED (R189). -/
def execMainPowerApplied (aboveWarn retentionPresent : Bool) (s : State) : Answered :=
  .next (applyPower aboveWarn retentionPresent s)

/-- RETENTION_SUPPLY_FAILS (R189). -/
def execRetentionSupplyFails (s : State) : Answered := .next (failRetention s)

end Sys2Proof.Machine
end

