-- ==== Sys2Proof/Machine/Dispatch.lean ====
section
/-! DEFINITION. Each command and its meaning: one arm per row of the table. -/

namespace Sys2Proof.Machine

def exec (i : Instr) (s : State) : Host.Outcome State Fault Refusal :=
  match i with
  | .configure params => Sys2Proof.Machine.execConfigure params s
  | .start params => Sys2Proof.Machine.execStart params s
  | .setClock params => Sys2Proof.Machine.execSetClock params s
  | .setHallState params => Sys2Proof.Machine.execSetHallState params s
  | .setFloorLanguage params => Sys2Proof.Machine.execSetFloorLanguage params s
  | .openChannel params => Sys2Proof.Machine.execOpenChannel params s
  | .closeChannel params => Sys2Proof.Machine.execCloseChannel params s
  | .assignOutput params => Sys2Proof.Machine.execAssignOutput params s
  | .selectRelay params => Sys2Proof.Machine.execSelectRelay params s
  | .offerFeed params => Sys2Proof.Machine.execOfferFeed params s
  | .answerFeed params => Sys2Proof.Machine.execAnswerFeed params s
  | .endFeed params => Sys2Proof.Machine.execEndFeed params s
  | .issue params => Sys2Proof.Machine.execIssue params s
  | .cancelIssue params => Sys2Proof.Machine.execCancelIssue params s
  | .declareLost params => Sys2Proof.Machine.execDeclareLost params s
  | .readHire params => Sys2Proof.Machine.execReadHire params s
  | .readAccount params => Sys2Proof.Machine.execReadAccount params s
  | .readSettlement params => Sys2Proof.Machine.execReadSettlement params s
  | .readChannel params => Sys2Proof.Machine.execReadChannel params s
  | .readBooth params => Sys2Proof.Machine.execReadBooth params s
  | .readPeer params => Sys2Proof.Machine.execReadPeer params s
  | .readStatus params => Sys2Proof.Machine.execReadStatus params s
  | .readEvent params => Sys2Proof.Machine.execReadEvent params s
  | .answerTransfer shifted => Sys2Proof.Machine.execAnswerTransfer shifted s
  | .incompleteTransfer sent => Sys2Proof.Machine.execIncompleteTransfer sent s
  | .unknownCommandCode code params => Sys2Proof.Machine.execUnknownCommandCode code params s
  | .claim sender refresh subcarrier channel language => Sys2Proof.Machine.execClaim sender refresh subcarrier channel language s
  | .claimRelease sender resource channel language => Sys2Proof.Machine.execClaimRelease sender resource channel language s
  | .trunkClaim sender refresh trunk channel language => Sys2Proof.Machine.execTrunkClaim sender refresh trunk channel language s
  | .relayRequest sender channel booth => Sys2Proof.Machine.execRelayRequest sender channel booth s
  | .relayAnswer sender channel outcome => Sys2Proof.Machine.execRelayAnswer sender channel outcome s
  | .relayRelease sender channel booth => Sys2Proof.Machine.execRelayRelease sender channel booth s
  | .channelNotice sender channel language state trunk pedigree => Sys2Proof.Machine.execChannelNotice sender channel language state trunk pedigree s
  | .feedOffer sender booth language channel pedigree => Sys2Proof.Machine.execFeedOffer sender booth language channel pedigree s
  | .feedAnswer sender booth channel accept => Sys2Proof.Machine.execFeedAnswer sender booth channel accept s
  | .feedStateReady sender booth channel trunk => Sys2Proof.Machine.execFeedStateReady sender booth channel trunk s
  | .feedStateLive sender booth channel pedigree => Sys2Proof.Machine.execFeedStateLive sender booth channel pedigree s
  | .feedStateSilent sender booth channel => Sys2Proof.Machine.execFeedStateSilent sender booth channel s
  | .feedStateEnd sender booth channel reason => Sys2Proof.Machine.execFeedStateEnd sender booth channel reason s
  | .returnQuery sender serial minute battery => Sys2Proof.Machine.execReturnQuery sender serial minute battery s
  | .returnAnswer sender serial outcome => Sys2Proof.Machine.execReturnAnswer sender serial outcome s
  | .presence sender edges => Sys2Proof.Machine.execPresence sender edges s
  | .duplicateStation kind epoch => Sys2Proof.Machine.execDuplicateStation kind epoch s
  | .frameForOtherStation frame => Sys2Proof.Machine.execFrameForOtherStation frame s
  | .receiveFault fault => Sys2Proof.Machine.execReceiveFault fault s
  | .frameTransmitStart => Sys2Proof.Machine.execFrameTransmitStart s
  | .lostArbitration => Sys2Proof.Machine.execLostArbitration s
  | .transmitSuccess => Sys2Proof.Machine.execTransmitSuccess s
  | .transmitFailure fault => Sys2Proof.Machine.execTransmitFailure fault s
  | .lineJoined => Sys2Proof.Machine.execLineJoined s
  | .rejoin => Sys2Proof.Machine.execRejoin s
  | .presenceTimer => Sys2Proof.Machine.execPresenceTimer s
  | .peerLost station => Sys2Proof.Machine.execPeerLost station s
  | .claimWindowExpiry channel => Sys2Proof.Machine.execClaimWindowExpiry channel s
  | .trunkWindowExpiry trunk => Sys2Proof.Machine.execTrunkWindowExpiry trunk s
  | .claimRefresh channel => Sys2Proof.Machine.execClaimRefresh channel s
  | .trunkRefresh trunk => Sys2Proof.Machine.execTrunkRefresh trunk s
  | .peerClaimExpiry station subcarrier => Sys2Proof.Machine.execPeerClaimExpiry station subcarrier s
  | .peerTrunkExpiry trunk => Sys2Proof.Machine.execPeerTrunkExpiry trunk s
  | .directoryExpiry station channel => Sys2Proof.Machine.execDirectoryExpiry station channel s
  | .noticeTimer channel => Sys2Proof.Machine.execNoticeTimer channel s
  | .relayAnswerWait booth => Sys2Proof.Machine.execRelayAnswerWait booth s
  | .feedAnswerWait context => Sys2Proof.Machine.execFeedAnswerWait context s
  | .hostAnswerWait context => Sys2Proof.Machine.execHostAnswerWait context s
  | .readyWait context => Sys2Proof.Machine.execReadyWait context s
  | .blockedWait context => Sys2Proof.Machine.execBlockedWait context s
  | .overlapTimer booth => Sys2Proof.Machine.execOverlapTimer booth s
  | .removalTimer context => Sys2Proof.Machine.execRemovalTimer context s
  | .orphanAnswerWait serial => Sys2Proof.Machine.execOrphanAnswerWait serial s
  | .wallInputChange input isOpen => Sys2Proof.Machine.execWallInputChange input isOpen s
  | .wallDebounce input => Sys2Proof.Machine.execWallDebounce input s
  | .secondTick => Sys2Proof.Machine.execSecondTick s
  | .minuteTick => Sys2Proof.Machine.execMinuteTick s
  | .deadCell slot => Sys2Proof.Machine.execDeadCell slot s
  | .chargeTimeout slot => Sys2Proof.Machine.execChargeTimeout slot s
  | .overdue serial => Sys2Proof.Machine.execOverdue serial s
  | .mapCycleEnd => Sys2Proof.Machine.execMapCycleEnd s
  | .retuneHoldExpiry => Sys2Proof.Machine.execRetuneHoldExpiry s
  | .maskWordSent => Sys2Proof.Machine.execMaskWordSent s
  | .panelExchangeStart => Sys2Proof.Machine.execPanelExchangeStart s
  | .deskPollReply desk keys => Sys2Proof.Machine.execDeskPollReply desk keys s
  | .slotPollReply slot occupied latchOpen => Sys2Proof.Machine.execSlotPollReply slot occupied latchOpen s
  | .identifyReply slot receiver => Sys2Proof.Machine.execIdentifyReply slot receiver s
  | .presetAnswered slot => Sys2Proof.Machine.execPresetAnswered slot s
  | .latchAnswered slot => Sys2Proof.Machine.execLatchAnswered slot s
  | .clearMarkAnswered slot => Sys2Proof.Machine.execClearMarkAnswered slot s
  | .messageAnswered drop kind => Sys2Proof.Machine.execMessageAnswered drop kind s
  | .exchangeSilent drop kind => Sys2Proof.Machine.execExchangeSilent drop kind s
  | .supplyLow => Sys2Proof.Machine.execSupplyLow s
  | .supplyRiseAboveWarn checkMatches => Sys2Proof.Machine.execSupplyRiseAboveWarn checkMatches s
  | .enterRetain => Sys2Proof.Machine.execEnterRetain s
  | .resetAsserted => Sys2Proof.Machine.execResetAsserted s
  | .resetReleased checkMatches => Sys2Proof.Machine.execResetReleased checkMatches s
  | .mainPowerApplied aboveWarn retentionPresent => Sys2Proof.Machine.execMainPowerApplied aboveWarn retentionPresent s
  | .retentionSupplyFails => Sys2Proof.Machine.execRetentionSupplyFails s
  | .recessiveSequence => Sys2Proof.Machine.execRecessiveSequence s

end Sys2Proof.Machine
end

