-- ==== Sys2Proof/Machine/Timers.lean ====
section
/-! DEFINITION. The passing of a millisecond (section 4.4, log 2): every running timer nears its expiry, every age
grows. A timer at 0 waits there for the command that reports its expiry. -/

namespace Sys2Proof.Machine

/-- A millisecond off a running timer. -/
def down (t : Option Nat) : Option Nat := t.map fun n => n - 1

def tickChannel (c : Channel) : Channel :=
  { c with window := down c.window, refresh := down c.refresh, notice := down c.notice }

def tickTrunk : TrunkEntry → TrunkEntry
  | .peer q age => .peer q (age + 1)
  | .own ph cf u w r => .own ph cf u (down w) (down r)

def tickWall (w : Wall) : Wall := { w with debounce := down w.debounce }

def tickBooth (b : Booth) : Booth := { b with answerWait := down b.answerWait, overlap := down b.overlap }

def tickFeed (f : Feed) : Feed :=
  { f with answerWait := down f.answerWait, readyWait := down f.readyWait, blockedWait := down f.blockedWait }

def tickIssue (i : Issue) : Issue := { i with removal := down i.removal }

/-- Every timer and age, a millisecond on (R8, R10, R15, R18 to R21, R36, R55, R62, R69, R71, R119, R129, R171,
R172). -/
def passMillisecond (s : State) : State :=
  { s with
    planner :=
      { s.planner with
        channels := Tab.mapAll s.planner.channels tickChannel
        peerClaims := s.planner.peerClaims.map fun e => { e with age := e.age + 1 }
        trunks := Tab.mapAll s.planner.trunks tickTrunk
        walls := Tab.mapAll s.planner.walls tickWall }
    booth.booths := Tab.mapAll s.booth.booths tickBooth
    relay.directory := s.relay.directory.map fun e => { e with age := e.age + 1 }
    feed.contexts := Tab.mapAll s.feed.contexts tickFeed
    line :=
      { s.line with
        presence := down s.line.presence
        peers := Tab.mapAll s.line.peers fun p => { p with age := p.age + 1 } }
    dock.issues := Tab.mapAll s.dock.issues tickIssue
    ledger.orphans := s.ledger.orphans.map fun o => { o with answerWait := down o.answerWait } }

/-- What a step does when no command waits (log 2): a millisecond passes, except in RETAIN and while RESET is held,
where only the clock and the retained memory run (R187, R188). -/
def idle (s : State) : State :=
  if s.clock.station = .retain || s.clock.resetHeld then s else passMillisecond s

end Sys2Proof.Machine
end

