-- ==== Sys2Proof/Machine/Wire.lean ====
section
/-! DEFINITION. What comes in on the pins, read as commands (section 10.7): the bytes of a port transfer, the words of a
panel reply, the bits of a Centre Line frame. A step takes commands; these functions say which command the wire
spells. -/

namespace Sys2Proof.Machine

/-! ### Transfers of the command port (R178, R179, section 10.7.1) -/

/-- The host's command of a code from 1 to 23, with its parameter bytes (section 10.7.1). -/
def hostCommand (code : Nat) (p : List Byte) : Option Instr :=
  match code with
  | 1 => some (.configure p) | 2 => some (.start p) | 3 => some (.setClock p) | 4 => some (.setHallState p)
  | 5 => some (.setFloorLanguage p) | 6 => some (.openChannel p) | 7 => some (.closeChannel p)
  | 8 => some (.assignOutput p) | 9 => some (.selectRelay p) | 10 => some (.offerFeed p)
  | 11 => some (.answerFeed p) | 12 => some (.endFeed p) | 13 => some (.issue p) | 14 => some (.cancelIssue p)
  | 15 => some (.declareLost p) | 16 => some (.readHire p) | 17 => some (.readAccount p)
  | 18 => some (.readSettlement p) | 19 => some (.readChannel p) | 20 => some (.readBooth p)
  | 21 => some (.readPeer p) | 22 => some (.readStatus p) | 23 => some (.readEvent p)
  | _ => none

/-- A complete block: the command its code names, or none of that code (R179). -/
def blockCommand (code : Byte) (p : List Byte) : Instr := (hostCommand code.toNat p).getD (.unknownCommandCode code p)

/-- The command of a transfer, from the bytes the host sends between asserting and releasing select (R178): a first
byte of 0 is an answer transfer that shifts out an answer byte for each byte after it; any other is the code of a
block, complete when its two-byte length is followed by as many parameter bytes (log 47 for bytes beyond them). A
transfer without a whole byte is none. -/
def transferCommand : List Byte → Option Instr
  | [] => none
  | first :: rest =>
    if first = 0 then some (.answerTransfer rest.length)
    else
      match rest with
      | hi :: lo :: params =>
        let length := hi.toNat * 256 + lo.toNat
        if length ≤ params.length then some (blockCommand first (params.take length))
        else some (.incompleteTransfer (first :: rest))
      | _ => some (.incompleteTransfer (first :: rest))

/-- The bytes of a block (section 10.7.1): code, length, parameters. -/
def blockBytes (code : Byte) (p : List Byte) : List Byte := code :: be 2 p.length ++ p

/-! ### Replies on the panel bus (R103, R104, section 10.7.4) -/

/-- The data of a reply's words; none where a word has its address flag set. -/
def replyData (reply : List PanelWord) : Option (List Nat) :=
  if reply.any PanelWord.address then none else some (reply.map fun w => w.data.toNat)

/-- The selection in a RELAY key's words: kind in bits 7 and 6, channel in bits 4 to 0, station (section 10.7.4). -/
def keySelection (word station : Nat) : Option Selection :=
  match word / 64 with
  | 0 => some .floor
  | 1 => some (.own (word % 32))
  | 2 => some (.remote station (word % 32))
  | _ => none

/-- A key event from its three words; kinds other than RELAY carry 0 in the last two. -/
def keyOf (key word station : Nat) : Option Key :=
  match key, word, station with
  | 1, 0, 0 => some .take
  | 2, 0, 0 => some .release
  | 3, 0, 0 => some .coughOn
  | 4, 0, 0 => some .coughOff
  | 5, 0, 0 => some .outputA
  | 6, 0, 0 => some .outputB
  | 7, w, q => (keySelection w q).map .relay
  | _, _, _ => none

/-- So many key events, with nothing after them. -/
def keysOf : Nat → List Nat → Option (List Key)
  | 0, [] => some []
  | n + 1, a :: b :: c :: rest =>
    match keyOf a b c, keysOf n rest with
    | some k, some ks => some (k :: ks)
    | _, _ => none
  | _, _ => none

/-- A desk's reply to a POLL: a count from 0 to 4, then its key events. -/
def deskKeys : List Nat → Option (List Key)
  | n :: rest => if n ≤ 4 then keysOf n rest else none
  | [] => none

/-- A slot's reply to IDENTIFY: empty, or a receiver with serial, battery, mark station and tag. -/
def identified : List Nat → Option (Option Receiver)
  | [0] => some none
  | [1, a, b, c, battery, q, t, u] =>
    (readTag (bits 8 t ++ bits 8 u)).map fun x =>
      some { serial := (a * 256 + b) * 256 + c, battery, markStation := q, markTag := x.1 }
  | _ => none

/-- The command of an answered exchange with a drop: its reply's form fits the message (R103). -/
def answeredCommand (drop : Nat) (kind : MsgKind) (data : List Nat) : Option Instr :=
  let slot := drop - 31
  let done := fun c : Instr => if data = [1] then some c else none
  match kind with
  | .poll =>
    if drop = 0 then done (.messageAnswered drop .poll)
    else if drop ≤ 24 then (deskKeys data).map (.deskPollReply drop)
    else
      match data with
      | [w] => some (.slotPollReply slot (w % 2 = 1) (w / 2 % 2 = 1))
      | _ => none
  | .identify => (identified data).map (.identifyReply slot)
  | .preset => done (.presetAnswered slot)
  | .latch => done (.latchAnswered slot)
  | .clearMark => done (.clearMarkAnswered slot)
  | .gate | .lamps | .route => done (.messageAnswered drop kind)

/-- The command an exchange with a drop ends in, from the words of its reply (R103): no reply, one cut short, one whose
form does not fit and one of result fail are silent. -/
def replyCommand (drop : Nat) (kind : MsgKind) (reply : List PanelWord) : Instr :=
  ((replyData reply).bind (answeredCommand drop kind)).getD (.exchangeSilent drop kind)

/-! ### Frames of the Centre Line (R159, R162, R175, R176) -/

/-- The command of a delivered payload. -/
def payloadCommand (f : Sender) : Payload → Instr
  | .feedOffer b l c p => .feedOffer f b l c p
  | .feedAnswer b c a => .feedAnswer f b c a
  | .feedState b c (.ready t) => .feedStateReady f b c t
  | .feedState b c (.live p) => .feedStateLive f b c p
  | .feedState b c .silent => .feedStateSilent f b c
  | .feedState b c (.ended r) => .feedStateEnd f b c r
  | .claim r .release c l => .claimRelease f r c l
  | .claim (.subcarrier sc) a c l => .claim f (a = .refresh) sc c l
  | .claim (.trunk t) a c l => .trunkClaim f (a = .refresh) t c l
  | .relayRequest c b => .relayRequest f c b
  | .relayAnswer c o => .relayAnswer f c o
  | .relayRelease c b => .relayRelease f c b
  | .returnQuery serial m b => .returnQuery f serial m b
  | .returnAnswer serial o => .returnAnswer f serial o
  | .channelNotice c l st t p => .channelNotice f c l st t p
  | .presence e => .presence f e

/-- The command of a correctly received frame at station self (R175, R176). -/
def frameCommand (self : Nat) (f : LineFrame) : Instr :=
  if f.source = self then .duplicateStation f.kind f.epoch
  else
    match takenBy self f with
    | some p => payloadCommand f.sender p
    | none => .frameForOtherStation f

/-- The command of what a station receives, from the bits on the line from the start bit on. -/
def heardCommand (self : Nat) (l : Bits) : Instr :=
  match readFrame l with
  | .frame f => frameCommand self f
  | .fault fault => .receiveFault fault

end Sys2Proof.Machine
end

