-- ==== Sys2Proof/Safety.lean ====
section
/-! DEFINITION. The vocabulary of statements about the machine: frames, the laws of the device it keeps, and the
conditions under which a command of each kind is taken. -/

namespace Sys2Proof.Machine

/-! ### Frames

State.blank w s is s with the parts that w names blanked out; SameBut w s t says that t is s but for those parts.
Waiting commands, clock and port are in no w: a statement gives their values itself. -/

/-- Names of parts of the state. -/
structure Parts where
  /-- the event queue and overrun count -/
  events : Bool := false
  /-- notice timers and announced states of channels -/
  notices : Bool := false
  /-- of open channels, all but which are open and their language, account, opening minute and live seconds -/
  channels : Bool := false
  /-- the whole channel table -/
  openings : Bool := false
  /-- hall state and floor tag -/
  hall : Bool := false
  /-- the merged zone -/
  zone : Bool := false
  /-- the peer claim table -/
  claims : Bool := false
  /-- the trunk table -/
  trunks : Bool := false
  /-- the wall inputs -/
  walls : Bool := false
  /-- the whole table of booth records -/
  outputs : Bool := false
  /-- of booth records, all but desks, outputs, mode and overlap length -/
  booths : Bool := false
  /-- gates and lamps of desks -/
  deskShow : Bool := false
  /-- of desk records, all but their booths -/
  desks : Bool := false
  /-- the remote channel directory -/
  directory : Bool := false
  /-- the exported-trunk records -/
  exported : Bool := false
  /-- of feed contexts, all but which are in use and their side, key and language -/
  feeds : Bool := false
  /-- the whole table of feed contexts -/
  contexts : Bool := false
  /-- back map, mask and the mask word being sent -/
  mapBack : Bool := false
  /-- front map, hold count, radiator and the word the driver has -/
  mapFront : Bool := false
  /-- the transmit queue -/
  lineQueue : Bool := false
  /-- line state, scores, sequence count and what is driven -/
  lineState : Bool := false
  /-- the presence timer -/
  presence : Bool := false
  /-- the own epoch -/
  epoch : Bool := false
  /-- the peer table -/
  peers : Bool := false
  /-- outbound queue and deferred list -/
  outbound : Bool := false
  /-- the route table -/
  routes : Bool := false
  /-- exchange, line, round counter, rotation point and polls -/
  panelLine : Bool := false
  /-- the drop table -/
  drops : Bool := false
  /-- the slot records -/
  slots : Bool := false
  /-- the ready queue -/
  ready : Bool := false
  /-- the issue contexts -/
  issues : Bool := false
  /-- the hire table -/
  hires : Bool := false
  /-- the lost list -/
  lost : Bool := false
  /-- the orphan list -/
  orphans : Bool := false
  /-- accounts, log, settlement number and closing queue -/
  account : Bool := false
  deriving DecidableEq, Repr

/-- An open channel without its notice timer and announced state. -/
abbrev Channel.core (ch : Channel) : Channel := { ch with announced := .closed, notice := none }

/-- What an opening fixes of a channel, and its live seconds. -/
abbrev Channel.plan (ch : Channel) : Channel :=
  { state := .claiming, language := ch.language, subcarrier := none, confirmed := false, account := ch.account
    holder := .none, liveSeconds := ch.liveSeconds, opening := ch.opening, pedigree := [], everOnAir := false
    window := none, refresh := none, firstBooth := 0, everHeld := false, notice := none, announced := .closed }

/-- What configuration and assignment fix of a booth. -/
abbrev Booth.plan (bo : Booth) : Booth :=
  { desks := bo.desks, outputA := bo.outputA, outputB := bo.outputB, feed := none, selected := .a, input := .floor
    relay := .none, sourceTrunk := none, answerWait := none, mode := bo.mode, overlapMs := bo.overlapMs
    holding := none, partner := none, overlap := none }

/-- A desk without what it shows. -/
abbrev Desk.core (r : Desk) : Desk := { r with gate := false, lamps := ⟨.dark, .dark, .dark, .dark, .dark, .dark⟩ }

/-- A desk's booth alone. -/
abbrev Desk.plan (r : Desk) : Desk :=
  { booth := r.booth, state := .off, cough := false, lamps := ⟨.dark, .dark, .dark, .dark, .dark, .dark⟩, gate := false }

/-- What an offer fixes of a feed context. -/
abbrev Feed.plan (f : Feed) : Feed :=
  { side := f.side, state := .offered, partner := f.partner, booth := f.booth, target := f.target
    language := f.language, trunk := none, pedigree := [], boothHeld := false, senderLive := false, answerWait := none
    readyWait := none, blockedWait := none }

/-- A state with the named parts blanked out. -/
def State.blank (w : Parts) (s : State) : State :=
  { s with
    events := if w.events then State.reset.events else s.events
    planner :=
      { hall := if w.hall then .dark else s.planner.hall
        floorTag := if w.hall then ⟨0, 0, 0⟩ else s.planner.floorTag
        channels :=
          if w.openings then []
          else if w.channels then Tab.mapAll s.planner.channels Channel.plan
          else if w.notices then Tab.mapAll s.planner.channels Channel.core
          else s.planner.channels
        zone := if w.zone then [] else s.planner.zone
        peerClaims := if w.claims then [] else s.planner.peerClaims
        trunks := if w.trunks then [] else s.planner.trunks
        walls := if w.walls then [] else s.planner.walls }
    booth :=
      { booths :=
          if w.outputs then []
          else if w.booths then Tab.mapAll s.booth.booths Booth.plan
          else s.booth.booths
        desks :=
          if w.desks then Tab.mapAll s.booth.desks Desk.plan
          else if w.deskShow then Tab.mapAll s.booth.desks Desk.core
          else s.booth.desks }
    relay :=
      { directory := if w.directory then [] else s.relay.directory
        exported := if w.exported then [] else s.relay.exported }
    feed :=
      { contexts :=
          if w.contexts then []
          else if w.feeds then Tab.mapAll s.feed.contexts Feed.plan
          else s.feed.contexts }
    map :=
      { front := if w.mapFront then ⟨0, 0, []⟩ else s.map.front
        holdCount := if w.mapFront then 0 else s.map.holdCount
        radiator := if w.mapFront then false else s.map.radiator
        driver := if w.mapFront then none else s.map.driver
        back := if w.mapBack then ⟨0, 0, []⟩ else s.map.back
        mask := if w.mapBack then [] else s.map.mask
        sending := if w.mapBack then none else s.map.sending }
    line :=
      { state := if w.lineState then .detached else s.line.state
        queue := if w.lineQueue then [] else s.line.queue
        txScore := if w.lineState then 0 else s.line.txScore
        rxScore := if w.lineState then 0 else s.line.rxScore
        epoch := if w.epoch then 0 else s.line.epoch
        sequences := if w.lineState then 0 else s.line.sequences
        presence := if w.presence then none else s.line.presence
        peers := if w.peers then [] else s.line.peers
        drive := if w.lineState then .nothing else s.line.drive }
    panel :=
      { outbound := if w.outbound then [] else s.panel.outbound
        deferred := if w.outbound then [] else s.panel.deferred
        drops := if w.drops then [] else s.panel.drops
        routes := if w.routes then [] else s.panel.routes
        exchange := if w.panelLine then none else s.panel.exchange
        out := if w.panelLine then .nothing else s.panel.out
        round := if w.panelLine then 0 else s.panel.round
        rotation := if w.panelLine then 0 else s.panel.rotation
        polls := if w.panelLine then none else s.panel.polls }
    dock :=
      { slots := if w.slots then [] else s.dock.slots
        ready := if w.ready then [] else s.dock.ready
        issues := if w.issues then [] else s.dock.issues
        warmMinute := s.dock.warmMinute }
    ledger :=
      { hires := if w.hires then [] else s.ledger.hires
        lost := if w.lost then [] else s.ledger.lost
        orphans := if w.orphans then [] else s.ledger.orphans }
    account := if w.account then State.reset.account else s.account }

/-- t is s but for the named parts. -/
def SameBut (w : Parts) (s t : State) : Prop := t.blank w = s.blank w

/-- What every settled step may write besides its own effect: what follows other state in the same event. -/
def Parts.settled : Parts :=
  { events := true, notices := true, deskShow := true, mapBack := true, lineQueue := true, outbound := true
    routes := true }

/-- What the hearing of a frame may write besides the frame's own effect. -/
def Parts.heard : Parts := { Parts.settled with lineState := true, peers := true }

/-! ### The laws of the device that every step keeps -/

/-- The back map is the one the channel table and hall state give (R91). -/
def State.mapFollows (s : State) : Prop := s.map.back = s.mapNow

/-- The emission mask is the set of subcarriers of own ON AIR channels (R95). -/
def State.maskFollows (s : State) : Prop := s.map.mask = s.onAirSubcarriers

/-- The radiator is on when the hall is in RECESS or SESSION, and only then (R97). -/
def State.radiatorFollows (s : State) : Prop := s.map.radiator = decide (s.planner.hall ≠ .dark)

/-- The hall is DARK while the blocks do not run (R1, R14, R187). -/
def State.restsDark (s : State) : Prop := s.running = false → s.planner.hall = .dark

/-- The four laws together. -/
def State.lawful (s : State) : Prop := s.mapFollows ∧ s.maskFollows ∧ s.radiatorFollows ∧ s.restsDark

/-! ### The command port -/

/-- The port takes a block: it answers, and no unread answer waits (R178). -/
def State.portFree (s : State) : Prop := s.portDriven = true ∧ s.port.answer = none

/-- The port after a block that is answered DONE with data (R178): the status byte went out. -/
def State.donePort (s : State) (data : List Byte) : PortBlock := ⟨some ⟨.done, data⟩, [s.statusByte]⟩

/-- A block that changes nothing but the port: its answer and the status byte that went out. -/
def State.answers (s : State) (r : Result) (data : List Byte) : State :=
  { s with port := ⟨some ⟨r, data⟩, [s.statusByte]⟩ }

/-- A host command's block: its parameter length, the station states it is taken in, and its parameters. -/
structure HostBlock where
  length : Nat
  states : List StationState
  params : List Byte

/-- The block of a host command (section 10.2, section 10.7.1). -/
def hostBlock : Instr → Option HostBlock
  | .configure p => some ⟨248, [.unconfigured], p⟩
  | .start p => some ⟨0, [.configured], p⟩
  | .setClock p => some ⟨4, [.configured, .running], p⟩
  | .setHallState p => some ⟨1, [.running], p⟩
  | .setFloorLanguage p => some ⟨3, [.configured, .running], p⟩
  | .openChannel p => some ⟨5, [.running], p⟩
  | .closeChannel p => some ⟨1, [.running], p⟩
  | .assignOutput p => some ⟨3, [.configured, .running], p⟩
  | .selectRelay p => some ⟨4, [.running], p⟩
  | .offerFeed p => some ⟨3, [.running], p⟩
  | .answerFeed p => some ⟨2, [.running], p⟩
  | .endFeed p => some ⟨1, [.running], p⟩
  | .issue p => some ⟨8, [.running], p⟩
  | .cancelIssue p => some ⟨1, [.running], p⟩
  | .declareLost p => some ⟨3, [.running], p⟩
  | .readHire p => some ⟨4, [.configured, .running], p⟩
  | .readAccount p => some ⟨1, [.configured, .running], p⟩
  | .readSettlement p => some ⟨0, [.configured, .running], p⟩
  | .readChannel p => some ⟨1, [.configured, .running], p⟩
  | .readBooth p => some ⟨1, [.configured, .running], p⟩
  | .readPeer p => some ⟨1, [.configured, .running], p⟩
  | .readStatus p => some ⟨1, [.unconfigured, .configured, .running], p⟩
  | .readEvent p => some ⟨0, [.unconfigured, .configured, .running], p⟩
  | _ => none

/-! ### The Centre Line -/

/-- A frame from f is delivered and leaves this station on the line: the blocks run, the line sends and receives, the
transmit score is below OFF-LINE's, and the sender is a peer already known under the frame's epoch (R161, R172). -/
def State.hears (s : State) (f : Sender) : Prop :=
  s.running = true ∧ s.line.state.live = true ∧ s.line.txScore < 200 ∧ stationOk f.station = true
    ∧ f.station ≠ s.self ∧ ∃ p, Tab.get s.line.peers f.station = some p ∧ p.epoch = f.epoch

/-- The peer entry of a station is fresh: known under the epoch, heard just now (R172). -/
def State.freshPeer (s : State) (f : Sender) : Prop :=
  ∃ p, Tab.get s.line.peers f.station = some p ∧ p.epoch = f.epoch ∧ p.age = 0

/-! ### What a step sets going -/

/-- A step from s to t queues an event, or loses it to a full queue (R181). -/
def State.tells (s t : State) (k : EventKind) (fields : List Nat) : Prop :=
  (⟨k, s.clock.minute, s.clock.second, fields⟩ : Event) ∈ t.events.queue.drop s.events.queue.length
    ∨ 64 ≤ t.events.queue.length ∧ 0 < t.events.overrun

/-- A step from s to t leaves a frame in the transmit queue, or reports that a full queue lost one of its kind and
destination (R164, R169, R170). -/
def State.sends (s t : State) (dest : Nat) (p : Payload) : Prop :=
  s.line.state ≠ .detached →
    (⟨dest, p, none, 0⟩ : TxFrame) ∈ t.line.queue ∨ ∃ refused, s.tells t .lineCongestion [p.code, dest, refused]

/-- A step from s to t leaves a message for an ONLINE drop in the outbound queue, or its target deferred (R106,
R107). -/
def State.orders (s t : State) (b : Body) : Prop :=
  s.dropOnline b.drop = true → (∃ m ∈ t.panel.outbound, m.body = b) ∨ b.target ∈ t.panel.deferred

/-- Booth b speaks into nothing: it holds no channel, and no feed replaces its output A (R53). -/
def State.boothMute (s : State) (b : Nat) : Prop :=
  (∀ e ∈ s.planner.channels, e.2.heldByOne [b] = false) ∧ s.feedsOf [b] = []

/-- Booth b's relay is dropped (R60): its input is the floor and its status LOST. -/
def State.relayDropped (t : State) (b : Nat) : Prop :=
  ∃ bo, t.boothRec b = some bo ∧ bo.input = .floor ∧ bo.relay = .lost ∧ bo.sourceTrunk = none ∧ bo.answerWait = none

end Sys2Proof.Machine
end

