-- ==== Sys2Proof/Certificates/Slice0/Obligations.lean ====
section
/-! DEFINITION. What is claimed of the machine, for the provers: each statement follows the rules of spec/ its
docstring names. A statement about a taken command or a heard event has the next state as its conclusion; the frame
(SameBut) says which parts that state may differ in. -/

open Sys2Proof Sys2Proof.Machine

/-! ### The machine -/

/-- A step takes the command at the front of the queue and runs it on the rest. The model's choices it rests on: log
32. -/
def Obligations.StepRunsFrontCommand : Prop :=
  ∀ (c : Instr) (rest : List Instr) (s : State),
    step { s with pending := c :: rest } = exec c { s with pending := rest }

/-- The model's choice (log 2): with no command waiting a step is a millisecond, in which every running timer nears its
expiry and every age grows, and nothing else moves; in RETAIN and while RESET is held nothing moves (R187, R188). -/
def Obligations.EmptyQueuePassesMillisecond : Prop :=
  ∀ s : State, s.pending = [] →
    ((s.clock.station = .retain ∨ s.clock.resetHeld = true) → step s = .next s) ∧
    (s.clock.station ≠ .retain → s.clock.resetHeld = false →
      ∃ t, step s = .next t
        ∧ t.planner = { s.planner with
            channels := Tab.mapAll s.planner.channels fun ch =>
              { ch with window := down ch.window, refresh := down ch.refresh, notice := down ch.notice }
            peerClaims := s.planner.peerClaims.map fun e => { e with age := e.age + 1 }
            trunks := Tab.mapAll s.planner.trunks fun e =>
              match e with
              | .peer q age => .peer q (age + 1)
              | .own ph cf u w r => .own ph cf u (down w) (down r)
            walls := Tab.mapAll s.planner.walls fun w => { w with debounce := down w.debounce } }
        ∧ t.booth = { s.booth with
            booths := Tab.mapAll s.booth.booths fun bo =>
              { bo with answerWait := down bo.answerWait, overlap := down bo.overlap } }
        ∧ t.relay = { s.relay with directory := s.relay.directory.map fun e => { e with age := e.age + 1 } }
        ∧ t.feed.contexts = Tab.mapAll s.feed.contexts (fun f => { f with
            answerWait := down f.answerWait, readyWait := down f.readyWait, blockedWait := down f.blockedWait })
        ∧ t.line = { s.line with
            presence := down s.line.presence
            peers := Tab.mapAll s.line.peers fun p => { p with age := p.age + 1 } }
        ∧ t.dock = { s.dock with issues := Tab.mapAll s.dock.issues fun i => { i with removal := down i.removal } }
        ∧ t.ledger = { s.ledger with
            orphans := s.ledger.orphans.map fun o => { o with answerWait := down o.answerWait } }
        ∧ t.pending = s.pending ∧ t.clock = s.clock ∧ t.port = s.port ∧ t.events = s.events ∧ t.map = s.map
        ∧ t.panel = s.panel ∧ t.account = s.account)

/-- The machine after a cold start (R189): no configuration, no record of any kind, the line DETACHED, the radiator
off, the clock, epoch and settlement number 0, no answer and no event. The model's choices it rests on: log 7. -/
def Obligations.ColdStartIsEmpty : Prop :=
  State.reset.clock.station = .unconfigured ∧ State.reset.clock.minute = 0 ∧ State.reset.clock.second = 0
    ∧ State.reset.clock.runMark = false ∧ State.reset.clock.retainedValid = false
    ∧ State.reset.clock.config = none ∧ State.reset.line.epoch = 0 ∧ State.reset.account.nextNumber = 0
    ∧ State.reset.line.state = .detached ∧ State.reset.map.radiator = false
    ∧ State.reset.port.answer = none ∧ State.reset.events = ⟨[], 0⟩
    ∧ State.reset.planner.channels = [] ∧ State.reset.planner.hall = .dark ∧ State.reset.planner.peerClaims = []
    ∧ State.reset.planner.trunks = [] ∧ State.reset.booth = ⟨[], []⟩ ∧ State.reset.relay = ⟨[], []⟩
    ∧ State.reset.feed = ⟨[]⟩ ∧ State.reset.map.mask = [] ∧ State.reset.line.queue = [] ∧ State.reset.line.peers = []
    ∧ State.reset.panel.drops = [] ∧ State.reset.panel.routes = [] ∧ State.reset.dock.slots = []
    ∧ State.reset.ledger = ⟨[], [], []⟩ ∧ State.reset.account.accounts = [] ∧ State.reset.account.log = []
    ∧ State.reset.account.closing = [] ∧ State.reset.pending = []

/-- The laws of the device hold after a cold start. -/
def Obligations.LawsHoldAtReset : Prop := State.reset.lawful

/-- Every step keeps the laws of the device: the back map and the emission mask follow the channel table (R91, R95),
the radiator follows the hall state (R97), and the hall rests in DARK while the blocks do not run. The model's
choices it rests on: log 9. -/
def Obligations.LawsKeptByEveryStep : Prop :=
  ∀ s t : State, s.lawful → step s = .next t → t.lawful

/-- Live seconds of an open channel rise only at second ticks at which the hall is in SESSION and the channel is
held and ON AIR (R150). The model's choices it rests on: log 3. -/
def Obligations.LiveSecondsRiseOnlyAtSecondTicks : Prop :=
  ∀ (i : Instr) (s t : State) (c : Nat) (ch ch' : Channel),
    exec i s = .next t → s.channel c = some ch → t.channel c = some ch' → ch.liveSeconds < ch'.liveSeconds →
    i = .secondTick ∧ s.running = true ∧ s.planner.hall = .session ∧ s.channelHeld c ch = true ∧ ch.state = .onAir

/-! ### The command port -/

/-- A host block that is not taken (R178, R179, R188): with an unread answer it is discarded (BUSY shows in the
status byte alone); a wrong length gives RANGE; then a station state it is not taken in gives STATE. In RETAIN every
transfer reads a status byte of 0 and is lost; while RESET is held nothing runs. Nothing but the port changes. The
model's choices it rests on: logs 1, 21. -/
def Obligations.RefusedTransfersChangeOnlyThePort : Prop :=
  ∀ (i : Instr) (s : State),
    (∀ h : HostBlock, hostBlock i = some h → s.portDriven = true →
      (s.port.answer.isSome = true → exec i s = .next { s with port.shifted := [s.statusByte] }) ∧
      (s.port.answer = none → h.params.length ≠ h.length → exec i s = .next (s.answers .range [])) ∧
      (s.port.answer = none → h.params.length = h.length → s.clock.station ∉ h.states →
        exec i s = .next (s.answers .state []))) ∧
    ((hostBlock i).isSome = true ∨ (∃ n, i = .answerTransfer n) ∨ (∃ l, i = .incompleteTransfer l)
        ∨ (∃ c l, i = .unknownCommandCode c l) →
      (s.clock.resetHeld = true → exec i s = .next s) ∧
      (s.clock.resetHeld = false → s.clock.station = .retain → exec i s = .next { s with port.shifted := [0] }))

/-- The port's other transfers (R178, R179): an answer transfer shifts out the status byte and as much of the answer
as the host takes, and empties the buffer when the last byte has gone; a transfer released early does nothing; a
code above 23 is answered UNKNOWN. The model's choices it rests on: log 1. -/
def Obligations.OtherTransfers : Prop :=
  ∀ s : State, s.portDriven = true →
    (∀ (n : Nat) (a : Answer), s.port.answer = some a →
      exec (.answerTransfer n) s =
        .next { s with
          port := ⟨if a.bytes.length ≤ n then none else some a, s.statusByte :: a.bytes.take n⟩ }) ∧
    (∀ n : Nat, s.port.answer = none →
      exec (.answerTransfer n) s = .next { s with port := ⟨none, s.statusByte :: ([0, 0, 0] : List Byte).take n⟩ }) ∧
    (∀ sent : List Byte, exec (.incompleteTransfer sent) s = .next { s with port.shifted := [s.statusByte] }) ∧
    (∀ (code : Byte) (params : List Byte), s.port.answer = none →
      exec (.unknownCommandCode code params) s = .next (s.answers .unknown [])) ∧
    (∀ (code : Byte) (params : List Byte), s.port.answer.isSome = true →
      exec (.unknownCommandCode code params) s = .next { s with port.shifted := [s.statusByte] })

/-- The port status byte and the interrupt line (R178, R181, section 10.7.1): bit 7 answer waiting, bit 6 events
waiting, which follows the line, bit 5 overrun pending, the rest 0; in RETAIN the line is released and the byte 0. -/
def Obligations.StatusByteShowsThreeFlags : Prop :=
  ∀ s : State,
    (s.clock.station ≠ .retain →
      s.statusByte.getLsbD 7 = s.port.answer.isSome
        ∧ s.statusByte.getLsbD 6 = s.interruptLine
        ∧ s.statusByte.getLsbD 5 = decide (0 < s.events.overrun)
        ∧ (∀ i, i < 5 → s.statusByte.getLsbD i = false)
        ∧ (s.interruptLine = true ↔ s.events.queue ≠ [])) ∧
    (s.clock.station = .retain → s.interruptLine = false ∧ s.statusByte = 0)

/-- The event queue and READ EVENT (R181): an event joins 63 or fewer others with the minute and second of its
queuing; one that finds 64 is dropped and raises the overrun count, which saturates at 65,535. The oldest event is
answered and leaves with the number left; an overrun count above 0 goes into the freed place as an OVERRUN event,
and returns to 0. An empty queue answers EMPTY. The model's choices it rests on: logs 10, 12. -/
def Obligations.EventQueue : Prop :=
  ∀ s : State,
    (∀ (k : EventKind) (fields : List Nat),
      (s.events.queue.length < 64 →
        queueEvent k fields s =
          { s with events.queue := s.events.queue ++ [⟨k, s.clock.minute, s.clock.second, fields⟩] }) ∧
      (64 ≤ s.events.queue.length →
        queueEvent k fields s = { s with events.overrun := min (s.events.overrun + 1) 65535 })) ∧
    (s.portFree → s.events.queue = [] → exec (.readEvent []) s = .next (s.answers .empty [])) ∧
    (∀ e rest, s.portFree → s.events.queue = e :: rest → rest.length < 64 →
      let extra : List Event :=
        if 0 < s.events.overrun then [⟨.overrun, s.clock.minute, s.clock.second, [s.events.overrun]⟩] else []
      exec (.readEvent []) s = .next { s with
        events := ⟨rest ++ extra, 0⟩
        port := s.donePort (bEvent e ++ b1 (rest ++ extra).length) })

/-! ### Formats -/

/-- Every payload the Centre Line can carry reads back from its own bits, in whole bytes, at most 16 (R159, R175,
section 10.7.2). -/
def Obligations.PayloadsReadBack : Prop :=
  ∀ p : Payload, p.ok = true →
    payloadOf p.code p.bits = some p ∧ p.bits.length % 8 = 0 ∧ p.bits.length ≤ 128

/-- Bits on the Centre Line (R159): spacing bits leave no seven equal bits in a row between the start bit and the
last bit of the check; the header value orders arbitration, a lower precedence number giving a lower value, and two
stations of different numbers never send the same one. The model's choices it rests on: log 31. -/
def Obligations.SpacingAndHeader : Prop :=
  (∀ (l before after : Bits) (b : Bool), space true 0 l ≠ before ++ List.replicate 7 b ++ after) ∧
  (∀ k1 k2 q1 q2 : Nat, 1 ≤ k1 → k1 ≤ 11 → 1 ≤ k2 → k2 ≤ 11 → stationOk q1 = true → stationOk q2 = true →
    (precedenceOf k1 < precedenceOf k2 → headerValue k1 q1 < headerValue k2 q2) ∧
    (q1 ≠ q2 → headerValue k1 q1 ≠ headerValue k2 q2))

/-- PULSE LENGTH coding (R99): a bit is a mark of the one carrier and a space, of lengths from 1 to 63 with marks that
differ; a cycle begins with 64 carrier periods and a space, and no mark is as long. -/
def Obligations.PulseLengthCoding : Prop :=
  ∀ (hold : Bool) (n : Nat) (c : CarrierConfig), carrierOk hold n c = true → c.coding = .pulseLength →
    (∀ v : Bool, bitStretches c v =
      [⟨(if v then c.mark1 else c.mark0) * (c.high + c.low), some (c.high, c.low)⟩,
        ⟨c.space * (c.high + c.low), none⟩])
    ∧ (1 ≤ c.mark0 ∧ c.mark0 ≤ 63 ∧ 1 ≤ c.mark1 ∧ c.mark1 ≤ 63 ∧ 1 ≤ c.space ∧ c.space ≤ 63 ∧ c.mark0 ≠ c.mark1)
    ∧ (∀ v : Bool, runClocks c [v] = ((if v then c.mark1 else c.mark0) + c.space) * (c.high + c.low))
    ∧ (∀ m : RMap,
        cycleWave c m =
          [⟨64 * (c.high + c.low), some (c.high, c.low)⟩, ⟨c.space * (c.high + c.low), none⟩]
            ++ (mapBits m).flatMap (bitStretches c))
    ∧ (∀ v : Bool, (if v then c.mark1 else c.mark0) < 64)

/-- TWO TONE coding (R100): a bit is the bit length, from 1 to 63, in periods of its own tone, without a break between
bits; the two tones differ in period; a cycle begins with the output low for 64 periods of the 0 tone, and no such gap
occurs within a map. -/
def Obligations.TwoToneCoding : Prop :=
  ∀ (hold : Bool) (n : Nat) (c : CarrierConfig), carrierOk hold n c = true → c.coding = .twoTone →
    bitStretches c false = [⟨c.bitLength * (c.high + c.low), some (c.high, c.low)⟩]
    ∧ bitStretches c true = [⟨c.bitLength * (c.high2 + c.low2), some (c.high2, c.low2)⟩]
    ∧ (1 ≤ c.bitLength ∧ c.bitLength ≤ 63)
    ∧ (∀ v : Bool, runClocks c [v] = c.bitLength * (if v then c.high2 + c.low2 else c.high + c.low))
    ∧ c.high + c.low ≠ c.high2 + c.low2
    ∧ (∀ m : RMap,
        cycleWave c m = ⟨64 * (c.high + c.low), none⟩ :: (mapBits m).flatMap (bitStretches c)
          ∧ ∀ x ∈ (mapBits m).flatMap (bitStretches c), x.carrier ≠ none)

/-! ### Charges and accounts -/

/-- The charge of one segment (R143): billable minutes in units rounded up, times the price, under the cap where there
is one; grace is taken off the first segment alone; a free tariff charges nothing. -/
def Obligations.SegmentCharge : Prop :=
  ∀ (t : Tariff) (b s e : Nat), tariffOk t = true → b < 1440 → s < e →
    (∀ m u, m ≤ 1440 → m ≤ u * t.unit → (u = 0 ∨ (u - 1) * t.unit < m) →
      pieceCharge t m = if t.cap = 0 then u * t.price else min (u * t.price) t.cap)
    ∧ (e ≤ nextBoundary b s → timeCharge b t s e = pieceCharge t (e - s - t.grace))
    ∧ (∀ n r, e = nextBoundary b s + 1440 * n + r → r < 1440 → 0 < 1440 * n + r →
        timeCharge b t s e =
          min (min (pieceCharge t (nextBoundary b s - s - t.grace) + min (n * pieceCharge t 1440) 99999999) 99999999
            + pieceCharge t r) 99999999)
    ∧ (s < nextBoundary b s ∧ nextBoundary b s ≤ s + 1440 ∧ nextBoundary b s % 1440 = b)
    ∧ (t.price = 0 → timeCharge b t s e = 0)
    ∧ timeCharge b t s s = 0

/-- The time charge and the days it touches (R135, R142 to R144): the hire days from s to t are 1 and the day boundaries
strictly between; with a cap the charge never exceeds the cap for each hire day touched, and it never exceeds
99,999,999. -/
def Obligations.TimeChargeWithinCapPerDay : Prop :=
  (∀ b s t : Nat, b < 1440 →
    daysTouched b s t = 1 + ((List.range t).filter fun m => s < m && m % 1440 = b).length) ∧
  (∀ (t : Tariff) (b s e : Nat), tariffOk t = true → b < 1440 → s ≤ e →
    (t.cap ≠ 0 → timeCharge b t s e ≤ t.cap * daysTouched b s e) ∧ timeCharge b t s e ≤ 99999999)

/-- A closing is settled against its deposit (R145, R146): applied is the lesser of charge and deposit, refund and due
are what is left of either, never both; a RETURN has no loss fee, a LOSS has its tariff's; these are the figures of the
closing outcome and of the CLOSED answer. The account's refunds and balance due rise by them at the closing, and its
deposits held fall by the deposit when the record leaves the table with it (R148). -/
def Obligations.ClosingSettledAgainstDeposit : Prop :=
  ∀ (s : State) (h : Hire) (kind : HireKind) (asked : Nat) (at_ : Option Nat),
    let f := (s.closingOf h kind asked at_).figures
    let fee := if kind = .loss then (s.tariff h.tariff).lossFee else 0
    let charge := min (f.timeCharge + fee) 99999999
    f.timeCharge = timeCharge s.cfg.dayBoundary (s.tariff h.tariff) h.start (clampEnd h.start asked s.clock.minute)
    ∧ f.lossFee = fee ∧ f.deposit = h.deposit
    ∧ f.applied = min charge h.deposit
    ∧ f.refund = h.deposit - f.applied ∧ f.due = charge - f.applied
    ∧ (f.refund = 0 ∨ f.due = 0)
    ∧ (s.closingOf h kind asked at_).endMinute = clampEnd h.start asked s.clock.minute
    ∧ (s.closingOf h kind asked at_).answer
        = .closed kind (clampEnd h.start asked s.clock.minute) f.timeCharge f.lossFee f.deposit
    ∧ (∀ serial r, Tab.get s.ledger.hires serial = some h → h.closing = none →
        Tab.get s.account.accounts h.account = some r →
        ∃ r', Tab.get (closeHire serial kind asked at_ s).account.accounts h.account = some r'
          ∧ r'.refunds = min (r.refunds + f.refund) 99999999
          ∧ r'.balanceDue = min (r.balanceDue + f.due) 99999999
          ∧ r'.depositsHeld = (if s.logOpen then r.depositsHeld - h.deposit else r.depositsHeld)
          ∧ r'.channelMinutes = r.channelMinutes ∧ r'.channelRevenue = r.channelRevenue ∧ r'.rate = r.rate)

/-- Booking an amount to a saturating field of an account (R149): the field stops at 99,999,999; the first
saturation of the account sets its flag and queues ACCOUNT SATURATED, and later ones queue nothing. The model's
choices it rests on: log 12. -/
def Obligations.AccountFieldsSaturate : Prop :=
  ∀ (a : Nat) (f : Total) (n : Nat) (s : State) (r : Account), Tab.get s.account.accounts a = some r →
    ∃ r', Tab.get (book a f n s).account.accounts a = some r'
      ∧ f.get r' = min (f.get r + n) 99999999
      ∧ (∀ g : Total, g ≠ f → g.get r' = g.get r)
      ∧ r'.depositsHeld = r.depositsHeld ∧ r'.rate = r.rate
      ∧ r'.saturated = (r.saturated || decide (99999999 < f.get r + n))
      ∧ (r.saturated = false → 99999999 < f.get r + n →
          (book a f n s).events = (queueEvent .accountSaturated [a, f.code] s).events)
      ∧ (r.saturated = true ∨ f.get r + n ≤ 99999999 → (book a f n s).events = s.events)
      ∧ (∀ j, j ≠ a → Tab.get (book a f n s).account.accounts j = Tab.get s.account.accounts j)
      ∧ SameBut { events := true, account := true } s (book a f n s)
      ∧ (book a f n s).account.log = s.account.log ∧ (book a f n s).account.closing = s.account.closing

/-! ### The host's commands -/

/-- CONFIGURE (R183): a block in range is written to memory, the records are made from it and the station is
CONFIGURED, with the clock as it was; a block out of range changes nothing. The model's choices it rests on: log 22. -/
def Obligations.ConfigureCreatesRecords : Prop :=
  ∀ (s : State) (params : List Byte), s.portFree → s.clock.station = .unconfigured → params.length = 248 →
    (configureOk (numbers params) = false → exec (.configure params) s = .next (s.answers .range [])) ∧
    (configureOk (numbers params) = true →
      ∃ t, exec (.configure params) s = .next t
        ∧ t.clock = { s.clock with
            station := .configured, config := some (configOf (numbers params)), runMark := false
            retainedValid := s.clock.retentionPresent }
        ∧ t.port = s.donePort []
        ∧ t.planner.hall = .dark ∧ t.planner.floorTag = (configOf (numbers params)).floorTag
        ∧ t.planner.channels = [] ∧ t.line.state = .detached
        ∧ (∀ b, t.boothRec b = (Tab.get (configOf (numbers params)).booths b).map freshBooth)
        ∧ (∀ e ∈ t.booth.desks, e.2.state = .off ∧ e.2.cough = false)
        ∧ (∀ a, Tab.get t.account.accounts a = (Tab.get (configOf (numbers params)).rates a).map freshAccount)
        ∧ (∀ k, t.slot k = if 1 ≤ k ∧ k ≤ (configOf (numbers params)).slotCount then some Slot.empty else none)
        ∧ t.feed.contexts = [] ∧ t.dock.issues = [] ∧ t.dock.ready = [] ∧ t.ledger = s.ledger
        ∧ t.events = s.events ∧ t.line.epoch = s.line.epoch ∧ t.account.log = s.account.log
        ∧ t.account.nextNumber = s.account.nextNumber ∧ t.account.closing = s.account.closing
        ∧ t.pending = s.pending)

/-- START (R184): the run mark is set, the station runs with the hall DARK, the line joins, the break goes out,
every drop is ONLINE, every slot is to be identified, every own edge is closed, and the radiator OFF word is sent.
The model's choices it rests on: logs 7, 56. -/
def Obligations.StartBegins : Prop :=
  ∀ s : State, s.portFree → s.clock.station = .configured →
    ∃ t, exec (.start []) s = .next t
      ∧ t.clock = { s.clock with station := .running, runMark := true }
      ∧ t.port = s.donePort []
      ∧ t.planner.hall = .dark ∧ t.line.state = .joining ∧ t.line.epoch = s.line.epoch ∧ t.line.peers = []
      ∧ t.panel.out = .lineBreak ∧ t.panel.round = 0 ∧ t.panel.rotation = 1
      ∧ (∀ a, Tab.get t.panel.drops a = (Tab.get s.panel.drops a).map fun d => { d with online := true, silences := 0 })
      ∧ (∀ k, t.slot k = (s.slot k).map fun _ => { Slot.empty with startUp := true })
      ∧ t.dock.ready = [] ∧ t.dock.issues = []
      ∧ (∀ w x, Tab.get t.planner.walls w = some x → x.position = false)
      ∧ t.map.sending = some ⟨false, []⟩
      ∧ (∀ b bo, s.boothRec b = some bo → t.route (inputOutput b) = .floor)
      ∧ t.ledger = s.ledger ∧ t.account = s.account ∧ t.pending = s.pending

/-- SET CLOCK (R186, R135): both counts take the named values and are answered; each OPEN hire past its horizon at
the new minute is flagged; a value out of range, and a step back while a hire is recorded, change nothing. The
model's choices it rests on: log 10. -/
def Obligations.SetClockSetsBothCounts : Prop :=
  ∀ (s : State) (params : List Byte), s.portFree → inCR s.clock.station = true → params.length = 4 →
    let minute := field (numbers params) 0 3
    let second := field (numbers params) 3 1
    (59 < second → exec (.setClock params) s = .next (s.answers .range [])) ∧
    (second ≤ 59 → minute < s.clock.minute → s.ledger.hires ≠ [] →
      exec (.setClock params) s = .next (s.answers .clockBack [])) ∧
    (second ≤ 59 → s.clock.minute ≤ minute ∨ s.ledger.hires = [] →
      ∃ t, exec (.setClock params) s = .next t
        ∧ t.clock = { s.clock with minute := minute, second := second }
        ∧ t.port = s.donePort (be 3 minute ++ b1 second)
        ∧ (∀ serial h, Tab.get s.ledger.hires serial = some h →
            Tab.get t.ledger.hires serial = some { h with
              overdue := h.overdue || (h.closing.isNone
                && (s.tariff h.tariff).horizon < daysTouched s.cfg.dayBoundary h.start minute) })
        ∧ SameBut { Parts.settled with hires := true } { s with clock := t.clock, port := t.port } t)

/-- SET HALL STATE out of DARK (R3, R8, R94, R97): channel 0 opens with the floor tag on account 0 and makes its
search, the first free subcarrier from the home subcarrier upward, claimed for 600 ms, or STARVED; the radiator
turns on, and the back map becomes the front map under the next version. The model's choices it rests on: logs 10,
11. -/
def Obligations.LeavingDarkOpensChannelZero : Prop :=
  ∀ (s : State) (b : Byte) (h : HallState), s.portFree → s.clock.station = .running → s.planner.hall = .dark →
    hallOf b.toNat = some h → h ≠ .dark →
    ∃ t ch, exec (.setHallState [b]) s = .next t
      ∧ t.planner.hall = h
      ∧ t.channel 0 = some ch
      ∧ ch.language = s.planner.floorTag ∧ ch.account = 0 ∧ ch.holder = .none ∧ ch.liveSeconds = 0
      ∧ ch.opening = s.clock.minute ∧ ch.everOnAir = false ∧ (ch.state = .claiming ∨ ch.state = .starved)
      ∧ (s.channel 0 = none →
          (∀ sc, s.freeSubcarrier = some sc →
            ch.state = .claiming ∧ ch.subcarrier = some sc ∧ ch.confirmed = false ∧ ch.window = some 600
              ∧ s.sends t 0 (.claim (.subcarrier sc) .claim 0 s.planner.floorTag))
          ∧ (s.freeSubcarrier = none →
            ch.state = .starved ∧ ch.subcarrier = none ∧ ch.window = none ∧ s.tells t .channelStarved [0]))
      ∧ t.port = s.donePort (b1 h.code ++ b1 ch.state.code)
      ∧ t.map.radiator = true ∧ t.map.front.version = (s.map.front.version + 1) % 256 ∧ t.map.holdCount = 0
      ∧ t.map.front.records = t.mapRecords ∧ t.map.front.station = s.self ∧ t.map.back = t.map.front
      ∧ SameBut
          { Parts.settled with
            hall := true, channels := true, openings := true, booths := true, feeds := true, mapFront := true }
          { s with port := t.port } t

/-- SET HALL STATE to DARK (R2, R45, R70, R94, R97): every channel closes, no booth holds and its desks are OFF,
every gate is shut, every input is the floor, every own trunk claim is released and the peers' stay, and the
radiator turns off. The model's choices it rests on: logs 8, 10, 11. -/
def Obligations.EnteringDarkClosesEveryChannel : Prop :=
  ∀ (s : State) (b : Byte), s.portFree → s.clock.station = .running → s.planner.hall ≠ .dark →
    hallOf b.toNat = some .dark →
    ∃ t, exec (.setHallState [b]) s = .next t
      ∧ t.planner.hall = .dark
      ∧ t.planner.channels = []
      ∧ t.map.mask = [] ∧ t.map.radiator = false ∧ t.map.holdCount = 0
      ∧ t.feed.contexts = []
      ∧ (∀ k bo, t.boothRec k = some bo →
          bo.holding = none ∧ bo.input = .floor ∧ bo.relay = .none ∧ bo.sourceTrunk = none ∧ bo.answerWait = none)
      ∧ (∀ k bo, s.boothRec k = some bo → bo.holding.isSome = true →
          (∃ bo', t.boothRec k = some bo' ∧ bo'.partner = none ∧ bo'.overlap = none)
          ∧ ∀ d r, d ∈ bo.desks → s.desk d = some r → r.state.holds = true →
              ∃ r', t.desk d = some r' ∧ r'.state = .off ∧ r'.cough = false)
      ∧ (∀ d r, t.desk d = some r → r.gate = false)
      ∧ (∀ k e, t.trunk k = some e → ∃ q age, e = .peer q age)
      ∧ (∀ k ph cf u w r, s.trunk k = some (.own ph cf u w r) →
          t.trunk k = none ∧ ∃ c l, s.sends t 0 (.claim (.trunk k) .release c l))
      ∧ (∀ k q age, Tab.wf s.planner.trunks = true → s.trunk k = some (.peer q age) → t.trunk k = some (.peer q age))
      ∧ t.port = s.donePort (b1 HallState.dark.code ++ b1 0)
      ∧ t.ledger = s.ledger ∧ t.dock = s.dock ∧ t.planner.peerClaims = s.planner.peerClaims
      ∧ t.planner.zone = s.planner.zone
      ∧ SameBut
          { Parts.settled with
            hall := true, channels := true, openings := true, trunks := true, booths := true, desks := true
            exported := true, feeds := true, contexts := true, mapFront := true, account := true }
          { s with port := t.port } t

/-- SET HALL STATE (R1, R3, R45, R85): the present state named again is DONE with no effect on the hall; between
RECESS and SESSION nothing opens or closes and every claim stands; a code of no hall state is refused. At SESSION to
RECESS every holding desk goes OFF, the held channels have no holder and no bus route, a LIVE sending feed is
SILENT, and a receiving feed that holds or is blocked is ROUTED; at RECESS to SESSION a ROUTED feed whose sender is
live takes its channel. The model's choices it rests on: logs 8, 10, 11. -/
def Obligations.HallStateKeepsChannels : Prop :=
  ∀ (s : State) (b : Byte), s.portFree → s.clock.station = .running →
    (hallOf b.toNat = none → exec (.setHallState [b]) s = .next (s.answers .range [])) ∧
    (hallOf b.toNat = some s.planner.hall →
      ∃ t, exec (.setHallState [b]) s = .next t
        ∧ t.planner.hall = s.planner.hall
        ∧ t.port = s.donePort (b1 s.planner.hall.code ++ b1 (s.stateCode 0))
        ∧ SameBut Parts.settled { s with port := t.port } t) ∧
    (∀ h, s.planner.hall ≠ .dark → hallOf b.toNat = some h → h ≠ .dark → h ≠ s.planner.hall →
      ∃ t, exec (.setHallState [b]) s = .next t
        ∧ t.planner.hall = h
        ∧ t.port = s.donePort (b1 h.code ++ b1 (s.stateCode 0))
        ∧ (∀ c ch, s.channel c = some ch → ∃ ch', t.channel c = some ch'
            ∧ ch'.state = ch.state ∧ ch'.subcarrier = ch.subcarrier ∧ ch'.confirmed = ch.confirmed
            ∧ ch'.language = ch.language ∧ ch'.liveSeconds = ch.liveSeconds)
        ∧ t.map.radiator = s.map.radiator ∧ t.map.front = s.map.front
        ∧ t.planner.floorTag = s.planner.floorTag
        ∧ SameBut { Parts.settled with hall := true, channels := true, booths := true, desks := true, feeds := true }
            { s with port := t.port } t) ∧
    (s.planner.hall = .session → hallOf b.toNat = some .recess → Tab.wf s.booth.booths = true →
      Tab.wf s.booth.desks = true → Tab.wf s.feed.contexts = true → Tab.wf s.planner.channels = true →
      ∃ t, exec (.setHallState [b]) s = .next t
        ∧ (∀ q bo, s.boothRec q = some bo → bo.holding.isSome = true →
            (∃ bo', t.boothRec q = some bo' ∧ bo'.holding = none ∧ bo'.partner = none ∧ bo'.overlap = none)
            ∧ (∀ d r, d ∈ bo.desks → s.desk d = some r → r.state.holds = true →
                ∃ r', t.desk d = some r' ∧ r'.state = .off ∧ r'.cough = false ∧ r'.gate = false)
            ∧ (∀ c ch, bo.target = some (.channel c) → s.channel c = some ch → ch.holder ≠ .none →
                (∃ ch', t.channel c = some ch' ∧ ch'.holder = .none) ∧ t.route (busOutput c) = .none)
            ∧ (∀ k x, bo.target = some (.feed k) → s.context k = some x → x.side = .sending → x.state = .live →
                (∃ x', t.context k = some x' ∧ x'.state = .silent ∧ x'.boothHeld = false)
                  ∧ s.sends t x.partner (.feedState x.booth x.target .silent)))
        ∧ (∀ k x, s.context k = some x → x.side = .receiving → x.state = .holding ∨ x.state = .blocked →
            (∃ x', t.context k = some x' ∧ x'.state = .routed ∧ x'.blockedWait = none ∧ x'.senderLive = x.senderLive)
            ∧ (∀ ch, x.state = .holding → s.channel x.target = some ch → ch.holder = .feed k →
                (∃ ch', t.channel x.target = some ch' ∧ ch'.holder = .none)
                  ∧ t.route (busOutput x.target) = .none))) ∧
    (s.planner.hall = .recess → hallOf b.toNat = some .session → Tab.wf s.feed.contexts = true →
      Tab.wf s.planner.channels = true →
      ∃ t, exec (.setHallState [b]) s = .next t
        ∧ ∀ k x ch, s.context k = some x → x.side = .receiving → x.state = .routed → x.senderLive = true →
            1 ≤ x.target → s.channel x.target = some ch → ch.holder = .none →
            (∀ e ∈ s.feed.contexts, e.2.side = .receiving → e.2.target = x.target → e.1 = k) →
            (∃ x', t.context k = some x' ∧ x'.state = .holding ∧ x'.blockedWait = none ∧ x'.trunk = x.trunk)
            ∧ (∃ ch', t.channel x.target = some ch' ∧ ch'.holder = .feed k)
            ∧ (∀ tr, x.trunk = some tr → t.route (busOutput x.target) = .trunk tr))

/-- SET FLOOR LANGUAGE (R6): the working floor tag becomes the tag, and the language of an open channel 0 with it; a
tag with a letter outside A to Z is refused. -/
def Obligations.SetFloorLanguage : Prop :=
  ∀ (s : State) (params : List Byte), s.portFree → inCR s.clock.station = true → params.length = 3 →
    let l := tagAt (numbers params) 0
    (l.ok = false → exec (.setFloorLanguage params) s = .next (s.answers .range [])) ∧
    (l.ok = true →
      ∃ t, exec (.setFloorLanguage params) s = .next t
        ∧ t.planner.floorTag = l ∧ t.planner.hall = s.planner.hall
        ∧ t.port = s.donePort []
        ∧ (∀ ch, s.channel 0 = some ch → ∃ ch', t.channel 0 = some ch'
            ∧ ch'.language = l ∧ ch'.state = ch.state ∧ ch'.subcarrier = ch.subcarrier)
        ∧ (∀ c ch, c ≠ 0 → s.channel c = some ch → ∃ ch', t.channel c = some ch' ∧ ch'.language = ch.language)
        ∧ SameBut { Parts.settled with hall := true, channels := true, openings := true, booths := true, feeds := true }
            { s with port := t.port } t)

/-- OPEN CHANNEL (R5, R7, R8): STATE in DARK, RANGE for a parameter out of range, channel 0 included, STATE for an
open channel or a settlement pending under another account. Otherwise the entry takes the named language and account
and makes its search: the first free subcarrier from the home subcarrier upward, claimed for 600 ms, or STARVED; the
answer carries what the search left. The model's choices it rests on: logs 10, 11, 12. -/
def Obligations.OpenChannel : Prop :=
  ∀ (s : State) (params : List Byte), s.portFree → s.clock.station = .running → params.length = 5 →
    let c := field (numbers params) 0 1
    let l := tagAt (numbers params) 1
    let account := field (numbers params) 4 1
    (s.planner.hall = .dark → exec (.openChannel params) s = .next (s.answers .state [])) ∧
    (s.planner.hall ≠ .dark → c = 0 ∨ 31 < c ∨ l.ok = false ∨ 31 < account →
      exec (.openChannel params) s = .next (s.answers .range [])) ∧
    (s.planner.hall ≠ .dark → 1 ≤ c → c ≤ 31 → l.ok = true → account ≤ 31 →
      (s.channel c).isSome = true ∨ s.pendingElsewhere c account = true →
      exec (.openChannel params) s = .next (s.answers .state [])) ∧
    (s.planner.hall ≠ .dark → 1 ≤ c → c ≤ 31 → l.ok = true → account ≤ 31 → s.channel c = none →
      s.pendingElsewhere c account = false →
      ∃ t ch, exec (.openChannel params) s = .next t
        ∧ t.channel c = some ch
        ∧ ch.language = l ∧ ch.account = account ∧ ch.holder = .none ∧ ch.liveSeconds = 0
        ∧ ch.opening = s.clock.minute ∧ ch.everOnAir = false ∧ ch.confirmed = false
        ∧ (∀ sc, s.freeSubcarrier = some sc →
            ch.state = .claiming ∧ ch.subcarrier = some sc ∧ ch.window = some 600
              ∧ s.sends t 0 (.claim (.subcarrier sc) .claim c l))
        ∧ (s.freeSubcarrier = none →
            ch.state = .starved ∧ ch.subcarrier = none ∧ ch.window = none ∧ s.tells t .channelStarved [c])
        ∧ t.port = s.donePort (b1 ch.state.code ++ bOpt 1 b1 ch.subcarrier)
        ∧ (∀ k k', k ≠ c → s.channel k = some k' → ∃ k'', t.channel k = some k''
            ∧ k''.state = k'.state ∧ k''.subcarrier = k'.subcarrier ∧ k''.language = k'.language)
        ∧ SameBut { Parts.settled with channels := true, openings := true, booths := true, feeds := true }
            { s with port := t.port } t)

/-- CLOSE CHANNEL (R13, R151, R152, R154): the entry is CLOSED; a channel that has been on air makes its settlement,
whose minutes and charge its account books; it is logged at once where the log takes it, and waits otherwise, as the
youngest item or merged into the channel's settlement that waits already. A channel never on air makes none. -/
def Obligations.CloseChannelSettles : Prop :=
  ∀ (s : State) (b : Byte) (ch : Channel), s.portFree → s.clock.station = .running → 1 ≤ b.toNat → b.toNat ≤ 31 →
    s.channel b.toNat = some ch →
    let bill := s.billOf b.toNat ch
    ∃ t, exec (.closeChannel [b]) s = .next t
      ∧ t.channel b.toNat = none
      ∧ t.port = s.donePort []
      ∧ (ch.everOnAir = false → t.account = s.account)
      ∧ (ch.everOnAir = true → s.logOpen = true →
          t.account.log = s.account.log ++ [⟨s.account.nextNumber, .channel bill⟩]
            ∧ t.account.nextNumber = (s.account.nextNumber + 1) % 65536
            ∧ t.account.closing = s.account.closing)
      ∧ (ch.everOnAir = true → s.logOpen = false →
          t.account.log = s.account.log ∧ t.account.nextNumber = s.account.nextNumber
          ∧ ((∀ x, .channel x ∈ s.account.closing → x.channel ≠ b.toNat) →
              t.account.closing = s.account.closing ++ [.channel bill])
          ∧ (∀ x, .channel x ∈ s.account.closing → x.channel = b.toNat →
              t.account.closing = s.account.closing.map fun i =>
                match i with
                | .channel old =>
                  if old.channel = b.toNat then
                    .channel { old with
                      close := s.clock.minute
                      liveSeconds := min (old.liveSeconds + ch.liveSeconds) 99999999
                      minutes := min (old.minutes + bill.minutes) 99999999
                      charge := min (old.charge + bill.charge) 99999999 }
                  else i
                | _ => i))
      ∧ (∀ r, ch.everOnAir = true → Tab.get s.account.accounts ch.account = some r →
          bill.charge = min (bill.minutes * r.rate) 99999999
          ∧ ∃ r', Tab.get t.account.accounts ch.account = some r'
            ∧ r'.channelMinutes = min (r.channelMinutes + bill.minutes) 99999999
            ∧ r'.channelRevenue = min (r.channelRevenue + bill.charge) 99999999
            ∧ r'.hireRevenue = r.hireRevenue ∧ r'.lossRevenue = r.lossRevenue ∧ r'.refunds = r.refunds
            ∧ r'.balanceDue = r.balanceDue ∧ r'.depositsHeld = r.depositsHeld ∧ r'.rate = r.rate)
      ∧ (∀ j, j ≠ ch.account → Tab.get t.account.accounts j = Tab.get s.account.accounts j)
      ∧ bill.minutes = (ch.liveSeconds + 59) / 60
      ∧ SameBut
          { Parts.settled with
            channels := true, openings := true, trunks := true, booths := true, desks := true, exported := true
            feeds := true, contexts := true, account := true }
          { s with port := t.port } t

/-- ASSIGN OUTPUT (R52, R54): the output takes the channel, or none; the booth's other output, selection, desks and
hold stay, and so do the other booths' outputs; the channel's first booth is set where there is none. The selected
output of a booth that holds is refused, and so is the channel of the other output. The model's choices it rests on:
logs 10, 11. -/
def Obligations.AssignOutput : Prop :=
  ∀ (s : State) (params : List Byte) (bo : Booth), s.portFree → inCR s.clock.station = true → params.length = 3 →
    let b := field (numbers params) 0 1
    let x := field (numbers params) 2 1
    let o : Output := if field (numbers params) 1 1 = 0 then .a else .b
    let c : Option Nat := if x = 255 then none else some x
    let other := if o = .a then bo.outputB else bo.outputA
    s.boothRec b = some bo → 1 ≤ b → b ≤ 8 → field (numbers params) 1 1 ≤ 1 → x = 255 ∨ (1 ≤ x ∧ x ≤ 31) →
    (bo.holding.isSome = true ∧ bo.selected = o ∨ c.isSome = true ∧ other = c →
      exec (.assignOutput params) s = .next (s.answers .state [])) ∧
    (¬(bo.holding.isSome = true ∧ bo.selected = o) → ¬(c.isSome = true ∧ other = c) →
      ∃ t bo', exec (.assignOutput params) s = .next t
        ∧ t.boothRec b = some bo'
        ∧ bo'.outputA = (if o = .a then c else bo.outputA) ∧ bo'.outputB = (if o = .a then bo.outputB else c)
        ∧ bo'.selected = bo.selected ∧ bo'.desks = bo.desks ∧ bo'.holding = bo.holding ∧ bo'.mode = bo.mode
        ∧ t.port = s.donePort (bOpt 1 b1 bo'.outputA ++ bOpt 1 b1 bo'.outputB ++ b1 bo'.selected.code)
        ∧ (∀ b' x', b' ≠ b → s.boothRec b' = some x' → ∃ x'', t.boothRec b' = some x''
            ∧ x''.outputA = x'.outputA ∧ x''.outputB = x'.outputB ∧ x''.holding = x'.holding)
        ∧ (∀ k ch, c = some k → s.channel k = some ch → ∃ ch', t.channel k = some ch'
            ∧ ch'.firstBooth = (if ch.firstBooth = 0 then b else ch.firstBooth))
        ∧ SameBut { Parts.settled with channels := true, outputs := true, booths := true, feeds := true }
            { s with port := t.port } t)

/-- SELECT RELAY (R56 to R58): a selection that fails a test is refused with RANGE. An accepted one leaves a remote
source with a RELAY RELEASE and takes the new one: the floor, nothing, an own channel at once, or a remote channel
WAITING 3 s for the answer to its RELAY REQUEST. Exact for a booth that speaks into nothing; for any other the
pedigrees that follow may move more. The model's choices it rests on: logs 10, 11. -/
def Obligations.SelectRelay : Prop :=
  ∀ (s : State) (params : List Byte) (bo : Booth) (src : Selection), s.portFree → s.clock.station = .running →
    params.length = 4 →
    let b := field (numbers params) 0 1
    s.boothRec b = some bo → selectionOf (numbers params) = some src →
    (s.accepts b bo src = false → exec (.selectRelay params) s = .next (s.answers .range [])) ∧
    (s.accepts b bo src = true →
      (∃ t bo', exec (.selectRelay params) s = .next t
        ∧ t.boothRec b = some bo' ∧ t.port = s.donePort (bSelection bo'.input ++ b1 bo'.relay.code)
        ∧ SameBut { Parts.settled with channels := true, booths := true, feeds := true } { s with port := t.port } t) ∧
      (s.boothMute b → ¬(src = bo.input ∧ (bo.relay = .relayed ∨ bo.relay = .waiting)) →
        ∃ t, exec (.selectRelay params) s = .next t
          ∧ t.boothRec b = some { bo with
              input := src
              relay := match src with
                | .own _ => .relayed
                | .remote _ _ => .waiting
                | _ => .none
              sourceTrunk := none
              answerWait := match src with
                | .remote _ _ => some 3000
                | _ => none }
          ∧ t.route (inputOutput b) = (match src with
              | .floor => .floor
              | .own c => .bus c
              | _ => .none)
          ∧ (∀ b', b' ≠ b → t.boothRec b' = s.boothRec b')
          ∧ (∀ o, o ≠ inputOutput b → o ≠ busOutput 0 → t.route o = s.route o)
          ∧ (∀ q c, src = .remote q c → s.sends t q (.relayRequest c b))
          ∧ (∀ q c, bo.input = .remote q c → s.sends t q (.relayRelease c b))
          ∧ SameBut { Parts.settled with booths := true } { s with port := t.port } t) ∧
      (src = bo.input → bo.relay = .relayed ∨ bo.relay = .waiting →
        ∃ t, exec (.selectRelay params) s = .next t
          ∧ t.port = s.donePort (bSelection bo.input ++ b1 bo.relay.code)
          ∧ SameBut Parts.settled { s with port := t.port } t))

/-- OFFER FEED (R73): the first free context becomes SENDING in OFFERED, with its key and the pedigree the booth
would speak, a FEED OFFER goes to the station, and the answer wait starts at 10 s. The model's choices it rests on:
log 10. -/
def Obligations.OfferFeed : Prop :=
  ∀ (s : State) (params : List Byte) (bo : Booth) (e : DirEntry) (k : Nat), s.portFree → s.clock.station = .running →
    params.length = 3 →
    let b := field (numbers params) 0 1
    let a := field (numbers params) 1 1
    let c := field (numbers params) 2 1
    s.planner.hall ≠ .dark → s.boothRec b = some bo → stationOk a = true → a ≠ s.self → 1 ≤ c → c ≤ 31 →
    bo.holding = none → (∀ x ∈ s.feed.contexts, ¬(x.2.side = .sending ∧ x.2.booth = b)) →
    s.remote a c = some e → e.state ≠ .closed →
    (Tab.firstFree s.feed.contexts 1 4 = none → exec (.offerFeed params) s = .next (s.answers .full [])) ∧
    (Tab.firstFree s.feed.contexts 1 4 = some k →
      ∃ t, exec (.offerFeed params) s = .next t
        ∧ t.context k = some
            { side := .sending, state := .offered, partner := a, booth := b, target := c, language := e.language
              trunk := none, pedigree := s.inputPedigree b ++ [⟨s.self, b, e.language⟩], boothHeld := false
              senderLive := false, answerWait := some 10000, readyWait := none, blockedWait := none }
        ∧ (∀ j, j ≠ k → t.context j = s.context j)
        ∧ s.sends t a (.feedOffer b e.language c (s.inputPedigree b ++ [⟨s.self, b, e.language⟩]))
        ∧ t.port = s.donePort (b1 k)
        ∧ SameBut { Parts.settled with contexts := true } { s with port := t.port } t)

/-- ANSWER FEED and END FEED (R79, R86, R87): an OFFERED receiving context is accepted, with its FEED ANSWER and a
ready wait of 5 s, or declined, with its FEED ANSWER and its end, cause DECLINED, origin LOCAL. END FEED frees a
context in any state of either side and sends END(HOST); a sending one gives up its trunk and its booth's
replacement; a channel a receiving one held is unheld. The model's choices it rests on: log 12. -/
def Obligations.AnswerAndEndFeed : Prop :=
  ∀ (s : State) (k : Byte) (f : Feed), s.portFree → s.clock.station = .running → 1 ≤ k.toNat → k.toNat ≤ 4 →
    s.context k.toNat = some f →
    (∀ a : Byte, (f.side = .sending ∨ f.state ≠ .offered) → a.toNat ≤ 1 →
      exec (.answerFeed [k, a]) s = .next (s.answers .state [])) ∧
    (f.side = .receiving → f.state = .offered →
      ∃ t, exec (.answerFeed [k, 1]) s = .next t
        ∧ t.context k.toNat = some { f with state := .accepted, answerWait := none, readyWait := some 5000 }
        ∧ (∀ j, j ≠ k.toNat → t.context j = s.context j)
        ∧ s.sends t f.partner (.feedAnswer f.booth f.target true)
        ∧ t.port = s.donePort []
        ∧ SameBut { Parts.settled with feeds := true } { s with port := t.port } t) ∧
    (f.side = .receiving → f.state = .offered →
      ∃ t, exec (.answerFeed [k, 0]) s = .next t
        ∧ t.context k.toNat = none
        ∧ (∀ j, j ≠ k.toNat → t.context j = s.context j)
        ∧ s.sends t f.partner (.feedAnswer f.booth f.target false)
        ∧ s.tells t .feedEnded [k.toNat, f.partner, FeedCause.declined.code, 0]
        ∧ t.port = s.donePort []
        ∧ SameBut { Parts.settled with contexts := true } { s with port := t.port } t) ∧
    (∃ t, exec (.endFeed [k]) s = .next t
      ∧ t.context k.toNat = none
      ∧ (∀ j, j ≠ k.toNat → (t.context j).map Feed.plan = (s.context j).map Feed.plan)
      ∧ s.sends t f.partner (.feedState f.booth f.target (.ended .host))
      ∧ s.tells t .feedEnded [k.toNat, f.partner, FeedCause.host.code, 0]
      ∧ (f.side = .sending →
          (∀ tr, s.trunkOf (.feed k.toNat) = some tr → t.trunk tr = none)
            ∧ ∀ bo, s.boothRec f.booth = some bo → bo.feed = some k.toNat →
                ∃ bo', t.boothRec f.booth = some bo' ∧ bo'.feed = none)
      ∧ (f.side = .receiving → f.state = .holding → ∀ ch, s.channel f.target = some ch →
          ∃ ch', t.channel f.target = some ch' ∧ ch'.holder = .none)
      ∧ t.port = s.donePort []
      ∧ SameBut
          { Parts.settled with
            channels := true, trunks := true, booths := true, desks := true, feeds := true, contexts := true }
          { s with port := t.port } t)

/-- ISSUE (R117, R118): the slot at the head of the ready queue goes ISSUING and leaves the queue, and the lowest
free context takes its serial, the order's account, tariff and deposit, and the tag an open channel carries, or the
floor tag; the PRESET is queued. A floor tag in place of the asked one gives PRESET DEGRADED. The model's choices it
rests on: logs 10, 12. -/
def Obligations.IssueTakesReadyHead : Prop :=
  ∀ (s : State) (params : List Byte) (r : ReadyEntry) (rest : List ReadyEntry) (n : Nat) (sl : Slot) (serial : Nat),
    s.portFree → s.clock.station = .running → params.length = 8 →
    let account := field (numbers params) 0 1
    let tariff := field (numbers params) 1 1
    let asked := tagAt (numbers params) 2
    let deposit := field (numbers params) 5 3
    let tag := if s.carried asked = true ∧ asked ≠ ⟨0, 0, 0⟩ then asked else s.planner.floorTag
    account ≤ 31 → tariff ≤ 7 → (asked = ⟨0, 0, 0⟩ ∨ asked.ok = true) → deposit ≤ 999999 →
    (s.dock.ready = [] → exec (.issue params) s = .next (s.answers .empty [])) ∧
    (s.dock.ready = r :: rest → Tab.firstFree s.dock.issues 1 4 = some n → s.slot r.slot = some sl →
      sl.serial = some serial → s.ledger.hires.length + s.dock.issues.length < 512 →
      ∃ t, exec (.issue params) s = .next t
        ∧ t.dock.ready = rest
        ∧ Tab.get t.dock.issues n = some ⟨r.slot, serial, account, tariff, deposit, tag, .presetting, none⟩
        ∧ (∀ j, j ≠ n → Tab.get t.dock.issues j = Tab.get s.dock.issues j)
        ∧ t.slot r.slot = some { sl with state := .issuing, clearMark := false }
        ∧ (∀ j, j ≠ r.slot → t.slot j = s.slot j)
        ∧ s.orders t (.preset r.slot tag s.self)
        ∧ (asked ≠ ⟨0, 0, 0⟩ → s.carried asked = false →
            s.tells t .presetDegraded [n, asked.code, s.planner.floorTag.code])
        ∧ t.port = s.donePort (b1 n ++ b1 r.slot ++ be 3 serial)
        ∧ SameBut { Parts.settled with slots := true, ready := true, issues := true } { s with port := t.port } t)

/-- CANCEL ISSUE and the removal timer (R120): the issue ends; its slot's latch is to be closed, its mark to be
cleared, and it stands READY again at the head of the ready queue; ISSUE CANCELLED is queued with its cause. A
context whose timer does not run is left alone. The model's choices it rests on: logs 2, 12, 27. -/
def Obligations.CancelledIssueReturnsItsSlot : Prop :=
  ∀ (s : State) (n : Nat) (i : Issue) (sl : Slot), s.clock.station = .running → s.clock.resetHeld = false →
    Tab.get s.dock.issues n = some i → s.slot i.slot = some sl →
    let ended := fun (t : State) (cause : CancelCause) =>
      Tab.get t.dock.issues n = none ∧ (∀ j, j ≠ n → Tab.get t.dock.issues j = Tab.get s.dock.issues j)
        ∧ t.slot i.slot = some { sl with state := .ready, latchOpen := false, clearMark := true }
        ∧ (∀ j, j ≠ i.slot → t.slot j = s.slot j)
        ∧ t.dock.ready = ⟨i.slot, false⟩ :: s.dock.ready
        ∧ s.tells t .issueCancelled [n, i.slot, i.serial, cause.code]
    (i.removal.isSome = true →
      ∃ t, exec (.removalTimer n) s = .next t ∧ ended t .timeout
        ∧ SameBut { Parts.settled with slots := true, ready := true, issues := true } s t) ∧
    (i.removal = none → ∃ t, exec (.removalTimer n) s = .next t ∧ SameBut Parts.settled s t) ∧
    (∀ b : Byte, b.toNat = n → 1 ≤ n → n ≤ 4 → s.port.answer = none →
      ∃ t, exec (.cancelIssue [b]) s = .next t ∧ ended t .host ∧ t.port = s.donePort []
        ∧ SameBut { Parts.settled with slots := true, ready := true, issues := true } { s with port := t.port } t)

/-- A closing of kind LOSS and one of kind RETURN (R145): their time charge, loss fee and charge, and what each books to
its account. -/
def Obligations.LossAndReturnAreBooked : Prop :=
  ∀ (s : State) (serial : Nat) (h : Hire) (r : Account) (kind : HireKind) (asked : Nat) (at_ : Option Nat),
    Tab.get s.ledger.hires serial = some h → h.closing = none → Tab.get s.account.accounts h.account = some r →
    (kind = .loss → asked = s.clock.minute) →
    let endMinute := max h.start (min asked s.clock.minute)
    let time := timeCharge s.cfg.dayBoundary (s.tariff h.tariff) h.start endMinute
    let fee := if kind = .loss then (s.tariff h.tariff).lossFee else 0
    let figures := (s.closingOf h kind asked at_).figures
    figures.timeCharge = time ∧ figures.lossFee = fee
      ∧ figures.applied + figures.due = min (time + fee) 99999999
      ∧ ∃ r', Tab.get (closeHire serial kind asked at_ s).account.accounts h.account = some r'
        ∧ r'.hireRevenue = min (r.hireRevenue + time) 99999999
        ∧ r'.lossRevenue = min (r.lossRevenue + fee) 99999999

/-- DECLARE LOST (R136, R137, R145, R146): the hire closes as a LOSS at the present minute and the serial joins the
lost list; the answer carries the figures and whether the record has left the table. The model's choices it rests
on: log 10. -/
def Obligations.DeclareLost : Prop :=
  ∀ (s : State) (params : List Byte) (h : Hire), s.portFree → s.clock.station = .running → params.length = 3 →
    let serial := field (numbers params) 0 3
    serial ≠ 0 → Tab.get s.ledger.hires serial = some h → h.closing = none →
    let c := s.closingOf h .loss s.clock.minute none
    ∃ t gone, exec (.declareLost params) s = .next t
      ∧ t.port = s.donePort (bFigures c.figures ++ bBool gone)
      ∧ (s.logOpen = true →
          gone = true ∧ Tab.get t.ledger.hires serial = none
            ∧ t.account.log = s.account.log ++
                [⟨s.account.nextNumber, .hire serial h.account h.tariff h.start c⟩])
      ∧ (s.logOpen = false →
          gone = false ∧ Tab.get t.ledger.hires serial = some { h with closing := some c }
            ∧ t.account.closing = s.account.closing ++ [.hire serial])
      ∧ t.ledger.lost.getLast? = some ⟨serial, h.account, s.clock.minute⟩
      ∧ (∀ e ∈ t.ledger.lost, e.serial = serial → e = ⟨serial, h.account, s.clock.minute⟩)
      ∧ (∀ j, j ≠ serial → Tab.get t.ledger.hires j = Tab.get s.ledger.hires j)
      ∧ SameBut { Parts.settled with slots := true, hires := true, lost := true, account := true }
          { s with port := t.port } t

/-- The reads (R4, R29, R138, R157, R177, R180): the answer carries the record asked for, and nothing else changes.
The model's choices it rests on: logs 10, 11, 51. -/
def Obligations.ReadsChangeNothing : Prop :=
  ∀ (s : State) (b : Byte), s.portFree →
    (inCR s.clock.station = true →
      (b.toNat ≤ 31 →
        exec (.readChannel [b]) s = .next { s with port := s.donePort (bChannel s b.toNat) })
      ∧ (∀ bo, s.boothRec b.toNat = some bo →
          exec (.readBooth [b]) s = .next { s with port := s.donePort (bBooth s b.toNat bo) })
      ∧ (s.boothRec b.toNat = none → exec (.readBooth [b]) s = .next (s.answers .range []))
      ∧ (∀ r, Tab.get s.account.accounts b.toNat = some r →
          exec (.readAccount [b]) s = .next { s with port := s.donePort (bAccountOf s b.toNat r) })
      ∧ (stationOk b.toNat = true → b.toNat ≠ s.self →
          exec (.readPeer [b]) s = .next { s with port := s.donePort (bPeer s b.toNat) })
      ∧ (∀ p : List Byte, p.length = 4 → field (numbers p) 3 1 = 0 → field (numbers p) 0 3 ≠ 0 →
          exec (.readHire p) s = .next
            (if Tab.has s.ledger.hires (field (numbers p) 0 3) || (s.lostEntry (field (numbers p) 0 3)).isSome
                || (s.orphan (field (numbers p) 0 3)).isSome then
              { s with port := s.donePort (bExact s (field (numbers p) 0 3)) }
            else s.answers .unknown []))
      ∧ (∀ p : List Byte, p.length = 4 → field (numbers p) 3 1 = 1 →
          (∀ n h, s.nextHire (field (numbers p) 0 3) = some (n, h) →
            exec (.readHire p) s = .next { s with port := s.donePort (bHire n h ++ bEstimate s h) })
          ∧ (s.nextHire (field (numbers p) 0 3) = none → exec (.readHire p) s = .next (s.answers .empty []))))
    ∧ (s.clock.station ≠ .unconfigured → 1 ≤ b.toNat → b.toNat ≤ 8 →
        exec (.readStatus [b]) s = .next { s with port := s.donePort (bStatus s b.toNat) })
    ∧ (s.clock.station = .unconfigured → b.toNat = 1 →
        exec (.readStatus [b]) s = .next { s with port := s.donePort (bStatus s 1) })
    ∧ (s.clock.station = .unconfigured → 2 ≤ b.toNat → b.toNat ≤ 8 →
        exec (.readStatus [b]) s = .next (s.answers .state []))

/-- READ SETTLEMENT (R156): the oldest record is answered and leaves the log, and the oldest waiting closing enters
it; an empty log answers EMPTY. The model's choices it rests on: log 10. -/
def Obligations.ReadSettlement : Prop :=
  ∀ s : State, s.portFree → inCR s.clock.station = true →
    (s.account.log = [] → exec (.readSettlement []) s = .next (s.answers .empty [])) ∧
    (∀ r rest, s.account.log = r :: rest →
      ∃ t, exec (.readSettlement []) s = .next t
        ∧ t.port = s.donePort (bSettlement r ++ b1 t.account.log.length ++ be 2 t.account.closing.length)
        ∧ (s.account.closing = [] → t.account = { s.account with log := rest })
        ∧ (∀ item tail, s.account.closing = item :: tail →
            t.account.closing = tail
              ∧ (∀ bill, item = .channel bill → t.account.log = rest ++ [⟨s.account.nextNumber, .channel bill⟩])
              ∧ (∀ n a m, item = .recovery n a m →
                  t.account.log = rest ++ [⟨s.account.nextNumber, .recovery n a m⟩])
              ∧ (∀ n h c, item = .hire n → Tab.get s.ledger.hires n = some h → h.closing = some c →
                  t.account.log = rest ++ [⟨s.account.nextNumber, .hire n h.account h.tariff h.start c⟩]
                    ∧ Tab.get t.ledger.hires n = none))
        ∧ SameBut { Parts.settled with slots := true, hires := true, account := true } { s with port := t.port } t)

/-! ### What is heard on the Centre Line -/

/-- CLAIM (R11, R18): the claim of a subcarrier enters the peer claim table with age 0. Outside the zone, or on a
subcarrier no own channel has, it moves no channel. In the zone the lower station number keeps the subcarrier: a
claim of a higher number is answered with a REFRESH; to a lower one the own channel gives way, ON AIR with CLAIM
YIELDED, and claims the first free subcarrier anew, or STARVES. The model's choices it rests on: logs 8, 12, 36. -/
def Obligations.ClaimHeard : Prop :=
  ∀ (s : State) (f : Sender) (refresh : Bool) (sc c : Nat) (l : Tag), s.hears f → sc ≤ 31 → c ≤ 31 → l.ok = true →
    let claims := s.planner.peerClaims
    ∃ t, exec (.claim f refresh sc c l) s = .next t
      ∧ t.freshPeer f
      ∧ (claims.any (PeerClaim.isFor f.station sc) = true ∨ claims.length < 320 →
          (⟨f.station, sc, c, l, 0⟩ : PeerClaim) ∈ t.planner.peerClaims
            ∧ ∀ e ∈ claims, e.isFor f.station sc = false → e ∈ t.planner.peerClaims)
      ∧ (s.inZone f.station = false ∨ s.ownSubcarrier sc = false →
          SameBut { Parts.heard with claims := true } s t)
      ∧ SameBut { Parts.heard with channels := true, claims := true } s t
      ∧ (∀ k ch, s.inZone f.station = true → Tab.wf s.planner.channels = true → s.channel k = some ch →
          ch.subcarrier = some sc → (∀ e ∈ s.planner.channels, e.2.subcarrier = some sc → e.1 = k) →
          (s.self < f.station →
            (t.channel k).map Channel.core = some { ch.core with refresh := ch.refresh.map fun _ => 10000 }
              ∧ s.sends t 0 (.claim (.subcarrier sc) .refresh k ch.language))
          ∧ (f.station < s.self → (∀ e ∈ s.planner.channels, e.2.state ≠ .starved) → claims.length < 320 →
            ∃ ch', t.channel k = some ch' ∧ ch'.language = ch.language ∧ ch'.account = ch.account
              ∧ ch'.liveSeconds = ch.liveSeconds ∧ ch'.holder = ch.holder
              ∧ (∀ sc', s.freeSubcarrier = some sc' →
                  sc' ≠ sc ∧ ch'.subcarrier = some sc' ∧ ch'.confirmed = false ∧ ch'.window = some 600
                  ∧ ch'.state = (if ch.everOnAir then .shifting else .claiming)
                  ∧ s.sends t 0 (.claim (.subcarrier sc) .release k ch.language)
                  ∧ s.sends t 0 (.claim (.subcarrier sc') .claim k ch.language))
              ∧ (s.freeSubcarrier = none →
                  ch'.subcarrier = none ∧ ch'.state = .starved ∧ s.tells t .channelStarved [k])
              ∧ (ch.state = .onAir → s.tells t .claimYielded [k, sc, f.station])))

/-- What is released or expires becomes free (R12, R18, R19, R20, R65, R84): a peer's subcarrier leaves the claim
table, and only STARVED channels search again; a peer's trunk becomes free, every relay on it is dropped, and a
receiving feed on it waits 5 s for another, its bus silent where it holds. Another station's RELEASE of a trunk
frees nothing. The model's choices it rests on: log 2. -/
def Obligations.ReleasedResourcesBecomeFree : Prop :=
  ∀ (s : State) (f : Sender) (q sc tr c : Nat) (l : Tag), sc ≤ 31 → 1 ≤ tr → tr ≤ 12 → c ≤ 31 → l.ok = true →
    let without := fun q => s.planner.peerClaims.filter fun e => !e.isFor q sc
    let freed := fun t : State =>
      t.trunk tr = none
        ∧ (∀ j, j ≠ tr → t.trunk j = s.trunk j)
        ∧ (∀ b bo p k, s.boothRec b = some bo → bo.sourceTrunk = some tr → bo.input = .remote p k → t.relayDropped b)
        ∧ ∀ k x, s.context k = some x → x.side = .receiving → x.trunk = some tr → 1 ≤ x.target →
            Tab.wf s.feed.contexts = true →
            t.context k = some { x with trunk := none, readyWait := some 5000 }
              ∧ (x.state = .holding → t.route (busOutput x.target) = .none)
    (s.hears f →
      (∃ t, exec (.claimRelease f (.subcarrier sc) c l) s = .next t
        ∧ t.freshPeer f ∧ t.planner.peerClaims = without f.station
        ∧ ((∀ e ∈ s.planner.channels, e.2.state ≠ .starved) → SameBut { Parts.heard with claims := true } s t)
        ∧ SameBut { Parts.heard with channels := true, claims := true } s t) ∧
      (∃ t, exec (.claimRelease f (.trunk tr) c l) s = .next t
        ∧ (∀ age, s.trunk tr = some (.peer f.station age) → freed t)
        ∧ ((∀ age, s.trunk tr ≠ some (.peer f.station age)) → t.planner.trunks = s.planner.trunks)
        ∧ SameBut { Parts.heard with channels := true, trunks := true, booths := true, feeds := true } s t)) ∧
    (s.running = true →
      (∃ t, exec (.peerClaimExpiry q sc) s = .next t
        ∧ t.planner.peerClaims = without q
        ∧ ((∀ e ∈ s.planner.channels, e.2.state ≠ .starved) → SameBut { Parts.settled with claims := true } s t)
        ∧ SameBut { Parts.settled with channels := true, claims := true } s t) ∧
      (∃ t, exec (.peerTrunkExpiry tr) s = .next t
        ∧ (∀ p age, s.trunk tr = some (.peer p age) → freed t)
        ∧ ((∀ p age, s.trunk tr ≠ some (.peer p age)) → SameBut Parts.settled s t)
        ∧ SameBut { Parts.settled with channels := true, trunks := true, booths := true, feeds := true } s t))

/-- TRUNK_CLAIM (R20, R22, R65, R84): a free trunk becomes the peer's; a lower station takes it from a higher, a
higher one from none. Where it passes to another holder, a relay on it waits 3 s for a new GRANT and a receiving
feed 5 s for a new trunk, with no route. An own claim of a lower station is kept and announced again; to a lower
station an own claim gives way with its RELEASE, and its user claims the lowest free trunk, or ends where none is
free. The model's choices it rests on: logs 8, 12, 29. -/
def Obligations.TrunkClaimHeard : Prop :=
  ∀ (s : State) (f : Sender) (refresh : Bool) (tr c : Nat) (l : Tag), s.hears f → 1 ≤ tr → tr ≤ 12 → c ≤ 31 →
    l.ok = true →
    ∃ t, exec (.trunkClaim f refresh tr c l) s = .next t
      ∧ t.freshPeer f
      ∧ (s.trunk tr = none → t.trunk tr = some (.peer f.station 0) ∧ SameBut { Parts.heard with trunks := true } s t)
      ∧ (∀ p age, s.trunk tr = some (.peer p age) →
          (f.station ≤ p → t.trunk tr = some (.peer f.station 0)) ∧ (p < f.station → SameBut Parts.heard s t)
          ∧ (f.station < p →
            (∀ b bo q k, s.boothRec b = some bo → bo.sourceTrunk = some tr → bo.input = .remote q k → q ≠ f.station →
              Tab.wf s.booth.booths = true →
              t.boothRec b = some { bo with relay := .waiting, sourceTrunk := none, answerWait := some 3000 }
                ∧ t.route (inputOutput b) = .none)
            ∧ (∀ k x, s.context k = some x → x.side = .receiving → x.trunk = some tr → x.partner ≠ f.station →
              1 ≤ x.target → Tab.wf s.feed.contexts = true →
              t.context k = some { x with trunk := none, readyWait := some 5000 }
                ∧ (x.state = .holding → t.route (busOutput x.target) = .none))))
      ∧ (∀ ph cf u w r, s.trunk tr = some (.own ph cf u w r) →
          (s.self < f.station →
            t.trunk tr = some (.own ph cf u w (r.map fun _ => 10000))
              ∧ s.sends t 0 (.claim (.trunk tr) .refresh (s.trunkLabel u).1 (s.trunkLabel u).2)
              ∧ SameBut { Parts.heard with trunks := true } s t)
          ∧ (f.station < s.self → Tab.wf s.planner.trunks = true →
            t.trunk tr = some (.peer f.station 0)
              ∧ s.sends t 0 (.claim (.trunk tr) .release (s.trunkLabel u).1 (s.trunkLabel u).2)
              ∧ (∀ t', s.freeTrunk = some t' →
                  t.trunk t' = some (.own .window false u (some 600) none)
                    ∧ s.sends t 0 (.claim (.trunk t') .claim (s.trunkLabel u).1 (s.trunkLabel u).2))
              ∧ (s.freeTrunk = none →
                  (∀ j e, u = .exported j → Tab.get s.relay.exported j = some e →
                    Tab.get t.relay.exported j = none
                      ∧ ∀ x ∈ e.listeners, s.sends t x.station (.relayAnswer j (.refuse .noTrunk)))
                  ∧ (∀ k x, u = .feed k → s.context k = some x →
                    t.context k = none
                      ∧ s.sends t x.partner (.feedState x.booth x.target (.ended .noTrunk))
                      ∧ s.tells t .feedEnded [k, x.partner, FeedCause.noTrunk.code, 0]))))
      ∧ SameBut
          { Parts.heard with
            channels := true, trunks := true, booths := true, desks := true, exported := true, feeds := true
            contexts := true }
          s t

/-- RELAY_REQUEST and RELAY_RELEASE (R66, R67): a request for a CLOSED channel, or with no trunk free, is refused;
the first for a channel claims the lowest free trunk for its export; a later one joins the listener set, and a HELD
export grants its trunk at once. A release leaves the set; an empty set ends the export and gives up its trunk. The
model's choices it rests on: logs 36, 37. -/
def Obligations.ExportsFollowRequests : Prop :=
  ∀ (s : State) (f : Sender) (c b : Nat), s.hears f → c ≤ 31 → b ≤ 8 →
    (∃ t, exec (.relayRequest f c b) s = .next t
      ∧ t.freshPeer f
      ∧ (s.channel c = none →
          s.sends t f.station (.relayAnswer c (.refuse .closed)) ∧ SameBut Parts.heard s t)
      ∧ (∀ ch, s.channel c = some ch → Tab.get s.relay.exported c = none →
          (s.freeTrunk = none →
            s.sends t f.station (.relayAnswer c (.refuse .noTrunk)) ∧ SameBut Parts.heard s t)
          ∧ (∀ tr, s.freeTrunk = some tr →
            t.trunk tr = some (.own .window false (.exported c) (some 600) none)
              ∧ Tab.get t.relay.exported c = some ⟨tr, [⟨f.station, [b]⟩]⟩
              ∧ s.sends t 0 (.claim (.trunk tr) .claim c ch.language)))
      ∧ (∀ ch e, s.channel c = some ch → Tab.get s.relay.exported c = some e →
          (∃ ls, Tab.get t.relay.exported c = some ⟨e.trunk, ls⟩
            ∧ ∃ x ∈ ls, x.station = f.station ∧ b ∈ x.booths)
          ∧ t.planner.trunks = s.planner.trunks
          ∧ (∀ tr, s.exportTrunk c = some tr →
              s.sends t f.station (.relayAnswer c (.grant tr)) ∧ t.route (sendOutput tr) = .bus c))
      ∧ (∀ j, j ≠ c → Tab.get t.relay.exported j = Tab.get s.relay.exported j)
      ∧ SameBut { Parts.heard with trunks := true, exported := true } s t) ∧
    (∃ t, exec (.relayRelease f c b) s = .next t
      ∧ t.freshPeer f
      ∧ (Tab.get s.relay.exported c = none → SameBut Parts.heard s t)
      ∧ (∀ e, Tab.get s.relay.exported c = some e →
          let ls := dropListener f.station b e.listeners
          (∀ x ∈ ls, x.station = f.station → b ≠ 0 ∧ b ∉ x.booths)
          ∧ (ls ≠ [] → Tab.get t.relay.exported c = some { e with listeners := ls }
              ∧ t.planner.trunks = s.planner.trunks)
          ∧ (ls = [] → Tab.get t.relay.exported c = none
              ∧ ∀ tr, s.trunkOf (.exported c) = some tr →
                  t.trunk tr = none
                    ∧ s.sends t 0 (.claim (.trunk tr) .release c (s.trunkLabel (.exported c)).2)))
      ∧ SameBut { Parts.heard with trunks := true, exported := true } s t)

/-- RELAY_ANSWER, CHANNEL_NOTICE and the expiries of a relay's source (R60, R62 to R64): a GRANT relays every
waiting booth on its trunk, or is given back when none names the source; a REFUSE, a CLOSED notice, a directory
expiry and an answer that does not come each drop the relays concerned. The model's choices it rests on: logs 2, 8,
12. -/
def Obligations.RelaysFollowTheirSource : Prop :=
  ∀ (s : State) (f : Sender) (c tr : Nat), s.hears f → c ≤ 31 → 1 ≤ tr → tr ≤ 12 →
    let dropped := fun (t : State) (q : Nat) =>
      ∀ b bo, s.boothRec b = some bo → bo.input = .remote q c → t.relayDropped b
    let lists := { Parts.settled with channels := true, booths := true, feeds := true }
    (∃ t, exec (.relayAnswer f c (.grant tr)) s = .next t
      ∧ t.freshPeer f
      ∧ (s.trunkOpenTo f.station tr = false → SameBut Parts.heard s t)
      ∧ (s.trunkOpenTo f.station tr = true →
          (∃ age, t.trunk tr = some (.peer f.station age))
          ∧ (∀ b bo, s.boothRec b = some bo → bo.input = .remote f.station c → bo.relay = .waiting →
              t.boothRec b = some { bo with relay := .relayed, sourceTrunk := some tr, answerWait := none }
                ∧ t.route (inputOutput b) = .trunk tr)
          ∧ (s.listeners (.remote f.station c) = [] → s.sends t f.station (.relayRelease c 0)))
      ∧ SameBut { Parts.heard with trunks := true, booths := true } s t) ∧
    (∀ r, ∃ t, exec (.relayAnswer f c (.refuse r)) s = .next t
      ∧ t.freshPeer f ∧ dropped t f.station
      ∧ SameBut { Parts.heard with channels := true, booths := true, feeds := true } s t) ∧
    (∀ l st k p, l.ok = true → pedigreeOk p = true → k.all trunkOk = true →
      ∃ t, exec (.channelNotice f c l st k p) s = .next t
        ∧ t.freshPeer f
        ∧ ((s.remote f.station c).isSome = true ∨ st ≠ .closed ∧ s.relay.directory.length < 128 →
            t.remote f.station c = some ⟨f.station, c, l, p, st, k, 0⟩)
        ∧ (s.remote f.station c = none → st = .closed → SameBut Parts.heard s t)
        ∧ ((s.remote f.station c).isSome = true → st = .closed → dropped t f.station)
        ∧ ((s.remote f.station c).map DirEntry.pedigree = some p → st ≠ .closed →
            SameBut { Parts.heard with directory := true } s t)
        ∧ SameBut { Parts.heard with channels := true, booths := true, directory := true, feeds := true } s t) ∧
    (∀ q, ∃ t, exec (.directoryExpiry q c) s = .next t
      ∧ t.remote q c = none
      ∧ ((s.remote q c).isSome = true → dropped t q)
      ∧ (s.remote q c = none → SameBut Parts.settled s t)
      ∧ SameBut { lists with directory := true } s t) ∧
    (∀ b bo, s.boothRec b = some bo → ∃ t, exec (.relayAnswerWait b) s = .next t
      ∧ (bo.answerWait = none → SameBut Parts.settled s t)
      ∧ (∀ q, bo.answerWait.isSome = true → bo.input = .remote q c →
          t.relayDropped b
            ∧ s.tells t .relayLost [b, q, c, LostCause.timeout.code]
            ∧ s.sends t q (.relayRelease c b))
      ∧ SameBut lists s t)

/-- FEED_OFFER and FEED_ANSWER (R72, R74, R78): an offer that passes its tests makes a receiving context in OFFERED
with a wait of 10 s and FEED OFFERED; one that fails is declined with FEED OFFER REFUSED. One whose key a receiving
context has ends that context first, cause UNKNOWN, origin PARTNER, and is then tested as new. That an offer of
booth 0 is taken as any other is the model's choice (log 37). An ACCEPT claims the lowest free trunk for the feed
and makes it the booth's output A, or ends the feed where none is free; a DECLINE ends it. An answer that matches no
context in OFFERED does nothing but for END(UNKNOWN) to an unmatched ACCEPT. The model's choices it rests on: logs
8, 12, 15, 37, 54. -/
def Obligations.FeedOffersAndAnswers : Prop :=
  ∀ (s : State) (f : Sender) (b c : Nat), s.hears f → b ≤ 8 → c ≤ 31 →
    let all :=
      { Parts.heard with
        channels := true, trunks := true, booths := true, desks := true, feeds := true, contexts := true }
    (∀ l p, l.ok = true → pedigreeOk p = true →
      ∃ t, exec (.feedOffer f b l c p) s = .next t
        ∧ t.freshPeer f
        ∧ (s.matchFeed .receiving f.station b c = none →
            (∀ why, s.offerRefused l c = some why →
              s.sends t f.station (.feedAnswer b c false)
                ∧ s.tells t .feedOfferRefused [f.station, b, c, why.code] ∧ SameBut Parts.heard s t)
            ∧ (∀ k, s.offerRefused l c = none → Tab.firstFree s.feed.contexts 1 4 = some k →
              t.context k = some
                  { side := .receiving, state := .offered, partner := f.station, booth := b, target := c, language := l
                    trunk := none, pedigree := p, boothHeld := false, senderLive := false, answerWait := some 10000
                    readyWait := none, blockedWait := none }
                ∧ (∀ j, j ≠ k → t.context j = s.context j)
                ∧ s.tells t .feedOffered [k, f.station, b, c]
                ∧ SameBut { Parts.heard with contexts := true } s t))
        ∧ (∀ k x, s.matchFeed .receiving f.station b c = some k → s.context k = some x → x.side = .receiving →
            Tab.wf s.feed.contexts = true →
            let freed : State := { s with feed.contexts := Tab.erase s.feed.contexts k }
            s.tells t .feedEnded [k, x.partner, FeedCause.unknown.code, 1]
            ∧ (∀ why, freed.offerRefused l c = some why →
                t.context k = none ∧ s.sends t f.station (.feedAnswer b c false)
                  ∧ s.tells t .feedOfferRefused [f.station, b, c, why.code])
            ∧ (∀ j, freed.offerRefused l c = none → Tab.firstFree freed.feed.contexts 1 4 = some j →
                t.context j = some
                    { side := .receiving, state := .offered, partner := f.station, booth := b, target := c
                      language := l, trunk := none, pedigree := p, boothHeld := false, senderLive := false
                      answerWait := some 10000, readyWait := none, blockedWait := none }
                  ∧ (j ≠ k → t.context k = none)
                  ∧ s.tells t .feedOffered [j, f.station, b, c]))
        ∧ SameBut all s t) ∧
    (∀ accept, ∃ t, exec (.feedAnswer f b c accept) s = .next t
      ∧ t.freshPeer f
      ∧ (s.matchFeed .sending f.station b c = none →
          (accept = true → s.sends t f.station (.feedState b c (.ended .unknown))) ∧ SameBut Parts.heard s t)
      ∧ (∀ k x, s.matchFeed .sending f.station b c = some k → s.context k = some x → x.side = .sending →
          (x.state ≠ .offered → SameBut Parts.heard s t)
          ∧ (x.state = .offered → accept = false →
              t.context k = none ∧ s.tells t .feedEnded [k, x.partner, FeedCause.declined.code, 1])
          ∧ (x.state = .offered → accept = true → s.freeTrunk = none →
              t.context k = none ∧ s.tells t .feedEnded [k, x.partner, FeedCause.noTrunk.code, 0]
                ∧ s.sends t x.partner (.feedState x.booth x.target (.ended .noTrunk)))
          ∧ (∀ tr, x.state = .offered → accept = true → s.freeTrunk = some tr → Tab.wf s.feed.contexts = true →
              (∃ x', t.context k = some x' ∧ x'.state = .claiming ∧ x'.trunk = some tr ∧ x'.answerWait = none
                ∧ x'.plan = x.plan)
              ∧ t.trunk tr = some (.own .window false (.feed k) (some 600) none)
              ∧ s.sends t 0 (.claim (.trunk tr) .claim x.target x.language)
              ∧ ∀ bo, s.boothRec x.booth = some bo → ∃ bo', t.boothRec x.booth = some bo' ∧ bo'.feed = some k))
      ∧ SameBut all s t)

/-- FEED_STATE READY, LIVE, SILENT and END (R72, R80 to R82, R84, R86, R87): READY routes the context on its trunk;
LIVE in SESSION takes the target channel from nobody and from a feed, and is BLOCKED 60 s by a desk; SILENT gives
the channel up; END frees the context with its reason as cause, origin PARTNER. A frame that matches no context is
answered END(UNKNOWN), but for an END; an END(CLOSED) is for a sending context alone, and an END(NO TRUNK) or
END(DARK) for a receiving one. The model's choices it rests on: logs 8, 12, 14, 30. -/
def Obligations.FeedStatesMoveContexts : Prop :=
  ∀ (s : State) (f : Sender) (b c : Nat), s.hears f → b ≤ 8 → c ≤ 31 →
    let all :=
      { Parts.heard with
        channels := true, trunks := true, booths := true, desks := true, feeds := true, contexts := true }
    let unmatched := fun t : State =>
      s.matchFeed .receiving f.station b c = none →
        s.sends t f.station (.feedState b c (.ended .unknown)) ∧ SameBut Parts.heard s t
    (∀ tr, 1 ≤ tr → tr ≤ 12 → ∃ t, exec (.feedStateReady f b c tr) s = .next t
      ∧ t.freshPeer f ∧ unmatched t
      ∧ (∀ k x, s.matchFeed .receiving f.station b c = some k → s.context k = some x → x.partner = f.station →
          (s.trunkOpenTo f.station tr = false → SameBut Parts.heard s t)
          ∧ (s.trunkOpenTo f.station tr = true → x.state = .accepted → x.senderLive = false →
              t.context k = some { x with state := .routed, trunk := some tr, readyWait := none }
                ∧ ∃ age, t.trunk tr = some (.peer f.station age))
          ∧ (s.trunkOpenTo f.station tr = true → x.state = .routed ∨ x.state = .blocked ∨ x.state = .holding →
              t.context k = some { x with trunk := some tr, readyWait := none }))
      ∧ SameBut { Parts.heard with channels := true, trunks := true, booths := true, feeds := true } s t) ∧
    (∀ p, pedigreeOk p = true → ∃ t, exec (.feedStateLive f b c p) s = .next t
      ∧ t.freshPeer f ∧ unmatched t
      ∧ (∀ k x ch, s.matchFeed .receiving f.station b c = some k → s.context k = some x → x.side = .receiving →
          x.target = c → s.channel c = some ch → Tab.wf s.feed.contexts = true →
          (x.state = .offered → SameBut Parts.heard s t)
          ∧ (x.state = .routed → s.planner.hall = .session → (∀ b' d, ch.holder ≠ .desk b' d) →
              t.context k = some { x with senderLive := true, pedigree := p, state := .holding, blockedWait := none }
                ∧ ∃ ch', t.channel c = some ch' ∧ ch'.holder = .feed k)
          ∧ (∀ b' d, x.state = .routed → s.planner.hall = .session → ch.holder = .desk b' d →
              t.context k = some
                  { x with senderLive := true, pedigree := p, state := .blocked, blockedWait := some 60000 }
                ∧ s.tells t .feedBlocked [k, c, b'])
          ∧ (x.state = .routed → s.planner.hall ≠ .session →
              t.context k = some { x with senderLive := true, pedigree := p })
          ∧ (x.state = .accepted ∨ x.state = .holding ∨ x.state = .blocked →
              t.context k = some { x with senderLive := true, pedigree := p }))
      ∧ SameBut { Parts.heard with channels := true, booths := true, feeds := true } s t) ∧
    (∃ t, exec (.feedStateSilent f b c) s = .next t
      ∧ t.freshPeer f ∧ unmatched t
      ∧ (∀ k x, s.matchFeed .receiving f.station b c = some k → s.context k = some x → x.side = .receiving →
          Tab.wf s.feed.contexts = true →
          (x.state = .offered → SameBut Parts.heard s t)
          ∧ (x.state = .holding ∨ x.state = .blocked →
              t.context k = some { x with senderLive := false, state := .routed, blockedWait := none })
          ∧ (x.state = .accepted ∨ x.state = .routed → t.context k = some { x with senderLive := false })
          ∧ (x.state = .holding → ∀ ch, s.channel x.target = some ch →
              ∃ ch', t.channel x.target = some ch' ∧ ch'.holder = .none))
      ∧ SameBut { Parts.heard with channels := true, booths := true, feeds := true } s t) ∧
    (∀ r, ∃ t, exec (.feedStateEnd f b c r) s = .next t
      ∧ t.freshPeer f
      ∧ (s.matchEnd f.station b c r = none → SameBut Parts.heard s t)
      ∧ (r = .closed → s.matchFeed .sending f.station b c = none → SameBut Parts.heard s t)
      ∧ (r = .noTrunk ∨ r = .dark → s.matchFeed .receiving f.station b c = none → SameBut Parts.heard s t)
      ∧ (∀ k x, s.matchEnd f.station b c r = some k → s.context k = some x →
          t.context k = none ∧ s.tells t .feedEnded [k, x.partner, (causeOf r).code, 1])
      ∧ SameBut all s t)

/-- RETURN_QUERY, RETURN_ANSWER and an orphan's answer wait (R131, R133): an OPEN hire closes as a RETURN at the
asking station and its figures are answered; a lost receiver is recovered; a CLOSING hire answers its figures again;
a serial of no record is NOT OPEN. An answer from its owner removes an orphan; twelve queries without one discard
it. The model's choices it rests on: logs 2, 8, 12. -/
def Obligations.ReturnsAreAnswered : Prop :=
  ∀ (s : State) (f : Sender) (serial minute battery : Nat), s.hears f → serial < 2 ^ 24 → minute < 2 ^ 24 →
    battery ≤ 100 →
    (∃ t, exec (.returnQuery f serial minute battery) s = .next t
      ∧ t.freshPeer f
      ∧ (∀ h, Tab.get s.ledger.hires serial = some h → h.closing = none →
          let c := s.closingOf h .ret minute (some f.station)
          s.sends t f.station (.returnAnswer serial c.answer)
            ∧ s.tells t .peerReturn [serial, f.station, 0, battery]
            ∧ (s.logOpen = true → Tab.get t.ledger.hires serial = none)
            ∧ (s.logOpen = false → Tab.get t.ledger.hires serial = some { h with closing := some c }))
      ∧ (∀ e, s.lostEntry serial = some e → (Tab.get s.ledger.hires serial).all (fun h => h.closing.isSome) = true →
          s.sends t f.station (.returnAnswer serial (.recovered e.declared))
            ∧ s.tells t .peerReturn [serial, f.station, 1, battery] ∧ t.lostEntry serial = none)
      ∧ (∀ h c, s.lostEntry serial = none → Tab.get s.ledger.hires serial = some h → h.closing = some c →
          s.sends t f.station (.returnAnswer serial c.answer) ∧ SameBut Parts.heard s t)
      ∧ (s.lostEntry serial = none → Tab.get s.ledger.hires serial = none →
          s.sends t f.station (.returnAnswer serial .notOpen) ∧ SameBut Parts.heard s t)
      ∧ (∀ j, j ≠ serial → Tab.get t.ledger.hires j = Tab.get s.ledger.hires j)
      ∧ SameBut { Parts.heard with slots := true, hires := true, lost := true, account := true } s t) ∧
    (∀ o, o.ok = true → ∃ t, exec (.returnAnswer f serial o) s = .next t
      ∧ t.freshPeer f
      ∧ (∀ x, s.orphan serial = some x → x.owner = f.station →
          t.ledger.orphans = (s.ledger.orphans.filter fun y => y.serial ≠ serial)
            ∧ s.tells t .returnAnswered (serial :: answeredFields o))
      ∧ ((s.orphan serial).all (fun x => x.owner ≠ f.station) = true → SameBut Parts.heard s t)
      ∧ SameBut { Parts.heard with orphans := true } s t) ∧
    (∃ t, exec (.orphanAnswerWait serial) s = .next t
      ∧ (∀ x, s.orphan serial = some x → x.answerWait.isSome = true →
          (12 ≤ x.queries →
            t.ledger.orphans = (s.ledger.orphans.filter fun y => y.serial ≠ serial)
              ∧ s.tells t .orphanDiscarded [serial, x.owner, DiscardCause.limit.code])
          ∧ (x.queries < 12 → t.orphan serial = some { x with answerWait := none }))
      ∧ ((s.orphan serial).all (fun x => x.answerWait.isNone) = true → SameBut Parts.settled s t)
      ∧ SameBut { Parts.settled with orphans := true } s t)

/-- PRESENCE and the frames that are not delivered (R161 to R163, R172, R175, R176): a changed edge list is stored
and the zone recomputed; a frame that R175 does not deliver only freshens its sender's entry, one it delivers is its
payload's command, and one of an impossible source makes no entry; a frame under this station's own number is
reported and makes no entry. Every frame received correctly, delivered or not, is acknowledged and lowers the
receive score by 1, not below 0 (R161); a fault raises it by 1, but for another station's fault mark. The model's
choices it rests on: logs 8, 12, 13. -/
def Obligations.FramesWithoutDelivery : Prop :=
  ∀ s : State,
    let good := fun t : State =>
      t.line.drive = .acknowledge ∧ t.line.rxScore = s.line.rxScore - 1 ∧ t.line.txScore = s.line.txScore
        ∧ t.line.state = (if 100 ≤ t.line.txScore ∨ 100 ≤ t.line.rxScore then .quiet else .joined)
    (∀ (f : Sender) (p : Payload), s.hears f → ∃ t, exec (payloadCommand f p) s = .next t ∧ good t) ∧
    (∀ (f : Sender) (edges : List (Nat × Bool)), s.hears f → edges.length ≤ 4 →
      edges.all (fun x => stationOk x.1) = true →
      ∃ t, exec (.presence f edges) s = .next t
        ∧ Tab.get t.line.peers f.station = some ⟨f.epoch, edges, 0⟩
        ∧ (∀ p, Tab.get s.line.peers f.station = some p → p.edges ≠ edges → t.planner.zone = t.zoneNow)
        ∧ (∀ p, Tab.get s.line.peers f.station = some p → p.edges = edges → SameBut Parts.heard s t)
        ∧ SameBut { Parts.heard with channels := true, zone := true } s t) ∧
    (∀ f : LineFrame, s.hears f.sender →
      (takenBy s.self f = none → ∃ t, exec (.frameForOtherStation f) s = .next t
        ∧ t.freshPeer f.sender ∧ good t ∧ SameBut Parts.heard s t) ∧
      (∀ p, takenBy s.self f = some p →
        exec (.frameForOtherStation f) s = exec (payloadCommand f.sender p) s)) ∧
    (∀ f : LineFrame,
      (f.precedence ≠ precedenceOf f.kind → takenBy s.self f = none)
        ∧ (broadcastKind f.kind = true → f.destination ≠ 0 → takenBy s.self f = none)
        ∧ (broadcastKind f.kind = false → f.destination ≠ s.self → takenBy s.self f = none)
        ∧ (f.kind = 0 ∨ 11 < f.kind → takenBy s.self f = none)
        ∧ (f.source = s.self →
            exec (.frameForOtherStation f) s = exec (.duplicateStation f.kind f.epoch) s)) ∧
    (s.running = true → s.line.state.live = true → s.line.txScore < 200 →
      (∀ f : LineFrame, stationOk f.source = false → f.source ≠ s.self →
        ∃ t, exec (.frameForOtherStation f) s = .next t
          ∧ good t ∧ SameBut { Parts.settled with lineState := true } s t) ∧
      (∀ kind epoch, ∃ t, exec (.duplicateStation kind epoch) s = .next t
        ∧ s.tells t .duplicateStation [kind, epoch] ∧ good t
        ∧ SameBut { Parts.settled with lineState := true } s t) ∧
      (∃ t, exec (.receiveFault .otherMark) s = .next t ∧ SameBut Parts.settled s t) ∧
      (∀ x, x ≠ .otherMark → ∃ t, exec (.receiveFault x) s = .next t
        ∧ t.line.rxScore = min (s.line.rxScore + 1) 255 ∧ t.line.txScore = s.line.txScore
        ∧ t.line.drive = (if s.line.state = .quiet then .recessive else .faultMark)
        ∧ t.line.state
            = (if 100 ≤ t.line.txScore ∨ 100 ≤ t.line.rxScore then .quiet else .joined)
        ∧ SameBut { Parts.settled with lineState := true } s t))

/-! ### Peers, own frames and the line -/

/-- Peers join, change epoch and are lost (R24, R63, R67, R88, R172 to R174): a frame of an unknown station makes a
fresh entry; one under another epoch, and 7 s of silence, drop what the peer held: its claims, its trunks, its
channels and the relays on them, its places among the listeners of exports, and its feeds. A peer heard within 7 s
is not lost. The model's choices it rests on: logs 2, 8, 12, 16. -/
def Obligations.PeersComeAndGo : Prop :=
  ∀ (s : State) (f : LineFrame) (q : Nat), s.running = true →
    let gone := fun (t : State) (q : Nat) =>
      (∀ e ∈ t.planner.peerClaims, e.station ≠ q) ∧ (∀ e ∈ t.planner.trunks, ∀ age, e.2 ≠ .peer q age)
        ∧ (∀ e ∈ t.relay.directory, e.station ≠ q) ∧ (∀ e ∈ t.feed.contexts, e.2.partner ≠ q)
        ∧ (∀ b bo c, s.boothRec b = some bo → bo.input = .remote q c → t.relayDropped b)
        ∧ (∀ c e, Tab.get t.relay.exported c = some e → ∀ l ∈ e.listeners, l.station ≠ q)
        ∧ ∀ c e, Tab.get s.relay.exported c = some e → (∀ l ∈ e.listeners, l.station = q) →
            Tab.get t.relay.exported c = none
    let all :=
      { Parts.heard with
        channels := true, zone := true, claims := true, trunks := true, booths := true, desks := true
        directory := true, exported := true, feeds := true, contexts := true, orphans := true }
    (s.line.state.live = true → s.line.txScore < 200 → stationOk f.source = true → f.source ≠ s.self →
      takenBy s.self f = none →
      (Tab.get s.line.peers f.source = none →
        ∃ t, exec (.frameForOtherStation f) s = .next t
          ∧ Tab.get t.line.peers f.source = some ⟨f.epoch, [], 0⟩
          ∧ s.tells t .peerJoined [f.source, f.epoch]
          ∧ SameBut { Parts.heard with orphans := true } s t) ∧
      (∀ p, Tab.get s.line.peers f.source = some p → p.epoch ≠ f.epoch →
        ∃ t, exec (.frameForOtherStation f) s = .next t
          ∧ Tab.get t.line.peers f.source = some ⟨f.epoch, [], 0⟩
          ∧ gone t f.source
          ∧ s.tells t .peerJoined [f.source, f.epoch]
          ∧ SameBut all s t)) ∧
    (∀ p, Tab.get s.line.peers q = some p → 7000 ≤ p.age →
      ∃ t, exec (.peerLost q) s = .next t
        ∧ Tab.get t.line.peers q = none
        ∧ (∀ j, j ≠ q → Tab.get t.line.peers j = Tab.get s.line.peers j)
        ∧ gone t q
        ∧ s.tells t .peerLost [q, p.epoch]
        ∧ SameBut { all with lineState := false } s t) ∧
    (∀ p, Tab.get s.line.peers q = some p → p.age < 7000 →
      ∃ t, exec (.peerLost q) s = .next t ∧ SameBut Parts.settled s t) ∧
    (Tab.get s.line.peers q = none → ∃ t, exec (.peerLost q) s = .next t ∧ SameBut Parts.settled s t)

/-- Own frames (R159 to R163, R165, R166, R168): the oldest frame of the lowest precedence number goes on the line,
bit by bit under the epoch as it stands. Success removes it and lowers the transmit score by 1; lost arbitration
keeps it; a failure costs 8, or nothing for a NO ACK in QUIET, and at the sixteenth NO ACK in a row removes it with
FRAME UNHEARD. A score of 200 sends the station OFF-LINE without its peers and feeds. The model's choices it rests
on: logs 6, 12, 31, 37. -/
def Obligations.OwnFrames : Prop :=
  ∀ s : State, s.running = true → s.line.state.live = true → s.line.txScore < 200 →
    let line := { Parts.settled with lineState := true }
    let scored := fun t : State =>
      t.line.rxScore = s.line.rxScore
        ∧ t.line.state = (if 100 ≤ t.line.txScore ∨ 100 ≤ t.line.rxScore then .quiet else .joined)
        ∧ SameBut line s t
    (∀ f, s.frameOut = none → headFrame s.line.queue = some f →
      (∃ before after, s.line.queue = before ++ f :: after
        ∧ (∀ g ∈ before, f.payload.precedence < g.payload.precedence)
        ∧ ∀ g ∈ after, f.payload.precedence ≤ g.payload.precedence) ∧
      ∃ t, exec .frameTransmitStart s = .next t
        ∧ t.frameOut = some { f with sending := some s.line.epoch } ∧ SameBut line s t
        ∧ t.line.drive = .frame (frameBits s.self f.dest s.line.epoch f.payload)) ∧
    (s.frameOut.isSome = true ∨ s.line.queue = [] →
      ∃ t, exec .frameTransmitStart s = .next t ∧ SameBut Parts.settled s t) ∧
    (∀ g, (startFrame s).frameOut = some g →
      (∃ t, exec .lostArbitration s = .next t
        ∧ t.line.drive = .nothing ∧ t.line.txScore = s.line.txScore
        ∧ (g.payload.key = none → { g with sending := none, noAcks := 0 } ∈ t.line.queue) ∧ SameBut line s t) ∧
      (∃ t, exec .transmitSuccess s = .next t
        ∧ t.line.drive = .nothing ∧ t.line.txScore = s.line.txScore - 1
        ∧ t.line.queue.count g + 1 = (startFrame s).line.queue.count g ∧ scored t) ∧
      (∀ x, let cost := if x = .noAck ∧ s.line.state = .quiet then 0 else 8
        let noAcks := if x = .noAck then g.noAcks + 1 else 0
        ∃ t, exec (.transmitFailure x) s = .next t
          ∧ t.line.txScore = s.line.txScore + cost
          ∧ t.line.drive = (if s.line.state = .quiet then .recessive else .faultMark)
          ∧ (16 ≤ noAcks → s.tells t .frameUnheard [g.payload.code, g.dest]
              ∧ (s.line.txScore + cost < 200 →
                  t.line.queue.count g + 1 = (startFrame s).line.queue.count g)
              ∧ (200 ≤ s.line.txScore + cost → g ∉ t.line.queue))
          ∧ (noAcks < 16 → g.payload.key = none → s.line.txScore + cost < 200 →
              { g with sending := none, noAcks := noAcks } ∈ t.line.queue)
          ∧ (s.line.txScore + cost < 200 → scored t)
          ∧ (200 ≤ s.line.txScore + cost →
              t.line.state = .offLine ∧ t.line.peers = [] ∧ t.feed.contexts = []
                ∧ s.tells t .lineState [LineState.offLine.code, s.line.txScore + cost, s.line.rxScore])))

/-- The line's states and the presence timer (R164, R166, R167, R170, R171): thirteen recessive bits join a JOINING
station with a PRESENCE; an OFF-LINE one rejoins at the eightieth sequence with its scores 0 and its epoch a step
on, announcing its claims again; every 2 s a station on the line sends a PRESENCE. The model's choices it rests on:
logs 2, 5, 11, 12, 37. -/
def Obligations.LineStates : Prop :=
  ∀ s : State, s.running = true →
    let rejoined := fun t : State =>
      t.line.state = .joined ∧ t.line.txScore = 0 ∧ t.line.rxScore = 0 ∧ t.line.sequences = 0
        ∧ t.line.epoch = (s.line.epoch + 1) % 256 ∧ t.line.presence = some 2000
        ∧ s.sends t 0 (.presence s.ownEdges)
        ∧ (∀ c ch sc, Tab.wf s.planner.channels = true → s.channel c = some ch → ch.subcarrier = some sc →
            ch.confirmed = false → ch.state ≠ .starved →
            ∃ ch', t.channel c = some ch' ∧ ch'.state = ch.state ∧ ch'.subcarrier = some sc ∧ ch'.window = some 600)
        ∧ (∀ c ch sc, Tab.wf s.planner.channels = true → s.channel c = some ch → ch.subcarrier = some sc →
            ch.confirmed = false → ch.state ≠ .starved →
            (∀ k x, s.channel k = some x → x.subcarrier = some sc → k = c) →
            s.sends t 0 (.claim (.subcarrier sc) .claim c ch.language))
        ∧ (∀ tr ph u w r, Tab.wf s.planner.trunks = true → s.trunk tr = some (.own ph false u w r) →
            t.trunk tr = some (.own ph false u (some 600) none)
              ∧ s.sends t 0 (.claim (.trunk tr) .claim (s.trunkLabel u).1 (s.trunkLabel u).2))
        ∧ s.tells t .lineState [LineState.joined.code, 0, 0]
        ∧ SameBut
            { Parts.settled with
              channels := true, trunks := true, lineState := true, presence := true, epoch := true }
            s t
    (s.line.state = .joining →
      ∃ t, exec .lineJoined s = .next t
        ∧ t.line.state = .joined ∧ t.line.presence = some 2000 ∧ s.sends t 0 (.presence s.ownEdges)
        ∧ SameBut { Parts.settled with lineState := true, presence := true } s t) ∧
    (s.line.state ≠ .joining → ∃ t, exec .lineJoined s = .next t ∧ SameBut Parts.settled s t) ∧
    (s.line.state = .offLine →
      (∃ t, exec .rejoin s = .next t ∧ rejoined t) ∧
      (79 ≤ s.line.sequences → ∃ t, exec .recessiveSequence s = .next t ∧ rejoined t) ∧
      (s.line.sequences < 79 → ∃ t, exec .recessiveSequence s = .next t
        ∧ t.line.sequences = s.line.sequences + 1 ∧ t.line.state = .offLine
        ∧ SameBut { Parts.settled with lineState := true } s t)) ∧
    (s.line.state ≠ .offLine →
      (∃ t, exec .rejoin s = .next t ∧ SameBut Parts.settled s t) ∧
      (∃ t, exec .recessiveSequence s = .next t ∧ SameBut Parts.settled s t)) ∧
    (∃ t, exec .presenceTimer s = .next t
      ∧ (s.line.presence.isSome = true → t.line.presence = some 2000)
      ∧ (s.line.presence.isSome = true → s.line.state.live = true → s.sends t 0 (.presence s.ownEdges))
      ∧ SameBut { Parts.settled with presence := true } s t
      ∧ (s.line.presence = none → SameBut Parts.settled s t))

/-! ### Expiries -/

/-- The timers of own claims and notices (R9, R10, R21, R26, R69, R75): a won window puts the channel ON AIR, in the
mask, with its refresh every 10 s, or a trunk claim HELD with its user told; a refresh announces the claim again,
but not OFF-LINE, where it queues no claim; a notice timer announces the channel again and restarts, which it does
where a full queue refuses the notice too by the model's choice (log 42). A stopped timer does nothing of its own.
The model's choices it rests on: logs 2, 9, 42. -/
def Obligations.OwnClaimTimers : Prop :=
  ∀ (s : State) (c tr : Nat) (ch : Channel), s.running = true → s.channel c = some ch →
    let noClaim := fun t : State =>
      s.line.state = .offLine → ∀ f ∈ t.line.queue, f.payload.code = 4 → f ∈ s.line.queue
    (∃ t, exec (.claimWindowExpiry c) s = .next t
      ∧ (ch.window = none → t = settle s)
      ∧ (ch.window.isSome = true →
          (t.channel c).map Channel.core = some { ch.core with
              state := .onAir, everOnAir := true, confirmed := decide (s.line.state ≠ .offLine), window := none
              refresh := some 10000 }
            ∧ ∀ sc, ch.subcarrier = some sc → sc < 32 → sc ∈ t.map.mask)
      ∧ (∀ k, k ≠ c → (t.channel k).map Channel.core = (s.channel k).map Channel.core)
      ∧ SameBut { Parts.settled with channels := true } s t) ∧
    (∃ t, exec (.claimRefresh c) s = .next t
      ∧ (ch.refresh = none → t = settle s)
      ∧ noClaim t
      ∧ (∀ sc, ch.refresh.isSome = true → ch.subcarrier = some sc →
          (t.channel c).map Channel.core = some { ch.core with refresh := some 10000 }
            ∧ (s.line.state ≠ .offLine → s.sends t 0 (.claim (.subcarrier sc) .refresh c ch.language)))
      ∧ (∀ k, k ≠ c → (t.channel k).map Channel.core = (s.channel k).map Channel.core)
      ∧ SameBut { Parts.settled with channels := true } s t) ∧
    (∃ t, exec (.noticeTimer c) s = .next t
      ∧ (ch.notice.isSome = true →
          s.sends t 0 (.channelNotice c ch.language (s.noticeState c ch) (s.exportTrunk c) ch.pedigree)
            ∧ (t.channel c).map Channel.notice = some (some 10000))
      ∧ (ch.notice = none → t = settle s)
      ∧ SameBut Parts.settled s t) ∧
    (∃ t, exec (.trunkWindowExpiry tr) s = .next t
      ∧ (∀ ph cf u w r, s.trunk tr = some (.own ph cf u (some w) r) →
          t.trunk tr = some (.own .held (decide (s.line.state ≠ .offLine)) u none (some 10000))
          ∧ (∀ k x, ph = .window → u = .feed k → s.context k = some x →
              t.context k = some { x with state := if x.boothHeld then .live else .ready, trunk := some tr }
                ∧ s.sends t x.partner (.feedState x.booth x.target (.ready tr))
                ∧ t.route (sendOutput tr) = .mic x.booth)
          ∧ (∀ k e, ph = .window → u = .exported k → Tab.get s.relay.exported k = some e →
              t.route (sendOutput tr) = .bus k
                ∧ ∀ y ∈ e.listeners, s.sends t y.station (.relayAnswer k (.grant tr)))
          ∧ (ph = .held → SameBut { Parts.settled with trunks := true } s t))
      ∧ ((∀ ph cf u w r, s.trunk tr ≠ some (.own ph cf u (some w) r)) → t = settle s)
      ∧ SameBut { Parts.settled with trunks := true, feeds := true } s t) ∧
    (∃ t, exec (.trunkRefresh tr) s = .next t
      ∧ (∀ ph cf u w r, s.trunk tr = some (.own ph cf u w (some r)) →
          t.trunk tr = some (.own ph cf u w (some 10000))
            ∧ (s.line.state ≠ .offLine →
                s.sends t 0 (.claim (.trunk tr) .refresh (s.trunkLabel u).1 (s.trunkLabel u).2)))
      ∧ ((∀ ph cf u w r, s.trunk tr ≠ some (.own ph cf u w (some r))) → t = settle s)
      ∧ noClaim t
      ∧ (∀ j, j ≠ tr → t.trunk j = s.trunk j)
      ∧ SameBut { Parts.settled with trunks := true } s t)

/-- The waits of feeds (R74, R78, R80, R82, R84): an answer or a READY that does not come ends the context with
TIMEOUT, telling the partner; after 60 s BLOCKED the holding booth is forced off and the feed holds the channel. A
stopped wait does nothing. The model's choices it rests on: logs 2, 12. -/
def Obligations.FeedWaits : Prop :=
  ∀ (s : State) (k : Nat) (x : Feed), s.running = true → s.context k = some x →
    let all :=
      { Parts.settled with
        channels := true, trunks := true, booths := true, desks := true, feeds := true, contexts := true }
    let ended := fun t : State =>
      t.context k = none ∧ s.tells t .feedEnded [k, x.partner, FeedCause.timeout.code, 0]
    (∃ t, exec (.feedAnswerWait k) s = .next t
      ∧ (x.side = .sending → x.state = .offered → x.answerWait.isSome = true →
          ended t ∧ s.sends t x.partner (.feedState x.booth x.target (.ended .timeout)))
      ∧ (x.side = .receiving ∨ x.state ≠ .offered ∨ x.answerWait = none → SameBut Parts.settled s t)
      ∧ SameBut all s t) ∧
    (∃ t, exec (.hostAnswerWait k) s = .next t
      ∧ (x.side = .receiving → x.state = .offered → x.answerWait.isSome = true →
          ended t ∧ s.sends t x.partner (.feedAnswer x.booth x.target false)
            ∧ SameBut { Parts.settled with contexts := true } s t)
      ∧ (x.side = .sending ∨ x.state ≠ .offered ∨ x.answerWait = none → SameBut Parts.settled s t)) ∧
    (∃ t, exec (.readyWait k) s = .next t
      ∧ (x.readyWait.isSome = true →
          ended t ∧ s.sends t x.partner (.feedState x.booth x.target (.ended .timeout)))
      ∧ (x.readyWait = none → SameBut Parts.settled s t)
      ∧ SameBut all s t) ∧
    (∃ t, exec (.blockedWait k) s = .next t
      ∧ (∀ ch, x.side = .receiving → x.state = .blocked → x.blockedWait.isSome = true →
          Tab.wf s.feed.contexts = true → s.channel x.target = some ch →
          t.context k = some { x with state := .holding, blockedWait := none }
            ∧ (∃ ch', t.channel x.target = some ch' ∧ ch'.holder = .feed k)
            ∧ ∀ b d bo, ch.holder = .desk b d → s.boothRec b = some bo →
                s.tells t .holdLost [b, heldCode bo.target, HoldCause.feed.code]
                  ∧ ∃ bo', t.boothRec b = some bo' ∧ bo'.holding = none ∧ bo'.overlap = none)
      ∧ (x.state ≠ .blocked ∨ x.blockedWait = none → SameBut Parts.settled s t)
      ∧ SameBut { Parts.settled with channels := true, booths := true, desks := true, feeds := true } s t)

/-- Walls (R15, R17, R171): on a bound input of a running station a new level starts 200 ms of debounce, and a
return to the reported position stops it; when it has held, the position follows, WALL CHANGED (open 0, closed 1)
and a PRESENCE are queued and the zone is recomputed. The model's choices it rests on: logs 2, 7. -/
def Obligations.Walls : Prop :=
  ∀ (s : State) (w : Nat) (x : Wall), Tab.get s.planner.walls w = some x →
    (∀ isOpen, ∃ t x', exec (.wallInputChange w isOpen) s = .next t
      ∧ Tab.get t.planner.walls w = some x'
      ∧ x'.level = isOpen ∧ x'.position = x.position
      ∧ (isOpen = x.position ∨ s.running = false ∨ Tab.has s.cfg.walls w = false → x'.debounce = none)
      ∧ (isOpen ≠ x.position → s.running = true → Tab.has s.cfg.walls w = true →
          x'.debounce = if isOpen = x.level then x.debounce else some 200)
      ∧ (∀ j, j ≠ w → Tab.get t.planner.walls j = Tab.get s.planner.walls j)
      ∧ t.events = s.events
      ∧ SameBut { walls := true } s t) ∧
    (s.running = true → ∃ t, exec (.wallDebounce w) s = .next t
      ∧ (∀ neighbour, Tab.get s.cfg.walls w = some neighbour → x.debounce.isSome = true →
          Tab.get t.planner.walls w = some { x with position := x.level, debounce := none }
            ∧ s.tells t .wallChanged [w, neighbour, if x.level then 0 else 1]
            ∧ s.sends t 0 (.presence t.ownEdges)
            ∧ t.planner.zone = t.zoneNow)
      ∧ (x.debounce = none ∨ Tab.get s.cfg.walls w = none → SameBut Parts.settled s t)
      ∧ SameBut { Parts.settled with channels := true, zone := true, walls := true, presence := true } s t)

/-- The ticks and the tests they make (R113, R114, R135, R150, R185): a second tick counts the second, and the
minute at the turn of 59, up to its limit; each held channel ON AIR gains a live second. At a minute an IDENTIFY
goes to every CHARGING and READY slot, every charging slot is tested for a dead cell after 30 minutes and for a
timeout after 240, its charge start brought back to a clock set back, and every OPEN hire past its horizon is
flagged. The test rows make that test alone. The model's choices it rests on: logs 3, 4, 12, 21. -/
def Obligations.Ticks : Prop :=
  ∀ s : State,
    let days := fun (h : Hire) (minute : Nat) => daysTouched s.cfg.dayBoundary h.start minute
    let flagged := fun (t : State) (minute : Nat) =>
      ∀ n h, Tab.get s.ledger.hires n = some h → Tab.get t.ledger.hires n = some { h with
        overdue := h.overdue || (h.closing.isNone && (s.tariff h.tariff).horizon < days h minute) }
    let charged := fun (t : State) (minute : Nat) =>
      let now : State := { s with clock := t.clock }
      ∀ k sl, s.slot k = some sl →
        let start := min (sl.chargeStart.getD minute) minute
        let dead := sl.low = true ∧ sl.battery.any (· < 10) = true
        let faulted := fun cause => t.slot k
            = some { sl with low := false, state := .fault, cause := some cause, chargeStart := none }
          ∧ now.tells t .slotFault [k, cause.code, sl.serial.getD 0]
        (sl.state = .charging ∨ sl.state = .ready → now.orders t (.identify k))
        ∧ (sl.state ≠ .charging → t.slot k = some sl)
        ∧ (sl.state = .charging → minute < start + 30 → t.slot k = some { sl with chargeStart := some start })
        ∧ (sl.state = .charging → start + 30 ≤ minute → dead → faulted .deadCell)
        ∧ (sl.state = .charging → start + 30 ≤ minute → ¬dead → minute < start + 240 →
            t.slot k = some { sl with low := false, chargeStart := some start })
        ∧ (sl.state = .charging → start + 240 ≤ minute → ¬dead → faulted .chargeTimeout)
    (∃ t, exec .secondTick s = .next t
      ∧ t.clock.second = (s.clock.second + 1) % 60
      ∧ t.clock.minute
          = (if s.clock.second = 59 ∧ s.clock.minute < 16777215 then s.clock.minute + 1 else s.clock.minute)
      ∧ (s.running = true → ∀ c, (t.channel c).map Channel.core = (s.channel c).map fun ch => { ch.core with
          liveSeconds := if s.channelHeld c ch = true ∧ ch.state = .onAir then min (ch.liveSeconds + 1) 99999999
            else ch.liveSeconds })
      ∧ (s.running = true → s.clock.second = 59 → s.clock.minute < 16777215 →
          flagged t (s.clock.minute + 1) ∧ charged t (s.clock.minute + 1))
      ∧ (s.running = true → s.clock.second ≠ 59 ∨ 16777215 ≤ s.clock.minute →
          SameBut { Parts.settled with openings := true } { s with clock := t.clock } t)
      ∧ SameBut { Parts.settled with openings := true, slots := true, hires := true } { s with clock := t.clock } t
      ∧ (s.running = false → t = { s with clock := t.clock })) ∧
    (∃ t, exec .minuteTick s = .next t
      ∧ (16777215 ≤ s.clock.minute → t = s)
      ∧ (s.clock.minute < 16777215 →
          t.clock = { s.clock with minute := s.clock.minute + 1, second := 0 }
            ∧ (s.running = true → flagged t (s.clock.minute + 1) ∧ charged t (s.clock.minute + 1))
            ∧ (s.running = false → t = { s with clock := t.clock }))
      ∧ SameBut { Parts.settled with slots := true, hires := true } { s with clock := t.clock } t) ∧
    (s.running = true →
      (∀ n h, Tab.get s.ledger.hires n = some h → ∃ t, exec (.overdue n) s = .next t
        ∧ Tab.get t.ledger.hires n = some { h with
            overdue := h.overdue
              || (h.closing.isNone && (s.tariff h.tariff).horizon < days h s.clock.minute) }
        ∧ (h.closing = none → h.overdue = false → (s.tariff h.tariff).horizon < days h s.clock.minute →
            s.tells t .overdue [n, h.account, h.start, days h s.clock.minute])
        ∧ (∀ j, j ≠ n → Tab.get t.ledger.hires j = Tab.get s.ledger.hires j)
        ∧ SameBut { Parts.settled with hires := true } s t) ∧
      (∀ k sl m, s.slot k = some sl → sl.state = .charging → sl.chargeStart = some m → m ≤ s.clock.minute →
        (∃ t, exec (.deadCell k) s = .next t
          ∧ (s.clock.minute < m + 30 → t.slot k = some sl)
          ∧ (m + 30 ≤ s.clock.minute → sl.low = true → sl.battery.any (· < 10) = true →
              t.slot k = some { sl with low := false, state := .fault, cause := some .deadCell, chargeStart := none }
                ∧ s.tells t .slotFault [k, SlotCause.deadCell.code, sl.serial.getD 0])
          ∧ (m + 30 ≤ s.clock.minute → sl.low = false ∨ sl.battery.any (· < 10) = false →
              t.slot k = some { sl with low := false })
          ∧ (∀ j, j ≠ k → t.slot j = s.slot j) ∧ SameBut { Parts.settled with slots := true } s t) ∧
        (∃ t, exec (.chargeTimeout k) s = .next t
          ∧ (s.clock.minute < m + 240 → t.slot k = some sl)
          ∧ (m + 240 ≤ s.clock.minute →
              t.slot k = some { sl with state := .fault, cause := some .chargeTimeout, chargeStart := none }
                ∧ s.tells t .slotFault [k, SlotCause.chargeTimeout.code, sl.serial.getD 0])
          ∧ (∀ j, j ≠ k → t.slot j = s.slot j) ∧ SameBut { Parts.settled with slots := true } s t)))

/-! ### The map and the mask -/

/-- The end of a map cycle and of a mask word (R92, R93, R96): the hold count falls by 1; an equal back map, or a
hold that has not run out, keeps the front; otherwise the back map becomes the front under the next version, held n
cycles in HOLD mode when a channel's subcarrier differs. A complete mask word is the driver's; another starts where
the values have changed. The model's choices it rests on: logs 4, 37, 43. -/
def Obligations.MapAndMask : Prop :=
  ∀ s : State, s.running = true →
    let hold := s.map.holdCount - 1
    let keeps := s.map.back.records = s.map.front.records ∨ 0 < hold
    let retune := ∃ r ∈ s.map.back.records, ∃ o, recordOf s.map.front r.channel = some o ∧ o.subcarrier ≠ r.subcarrier
    (∃ t, exec .mapCycleEnd s = .next t
      ∧ (s.map.radiator = false → SameBut Parts.settled s t)
      ∧ (s.map.radiator = true → keeps → t.map.front = s.map.front ∧ t.map.holdCount = hold)
      ∧ (s.map.radiator = true → ¬keeps →
          t.map.front = { s.map.back with version := (s.map.front.version + 1) % 256 }
            ∧ (s.cfg.hold = true → retune → t.map.holdCount = s.cfg.retuneHold)
            ∧ (s.cfg.hold = false ∨ ¬retune → t.map.holdCount = 0))
      ∧ t.map.radiator = s.map.radiator
      ∧ SameBut { Parts.settled with mapFront := true } s t) ∧
    (s.map.radiator = true → s.map.holdCount = 1 → exec .retuneHoldExpiry s = exec .mapCycleEnd s) ∧
    (s.map.radiator = false ∨ s.map.holdCount ≠ 1 →
      ∃ t, exec .retuneHoldExpiry s = .next t ∧ SameBut Parts.settled s t) ∧
    (∃ t, exec .maskWordSent s = .next t
      ∧ (s.map.sending = none → SameBut Parts.settled s t)
      ∧ (∀ w, s.map.sending = some w → s.maskFollows →
          t.map.driver = some w
            ∧ t.map.sending
                = (if w = ⟨s.map.radiator, s.map.mask⟩ then none else some ⟨s.map.radiator, s.map.mask⟩)
            ∧ t.map.mask = s.map.mask)
      ∧ SameBut { Parts.settled with mapFront := true } s t)

/-! ### The panel bus and the dock -/

/-- The panel arbiter (R103, R108): with the line free the oldest message of the earliest class goes out, address,
kind and data; with none waiting the next poll of the round. Nothing goes out while an exchange is on the line. The
model's choices it rests on: logs 25, 58. -/
def Obligations.PanelArbiter : Prop :=
  ∀ s : State, s.running = true →
    let line := { Parts.settled with panelLine := true }
    (s.panel.exchange.isSome = true → ∃ t, exec .panelExchangeStart s = .next t ∧ SameBut Parts.settled s t) ∧
    (s.panel.exchange = none → ∃ t, exec .panelExchangeStart s = .next t
      ∧ (∀ m, nextMessage s.panel.outbound = some m →
          m.sending = false
            ∧ (∃ before after, s.panel.outbound = before ++ m :: after
              ∧ (∀ n ∈ before, n.sending = false → m.body.cls < n.body.cls)
              ∧ ∀ n ∈ after, n.sending = false → m.body.cls ≤ n.body.cls)
            ∧ t.panel.exchange = some .message ∧ { m with sending := true } ∈ t.panel.outbound
            ∧ t.panel.out = .words (m.body.words (s.sourceOf m.body))
            ∧ t.panel.polls = s.panel.polls ∧ t.panel.round = s.panel.round)
      ∧ (∀ a rest, nextMessage s.panel.outbound = none → s.panel.polls = some (a :: rest) →
          t.panel.exchange = some (.poll a) ∧ t.panel.out = .words (pollWords a) ∧ t.panel.polls = some rest
            ∧ t.panel.round = s.panel.round ∧ t.panel.rotation = s.panel.rotation)
      ∧ (∀ a rest, nextMessage s.panel.outbound = none → s.panel.polls = none → s.roundPolls = a :: rest →
          t.panel.exchange = some (.poll a) ∧ t.panel.polls = some rest ∧ t.panel.round = s.panel.round
            ∧ t.panel.rotation = s.nextRotation)
      ∧ (∀ a rest, nextMessage s.panel.outbound = none → s.panel.polls = some [] →
          { s with panel.round := (s.panel.round + 1) % 16 }.roundPolls = a :: rest →
          t.panel.exchange = some (.poll a) ∧ t.panel.polls = some rest
            ∧ t.panel.round = (s.panel.round + 1) % 16 ∧ t.panel.rotation = s.nextRotation)
      ∧ SameBut line s t) ∧
    s.roundSlots.length ≤ 8

/-- Desk keys (R32 to R42, R56, R83) and the overlap timer (R36), with the desk ONLINE and the line free for its
poll: a TAKE in SESSION of an open channel that nobody holds makes the desk LIVE, its gate open, and the booth the
holder of the channel; outside SESSION it is refused with a flash of OFF AIR. Where another desk of the booth holds,
its mode refuses with BOOTH BUSY, hands the hold over, or begins an overlap; where another booth or a feed holds the
channel, the interlock refuses with ENGAGED, or forces the booth off and preempts the feed. COUGH ON and OFF move a
LIVE desk to COUGH and back with its gate alone; a RELEASE gives the hold up; an OUTPUT key of a booth that holds
nothing selects, from the holding desk moves the hold to that output, and from another desk is refused with BOOTH
BUSY. A RELAY key is taken as SELECT RELAY or refused with a flash of RELAY LOST. In an overlap (R37, R38) a TAKE of
a third desk and an OUTPUT key are refused with BOOTH BUSY, a TAKE of the two has no effect, a COUGH key sets or
clears the desk's mark, and a RELEASE of the OUT desk leaves the hold to the IN desk, of the IN desk to the OUT
desk. The model's choices it rests on: logs 2, 6, 12. -/
def Obligations.DeskKeys : Prop :=
  ∀ (s : State) (d : Nat) (r : Desk) (bo : Booth), s.running = true → s.desk d = some r →
    s.boothRec r.booth = some bo → s.dropOnline d = true → s.panel.exchange = none ∨ s.panel.exchange = some (.poll d) →
    let keys := { Parts.settled with desks := true, panelLine := true, drops := true }
    let others := fun t : State => ∀ d', d' ≠ d → (t.desk d').map Desk.core = (s.desk d').map Desk.core
    let hold := { keys with channels := true, booths := true, feeds := true }
    let refused := fun (key : Key) (lamp : Lamp) =>
      s.panel.outbound = [] → s.panel.deferred = [] → s.gateOf r = r.gate → s.lampsOf d r = r.lamps →
      ∃ t, exec (.deskPollReply d [key]) s = .next t
        ∧ s.orders t (.lamps d r.lamps (some lamp))
        ∧ SameBut { Parts.settled with panelLine := true, drops := true } s t
    let holds := fun (t : State) (c : Nat) =>
      (∃ r', t.desk d = some r' ∧ r'.state = .live ∧ r'.gate = true)
        ∧ (∃ bo', t.boothRec r.booth = some bo' ∧ bo'.holding = some d)
        ∧ (∃ ch', t.channel c = some ch' ∧ ch'.holder = .desk r.booth d)
        ∧ t.route (busOutput c) = .mic r.booth
    (∃ t, exec (.deskPollReply d []) s = .next t ∧ t.panel.exchange = none
      ∧ SameBut { Parts.settled with panelLine := true, drops := true } s t) ∧
    (∀ c ch, s.planner.hall = .session → r.state = .off → bo.target = some (.channel c) → s.channel c = some ch →
      1 ≤ c → c ≤ 31 → ch.holder = .none → bo.holding = none → bo.overlap = none →
      ∃ t r' bo' ch', exec (.deskPollReply d [.take]) s = .next t
        ∧ t.desk d = some r' ∧ r'.state = .live ∧ r'.gate = true ∧ r'.lamps.live = .steady
        ∧ t.boothRec r.booth = some bo' ∧ bo'.holding = some d ∧ t.channel c = some ch' ∧ ch'.holder = .desk r.booth d
        ∧ t.route (busOutput c) = .mic r.booth ∧ others t ∧ SameBut hold s t) ∧
    (s.planner.hall ≠ .session → r.state = .off → s.panel.outbound = [] → s.panel.deferred = [] →
      s.gateOf r = r.gate → s.lampsOf d r = r.lamps →
      ∃ t, exec (.deskPollReply d [.take]) s = .next t
        ∧ s.orders t (.lamps d r.lamps (some .offAir))
        ∧ SameBut { Parts.settled with panelLine := true, drops := true } s t) ∧
    (∀ c ch h y, s.planner.hall = .session → r.state = .off → bo.target = some (.channel c) →
      s.channel c = some ch → 1 ≤ c → c ≤ 31 → ch.holder = .desk r.booth h → bo.holding = some h → h ≠ d →
      bo.overlap = none → s.desk h = some y → y.state = .live ∨ y.state = .cough →
      (bo.mode = .interlock → refused .take .boothBusy) ∧
      (bo.mode = .takeOver → s.route (busOutput c) = .mic r.booth →
        ∃ t y', exec (.deskPollReply d [.take]) s = .next t
          ∧ holds t c ∧ t.desk h = some y' ∧ y'.state = .off ∧ y'.cough = false ∧ SameBut hold s t) ∧
      (bo.mode = .overlap →
        ∃ t r' y' bo' ch', exec (.deskPollReply d [.take]) s = .next t
          ∧ t.desk d = some r' ∧ r'.state = .overlapIn ∧ r'.cough = r.cough
          ∧ t.desk h = some y' ∧ y'.state = .overlapOut ∧ y'.cough = decide (y.state = .cough)
          ∧ t.boothRec r.booth = some bo' ∧ bo'.holding = some h ∧ bo'.partner = some d
          ∧ bo'.overlap = some bo.overlapMs
          ∧ t.channel c = some ch' ∧ ch'.holder = .desk r.booth h ∧ SameBut hold s t)) ∧
    (∀ c ch, s.planner.hall = .session → r.state = .off → bo.target = some (.channel c) → s.channel c = some ch →
      1 ≤ c → c ≤ 31 → bo.holding = none → bo.overlap = none →
      (∀ b x other, ch.holder = .desk b x → b ≠ r.booth → s.boothRec b = some other →
        (s.cfg.interlock = .refuse → refused .take .engaged) ∧
        (s.cfg.interlock = .takeOver → d ∉ other.desks →
          ∃ t other', exec (.deskPollReply d [.take]) s = .next t
            ∧ holds t c ∧ s.tells t .holdLost [b, heldCode other.target, HoldCause.takeOver.code]
            ∧ t.boothRec b = some other' ∧ other'.holding = none ∧ SameBut hold s t)) ∧
      (∀ k x, ch.holder = .feed k → s.context k = some x → x.side = .receiving →
        (s.cfg.interlock = .refuse → refused .take .engaged) ∧
        (s.cfg.interlock = .takeOver →
          ∃ t, exec (.deskPollReply d [.take]) s = .next t
            ∧ holds t c ∧ s.tells t .feedPreempted [k, c, r.booth]
            ∧ (Tab.wf s.feed.contexts = true → t.context k = some { x with state := .routed })
            ∧ SameBut hold s t))) ∧
    (s.planner.hall = .session → bo.overlap = none →
      (r.state = .live → ∃ t r', exec (.deskPollReply d [.coughOn]) s = .next t
        ∧ t.desk d = some r' ∧ r'.state = .cough ∧ r'.gate = false ∧ r'.lamps.live = .blinking ∧ others t
        ∧ SameBut keys s t) ∧
      (r.state = .cough → ∃ t r', exec (.deskPollReply d [.coughOff]) s = .next t
        ∧ t.desk d = some r' ∧ r'.state = .live ∧ r'.gate = true ∧ r'.lamps.live = .steady ∧ others t
        ∧ SameBut keys s t)) ∧
    (∀ c ch, r.state = .live ∨ r.state = .cough → bo.target = some (.channel c) → s.channel c = some ch →
      1 ≤ c → c ≤ 31 → ch.holder = .desk r.booth d → s.waitingFeed c = none →
      ∃ t r' bo' ch', exec (.deskPollReply d [.release]) s = .next t
        ∧ t.desk d = some r' ∧ r'.state = .off ∧ r'.cough = false ∧ t.boothRec r.booth = some bo' ∧ bo'.holding = none
        ∧ t.channel c = some ch' ∧ ch'.holder = .none ∧ ch'.state = ch.state
        ∧ t.route (busOutput c) = .none ∧ others t ∧ SameBut hold s t) ∧
    (bo.selected = .a → bo.overlap = none → bo.holding = none →
      ∃ t, exec (.deskPollReply d [.outputB]) s = .next t
        ∧ t.boothRec r.booth = some { bo with selected := .b }
        ∧ SameBut { Parts.settled with booths := true, panelLine := true, drops := true } s t) ∧
    (bo.selected = .b → bo.overlap = none → bo.holding = none →
      ∃ t, exec (.deskPollReply d [.outputA]) s = .next t
        ∧ t.boothRec r.booth = some { bo with selected := .a }
        ∧ SameBut { Parts.settled with booths := true, panelLine := true, drops := true } s t) ∧
    (∀ h, bo.overlap = none → bo.holding = some h → h ≠ d →
      (bo.selected = .a → refused .outputB .boothBusy) ∧ (bo.selected = .b → refused .outputA .boothBusy)) ∧
    (∀ a c cha ch, s.planner.hall = .session → r.state = .live → bo.selected = .b → bo.feed = none →
      bo.outputB = some a → bo.outputA = some c → a ≠ c → bo.overlap = none → bo.holding = some d →
      s.channel a = some cha → cha.holder = .desk r.booth d → s.waitingFeed a = none → s.channel c = some ch →
      ch.holder = .none → 1 ≤ a → a ≤ 31 → 1 ≤ c → c ≤ 31 →
      ∃ t bo' cha', exec (.deskPollReply d [.outputA]) s = .next t
        ∧ holds t c ∧ t.boothRec r.booth = some bo' ∧ bo'.selected = .a ∧ bo'.holding = some d
        ∧ t.channel a = some cha' ∧ cha'.holder = .none ∧ t.route (busOutput a) = .none
        ∧ others t ∧ SameBut hold s t) ∧
    (r.state = .live → bo.selected = .b → bo.overlap = none → bo.holding = some d → bo.outputA = none →
      bo.feed = none → refused .outputA .offAir) ∧
    (∀ src, s.accepts r.booth bo src = false → refused (.relay src) .relayLost) ∧
    (∀ src, s.accepts r.booth bo src = true →
      (src = bo.input → bo.relay = .relayed ∨ bo.relay = .waiting →
        ∃ t, exec (.deskPollReply d [.relay src]) s = .next t
          ∧ SameBut { Parts.settled with panelLine := true, drops := true } s t) ∧
      (s.boothMute r.booth → ¬(src = bo.input ∧ (bo.relay = .relayed ∨ bo.relay = .waiting)) →
        ∃ t, exec (.deskPollReply d [.relay src]) s = .next t
          ∧ t.boothRec r.booth = some { bo with
              input := src
              relay := match src with
                | .own _ => .relayed
                | .remote _ _ => .waiting
                | _ => .none
              sourceTrunk := none
              answerWait := match src with
                | .remote _ _ => some 3000
                | _ => none }
          ∧ (∀ q c, src = .remote q c → s.sends t q (.relayRequest c r.booth))
          ∧ SameBut { Parts.settled with booths := true, panelLine := true, drops := true } s t)) ∧
    (∀ out inn, bo.overlap.isSome = true → bo.holding = some out → bo.partner = some inn → out ≠ inn →
      (s.planner.hall = .session → r.state = .off → s.nothingToHold bo.target = false → refused .take .boothBusy) ∧
      (r.state ≠ .off → ∃ t, exec (.deskPollReply d [.take]) s = .next t
        ∧ SameBut { Parts.settled with panelLine := true, drops := true } s t) ∧
      (bo.selected = .a → refused .outputB .boothBusy) ∧ (bo.selected = .b → refused .outputA .boothBusy) ∧
      (r.state = .overlapOut ∨ r.state = .overlapIn →
        (∃ t r', exec (.deskPollReply d [.coughOn]) s = .next t
          ∧ t.desk d = some r' ∧ r'.state = r.state ∧ r'.cough = true ∧ r'.gate = false ∧ others t
          ∧ SameBut keys s t) ∧
        (∃ t r', exec (.deskPollReply d [.coughOff]) s = .next t
          ∧ t.desk d = some r' ∧ r'.state = r.state ∧ r'.cough = false
          ∧ r'.gate = decide (s.planner.hall = .session) ∧ others t ∧ SameBut keys s t)) ∧
      (∀ x, d = out → r.state = .overlapOut → s.desk inn = some x →
        ∃ t r' x' bo', exec (.deskPollReply d [.release]) s = .next t
          ∧ t.desk d = some r' ∧ r'.state = .off ∧ r'.cough = false
          ∧ t.desk inn = some x' ∧ x'.state = (if x.cough then .cough else .live) ∧ x'.cough = false
          ∧ t.boothRec r.booth = some bo' ∧ bo'.holding = some inn ∧ bo'.partner = none ∧ bo'.overlap = none
          ∧ SameBut hold s t) ∧
      (∀ y, d = inn → r.state = .overlapIn → s.desk out = some y →
        ∃ t r' y' bo', exec (.deskPollReply d [.release]) s = .next t
          ∧ t.desk d = some r' ∧ r'.state = .off ∧ r'.cough = false
          ∧ t.desk out = some y' ∧ y'.state = (if y.cough then .cough else .live) ∧ y'.cough = false
          ∧ t.boothRec r.booth = some bo' ∧ bo'.holding = some out ∧ bo'.partner = none ∧ bo'.overlap = none
          ∧ SameBut hold s t)) ∧
    (∀ a c cha ch, s.planner.hall = .session → r.state = .live → bo.selected = .a → bo.feed = none →
      bo.outputA = some a → bo.outputB = some c → a ≠ c → bo.overlap = none → bo.holding = some d →
      s.channel a = some cha → cha.holder = .desk r.booth d → s.waitingFeed a = none → s.channel c = some ch →
      ch.holder = .none → 1 ≤ a → a ≤ 31 → 1 ≤ c → c ≤ 31 →
      ∃ t bo' cha', exec (.deskPollReply d [.outputB]) s = .next t
        ∧ holds t c ∧ t.boothRec r.booth = some bo' ∧ bo'.selected = .b ∧ bo'.holding = some d
        ∧ t.channel a = some cha' ∧ cha'.holder = .none ∧ t.route (busOutput a) = .none
        ∧ others t ∧ SameBut hold s t) ∧
    (r.state = .live → bo.selected = .a → bo.overlap = none → bo.holding = some d → bo.outputB = none →
      refused .outputB .offAir) ∧
    (∀ out inn, bo.overlap.isSome = true → bo.holding = some out → bo.partner = some inn → out ≠ inn →
      ∀ x, s.desk inn = some x →
      ∃ t x' bo', exec (.overlapTimer r.booth) s = .next t
        ∧ t.boothRec r.booth = some bo' ∧ bo'.holding = some inn ∧ bo'.partner = none ∧ bo'.overlap = none
        ∧ t.desk inn = some x' ∧ x'.state = (if x.cough then .cough else .live) ∧ x'.cough = false
        ∧ (∀ y, t.desk out = some y → y.state = .off ∧ y.cough = false)
        ∧ SameBut { Parts.settled with channels := true, booths := true, desks := true, feeds := true } s t)

/-- What a slot's replies find (R112, R113, R115, R116, R119, R123), with its drop ONLINE and the line free: a
receiver in an EMPTY slot is to be identified; one that has gone empties the slot, leaves the ready queue, and opens
its hire when its issue waits for the removal, and so does an IDENTIFY answered empty. An identified stock receiver
charges, or is READY and joins the queue; one of an OPEN hire is returned, one on the lost list is recovered, one of
another station makes an orphan and a query; one whose record waits as CLOSING is held until the record leaves the
table. A battery reading moves CHARGING and READY at the ready level and ten below it. A reply that reaches a slot
in OFFLINE leaves it EMPTY, or in FAULT LINK with a receiver. The model's choices it rests on: logs 6, 12, 27. -/
def Obligations.SlotReplies : Prop :=
  ∀ (s : State) (k : Nat) (sl : Slot), s.running = true → s.slot k = some sl → s.dropOnline (slotAddress k) = true →
    s.panel.exchange = none ∨ s.panel.exchange = some (.poll (slotAddress k)) →
    let poll :=
      { Parts.settled with
        desks := true, panelLine := true, drops := true, slots := true, ready := true, issues := true, hires := true
        account := true }
    let others := fun t : State => ∀ j, j ≠ k → t.slot j = s.slot j
    let removed := fun t : State =>
      (sl.state ≠ .empty → sl.state ≠ .offline → t.slot k = some Slot.empty)
      ∧ (sl.state = .reading → s.tells t .slotCleared [k, SlotState.reading.code])
      ∧ (sl.state = .charging → s.tells t .unissuedRemoval [k, sl.serial.getD 0])
      ∧ (sl.state = .ready → s.tells t .unissuedRemoval [k, sl.serial.getD 0]
          ∧ ∀ e ∈ t.dock.ready, e.slot ≠ k)
      ∧ (sl.state = .fault → s.tells t .slotCleared
          [k, SlotState.fault.code, (sl.cause.map SlotCause.code).getD 0])
      ∧ (∀ n i, sl.state = .issuing → s.issueOf k = some (n, i) →
          Tab.get t.dock.issues n = none
          ∧ (i.phase = .presetting → s.tells t .unissuedRemoval [k, i.serial] ∧ t.ledger.hires = s.ledger.hires)
          ∧ (i.phase ≠ .presetting →
              Tab.get t.ledger.hires i.serial
                = some ⟨i.account, i.tariff, i.tag, i.deposit, s.clock.minute, false, none⟩
              ∧ s.tells t .issued [n, k, i.serial, i.account]
              ∧ ∀ a, Tab.get s.account.accounts i.account = some a → Tab.get t.account.accounts i.account
                  = some { a with depositsHeld := a.depositsHeld + i.deposit }))
      ∧ others t
    let complete := fun (r : Receiver) (mark : HireMark) => { sl with
      state := if s.cfg.readyLevel ≤ r.battery then .ready else .charging
      serial := some r.serial, battery := some r.battery, mark := some mark
      chargeStart := if s.cfg.readyLevel ≤ r.battery then none else some s.clock.minute
      low := decide (r.battery < 5), cause := none, startUp := false, hold := none }
    (∀ latch, sl.state = .empty → ∃ t, exec (.slotPollReply k true latch) s = .next t
      ∧ t.slot k = some { sl with state := .reading } ∧ s.orders t (.identify k) ∧ others t
      ∧ t.panel.exchange = none ∧ SameBut poll s t) ∧
    (∀ latch, sl.state ≠ .empty → sl.state ≠ .offline → ∃ t, exec (.slotPollReply k true latch) s = .next t
      ∧ t.slot k = some sl ∧ others t
      ∧ (latch ≠ sl.latchOpen → (∀ m ∈ s.panel.outbound, m.body.target ≠ .latch k) →
          s.orders t (.latch k sl.latchOpen))
      ∧ SameBut poll s t) ∧
    (∀ latch, sl.state = .offline → ∃ t, exec (.slotPollReply k true latch) s = .next t
      ∧ t.slot k = some { Slot.empty with state := .fault, cause := some .link } ∧ others t ∧ SameBut poll s t) ∧
    (∀ latch, ∃ t, exec (.slotPollReply k false latch) s = .next t
      ∧ (sl.state = .empty → t.slot k = some { sl with startUp := false })
      ∧ (sl.state = .offline → t.slot k = some Slot.empty)
      ∧ removed t ∧ SameBut poll s t) ∧
    (s.panel.exchange = none → (∃ m ∈ s.panel.outbound, m.body = .identify k) →
      ∃ t, exec (.identifyReply k none) s = .next t
        ∧ (sl.state = .empty → t.slot k = some sl) ∧ (sl.state = .offline → t.slot k = some Slot.empty)
        ∧ removed t ∧ SameBut poll s t) ∧
    (∀ r : Receiver, 1 ≤ r.serial → r.battery ≤ 100 → s.panel.exchange = none →
      (∃ m ∈ s.panel.outbound, m.body = .identify k) →
      ∃ t, exec (.identifyReply k (some r)) s = .next t
        ∧ (∀ j, j ≠ k → (s.dock.slots.all fun e => e.2.hold.isNone) = true → t.slot j = s.slot j)
        ∧ (sl.state = .reading → sl.hold = none → s.dockedElsewhere k r.serial = true →
            t.slot k = some { sl with
              state := .fault, cause := some .duplicate, serial := some r.serial, battery := some r.battery
              startUp := false, hold := none }
            ∧ s.tells t .slotFault [k, SlotCause.duplicate.code, r.serial])
        ∧ (sl.state = .reading → sl.hold = none → s.dockedElsewhere k r.serial = false →
            r.markStation = 0 ∨ 48 < r.markStation → Tab.get s.ledger.hires r.serial = none →
            s.lostEntry r.serial = none →
            t.slot k = some (complete r ⟨0, r.markTag⟩)
            ∧ (s.cfg.readyLevel ≤ r.battery → sl.startUp = false → t.dock.ready = s.dock.ready ++ [⟨k, false⟩])
            ∧ t.ledger = s.ledger)
        ∧ (∀ h, sl.state = .reading → sl.hold = none → s.dockedElsewhere k r.serial = false →
            Tab.get s.ledger.hires r.serial = some h → h.closing = none → r.markStation ≤ 48 →
            s.tells t .receiverReturned [k, r.serial, h.account, r.markStation]
            ∧ (s.logOpen = true → Tab.get t.ledger.hires r.serial = none)
            ∧ (s.logOpen = false → Tab.get t.ledger.hires r.serial
                = some { h with closing := some (s.closingOf h .ret (s.returnMinute sl) (some s.self)) }
              ∧ t.slot k = some { sl with
                  clearMark := sl.clearMark || decide (r.markStation ≠ 0)
                  hold := some ⟨r.serial, ⟨r.markStation, r.markTag⟩, false⟩ }
              ∧ s.tells t .returnHeld [k, r.serial]))
        ∧ (∀ e, sl.state = .reading → sl.hold = none → s.dockedElsewhere k r.serial = false →
            Tab.get s.ledger.hires r.serial = none → s.lostEntry r.serial = some e →
            s.tells t .receiverRecovered [k, r.serial, e.account, e.declared]
            ∧ (∀ x ∈ t.ledger.lost, x.serial ≠ r.serial)
            ∧ (s.logOpen = true → t.account.log
                = s.account.log ++ [⟨s.account.nextNumber, .recovery r.serial e.account (s.returnMinute sl)⟩]))
        ∧ (sl.state = .reading → sl.hold = none → s.dockedElsewhere k r.serial = false → 1 ≤ r.markStation →
            r.markStation ≤ 48 → r.markStation ≠ s.self → Tab.get s.ledger.hires r.serial = none →
            s.lostEntry r.serial = none → s.orphan r.serial = none → s.ledger.orphans.length < 16 →
            s.tells t .remoteReturn [k, r.serial, r.markStation, s.returnMinute sl]
            ∧ t.slot k = some { complete r ⟨r.markStation, r.markTag⟩ with clearMark := true }
            ∧ s.orders t (.clearMark k)
            ∧ (Tab.has s.line.peers r.markStation = true →
                t.ledger.orphans = s.ledger.orphans
                    ++ [⟨r.serial, r.markStation, s.returnMinute sl, r.battery, 1, some 3000⟩]
                  ∧ s.sends t r.markStation (.returnQuery r.serial (s.returnMinute sl) r.battery))
            ∧ (Tab.has s.line.peers r.markStation = false →
                t.ledger.orphans = s.ledger.orphans
                  ++ [⟨r.serial, r.markStation, s.returnMinute sl, r.battery, 0, none⟩]))
        ∧ (∀ h, sl.state = .reading → sl.hold = some h → h.serial = r.serial →
            (h.released = true → t.slot k = some (complete r h.mark))
            ∧ (h.released = false → t.slot k = some sl))
        ∧ (sl.state = .charging → sl.serial = some r.serial →
            (s.cfg.readyLevel ≤ r.battery →
              t.slot k = some { sl with battery := some r.battery, state := .ready, chargeStart := none }
                ∧ t.dock.ready = s.dock.ready ++ [⟨k, false⟩])
            ∧ (r.battery < s.cfg.readyLevel → t.slot k = some { sl with battery := some r.battery }))
        ∧ (sl.state = .ready → sl.serial = some r.serial →
            (r.battery < s.cfg.readyLevel - 10 →
              t.slot k = some { sl with
                battery := some r.battery, state := .charging, chargeStart := some s.clock.minute }
                ∧ ∀ e ∈ t.dock.ready, e.slot ≠ k)
            ∧ (s.cfg.readyLevel - 10 ≤ r.battery → t.slot k = some { sl with battery := some r.battery }))
        ∧ (sl.state = .empty ∨ sl.state = .issuing → t.slot k = some sl)
        ∧ (sl.state = .offline → t.slot k = some { Slot.empty with state := .fault, cause := some .link })
        ∧ SameBut { poll with lost := true, orphans := true } s t)

/-- The answers to messages (R105, R112, R119), each for the first queued message of its kind and drop with the line
free: an answered PRESET of an issue unlatches its slot; an answered LATCH open starts the 20 s of the removal; an
answered CLEAR MARK clears the request; any other answer only ends the exchange and clears the drop's silences. The
model's choices it rests on: logs 6, 12. -/
def Obligations.AnsweredMessages : Prop :=
  ∀ (s : State) (k : Nat) (sl : Slot) (m : Message) (dr : Drop), s.running = true → s.slot k = some sl →
    s.panel.exchange = none → Tab.get s.panel.drops m.body.drop = some dr → dr.online = true →
    s.panel.outbound.find? (fun x => x.body.drop = m.body.drop && x.body.kind = m.body.kind) = some m →
    let line := { Parts.settled with desks := true, panelLine := true, drops := true }
    let heard := fun t : State => Tab.get t.panel.drops m.body.drop = some { dr with silences := 0 }
    (∀ n i tag q, m.body = .preset k tag q → m.origin = .issue n → Tab.get s.dock.issues n = some i →
      i.phase = .presetting →
      ∃ t, exec (.presetAnswered k) s = .next t
        ∧ heard t
        ∧ Tab.get t.dock.issues n = some { i with phase := .unlatching, removal := none }
        ∧ t.slot k = some { sl with latchOpen := true }
        ∧ (∀ j, j ≠ k → t.slot j = s.slot j)
        ∧ (sl.state = .issuing → s.orders t (.latch k true))
        ∧ SameBut { line with slots := true, issues := true } s t) ∧
    (∀ n i b, m.body = .latch k b → m.origin = .issue n → Tab.get s.dock.issues n = some i → i.phase = .unlatching →
      ∃ t, exec (.latchAnswered k) s = .next t
        ∧ heard t
        ∧ Tab.get t.dock.issues n = some { i with phase := .awaitingRemoval, removal := some 20000 }
        ∧ SameBut { line with issues := true } s t) ∧
    (∀ b, m.body = .latch k b → m.origin = .plain →
      ∃ t, exec (.latchAnswered k) s = .next t ∧ heard t ∧ SameBut line s t) ∧
    (m.body = .clearMark k → m.origin = .plain →
      ∃ t, exec (.clearMarkAnswered k) s = .next t
        ∧ heard t
        ∧ t.slot k = some { sl with clearMark := false }
        ∧ (∀ j, j ≠ k → t.slot j = s.slot j)
        ∧ SameBut { line with slots := true } s t) ∧
    (m.body.kind = .gate ∨ m.body.kind = .lamps ∨ m.body.kind = .route →
      ∃ t, exec (.messageAnswered m.body.drop m.body.kind) s = .next t ∧ heard t ∧ SameBut line s t) ∧
    (∀ x, Tab.get s.panel.drops 0 = some x → x.kind = .matrix → x.online = false →
      ∃ t, exec (.messageAnswered 0 .poll) s = .next t
        ∧ Tab.get t.panel.drops 0 = some { x with online := true, silences := 0 }
        ∧ s.tells t .dropOnline [0, DropKind.matrix.code]
        ∧ SameBut line s t)

/-- A silent exchange (R105, R109, R116, R120): it counts against its drop, and the third in a row sends the drop
OFFLINE with its messages; a slot then is OFFLINE, a desk gives up its hold, with HOLD LOST where it held alone, and
an overlap goes on in the other desk (R44). The silent PRESET of an issue fails the issue: its slot is in FAULT.
Another silent message of a drop still ONLINE is queued again from its owner's state. A silent poll of an OFFLINE
drop changes nothing but the line. The model's choices it rests on: logs 6, 12, 46. -/
def Obligations.SilentExchanges : Prop :=
  ∀ (s : State) (a : Nat) (dr : Drop), s.running = true → s.panel.exchange = none →
    Tab.get s.panel.drops a = some dr →
    let all :=
      { Parts.settled with
        channels := true, booths := true, desks := true, feeds := true, panelLine := true, drops := true, slots := true
        ready := true, issues := true }
    (∃ t, exec (.exchangeSilent a .poll) s = .next t
      ∧ (dr.online = false →
          Tab.get t.panel.drops a = some dr ∧ SameBut { Parts.settled with panelLine := true } s t)
      ∧ (dr.online = true → dr.silences < 2 →
          Tab.get t.panel.drops a = some { dr with silences := dr.silences + 1 }
            ∧ SameBut { Parts.settled with panelLine := true, drops := true } s t)
      ∧ (dr.online = true → 2 ≤ dr.silences →
          Tab.get t.panel.drops a = some { dr with silences := 3, online := false }
          ∧ s.tells t .dropOffline [a, dr.kind.code]
          ∧ (∀ m ∈ t.panel.outbound, m.body.drop ≠ a)
          ∧ (∀ sl, dr.kind = .slot → s.slot (a - 31) = some sl →
              t.slot (a - 31) = some { Slot.empty with state := .offline, cause := some .link }
                ∧ s.tells t .slotFault [a - 31, SlotCause.link.code, 0])
          ∧ (∀ r, dr.kind = .desk → s.desk a = some r →
              (∃ r', t.desk a = some r' ∧ r'.state = .offline ∧ r'.cough = false)
              ∧ ∀ bo, s.boothRec r.booth = some bo →
                (r.state = .live ∨ r.state = .cough →
                  s.tells t .holdLost [r.booth, heldCode bo.target, HoldCause.offline.code]
                    ∧ ∃ bo', t.boothRec r.booth = some bo' ∧ bo'.holding = none)
                ∧ (∀ inn, r.state = .overlapOut → bo.holding = some a → bo.partner = some inn →
                    ∃ bo', t.boothRec r.booth = some bo' ∧ bo'.holding = some inn ∧ bo'.partner = none
                      ∧ bo'.overlap = none)
                ∧ (∀ out, r.state = .overlapIn → bo.holding = some out → bo.partner = some a →
                    ∃ bo', t.boothRec r.booth = some bo' ∧ bo'.holding = some out ∧ bo'.partner = none
                      ∧ bo'.overlap = none)))
      ∧ SameBut all s t) ∧
    (∀ m n i k sl tag q, m.body = .preset k tag q → a = slotAddress k → m.origin = .issue n →
      s.panel.outbound.find? (fun x => x.body.drop = a && x.body.kind = .preset) = some m →
      Tab.get s.dock.issues n = some i → i.slot = k → s.slot k = some sl → dr.online = true → dr.silences < 2 →
      ∃ t, exec (.exchangeSilent a .preset) s = .next t
        ∧ Tab.get t.dock.issues n = none
        ∧ t.slot k = some { sl with state := .fault, cause := some .link, latchOpen := false }
        ∧ s.tells t .issueFailed [n, k, i.serial, MsgKind.preset.code]
        ∧ Tab.get t.panel.drops a = some { dr with silences := dr.silences + 1 }
        ∧ SameBut all s t) ∧
    (∀ m, m.body.drop = a → m.origin = .plain → m.body.kind ≠ .preset → dr.online = true → dr.silences < 2 →
      s.panel.outbound.find? (fun x => x.body.drop = a && x.body.kind = m.body.kind) = some m →
      ∃ t, exec (.exchangeSilent a m.body.kind) s = .next t
        ∧ Tab.get t.panel.drops a = some { dr with silences := dr.silences + 1 }
        ∧ (∀ o, m.body = .route o → s.orders t (.route o))
        ∧ (∀ d b r, m.body = .gate d b → t.desk d = some r → s.orders t (.gate d r.gate))
        ∧ (∀ d l fl r, m.body = .lamps d l fl → t.desk d = some r → s.orders t (.lamps d r.lamps none))
        ∧ (∀ k, m.body = .identify k → s.slotOccupied k = true → s.orders t (.identify k))
        ∧ (∀ k b sl, m.body = .latch k b → s.slot k = some sl → sl.state ≠ .offline →
            s.orders t (.latch k sl.latchOpen))
        ∧ (∀ k sl, m.body = .clearMark k → s.slot k = some sl → sl.clearMark = true → s.orders t (.clearMark k))
        ∧ SameBut { Parts.settled with panelLine := true, drops := true } s t)

/-! ### The supply and the restarts -/

/-- The supply, RETAIN, RESET and the restarts (R14, R121, R187 to R189): a fall below WARN tells the host once; a
fall to RETAIN, and a RESET of a running station whose memory is valid, close the channels, free issues and feeds
and stop the radiator and both lines, keeping the ledger; a warm start keeps the retained memory, raises the epoch,
tells its cause first and runs again where the run mark is set; without valid memory the start is cold. The model's
choices it rests on: logs 7, 21, 22, 23, 33, 37, 38, 44, 49, 53. -/
def Obligations.SupplyAndRestarts : Prop :=
  ∀ (s : State) (check : Bool),
    let stopped := fun t : State =>
      t.planner.hall = .dark ∧ t.planner.channels = [] ∧ t.feed.contexts = [] ∧ t.dock.issues = []
        ∧ t.relay = ⟨[], []⟩ ∧ t.map.radiator = false ∧ t.line.state = .detached ∧ t.line.queue = []
        ∧ t.line.epoch = s.line.epoch ∧ t.panel.exchange = none ∧ t.ledger = s.ledger
        ∧ ((∀ e ∈ s.planner.channels, e.2.everOnAir = false) → t.account = s.account)
    let warm := fun (t : State) (cause : WarmCause) =>
      t.clock.station = (if s.clock.runMark then .running else .configured) ∧ t.clock.config = s.clock.config
        ∧ t.clock.minute = s.clock.minute ∧ t.clock.second = s.clock.second ∧ t.clock.resetHeld = false
        ∧ t.planner.hall = .dark ∧ t.planner.channels = [] ∧ t.planner.peerClaims = [] ∧ t.planner.trunks = []
        ∧ t.relay = ⟨[], []⟩ ∧ t.feed.contexts = [] ∧ t.map.radiator = false ∧ t.map.mask = []
        ∧ t.line.epoch = (s.line.epoch + 1) % 256
        ∧ t.line.state = (if s.clock.runMark then .joining else .detached)
        ∧ (∀ e ∈ t.booth.desks, e.2.state = .off) ∧ t.dock.issues = [] ∧ t.dock.ready = []
        ∧ t.dock.warmMinute = some s.clock.minute ∧ (∀ e ∈ t.dock.slots, e.2.startUp = true)
        ∧ t.map.sending = some ⟨false, []⟩
        ∧ t.ledger.hires = s.ledger.hires ∧ t.ledger.lost = s.ledger.lost ∧ t.account = s.account
        ∧ t.port.answer = none
        ∧ t.events.queue.head? = some ⟨.warmStart, s.clock.minute, s.clock.second, [cause.code]⟩
        ∧ t.pending = s.pending
    let cold := fun t : State =>
      t.clock.station = .unconfigured ∧ t.clock.config = none ∧ t.clock.minute = 0 ∧ t.clock.runMark = false
        ∧ t.clock.retainedValid = false ∧ t.line = State.reset.line ∧ t.ledger = ⟨[], [], []⟩
        ∧ t.account = State.reset.account ∧ t.events = ⟨[], 0⟩ ∧ t.port = ⟨none, []⟩ ∧ t.dock = State.reset.dock
        ∧ t.booth = ⟨[], []⟩ ∧ t.planner.channels = [] ∧ t.map.radiator = false ∧ t.pending = s.pending
    (s.clock.station ≠ .retain → s.clock.supply = .normal →
      ∃ t, exec .supplyLow s = .next t ∧ t.clock = { s.clock with supply := .low } ∧ s.tells t .supplyLow []
        ∧ SameBut { events := true } { s with clock := t.clock } t) ∧
    (s.clock.station = .retain ∨ s.clock.supply = .low → exec .supplyLow s = .next s) ∧
    (s.clock.station ≠ .retain → exec (.supplyRiseAboveWarn check) s = .next { s with clock.supply := .normal }) ∧
    (s.clock.station = .retain →
      ∃ t, exec (.supplyRiseAboveWarn check) s = .next t ∧ t.clock.supply = .normal
        ∧ (s.clock.retainedValid = true → check = true → warm t .supply)
        ∧ (s.clock.retainedValid = false ∨ check = false → cold t)) ∧
    (∃ t, exec .enterRetain s = .next t
      ∧ (s.clock.station = .retain → t = s)
      ∧ (s.clock.station ≠ .retain → t.clock = { s.clock with station := .retain, resetHeld := false })
      ∧ (s.running = true → stopped t)
      ∧ (s.running = false → s.clock.station ≠ .retain → t = { s with clock := t.clock })) ∧
    (∃ t, exec .resetAsserted s = .next t
      ∧ (s.clock.station = .retain ∨ s.clock.resetHeld = true → t = s)
      ∧ (s.clock.station ≠ .retain → s.clock.resetHeld = false →
          (s.clock.station = .unconfigured ∨ s.clock.retentionPresent = false ∨ s.clock.retainedValid = false →
            cold t)
          ∧ (s.clock.station ≠ .unconfigured → s.clock.retentionPresent = true → s.clock.retainedValid = true →
            t.clock = { s.clock with resetHeld := true } ∧ (s.running = true → stopped t)
              ∧ (s.running = false → t = { s with clock := t.clock })))) ∧
    (s.clock.resetHeld = false → exec (.resetReleased check) s = .next s) ∧
    (s.clock.resetHeld = true →
      ∃ t, exec (.resetReleased check) s = .next t ∧ t.clock.supply = s.clock.supply
        ∧ (s.clock.retainedValid = true → check = true → warm t .reset)
        ∧ (s.clock.retainedValid = false ∨ check = false → cold t)) ∧
    (∀ aboveWarn present, ∃ t, exec (.mainPowerApplied aboveWarn present) s = .next t
      ∧ t.clock.retentionPresent = present
      ∧ (s.clock.retainedValid = false ∨ present = false →
          cold t ∧ t.clock.supply = (if aboveWarn then .normal else .low))
      ∧ (s.clock.retainedValid = true → present = true → t = { s with clock := t.clock })) ∧
    exec .retentionSupplyFails s = .next { s with clock.retentionPresent := false, clock.retainedValid := false }
end

