-- ==== Sys2Proof/Laws/State.lean ====
section
/-! SUPPORT. One lemma a field for each small update of the state, true by rfl: no proof unfolds a record update. -/

namespace Sys2Proof.Machine

@[simp] theorem modChannel_pending (c : Nat) (f : Channel → Channel) (s : State) : (modChannel c f s).pending = s.pending := rfl
@[simp] theorem modChannel_clock (c : Nat) (f : Channel → Channel) (s : State) : (modChannel c f s).clock = s.clock := rfl
@[simp] theorem modChannel_port (c : Nat) (f : Channel → Channel) (s : State) : (modChannel c f s).port = s.port := rfl
@[simp] theorem modChannel_events (c : Nat) (f : Channel → Channel) (s : State) : (modChannel c f s).events = s.events := rfl
@[simp] theorem modChannel_booth (c : Nat) (f : Channel → Channel) (s : State) : (modChannel c f s).booth = s.booth := rfl
@[simp] theorem modChannel_relay (c : Nat) (f : Channel → Channel) (s : State) : (modChannel c f s).relay = s.relay := rfl
@[simp] theorem modChannel_feed (c : Nat) (f : Channel → Channel) (s : State) : (modChannel c f s).feed = s.feed := rfl
@[simp] theorem modChannel_map (c : Nat) (f : Channel → Channel) (s : State) : (modChannel c f s).map = s.map := rfl
@[simp] theorem modChannel_line (c : Nat) (f : Channel → Channel) (s : State) : (modChannel c f s).line = s.line := rfl
@[simp] theorem modChannel_panel (c : Nat) (f : Channel → Channel) (s : State) : (modChannel c f s).panel = s.panel := rfl
@[simp] theorem modChannel_dock (c : Nat) (f : Channel → Channel) (s : State) : (modChannel c f s).dock = s.dock := rfl
@[simp] theorem modChannel_ledger (c : Nat) (f : Channel → Channel) (s : State) : (modChannel c f s).ledger = s.ledger := rfl
@[simp] theorem modChannel_account (c : Nat) (f : Channel → Channel) (s : State) : (modChannel c f s).account = s.account := rfl
@[simp] theorem modChannel_hall (c : Nat) (f : Channel → Channel) (s : State) :
    (modChannel c f s).planner.hall = s.planner.hall := rfl
@[simp] theorem modChannel_floorTag (c : Nat) (f : Channel → Channel) (s : State) :
    (modChannel c f s).planner.floorTag = s.planner.floorTag := rfl
@[simp] theorem modChannel_channels (c : Nat) (f : Channel → Channel) (s : State) :
    (modChannel c f s).planner.channels = Tab.modify s.planner.channels c f := rfl
@[simp] theorem modChannel_zone (c : Nat) (f : Channel → Channel) (s : State) :
    (modChannel c f s).planner.zone = s.planner.zone := rfl
@[simp] theorem modChannel_peerClaims (c : Nat) (f : Channel → Channel) (s : State) :
    (modChannel c f s).planner.peerClaims = s.planner.peerClaims := rfl
@[simp] theorem modChannel_trunks (c : Nat) (f : Channel → Channel) (s : State) :
    (modChannel c f s).planner.trunks = s.planner.trunks := rfl
@[simp] theorem modChannel_walls (c : Nat) (f : Channel → Channel) (s : State) :
    (modChannel c f s).planner.walls = s.planner.walls := rfl

@[simp] theorem modBooth_pending (b : Nat) (f : Booth → Booth) (s : State) : (modBooth b f s).pending = s.pending := rfl
@[simp] theorem modBooth_clock (b : Nat) (f : Booth → Booth) (s : State) : (modBooth b f s).clock = s.clock := rfl
@[simp] theorem modBooth_port (b : Nat) (f : Booth → Booth) (s : State) : (modBooth b f s).port = s.port := rfl
@[simp] theorem modBooth_events (b : Nat) (f : Booth → Booth) (s : State) : (modBooth b f s).events = s.events := rfl
@[simp] theorem modBooth_planner (b : Nat) (f : Booth → Booth) (s : State) : (modBooth b f s).planner = s.planner := rfl
@[simp] theorem modBooth_relay (b : Nat) (f : Booth → Booth) (s : State) : (modBooth b f s).relay = s.relay := rfl
@[simp] theorem modBooth_feed (b : Nat) (f : Booth → Booth) (s : State) : (modBooth b f s).feed = s.feed := rfl
@[simp] theorem modBooth_map (b : Nat) (f : Booth → Booth) (s : State) : (modBooth b f s).map = s.map := rfl
@[simp] theorem modBooth_line (b : Nat) (f : Booth → Booth) (s : State) : (modBooth b f s).line = s.line := rfl
@[simp] theorem modBooth_panel (b : Nat) (f : Booth → Booth) (s : State) : (modBooth b f s).panel = s.panel := rfl
@[simp] theorem modBooth_dock (b : Nat) (f : Booth → Booth) (s : State) : (modBooth b f s).dock = s.dock := rfl
@[simp] theorem modBooth_ledger (b : Nat) (f : Booth → Booth) (s : State) : (modBooth b f s).ledger = s.ledger := rfl
@[simp] theorem modBooth_account (b : Nat) (f : Booth → Booth) (s : State) : (modBooth b f s).account = s.account := rfl
@[simp] theorem modBooth_booths (b : Nat) (f : Booth → Booth) (s : State) :
    (modBooth b f s).booth.booths = Tab.modify s.booth.booths b f := rfl
@[simp] theorem modBooth_desks (b : Nat) (f : Booth → Booth) (s : State) :
    (modBooth b f s).booth.desks = s.booth.desks := rfl

@[simp] theorem modDesk_pending (d : Nat) (f : Desk → Desk) (s : State) : (modDesk d f s).pending = s.pending := rfl
@[simp] theorem modDesk_clock (d : Nat) (f : Desk → Desk) (s : State) : (modDesk d f s).clock = s.clock := rfl
@[simp] theorem modDesk_port (d : Nat) (f : Desk → Desk) (s : State) : (modDesk d f s).port = s.port := rfl
@[simp] theorem modDesk_events (d : Nat) (f : Desk → Desk) (s : State) : (modDesk d f s).events = s.events := rfl
@[simp] theorem modDesk_planner (d : Nat) (f : Desk → Desk) (s : State) : (modDesk d f s).planner = s.planner := rfl
@[simp] theorem modDesk_relay (d : Nat) (f : Desk → Desk) (s : State) : (modDesk d f s).relay = s.relay := rfl
@[simp] theorem modDesk_feed (d : Nat) (f : Desk → Desk) (s : State) : (modDesk d f s).feed = s.feed := rfl
@[simp] theorem modDesk_map (d : Nat) (f : Desk → Desk) (s : State) : (modDesk d f s).map = s.map := rfl
@[simp] theorem modDesk_line (d : Nat) (f : Desk → Desk) (s : State) : (modDesk d f s).line = s.line := rfl
@[simp] theorem modDesk_panel (d : Nat) (f : Desk → Desk) (s : State) : (modDesk d f s).panel = s.panel := rfl
@[simp] theorem modDesk_dock (d : Nat) (f : Desk → Desk) (s : State) : (modDesk d f s).dock = s.dock := rfl
@[simp] theorem modDesk_ledger (d : Nat) (f : Desk → Desk) (s : State) : (modDesk d f s).ledger = s.ledger := rfl
@[simp] theorem modDesk_account (d : Nat) (f : Desk → Desk) (s : State) : (modDesk d f s).account = s.account := rfl
@[simp] theorem modDesk_booths (d : Nat) (f : Desk → Desk) (s : State) :
    (modDesk d f s).booth.booths = s.booth.booths := rfl
@[simp] theorem modDesk_desks (d : Nat) (f : Desk → Desk) (s : State) :
    (modDesk d f s).booth.desks = Tab.modify s.booth.desks d f := rfl

@[simp] theorem modFeed_pending (k : Nat) (f : Feed → Feed) (s : State) : (modFeed k f s).pending = s.pending := rfl
@[simp] theorem modFeed_clock (k : Nat) (f : Feed → Feed) (s : State) : (modFeed k f s).clock = s.clock := rfl
@[simp] theorem modFeed_port (k : Nat) (f : Feed → Feed) (s : State) : (modFeed k f s).port = s.port := rfl
@[simp] theorem modFeed_events (k : Nat) (f : Feed → Feed) (s : State) : (modFeed k f s).events = s.events := rfl
@[simp] theorem modFeed_planner (k : Nat) (f : Feed → Feed) (s : State) : (modFeed k f s).planner = s.planner := rfl
@[simp] theorem modFeed_booth (k : Nat) (f : Feed → Feed) (s : State) : (modFeed k f s).booth = s.booth := rfl
@[simp] theorem modFeed_relay (k : Nat) (f : Feed → Feed) (s : State) : (modFeed k f s).relay = s.relay := rfl
@[simp] theorem modFeed_map (k : Nat) (f : Feed → Feed) (s : State) : (modFeed k f s).map = s.map := rfl
@[simp] theorem modFeed_line (k : Nat) (f : Feed → Feed) (s : State) : (modFeed k f s).line = s.line := rfl
@[simp] theorem modFeed_panel (k : Nat) (f : Feed → Feed) (s : State) : (modFeed k f s).panel = s.panel := rfl
@[simp] theorem modFeed_dock (k : Nat) (f : Feed → Feed) (s : State) : (modFeed k f s).dock = s.dock := rfl
@[simp] theorem modFeed_ledger (k : Nat) (f : Feed → Feed) (s : State) : (modFeed k f s).ledger = s.ledger := rfl
@[simp] theorem modFeed_account (k : Nat) (f : Feed → Feed) (s : State) : (modFeed k f s).account = s.account := rfl
@[simp] theorem modFeed_contexts (k : Nat) (f : Feed → Feed) (s : State) :
    (modFeed k f s).feed.contexts = Tab.modify s.feed.contexts k f := rfl

@[simp] theorem modSlot_pending (k : Nat) (f : Slot → Slot) (s : State) : (modSlot k f s).pending = s.pending := rfl
@[simp] theorem modSlot_clock (k : Nat) (f : Slot → Slot) (s : State) : (modSlot k f s).clock = s.clock := rfl
@[simp] theorem modSlot_port (k : Nat) (f : Slot → Slot) (s : State) : (modSlot k f s).port = s.port := rfl
@[simp] theorem modSlot_events (k : Nat) (f : Slot → Slot) (s : State) : (modSlot k f s).events = s.events := rfl
@[simp] theorem modSlot_planner (k : Nat) (f : Slot → Slot) (s : State) : (modSlot k f s).planner = s.planner := rfl
@[simp] theorem modSlot_booth (k : Nat) (f : Slot → Slot) (s : State) : (modSlot k f s).booth = s.booth := rfl
@[simp] theorem modSlot_relay (k : Nat) (f : Slot → Slot) (s : State) : (modSlot k f s).relay = s.relay := rfl
@[simp] theorem modSlot_feed (k : Nat) (f : Slot → Slot) (s : State) : (modSlot k f s).feed = s.feed := rfl
@[simp] theorem modSlot_map (k : Nat) (f : Slot → Slot) (s : State) : (modSlot k f s).map = s.map := rfl
@[simp] theorem modSlot_line (k : Nat) (f : Slot → Slot) (s : State) : (modSlot k f s).line = s.line := rfl
@[simp] theorem modSlot_panel (k : Nat) (f : Slot → Slot) (s : State) : (modSlot k f s).panel = s.panel := rfl
@[simp] theorem modSlot_ledger (k : Nat) (f : Slot → Slot) (s : State) : (modSlot k f s).ledger = s.ledger := rfl
@[simp] theorem modSlot_account (k : Nat) (f : Slot → Slot) (s : State) : (modSlot k f s).account = s.account := rfl
@[simp] theorem modSlot_slots (k : Nat) (f : Slot → Slot) (s : State) :
    (modSlot k f s).dock.slots = Tab.modify s.dock.slots k f := rfl
@[simp] theorem modSlot_ready (k : Nat) (f : Slot → Slot) (s : State) :
    (modSlot k f s).dock.ready = s.dock.ready := rfl
@[simp] theorem modSlot_issues (k : Nat) (f : Slot → Slot) (s : State) :
    (modSlot k f s).dock.issues = s.dock.issues := rfl
@[simp] theorem modSlot_warmMinute (k : Nat) (f : Slot → Slot) (s : State) :
    (modSlot k f s).dock.warmMinute = s.dock.warmMinute := rfl

@[simp] theorem modAccount_pending (a : Nat) (f : Account → Account) (s : State) : (modAccount a f s).pending = s.pending := rfl
@[simp] theorem modAccount_clock (a : Nat) (f : Account → Account) (s : State) : (modAccount a f s).clock = s.clock := rfl
@[simp] theorem modAccount_port (a : Nat) (f : Account → Account) (s : State) : (modAccount a f s).port = s.port := rfl
@[simp] theorem modAccount_events (a : Nat) (f : Account → Account) (s : State) : (modAccount a f s).events = s.events := rfl
@[simp] theorem modAccount_planner (a : Nat) (f : Account → Account) (s : State) : (modAccount a f s).planner = s.planner := rfl
@[simp] theorem modAccount_booth (a : Nat) (f : Account → Account) (s : State) : (modAccount a f s).booth = s.booth := rfl
@[simp] theorem modAccount_relay (a : Nat) (f : Account → Account) (s : State) : (modAccount a f s).relay = s.relay := rfl
@[simp] theorem modAccount_feed (a : Nat) (f : Account → Account) (s : State) : (modAccount a f s).feed = s.feed := rfl
@[simp] theorem modAccount_map (a : Nat) (f : Account → Account) (s : State) : (modAccount a f s).map = s.map := rfl
@[simp] theorem modAccount_line (a : Nat) (f : Account → Account) (s : State) : (modAccount a f s).line = s.line := rfl
@[simp] theorem modAccount_panel (a : Nat) (f : Account → Account) (s : State) : (modAccount a f s).panel = s.panel := rfl
@[simp] theorem modAccount_dock (a : Nat) (f : Account → Account) (s : State) : (modAccount a f s).dock = s.dock := rfl
@[simp] theorem modAccount_ledger (a : Nat) (f : Account → Account) (s : State) : (modAccount a f s).ledger = s.ledger := rfl
@[simp] theorem modAccount_accounts (a : Nat) (f : Account → Account) (s : State) :
    (modAccount a f s).account.accounts = Tab.modify s.account.accounts a f := rfl
@[simp] theorem modAccount_log (a : Nat) (f : Account → Account) (s : State) :
    (modAccount a f s).account.log = s.account.log := rfl
@[simp] theorem modAccount_nextNumber (a : Nat) (f : Account → Account) (s : State) :
    (modAccount a f s).account.nextNumber = s.account.nextNumber := rfl
@[simp] theorem modAccount_closing (a : Nat) (f : Account → Account) (s : State) :
    (modAccount a f s).account.closing = s.account.closing := rfl

@[simp] theorem modOrphan_pending (n : Nat) (f : Orphan → Orphan) (s : State) : (modOrphan n f s).pending = s.pending := rfl
@[simp] theorem modOrphan_clock (n : Nat) (f : Orphan → Orphan) (s : State) : (modOrphan n f s).clock = s.clock := rfl
@[simp] theorem modOrphan_port (n : Nat) (f : Orphan → Orphan) (s : State) : (modOrphan n f s).port = s.port := rfl
@[simp] theorem modOrphan_events (n : Nat) (f : Orphan → Orphan) (s : State) : (modOrphan n f s).events = s.events := rfl
@[simp] theorem modOrphan_planner (n : Nat) (f : Orphan → Orphan) (s : State) : (modOrphan n f s).planner = s.planner := rfl
@[simp] theorem modOrphan_booth (n : Nat) (f : Orphan → Orphan) (s : State) : (modOrphan n f s).booth = s.booth := rfl
@[simp] theorem modOrphan_relay (n : Nat) (f : Orphan → Orphan) (s : State) : (modOrphan n f s).relay = s.relay := rfl
@[simp] theorem modOrphan_feed (n : Nat) (f : Orphan → Orphan) (s : State) : (modOrphan n f s).feed = s.feed := rfl
@[simp] theorem modOrphan_map (n : Nat) (f : Orphan → Orphan) (s : State) : (modOrphan n f s).map = s.map := rfl
@[simp] theorem modOrphan_line (n : Nat) (f : Orphan → Orphan) (s : State) : (modOrphan n f s).line = s.line := rfl
@[simp] theorem modOrphan_panel (n : Nat) (f : Orphan → Orphan) (s : State) : (modOrphan n f s).panel = s.panel := rfl
@[simp] theorem modOrphan_dock (n : Nat) (f : Orphan → Orphan) (s : State) : (modOrphan n f s).dock = s.dock := rfl
@[simp] theorem modOrphan_account (n : Nat) (f : Orphan → Orphan) (s : State) : (modOrphan n f s).account = s.account := rfl
@[simp] theorem modOrphan_hires (n : Nat) (f : Orphan → Orphan) (s : State) :
    (modOrphan n f s).ledger.hires = s.ledger.hires := rfl
@[simp] theorem modOrphan_lost (n : Nat) (f : Orphan → Orphan) (s : State) :
    (modOrphan n f s).ledger.lost = s.ledger.lost := rfl
@[simp] theorem modOrphan_orphans (n : Nat) (f : Orphan → Orphan) (s : State) :
    (modOrphan n f s).ledger.orphans = s.ledger.orphans.map fun o => if o.serial = n then f o else o := rfl

@[simp] theorem modDrop_pending (a : Nat) (f : Drop → Drop) (s : State) : (modDrop a f s).pending = s.pending := rfl
@[simp] theorem modDrop_clock (a : Nat) (f : Drop → Drop) (s : State) : (modDrop a f s).clock = s.clock := rfl
@[simp] theorem modDrop_port (a : Nat) (f : Drop → Drop) (s : State) : (modDrop a f s).port = s.port := rfl
@[simp] theorem modDrop_events (a : Nat) (f : Drop → Drop) (s : State) : (modDrop a f s).events = s.events := rfl
@[simp] theorem modDrop_planner (a : Nat) (f : Drop → Drop) (s : State) : (modDrop a f s).planner = s.planner := rfl
@[simp] theorem modDrop_booth (a : Nat) (f : Drop → Drop) (s : State) : (modDrop a f s).booth = s.booth := rfl
@[simp] theorem modDrop_relay (a : Nat) (f : Drop → Drop) (s : State) : (modDrop a f s).relay = s.relay := rfl
@[simp] theorem modDrop_feed (a : Nat) (f : Drop → Drop) (s : State) : (modDrop a f s).feed = s.feed := rfl
@[simp] theorem modDrop_map (a : Nat) (f : Drop → Drop) (s : State) : (modDrop a f s).map = s.map := rfl
@[simp] theorem modDrop_line (a : Nat) (f : Drop → Drop) (s : State) : (modDrop a f s).line = s.line := rfl
@[simp] theorem modDrop_dock (a : Nat) (f : Drop → Drop) (s : State) : (modDrop a f s).dock = s.dock := rfl
@[simp] theorem modDrop_ledger (a : Nat) (f : Drop → Drop) (s : State) : (modDrop a f s).ledger = s.ledger := rfl
@[simp] theorem modDrop_account (a : Nat) (f : Drop → Drop) (s : State) : (modDrop a f s).account = s.account := rfl
@[simp] theorem modDrop_outbound (a : Nat) (f : Drop → Drop) (s : State) :
    (modDrop a f s).panel.outbound = s.panel.outbound := rfl
@[simp] theorem modDrop_deferred (a : Nat) (f : Drop → Drop) (s : State) :
    (modDrop a f s).panel.deferred = s.panel.deferred := rfl
@[simp] theorem modDrop_drops (a : Nat) (f : Drop → Drop) (s : State) :
    (modDrop a f s).panel.drops = Tab.modify s.panel.drops a f := rfl
@[simp] theorem modDrop_routes (a : Nat) (f : Drop → Drop) (s : State) :
    (modDrop a f s).panel.routes = s.panel.routes := rfl
@[simp] theorem modDrop_exchange (a : Nat) (f : Drop → Drop) (s : State) :
    (modDrop a f s).panel.exchange = s.panel.exchange := rfl
@[simp] theorem modDrop_out (a : Nat) (f : Drop → Drop) (s : State) : (modDrop a f s).panel.out = s.panel.out := rfl
@[simp] theorem modDrop_round (a : Nat) (f : Drop → Drop) (s : State) :
    (modDrop a f s).panel.round = s.panel.round := rfl
@[simp] theorem modDrop_rotation (a : Nat) (f : Drop → Drop) (s : State) :
    (modDrop a f s).panel.rotation = s.panel.rotation := rfl
@[simp] theorem modDrop_polls (a : Nat) (f : Drop → Drop) (s : State) :
    (modDrop a f s).panel.polls = s.panel.polls := rfl

@[simp] theorem setTrunk_pending (t : Nat) (e : TrunkEntry) (s : State) : (setTrunk t e s).pending = s.pending := rfl
@[simp] theorem setTrunk_clock (t : Nat) (e : TrunkEntry) (s : State) : (setTrunk t e s).clock = s.clock := rfl
@[simp] theorem setTrunk_port (t : Nat) (e : TrunkEntry) (s : State) : (setTrunk t e s).port = s.port := rfl
@[simp] theorem setTrunk_events (t : Nat) (e : TrunkEntry) (s : State) : (setTrunk t e s).events = s.events := rfl
@[simp] theorem setTrunk_booth (t : Nat) (e : TrunkEntry) (s : State) : (setTrunk t e s).booth = s.booth := rfl
@[simp] theorem setTrunk_relay (t : Nat) (e : TrunkEntry) (s : State) : (setTrunk t e s).relay = s.relay := rfl
@[simp] theorem setTrunk_feed (t : Nat) (e : TrunkEntry) (s : State) : (setTrunk t e s).feed = s.feed := rfl
@[simp] theorem setTrunk_map (t : Nat) (e : TrunkEntry) (s : State) : (setTrunk t e s).map = s.map := rfl
@[simp] theorem setTrunk_line (t : Nat) (e : TrunkEntry) (s : State) : (setTrunk t e s).line = s.line := rfl
@[simp] theorem setTrunk_panel (t : Nat) (e : TrunkEntry) (s : State) : (setTrunk t e s).panel = s.panel := rfl
@[simp] theorem setTrunk_dock (t : Nat) (e : TrunkEntry) (s : State) : (setTrunk t e s).dock = s.dock := rfl
@[simp] theorem setTrunk_ledger (t : Nat) (e : TrunkEntry) (s : State) : (setTrunk t e s).ledger = s.ledger := rfl
@[simp] theorem setTrunk_account (t : Nat) (e : TrunkEntry) (s : State) : (setTrunk t e s).account = s.account := rfl
@[simp] theorem setTrunk_hall (t : Nat) (e : TrunkEntry) (s : State) :
    (setTrunk t e s).planner.hall = s.planner.hall := rfl
@[simp] theorem setTrunk_floorTag (t : Nat) (e : TrunkEntry) (s : State) :
    (setTrunk t e s).planner.floorTag = s.planner.floorTag := rfl
@[simp] theorem setTrunk_channels (t : Nat) (e : TrunkEntry) (s : State) :
    (setTrunk t e s).planner.channels = s.planner.channels := rfl
@[simp] theorem setTrunk_zone (t : Nat) (e : TrunkEntry) (s : State) :
    (setTrunk t e s).planner.zone = s.planner.zone := rfl
@[simp] theorem setTrunk_peerClaims (t : Nat) (e : TrunkEntry) (s : State) :
    (setTrunk t e s).planner.peerClaims = s.planner.peerClaims := rfl
@[simp] theorem setTrunk_trunks (t : Nat) (e : TrunkEntry) (s : State) :
    (setTrunk t e s).planner.trunks = Tab.set s.planner.trunks t e := rfl
@[simp] theorem setTrunk_walls (t : Nat) (e : TrunkEntry) (s : State) :
    (setTrunk t e s).planner.walls = s.planner.walls := rfl

/-! ### Idle time -/

/-- A millisecond off a timer. -/
@[simp] theorem down_none : down none = none := rfl
@[simp] theorem down_some (n : Nat) : down (some n) = some (n - 1) := rfl

end Sys2Proof.Machine
end

