-- ==== Sys2Proof/Laws/Frames.lean ====
section
/-! SUPPORT. What each operation can change: one frame lemma an operation. An operation that writes only the parts that
w names leaves the blanked state as it was. -/

set_option linter.unusedSimpArgs false
set_option linter.unnecessarySeqFocus false
set_option linter.unusedVariables false
set_option linter.unusedTactic false

namespace Sys2Proof.Machine

variable {w : Parts}

/-- A change of entries that a view of them does not see. -/
theorem mapAll_modify_of_same {α β : Type} (t : Table α) (k : Nat) (f : α → α) (g : α → β)
    (h : ∀ v, g (f v) = g v) :
    (Tab.modify t k f).map (fun e => (e.1, g e.2)) = t.map (fun e => (e.1, g e.2)) := by
  simp only [Tab.modify, List.map_map]
  apply List.map_congr_left
  intro e _
  simp only [Function.comp]
  split <;> simp [h]

theorem forEach_frame (l : List Nat) (f : Nat → State → State)
    (h : ∀ k s, (f k s).blank w = s.blank w) (s : State) : (forEach l f s).blank w = s.blank w := by
  unfold forEach
  induction l generalizing s with
  | nil => rfl
  | cons k rest ih => rw [List.foldl_cons, ih, h]

theorem foldl_frame {α : Type} (l : List α) (f : State → α → State)
    (h : ∀ s a, (f s a).blank w = s.blank w) (s : State) : (l.foldl f s).blank w = s.blank w := by
  induction l generalizing s with
  | nil => rfl
  | cons a rest ih => rw [List.foldl_cons, ih, h]

/-! ### Reading a part off a frame: a part that w does not name is as it was -/

section

variable {s t : State} (h : SameBut w s t)
include h

theorem same_pending : t.pending = s.pending := by
  have := congrArg (fun x => x.pending) h
  exact this

theorem same_clock : t.clock = s.clock := by
  have := congrArg (fun x => x.clock) h
  exact this

theorem same_port : t.port = s.port := by
  have := congrArg (fun x => x.port) h
  exact this

theorem same_events (hw : w.events = false) : t.events = s.events := by
  have := congrArg (fun x => x.events) h
  simpa [State.blank, hw] using this

theorem same_planner_hall (hw : w.hall = false) : t.planner.hall = s.planner.hall := by
  have := congrArg (fun x => x.planner.hall) h
  simpa [State.blank, hw] using this

theorem same_planner_floorTag (hw : w.hall = false) : t.planner.floorTag = s.planner.floorTag := by
  have := congrArg (fun x => x.planner.floorTag) h
  simpa [State.blank, hw] using this

theorem same_planner_zone (hw : w.zone = false) : t.planner.zone = s.planner.zone := by
  have := congrArg (fun x => x.planner.zone) h
  simpa [State.blank, hw] using this

theorem same_planner_peerClaims (hw : w.claims = false) : t.planner.peerClaims = s.planner.peerClaims := by
  have := congrArg (fun x => x.planner.peerClaims) h
  simpa [State.blank, hw] using this

theorem same_planner_trunks (hw : w.trunks = false) : t.planner.trunks = s.planner.trunks := by
  have := congrArg (fun x => x.planner.trunks) h
  simpa [State.blank, hw] using this

theorem same_planner_walls (hw : w.walls = false) : t.planner.walls = s.planner.walls := by
  have := congrArg (fun x => x.planner.walls) h
  simpa [State.blank, hw] using this

theorem same_relay_directory (hw : w.directory = false) : t.relay.directory = s.relay.directory := by
  have := congrArg (fun x => x.relay.directory) h
  simpa [State.blank, hw] using this

theorem same_relay_exported (hw : w.exported = false) : t.relay.exported = s.relay.exported := by
  have := congrArg (fun x => x.relay.exported) h
  simpa [State.blank, hw] using this

theorem same_map_front (hw : w.mapFront = false) : t.map.front = s.map.front := by
  have := congrArg (fun x => x.map.front) h
  simpa [State.blank, hw] using this

theorem same_map_holdCount (hw : w.mapFront = false) : t.map.holdCount = s.map.holdCount := by
  have := congrArg (fun x => x.map.holdCount) h
  simpa [State.blank, hw] using this

theorem same_map_radiator (hw : w.mapFront = false) : t.map.radiator = s.map.radiator := by
  have := congrArg (fun x => x.map.radiator) h
  simpa [State.blank, hw] using this

theorem same_map_driver (hw : w.mapFront = false) : t.map.driver = s.map.driver := by
  have := congrArg (fun x => x.map.driver) h
  simpa [State.blank, hw] using this

theorem same_map_back (hw : w.mapBack = false) : t.map.back = s.map.back := by
  have := congrArg (fun x => x.map.back) h
  simpa [State.blank, hw] using this

theorem same_map_mask (hw : w.mapBack = false) : t.map.mask = s.map.mask := by
  have := congrArg (fun x => x.map.mask) h
  simpa [State.blank, hw] using this

theorem same_map_sending (hw : w.mapBack = false) : t.map.sending = s.map.sending := by
  have := congrArg (fun x => x.map.sending) h
  simpa [State.blank, hw] using this

theorem same_line_state (hw : w.lineState = false) : t.line.state = s.line.state := by
  have := congrArg (fun x => x.line.state) h
  simpa [State.blank, hw] using this

theorem same_line_queue (hw : w.lineQueue = false) : t.line.queue = s.line.queue := by
  have := congrArg (fun x => x.line.queue) h
  simpa [State.blank, hw] using this

theorem same_line_txScore (hw : w.lineState = false) : t.line.txScore = s.line.txScore := by
  have := congrArg (fun x => x.line.txScore) h
  simpa [State.blank, hw] using this

theorem same_line_rxScore (hw : w.lineState = false) : t.line.rxScore = s.line.rxScore := by
  have := congrArg (fun x => x.line.rxScore) h
  simpa [State.blank, hw] using this

theorem same_line_epoch (hw : w.epoch = false) : t.line.epoch = s.line.epoch := by
  have := congrArg (fun x => x.line.epoch) h
  simpa [State.blank, hw] using this

theorem same_line_sequences (hw : w.lineState = false) : t.line.sequences = s.line.sequences := by
  have := congrArg (fun x => x.line.sequences) h
  simpa [State.blank, hw] using this

theorem same_line_presence (hw : w.presence = false) : t.line.presence = s.line.presence := by
  have := congrArg (fun x => x.line.presence) h
  simpa [State.blank, hw] using this

theorem same_line_peers (hw : w.peers = false) : t.line.peers = s.line.peers := by
  have := congrArg (fun x => x.line.peers) h
  simpa [State.blank, hw] using this

theorem same_line_drive (hw : w.lineState = false) : t.line.drive = s.line.drive := by
  have := congrArg (fun x => x.line.drive) h
  simpa [State.blank, hw] using this

theorem same_panel_outbound (hw : w.outbound = false) : t.panel.outbound = s.panel.outbound := by
  have := congrArg (fun x => x.panel.outbound) h
  simpa [State.blank, hw] using this

theorem same_panel_deferred (hw : w.outbound = false) : t.panel.deferred = s.panel.deferred := by
  have := congrArg (fun x => x.panel.deferred) h
  simpa [State.blank, hw] using this

theorem same_panel_drops (hw : w.drops = false) : t.panel.drops = s.panel.drops := by
  have := congrArg (fun x => x.panel.drops) h
  simpa [State.blank, hw] using this

theorem same_panel_routes (hw : w.routes = false) : t.panel.routes = s.panel.routes := by
  have := congrArg (fun x => x.panel.routes) h
  simpa [State.blank, hw] using this

theorem same_panel_exchange (hw : w.panelLine = false) : t.panel.exchange = s.panel.exchange := by
  have := congrArg (fun x => x.panel.exchange) h
  simpa [State.blank, hw] using this

theorem same_panel_out (hw : w.panelLine = false) : t.panel.out = s.panel.out := by
  have := congrArg (fun x => x.panel.out) h
  simpa [State.blank, hw] using this

theorem same_panel_round (hw : w.panelLine = false) : t.panel.round = s.panel.round := by
  have := congrArg (fun x => x.panel.round) h
  simpa [State.blank, hw] using this

theorem same_panel_rotation (hw : w.panelLine = false) : t.panel.rotation = s.panel.rotation := by
  have := congrArg (fun x => x.panel.rotation) h
  simpa [State.blank, hw] using this

theorem same_panel_polls (hw : w.panelLine = false) : t.panel.polls = s.panel.polls := by
  have := congrArg (fun x => x.panel.polls) h
  simpa [State.blank, hw] using this

theorem same_dock_slots (hw : w.slots = false) : t.dock.slots = s.dock.slots := by
  have := congrArg (fun x => x.dock.slots) h
  simpa [State.blank, hw] using this

theorem same_dock_ready (hw : w.ready = false) : t.dock.ready = s.dock.ready := by
  have := congrArg (fun x => x.dock.ready) h
  simpa [State.blank, hw] using this

theorem same_dock_issues (hw : w.issues = false) : t.dock.issues = s.dock.issues := by
  have := congrArg (fun x => x.dock.issues) h
  simpa [State.blank, hw] using this

theorem same_dock_warmMinute : t.dock.warmMinute = s.dock.warmMinute := by
  have := congrArg (fun x => x.dock.warmMinute) h
  exact this

theorem same_ledger_hires (hw : w.hires = false) : t.ledger.hires = s.ledger.hires := by
  have := congrArg (fun x => x.ledger.hires) h
  simpa [State.blank, hw] using this

theorem same_ledger_lost (hw : w.lost = false) : t.ledger.lost = s.ledger.lost := by
  have := congrArg (fun x => x.ledger.lost) h
  simpa [State.blank, hw] using this

theorem same_ledger_orphans (hw : w.orphans = false) : t.ledger.orphans = s.ledger.orphans := by
  have := congrArg (fun x => x.ledger.orphans) h
  simpa [State.blank, hw] using this

theorem same_account (hw : w.account = false) : t.account = s.account := by
  have := congrArg (fun x => x.account) h
  simpa [State.blank, hw] using this

theorem same_relay (h1 : w.directory = false) (h2 : w.exported = false) : t.relay = s.relay := by
  have ha := same_relay_directory h h1
  have hb := same_relay_exported h h2
  calc t.relay = ⟨t.relay.directory, t.relay.exported⟩ := rfl
    _ = ⟨s.relay.directory, s.relay.exported⟩ := by rw [ha, hb]

theorem same_dock (h1 : w.slots = false) (h2 : w.ready = false) (h3 : w.issues = false) : t.dock = s.dock := by
  have ha := same_dock_slots h h1
  have hb := same_dock_ready h h2
  have hc := same_dock_issues h h3
  have hd := same_dock_warmMinute h
  calc t.dock = ⟨t.dock.slots, t.dock.ready, t.dock.issues, t.dock.warmMinute⟩ := rfl
    _ = ⟨s.dock.slots, s.dock.ready, s.dock.issues, s.dock.warmMinute⟩ := by rw [ha, hb, hc, hd]

theorem same_ledger (h1 : w.hires = false) (h2 : w.lost = false) (h3 : w.orphans = false)
    : t.ledger = s.ledger := by
  have ha := same_ledger_hires h h1
  have hb := same_ledger_lost h h2
  have hc := same_ledger_orphans h h3
  calc t.ledger = ⟨t.ledger.hires, t.ledger.lost, t.ledger.orphans⟩ := rfl
    _ = ⟨s.ledger.hires, s.ledger.lost, s.ledger.orphans⟩ := by rw [ha, hb, hc]

theorem same_planner_channels (h1 : w.openings = false) (h2 : w.channels = false) (h3 : w.notices = false) :
    t.planner.channels = s.planner.channels := by
  have := congrArg (fun x => x.planner.channels) h
  simpa [State.blank, h1, h2, h3] using this

theorem same_channels_core (h1 : w.openings = false) (h2 : w.channels = false) :
    Tab.mapAll t.planner.channels Channel.core = Tab.mapAll s.planner.channels Channel.core := by
  by_cases h3 : w.notices = true
  · have := congrArg (fun x => x.planner.channels) h
    simpa [State.blank, h1, h2, h3] using this
  · rw [same_planner_channels h h1 h2 (by simpa using h3)]

theorem same_channels_plan (h1 : w.openings = false) :
    Tab.mapAll t.planner.channels Channel.plan = Tab.mapAll s.planner.channels Channel.plan := by
  by_cases h2 : w.channels = true
  · have := congrArg (fun x => x.planner.channels) h
    simpa [State.blank, h1, h2] using this
  · have := congrArg (fun l => Tab.mapAll l Channel.plan) (same_channels_core h h1 (by simpa using h2))
    simpa [Tab.mapAll, Function.comp_def, Channel.core, Channel.plan] using this

theorem same_booth_booths (h1 : w.outputs = false) (h2 : w.booths = false) : t.booth.booths = s.booth.booths := by
  have := congrArg (fun x => x.booth.booths) h
  simpa [State.blank, h1, h2] using this

theorem same_booths_plan (h1 : w.outputs = false) :
    Tab.mapAll t.booth.booths Booth.plan = Tab.mapAll s.booth.booths Booth.plan := by
  by_cases h2 : w.booths = true
  · have := congrArg (fun x => x.booth.booths) h
    simpa [State.blank, h1, h2] using this
  · rw [same_booth_booths h h1 (by simpa using h2)]

theorem same_booth_desks (h1 : w.desks = false) (h2 : w.deskShow = false) : t.booth.desks = s.booth.desks := by
  have := congrArg (fun x => x.booth.desks) h
  simpa [State.blank, h1, h2] using this

theorem same_desks_core (h1 : w.desks = false) :
    Tab.mapAll t.booth.desks Desk.core = Tab.mapAll s.booth.desks Desk.core := by
  by_cases h2 : w.deskShow = true
  · have := congrArg (fun x => x.booth.desks) h
    simpa [State.blank, h1, h2] using this
  · rw [same_booth_desks h h1 (by simpa using h2)]

theorem same_desks_plan : Tab.mapAll t.booth.desks Desk.plan = Tab.mapAll s.booth.desks Desk.plan := by
  by_cases h1 : w.desks = true
  · have := congrArg (fun x => x.booth.desks) h
    simpa [State.blank, h1] using this
  · have := congrArg (fun l => Tab.mapAll l Desk.plan) (same_desks_core h (by simpa using h1))
    simpa [Tab.mapAll, Function.comp_def, Desk.core, Desk.plan] using this

theorem same_feed (h1 : w.contexts = false) (h2 : w.feeds = false) : t.feed = s.feed := by
  have := congrArg (fun x => x.feed.contexts) h
  have ha : t.feed.contexts = s.feed.contexts := by simpa [State.blank, h1, h2] using this
  calc t.feed = ⟨t.feed.contexts⟩ := rfl
    _ = ⟨s.feed.contexts⟩ := by rw [ha]

theorem same_feeds_plan (h1 : w.contexts = false) :
    Tab.mapAll t.feed.contexts Feed.plan = Tab.mapAll s.feed.contexts Feed.plan := by
  by_cases h2 : w.feeds = true
  · have := congrArg (fun x => x.feed.contexts) h
    simpa [State.blank, h1, h2] using this
  · rw [same_feed h h1 (by simpa using h2)]

end

theorem blank_events_queue (h : w.events = true) (x : List Event) (t : State) :
    State.blank w { t with events.queue := x } = t.blank w := by simp [State.blank, h]

theorem blank_events_overrun (h : w.events = true) (x : Nat) (t : State) :
    State.blank w { t with events.overrun := x } = t.blank w := by simp [State.blank, h]

theorem blank_events (h : w.events = true) (x : EventBlock) (t : State) :
    State.blank w { t with events := x } = t.blank w := by simp [State.blank, h]

theorem blank_planner_hall (h : w.hall = true) (x : HallState) (t : State) :
    State.blank w { t with planner.hall := x } = t.blank w := by simp [State.blank, h]

theorem blank_planner_floorTag (h : w.hall = true) (x : Tag) (t : State) :
    State.blank w { t with planner.floorTag := x } = t.blank w := by simp [State.blank, h]

theorem blank_planner_channels (h : w.openings = true) (x : Table Channel) (t : State) :
    State.blank w { t with planner.channels := x } = t.blank w := by simp [State.blank, h]

theorem blank_planner_zone (h : w.zone = true) (x : List Nat) (t : State) :
    State.blank w { t with planner.zone := x } = t.blank w := by simp [State.blank, h]

theorem blank_planner_peerClaims (h : w.claims = true) (x : List PeerClaim) (t : State) :
    State.blank w { t with planner.peerClaims := x } = t.blank w := by simp [State.blank, h]

theorem blank_planner_trunks (h : w.trunks = true) (x : Table TrunkEntry) (t : State) :
    State.blank w { t with planner.trunks := x } = t.blank w := by simp [State.blank, h]

theorem blank_planner_walls (h : w.walls = true) (x : Table Wall) (t : State) :
    State.blank w { t with planner.walls := x } = t.blank w := by simp [State.blank, h]

theorem blank_relay_directory (h : w.directory = true) (x : List DirEntry) (t : State) :
    State.blank w { t with relay.directory := x } = t.blank w := by simp [State.blank, h]

theorem blank_relay_exported (h : w.exported = true) (x : Table ExportRecord) (t : State) :
    State.blank w { t with relay.exported := x } = t.blank w := by simp [State.blank, h]

theorem blank_feed_contexts (h : w.contexts = true) (x : Table Feed) (t : State) :
    State.blank w { t with feed.contexts := x } = t.blank w := by simp [State.blank, h]

theorem blank_map_front (h : w.mapFront = true) (x : RMap) (t : State) :
    State.blank w { t with map.front := x } = t.blank w := by simp [State.blank, h]

theorem blank_map_back (h : w.mapBack = true) (x : RMap) (t : State) :
    State.blank w { t with map.back := x } = t.blank w := by simp [State.blank, h]

theorem blank_map_holdCount (h : w.mapFront = true) (x : Nat) (t : State) :
    State.blank w { t with map.holdCount := x } = t.blank w := by simp [State.blank, h]

theorem blank_map_radiator (h : w.mapFront = true) (x : Bool) (t : State) :
    State.blank w { t with map.radiator := x } = t.blank w := by simp [State.blank, h]

theorem blank_map_mask (h : w.mapBack = true) (x : List Nat) (t : State) :
    State.blank w { t with map.mask := x } = t.blank w := by simp [State.blank, h]

theorem blank_map_sending (h : w.mapBack = true) (x : Option MaskWord) (t : State) :
    State.blank w { t with map.sending := x } = t.blank w := by simp [State.blank, h]

theorem blank_map_driver (h : w.mapFront = true) (x : Option MaskWord) (t : State) :
    State.blank w { t with map.driver := x } = t.blank w := by simp [State.blank, h]

theorem blank_line_state (h : w.lineState = true) (x : LineState) (t : State) :
    State.blank w { t with line.state := x } = t.blank w := by simp [State.blank, h]

theorem blank_line_queue (h : w.lineQueue = true) (x : List TxFrame) (t : State) :
    State.blank w { t with line.queue := x } = t.blank w := by simp [State.blank, h]

theorem blank_line_presence (h : w.presence = true) (x : Option Nat) (t : State) :
    State.blank w { t with line.presence := x } = t.blank w := by simp [State.blank, h]

theorem blank_line_peers (h : w.peers = true) (x : Table Peer) (t : State) :
    State.blank w { t with line.peers := x } = t.blank w := by simp [State.blank, h]

theorem blank_line_drive (h : w.lineState = true) (x : LineDrive) (t : State) :
    State.blank w { t with line.drive := x } = t.blank w := by simp [State.blank, h]

theorem blank_line_sequences (h : w.lineState = true) (x : Nat) (t : State) :
    State.blank w { t with line.sequences := x } = t.blank w := by simp [State.blank, h]

theorem blank_panel_outbound (h : w.outbound = true) (x : List Message) (t : State) :
    State.blank w { t with panel.outbound := x } = t.blank w := by simp [State.blank, h]

theorem blank_panel_deferred (h : w.outbound = true) (x : List Target) (t : State) :
    State.blank w { t with panel.deferred := x } = t.blank w := by simp [State.blank, h]

theorem blank_panel_drops (h : w.drops = true) (x : Table Drop) (t : State) :
    State.blank w { t with panel.drops := x } = t.blank w := by simp [State.blank, h]

theorem blank_panel_routes (h : w.routes = true) (x : Table Source) (t : State) :
    State.blank w { t with panel.routes := x } = t.blank w := by simp [State.blank, h]

theorem blank_panel_exchange (h : w.panelLine = true) (x : Option Exchange) (t : State) :
    State.blank w { t with panel.exchange := x } = t.blank w := by simp [State.blank, h]

theorem blank_panel_polls (h : w.panelLine = true) (x : Option (List Nat)) (t : State) :
    State.blank w { t with panel.polls := x } = t.blank w := by simp [State.blank, h]

theorem blank_dock_slots (h : w.slots = true) (x : Table Slot) (t : State) :
    State.blank w { t with dock.slots := x } = t.blank w := by simp [State.blank, h]

theorem blank_dock_ready (h : w.ready = true) (x : List ReadyEntry) (t : State) :
    State.blank w { t with dock.ready := x } = t.blank w := by simp [State.blank, h]

theorem blank_dock_issues (h : w.issues = true) (x : Table Issue) (t : State) :
    State.blank w { t with dock.issues := x } = t.blank w := by simp [State.blank, h]

theorem blank_ledger_hires (h : w.hires = true) (x : Table Hire) (t : State) :
    State.blank w { t with ledger.hires := x } = t.blank w := by simp [State.blank, h]

theorem blank_ledger_lost (h : w.lost = true) (x : List Lost) (t : State) :
    State.blank w { t with ledger.lost := x } = t.blank w := by simp [State.blank, h]

theorem blank_ledger_orphans (h : w.orphans = true) (x : List Orphan) (t : State) :
    State.blank w { t with ledger.orphans := x } = t.blank w := by simp [State.blank, h]

theorem blank_account_accounts (h : w.account = true) (x : Table Account) (t : State) :
    State.blank w { t with account.accounts := x } = t.blank w := by simp [State.blank, h]

theorem blank_account_log (h : w.account = true) (x : List LogRecord) (t : State) :
    State.blank w { t with account.log := x } = t.blank w := by simp [State.blank, h]

theorem blank_account_closing (h : w.account = true) (x : List ClosingItem) (t : State) :
    State.blank w { t with account.closing := x } = t.blank w := by simp [State.blank, h]

theorem blank_account_nextNumber (h : w.account = true) (x : Nat) (t : State) :
    State.blank w { t with account.nextNumber := x } = t.blank w := by simp [State.blank, h]

theorem queueEvent_frame (h1 : w.events = true) (kind : EventKind) (fields : List Nat) (s : State) :
    (queueEvent kind fields s).blank w = s.blank w := by
  unfold queueEvent
  (repeat' split) <;> simp [State.blank, h1]

theorem dropOldestEvent_frame (h1 : w.events = true) (s : State) :
    (dropOldestEvent s).blank w = s.blank w := by
  simp only [dropOldestEvent]
  (repeat' split) <;> simp [queueEvent_frame, blank_events_queue, blank_events_overrun, h1,
    apply_ite (State.blank w), Channel.plan, Booth.plan, Desk.plan, Feed.plan]

theorem clearEvents_frame (h1 : w.events = true) (s : State) :
    (clearEvents s).blank w = s.blank w := by
  unfold clearEvents
  (repeat' split) <;> simp [State.blank, h1]

theorem modChannel_frame (h1 : w.channels = true) (c : Nat) (f : Channel → Channel)
    (hf : ∀ x, (f x).plan = x.plan) (s : State) : (modChannel c f s).blank w = s.blank w := by
  simp only [State.blank, modChannel, h1, Tab.mapAll, mapAll_modify_of_same _ _ f _ hf, if_true]

theorem modBooth_frame (h1 : w.booths = true) (b : Nat) (f : Booth → Booth)
    (hf : ∀ x, (f x).plan = x.plan) (s : State) : (modBooth b f s).blank w = s.blank w := by
  simp only [State.blank, modBooth, h1, Tab.mapAll, mapAll_modify_of_same _ _ f _ hf, if_true]

theorem modDesk_frame (h1 : w.desks = true) (d : Nat) (f : Desk → Desk)
    (hf : ∀ x, (f x).plan = x.plan) (s : State) : (modDesk d f s).blank w = s.blank w := by
  simp only [State.blank, modDesk, h1, Tab.mapAll, mapAll_modify_of_same _ _ f _ hf, if_true]

theorem modFeed_frame (h1 : w.feeds = true) (k : Nat) (f : Feed → Feed)
    (hf : ∀ x, (f x).plan = x.plan) (s : State) : (modFeed k f s).blank w = s.blank w := by
  simp only [State.blank, modFeed, h1, Tab.mapAll, mapAll_modify_of_same _ _ f _ hf, if_true]

theorem modSlot_frame (h1 : w.slots = true) (k : Nat) (f : Slot → Slot) (s : State) :
    (modSlot k f s).blank w = s.blank w := by
  unfold modSlot
  (repeat' split) <;> simp [State.blank, h1]

theorem enqueueFrame_frame (h1 : w.events = true) (h2 : w.lineQueue = true) (dest : Nat) (p : Payload) (s : State) :
    (enqueueFrame dest p s).blank w = s.blank w := by
  simp only [enqueueFrame]
  (repeat' split) <;> simp [queueEvent_frame, blank_line_queue, h1, h2, apply_ite (State.blank w), Channel.plan,
    Booth.plan, Desk.plan, Feed.plan]

theorem queuePresence_frame (h1 : w.events = true) (h2 : w.lineQueue = true) (h3 : w.presence = true) (s : State) :
    (queuePresence s).blank w = s.blank w := by
  unfold queuePresence
  (repeat' split) <;> simp [enqueueFrame_frame, blank_line_presence, h1, h2, h3, Channel.plan, Booth.plan,
    Desk.plan, Feed.plan]

theorem deferTarget_frame (h1 : w.outbound = true) (t : Target) (s : State) :
    (deferTarget t s).blank w = s.blank w := by
  unfold deferTarget
  (repeat' split) <;> simp [State.blank, h1]

theorem queueMessage_frame (h1 : w.outbound = true) (b : Body) (origin : Origin) (s : State) :
    (queueMessage b origin s).blank w = s.blank w := by
  simp only [queueMessage]
  (repeat' split) <;> simp [deferTarget_frame, blank_panel_outbound, h1, apply_ite (State.blank w), Channel.plan,
    Booth.plan, Desk.plan, Feed.plan]

theorem refill_frame (h1 : w.outbound = true) (n : Nat) (s : State) : (refill n s).blank w = s.blank w := by
  induction n generalizing s with
  | zero => rfl
  | succ n ih =>
    simp only [refill]
    (repeat' split) <;> simp [ih, queueMessage_frame, blank_panel_deferred, h1]

theorem removeMessages_frame (h1 : w.outbound = true) (p : Message → Bool) (s : State) :
    (removeMessages p s).blank w = s.blank w := by
  simp only [removeMessages]
  (repeat' split) <;> simp [refill_frame, blank_panel_outbound, h1, apply_ite (State.blank w), Channel.plan,
    Booth.plan, Desk.plan, Feed.plan]

theorem setRoute_frame (h1 : w.outbound = true) (h2 : w.routes = true) (o : Nat) (src : Source) (s : State) :
    (setRoute o src s).blank w = s.blank w := by
  unfold setRoute
  (repeat' split) <;> simp [queueMessage_frame, blank_panel_routes, h1, h2, Channel.plan, Booth.plan, Desk.plan,
    Feed.plan]

theorem sendMaskWord_frame (h1 : w.mapBack = true) (s : State) :
    (sendMaskWord s).blank w = s.blank w := by
  unfold sendMaskWord
  (repeat' split) <;> simp [State.blank, h1]

theorem syncMask_frame (h1 : w.mapBack = true) (s : State) :
    (syncMask s).blank w = s.blank w := by
  simp only [syncMask]
  (repeat' split) <;> simp [sendMaskWord_frame, blank_map_mask, h1, apply_ite (State.blank w), Channel.plan,
    Booth.plan, Desk.plan, Feed.plan]

theorem setRadiator_frame (h1 : w.mapBack = true) (h2 : w.mapFront = true) (on : Bool) (s : State) :
    (setRadiator on s).blank w = s.blank w := by
  unfold setRadiator
  (repeat' split) <;> simp [sendMaskWord_frame, blank_map_radiator, h1, h2, Channel.plan, Booth.plan, Desk.plan,
    Feed.plan]

theorem queueNotice_frame (h1 : w.events = true) (h2 : w.notices = true) (h3 : w.lineQueue = true) (c : Nat)
    (s : State) :
    (queueNotice c s).blank w = s.blank w := by
  have told : ∀ (f : Channel → Channel) (s : State), (∀ x, (f x).core = x.core) → (∀ x, (f x).plan = x.plan) →
      (modChannel c f s).blank w = s.blank w := by
    intro f s hc hp
    simp only [State.blank, modChannel, h2, Tab.mapAll, mapAll_modify_of_same _ _ _ _ hc,
      mapAll_modify_of_same _ _ _ _ hp, if_true]
  unfold queueNotice
  split
  · rfl
  · simp only
    rw [enqueueFrame_frame h1 h3]
    exact told _ _ (fun _ => rfl) (fun _ => rfl)

theorem modAccount_frame (h1 : w.account = true) (a : Nat) (f : Account → Account) (s : State) :
    (modAccount a f s).blank w = s.blank w := by
  unfold modAccount
  (repeat' split) <;> simp [State.blank, h1]

theorem book_frame (h1 : w.events = true) (h2 : w.account = true) (a : Nat) (f : Total) (n : Nat) (s : State) :
    (book a f n s).blank w = s.blank w := by
  unfold book
  (repeat' split) <;> simp [modAccount_frame, queueEvent_frame, h1, h2, Channel.plan, Booth.plan, Desk.plan,
    Feed.plan]

theorem enterLog_frame (h1 : w.events = true) (h2 : w.account = true) (st : Settlement) (s : State) :
    (enterLog st s).blank w = s.blank w := by
  simp only [enterLog]
  (repeat' split) <;> try simp [queueEvent_frame, blank_account_log, blank_account_nextNumber, h1, h2,
    apply_ite (State.blank w), Channel.plan, Booth.plan, Desk.plan, Feed.plan]
  all_goals (repeat' split) <;> try simp [queueEvent_frame, blank_account_log, blank_account_nextNumber, h1, h2,
    apply_ite (State.blank w), Channel.plan, Booth.plan, Desk.plan, Feed.plan]
  all_goals try simp [State.blank, h1, h2]

theorem endHolds_frame (h1 : w.outbound = true) (h2 : w.slots = true) (serial : Nat) (s : State) :
    (endHolds serial s).blank w = s.blank w := by
  unfold endHolds
  (repeat' split) <;> simp [queueMessage_frame, modSlot_frame, forEach_frame, h1, h2, Channel.plan, Booth.plan,
    Desk.plan, Feed.plan]

theorem hireLeaves_frame (h1 : w.outbound = true) (h2 : w.slots = true) (h3 : w.hires = true)
    (h4 : w.account = true) (serial : Nat) (s : State) :
    (hireLeaves serial s).blank w = s.blank w := by
  unfold hireLeaves
  (repeat' split) <;> simp [endHolds_frame, modAccount_frame, blank_ledger_hires, h1, h2, h3, h4, Channel.plan,
    Booth.plan, Desk.plan, Feed.plan]

theorem closeHire_frame (h1 : w.events = true) (h2 : w.outbound = true) (h3 : w.slots = true) (h4 : w.hires = true)
    (h5 : w.account = true) (serial : Nat) (kind : HireKind) (asked : Nat) (returnedAt : Option Nat) (s : State) :
    (closeHire serial kind asked returnedAt s).blank w = s.blank w := by
  have two : ∀ (a : Table Hire) (b : List ClosingItem) (t : State),
      State.blank w { t with ledger.hires := a, account.closing := b } = t.blank w := by
    intro a b t; simp [State.blank, h4, h5]
  simp only [closeHire]
  (repeat' split) <;> simp [book_frame, hireLeaves_frame, enterLog_frame, two, h1, h2, h3, h4, h5]

theorem waitBill_frame (h1 : w.account = true) (new : ChannelBill) (s : State) :
    (waitBill new s).blank w = s.blank w := by
  unfold waitBill
  (repeat' split) <;> simp [State.blank, h1]

theorem settleChannel_frame (h1 : w.events = true) (h2 : w.account = true) (c : Nat) (ch : Channel) (s : State) :
    (settleChannel c ch s).blank w = s.blank w := by
  simp only [settleChannel]
  (repeat' split) <;> simp [book_frame, enterLog_frame, waitBill_frame, h1, h2, apply_ite (State.blank w),
    Channel.plan, Booth.plan, Desk.plan, Feed.plan]

theorem settleRecovery_frame (h1 : w.events = true) (h2 : w.account = true) (serial account minute : Nat)
    (s : State) :
    (settleRecovery serial account minute s).blank w = s.blank w := by
  unfold settleRecovery
  (repeat' split) <;> simp [enterLog_frame, queueEvent_frame, blank_account_closing, h1, h2, Channel.plan,
    Booth.plan, Desk.plan, Feed.plan]

theorem moveClosing_frame (h1 : w.events = true) (h2 : w.outbound = true) (h3 : w.slots = true)
    (h4 : w.hires = true) (h5 : w.account = true) (s : State) :
    (moveClosing s).blank w = s.blank w := by
  simp only [moveClosing]
  (repeat' split) <;> simp [enterLog_frame, hireLeaves_frame, blank_account_closing, h1, h2, h3, h4, h5,
    apply_ite (State.blank w), Channel.plan, Booth.plan, Desk.plan, Feed.plan]

theorem openHire_frame (h1 : w.hires = true) (h2 : w.account = true) (i : Issue) (s : State) :
    (openHire i s).blank w = s.blank w := by
  unfold openHire
  (repeat' split) <;> simp [modAccount_frame, blank_ledger_hires, h1, h2, Channel.plan, Booth.plan, Desk.plan,
    Feed.plan]

theorem sendClaim_frame (h1 : w.events = true) (h2 : w.lineQueue = true) (r : Resource) (a : ClaimAction) (c : Nat)
    (l : Tag) (s : State) :
    (sendClaim r a c l s).blank w = s.blank w := by
  unfold sendClaim
  (repeat' split) <;> simp [enqueueFrame_frame, h1, h2, Channel.plan, Booth.plan, Desk.plan, Feed.plan]

theorem search_frame (h1 : w.events = true) (h2 : w.channels = true) (h3 : w.lineQueue = true) (c : Nat)
    (s : State) :
    (search c s).blank w = s.blank w := by
  unfold search
  (repeat' split) <;> simp [sendClaim_frame, modChannel_frame, queueEvent_frame, h1, h2, h3, Channel.plan,
    Booth.plan, Desk.plan, Feed.plan]

theorem searchWaiting_frame (h1 : w.events = true) (h2 : w.channels = true) (h3 : w.lineQueue = true)
    (fresh : List Nat) (s : State) :
    (searchWaiting fresh s).blank w = s.blank w := by
  unfold searchWaiting
  (repeat' split) <;> simp [search_frame, forEach_frame, h1, h2, h3, Channel.plan, Booth.plan, Desk.plan, Feed.plan]

theorem giveWay_frame (h1 : w.events = true) (h2 : w.channels = true) (h3 : w.mapBack = true)
    (h4 : w.lineQueue = true) (q c sc : Nat) (s : State) :
    (giveWay q c sc s).blank w = s.blank w := by
  unfold giveWay
  (repeat' split) <;> simp [modChannel_frame, searchWaiting_frame, sendClaim_frame, syncMask_frame,
    queueEvent_frame, h1, h2, h3, h4, Channel.plan, Booth.plan, Desk.plan, Feed.plan]

theorem refreshClaim_frame (h1 : w.events = true) (h2 : w.channels = true) (h3 : w.lineQueue = true) (c : Nat)
    (s : State) :
    (refreshClaim c s).blank w = s.blank w := by
  unfold refreshClaim
  (repeat' split) <;> simp [sendClaim_frame, modChannel_frame, h1, h2, h3, Channel.plan, Booth.plan, Desk.plan,
    Feed.plan]

theorem testClaim_frame (h1 : w.events = true) (h2 : w.channels = true) (h3 : w.mapBack = true)
    (h4 : w.lineQueue = true) (q sc : Nat) (s : State) :
    (testClaim q sc s).blank w = s.blank w := by
  simp only [testClaim]
  (repeat' split) <;> simp [giveWay_frame, refreshClaim_frame, forEach_frame, h1, h2, h3, h4,
    apply_ite (State.blank w), Channel.plan, Booth.plan, Desk.plan, Feed.plan]

theorem storeClaim_frame (h1 : w.events = true) (h2 : w.claims = true) (q sc c : Nat) (l : Tag) (s : State) :
    (storeClaim q sc c l s).blank w = s.blank w := by
  simp only [storeClaim]
  (repeat' split) <;> simp [queueEvent_frame, blank_planner_peerClaims, h1, h2, apply_ite (State.blank w),
    Channel.plan, Booth.plan, Desk.plan, Feed.plan]

theorem removeClaim_frame (h1 : w.events = true) (h2 : w.channels = true) (h3 : w.claims = true)
    (h4 : w.lineQueue = true) (q sc : Nat) (s : State) :
    (removeClaim q sc s).blank w = s.blank w := by
  unfold removeClaim
  (repeat' split) <;> simp [searchWaiting_frame, blank_planner_peerClaims, h1, h2, h3, h4, Channel.plan,
    Booth.plan, Desk.plan, Feed.plan]

theorem recomputeZone_frame (h1 : w.events = true) (h2 : w.channels = true) (h3 : w.zone = true)
    (h4 : w.mapBack = true) (h5 : w.lineQueue = true) (s : State) :
    (recomputeZone s).blank w = s.blank w := by
  unfold recomputeZone
  simp only
  have hf : ∀ new : List Nat, ∀ f : State → Nat → Option Nat,
      (forEach (List.range 32) (fun sc t => match f t sc with | some q => testClaim q sc t | none => t)
        { s with planner.zone := new }).blank w = s.blank w := by
    intro new f
    rw [forEach_frame]
    · exact blank_planner_zone h3 new s
    · intro k t
      split
      · exact testClaim_frame h1 h2 h4 h5 _ _ _
      · rfl
  split
  · rfl
  · split
    · rw [searchWaiting_frame h1 h2 h5]
      exact hf _ fun t sc => t.lowestClaimant _ sc
    · exact hf _ fun t sc => t.lowestClaimant _ sc

theorem setTrunk_frame (h1 : w.trunks = true) (t : Nat) (e : TrunkEntry) (s : State) :
    (setTrunk t e s).blank w = s.blank w := by
  unfold setTrunk
  (repeat' split) <;> simp [State.blank, h1]

theorem sendTrunkClaim_frame (h1 : w.events = true) (h2 : w.lineQueue = true) (t : Nat) (a : ClaimAction)
    (u : TrunkUser) (s : State) :
    (sendTrunkClaim t a u s).blank w = s.blank w := by
  unfold sendTrunkClaim
  (repeat' split) <;> simp [sendClaim_frame, h1, h2, Channel.plan, Booth.plan, Desk.plan, Feed.plan]

theorem takeTrunk_frame (h1 : w.events = true) (h2 : w.trunks = true) (h3 : w.lineQueue = true) (t : Nat)
    (u : TrunkUser) (s : State) :
    (takeTrunk t u s).blank w = s.blank w := by
  unfold takeTrunk
  (repeat' split) <;> simp [sendTrunkClaim_frame, setTrunk_frame, h1, h2, h3, Channel.plan, Booth.plan, Desk.plan,
    Feed.plan]

theorem giveUpTrunk_frame (h1 : w.events = true) (h2 : w.trunks = true) (h3 : w.lineQueue = true)
    (h4 : w.outbound = true) (h5 : w.routes = true) (t : Nat) (u : TrunkUser) (s : State) :
    (giveUpTrunk t u s).blank w = s.blank w := by
  simp [giveUpTrunk, setRoute_frame, sendTrunkClaim_frame, blank_planner_trunks, h1, h2, h3, h4, h5]

theorem releaseTrunk_frame (h1 : w.events = true) (h2 : w.trunks = true) (h3 : w.lineQueue = true)
    (h4 : w.outbound = true) (h5 : w.routes = true) (u : TrunkUser) (s : State) :
    (releaseTrunk u s).blank w = s.blank w := by
  unfold releaseTrunk
  split
  · rfl
  · exact giveUpTrunk_frame h1 h2 h3 h4 h5 _ _ _

theorem releaseOwnTrunks_frame (h1 : w.events = true) (h2 : w.trunks = true) (h3 : w.lineQueue = true)
    (h4 : w.outbound = true) (h5 : w.routes = true) (s : State) :
    (releaseOwnTrunks s).blank w = s.blank w := by
  apply forEach_frame
  intro t s
  split
  · exact giveUpTrunk_frame h1 h2 h3 h4 h5 _ _ _
  · rfl

theorem adoptTrunk_frame (h1 : w.trunks = true) (q t : Nat) (s : State) :
    (adoptTrunk q t s).blank w = s.blank w := by
  unfold adoptTrunk
  (repeat' split) <;> simp [setTrunk_frame, h1, Channel.plan, Booth.plan, Desk.plan, Feed.plan]

theorem sendRelayRelease_frame (h1 : w.events = true) (h2 : w.lineQueue = true) (b : Nat) (src : Selection)
    (s : State) :
    (sendRelayRelease b src s).blank w = s.blank w := by
  unfold sendRelayRelease
  (repeat' split) <;> simp [enqueueFrame_frame, h1, h2, Channel.plan, Booth.plan, Desk.plan, Feed.plan]

theorem dropRelay_frame (h1 : w.events = true) (h2 : w.booths = true) (h3 : w.lineQueue = true)
    (h4 : w.outbound = true) (h5 : w.routes = true) (cause : LostCause) (b : Nat) (s : State) :
    (dropRelay cause b s).blank w = s.blank w := by
  unfold dropRelay
  (repeat' split) <;> simp [modBooth_frame, queueEvent_frame, setRoute_frame, sendRelayRelease_frame, h1, h2, h3,
    h4, h5, Channel.plan, Booth.plan, Desk.plan, Feed.plan]

theorem storePedigree_frame (h1 : w.events = true) (h2 : w.notices = true) (h3 : w.channels = true)
    (h4 : w.lineQueue = true) (c : Nat) (s : State) :
    (storePedigree c s).blank w = s.blank w := by
  unfold storePedigree
  (repeat' split) <;> simp [queueNotice_frame, modChannel_frame, h1, h2, h3, h4, Channel.plan, Booth.plan,
    Desk.plan, Feed.plan]

theorem storeFeedPedigree_frame (h1 : w.events = true) (h2 : w.feeds = true) (h3 : w.lineQueue = true) (k : Nat)
    (s : State) :
    (storeFeedPedigree k s).blank w = s.blank w := by
  simp only [storeFeedPedigree]
  (repeat' split) <;> simp [modFeed_frame, enqueueFrame_frame, h1, h2, h3, apply_ite (State.blank w), Channel.plan,
    Booth.plan, Desk.plan, Feed.plan]

theorem recheckBooth_frame (h1 : w.events = true) (h2 : w.booths = true) (h3 : w.lineQueue = true)
    (h4 : w.outbound = true) (h5 : w.routes = true) (src : Selection) (b : Nat) (s : State) :
    (recheckBooth src b s).blank w = s.blank w := by
  simp only [recheckBooth]
  (repeat' split) <;> simp [dropRelay_frame, h1, h2, h3, h4, h5, apply_ite (State.blank w), Channel.plan,
    Booth.plan, Desk.plan, Feed.plan]

theorem followChanges_frame (h1 : w.events = true) (h2 : w.notices = true) (h3 : w.channels = true)
    (h4 : w.booths = true)
    (h5 : w.feeds = true) (h6 : w.lineQueue = true) (h7 : w.outbound = true) (h8 : w.routes = true) (n : Nat)
      (l : List Selection) (s : State) :
    (followChanges n l s).blank w = s.blank w := by
  induction n generalizing l s with
  | zero => rfl
  | succ n ih =>
    cases l with
    | nil => rfl
    | cons src rest =>
      simp [followChanges, ih, forEach_frame, recheckBooth_frame, storePedigree_frame, storeFeedPedigree_frame, h1,
        h2, h3, h4, h5, h6, h7, h8]

theorem recompute_frame (h1 : w.events = true) (h2 : w.notices = true) (h3 : w.channels = true)
    (h4 : w.booths = true) (h5 : w.feeds = true) (h6 : w.lineQueue = true) (h7 : w.outbound = true)
      (h8 : w.routes = true) (which : Nat → Channel → Bool) (booths : List Nat) (s : State) :
    (recompute which booths s).blank w = s.blank w := by
  simp only [recompute]
  rw [followChanges_frame h1 h2 h3 h4 h5 h6 h7 h8, forEach_frame _ _ (storeFeedPedigree_frame h1 h5 h6),
    forEach_frame _ _ (storePedigree_frame h1 h2 h3 h6)]

theorem recomputeBooths_frame (h1 : w.events = true) (h2 : w.notices = true) (h3 : w.channels = true)
    (h4 : w.booths = true) (h5 : w.feeds = true) (h6 : w.lineQueue = true) (h7 : w.outbound = true)
      (h8 : w.routes = true) (booths : List Nat) (s : State) :
    (recomputeBooths booths s).blank w = s.blank w := by
  unfold recomputeBooths
  (repeat' split) <;> simp [recompute_frame, h1, h2, h3, h4, h5, h6, h7, h8, Channel.plan, Booth.plan, Desk.plan,
    Feed.plan]

theorem recomputeChannel_frame (h1 : w.events = true) (h2 : w.notices = true) (h3 : w.channels = true)
    (h4 : w.booths = true) (h5 : w.feeds = true) (h6 : w.lineQueue = true) (h7 : w.outbound = true)
      (h8 : w.routes = true) (c : Nat) (s : State) :
    (recomputeChannel c s).blank w = s.blank w := by
  unfold recomputeChannel
  (repeat' split) <;> simp [recompute_frame, h1, h2, h3, h4, h5, h6, h7, h8, Channel.plan, Booth.plan, Desk.plan,
    Feed.plan]

theorem dropRelays_frame (h1 : w.events = true) (h2 : w.notices = true) (h3 : w.channels = true)
    (h4 : w.booths = true) (h5 : w.feeds = true) (h6 : w.lineQueue = true) (h7 : w.outbound = true)
      (h8 : w.routes = true) (cause : LostCause) (booths : List Nat) (s : State) :
    (dropRelays cause booths s).blank w = s.blank w := by
  unfold dropRelays
  (repeat' split) <;> simp [recomputeBooths_frame, dropRelay_frame, forEach_frame, h1, h2, h3, h4, h5, h6, h7, h8,
    Channel.plan, Booth.plan, Desk.plan, Feed.plan]

theorem recheckOutputs_frame (h1 : w.events = true) (h2 : w.notices = true) (h3 : w.channels = true)
    (h4 : w.booths = true) (h5 : w.feeds = true) (h6 : w.lineQueue = true) (h7 : w.outbound = true)
      (h8 : w.routes = true) (b : Nat) (s : State) :
    (recheckOutputs b s).blank w = s.blank w := by
  unfold recheckOutputs
  (repeat' split) <;> simp [dropRelays_frame, h1, h2, h3, h4, h5, h6, h7, h8, Channel.plan, Booth.plan, Desk.plan,
    Feed.plan]

theorem applySelection_frame (h1 : w.events = true) (h2 : w.notices = true) (h3 : w.channels = true)
    (h4 : w.booths = true) (h5 : w.feeds = true) (h6 : w.lineQueue = true) (h7 : w.outbound = true)
      (h8 : w.routes = true) (b : Nat) (src : Selection) (s : State) :
    (applySelection b src s).blank w = s.blank w := by
  unfold applySelection
  (repeat' split) <;> simp [sendRelayRelease_frame, setRoute_frame, modBooth_frame, recomputeBooths_frame,
    enqueueFrame_frame, h1, h2, h3, h4, h5, h6, h7, h8, Channel.plan, Booth.plan, Desk.plan, Feed.plan]

theorem enterNotice_frame (h1 : w.events = true) (h2 : w.notices = true) (h3 : w.channels = true)
    (h4 : w.booths = true) (h5 : w.directory = true) (h6 : w.feeds = true) (h7 : w.lineQueue = true)
      (h8 : w.outbound = true) (h9 : w.routes = true) (q c : Nat) (l : Tag) (st : NoticeState) (t : Option Nat)
        (p : Pedigree) (s : State) :
    (enterNotice q c l st t p s).blank w = s.blank w := by
  simp only [enterNotice]
  (repeat' split) <;> simp [followChanges_frame, dropRelays_frame, blank_relay_directory, h1, h2, h3, h4, h5, h6,
    h7, h8, h9, apply_ite (State.blank w), Channel.plan, Booth.plan, Desk.plan, Feed.plan]

theorem expireEntry_frame (h1 : w.events = true) (h2 : w.notices = true) (h3 : w.channels = true)
    (h4 : w.booths = true) (h5 : w.directory = true) (h6 : w.feeds = true) (h7 : w.lineQueue = true)
      (h8 : w.outbound = true) (h9 : w.routes = true) (q c : Nat) (s : State) :
    (expireEntry q c s).blank w = s.blank w := by
  unfold expireEntry
  (repeat' split) <;> simp [dropRelays_frame, blank_relay_directory, h1, h2, h3, h4, h5, h6, h7, h8, h9,
    Channel.plan, Booth.plan, Desk.plan, Feed.plan]

theorem dropPeerEntries_frame (h1 : w.events = true) (h2 : w.notices = true) (h3 : w.channels = true)
    (h4 : w.booths = true) (h5 : w.directory = true) (h6 : w.feeds = true) (h7 : w.lineQueue = true)
      (h8 : w.outbound = true) (h9 : w.routes = true) (q : Nat) (s : State) :
    (dropPeerEntries q s).blank w = s.blank w := by
  unfold dropPeerEntries
  (repeat' split) <;> simp [dropRelays_frame, blank_relay_directory, h1, h2, h3, h4, h5, h6, h7, h8, h9,
    Channel.plan, Booth.plan, Desk.plan, Feed.plan]

theorem answerListeners_frame (h1 : w.events = true) (h2 : w.lineQueue = true) (c : Nat) (o : RelayOutcome)
    (ls : List Listener) (s : State) :
    (answerListeners c o ls s).blank w = s.blank w := by
  unfold answerListeners
  (repeat' split) <;> simp [enqueueFrame_frame, forEach_frame, h1, h2, Channel.plan, Booth.plan, Desk.plan,
    Feed.plan]

theorem dropExport_frame (h1 : w.events = true) (h2 : w.trunks = true) (h3 : w.exported = true)
    (h4 : w.lineQueue = true) (h5 : w.outbound = true) (h6 : w.routes = true) (c : Nat) (s : State) :
    (dropExport c s).blank w = s.blank w := by
  unfold dropExport
  (repeat' split) <;> simp [releaseTrunk_frame, blank_relay_exported, h1, h2, h3, h4, h5, h6, Channel.plan,
    Booth.plan, Desk.plan, Feed.plan]

theorem endExport_frame (h1 : w.events = true) (h2 : w.notices = true) (h3 : w.trunks = true)
    (h4 : w.exported = true) (h5 : w.lineQueue = true) (h6 : w.outbound = true) (h7 : w.routes = true) (c : Nat)
      (s : State) :
    (endExport c s).blank w = s.blank w := by
  unfold endExport
  (repeat' split) <;> simp [queueNotice_frame, dropExport_frame, h1, h2, h3, h4, h5, h6, h7, Channel.plan,
    Booth.plan, Desk.plan, Feed.plan]

theorem requestRelay_frame (h1 : w.events = true) (h2 : w.trunks = true) (h3 : w.exported = true)
    (h4 : w.lineQueue = true) (h5 : w.outbound = true) (h6 : w.routes = true) (q c b : Nat) (s : State) :
    (requestRelay q c b s).blank w = s.blank w := by
  simp only [requestRelay]
  (repeat' split) <;> simp [enqueueFrame_frame, setRoute_frame, takeTrunk_frame, blank_relay_exported, h1, h2, h3,
    h4, h5, h6, apply_ite (State.blank w), Channel.plan, Booth.plan, Desk.plan, Feed.plan]

theorem leaveExport_frame (h1 : w.events = true) (h2 : w.notices = true) (h3 : w.trunks = true)
    (h4 : w.exported = true) (h5 : w.lineQueue = true) (h6 : w.outbound = true) (h7 : w.routes = true)
      (q c b : Nat) (s : State) :
    (leaveExport q c b s).blank w = s.blank w := by
  simp only [leaveExport]
  (repeat' split) <;> simp [endExport_frame, blank_relay_exported, h1, h2, h3, h4, h5, h6, h7,
    apply_ite (State.blank w), Channel.plan, Booth.plan, Desk.plan, Feed.plan]

theorem exportWon_frame (h1 : w.events = true) (h2 : w.notices = true) (h3 : w.lineQueue = true)
    (h4 : w.outbound = true) (h5 : w.routes = true) (c t : Nat) (s : State) :
    (exportWon c t s).blank w = s.blank w := by
  unfold exportWon
  (repeat' split) <;> simp [queueNotice_frame, setRoute_frame, answerListeners_frame, h1, h2, h3, h4, h5,
    Channel.plan, Booth.plan, Desk.plan, Feed.plan]

theorem exportMoved_frame (h1 : w.exported = true) (c t : Nat) (s : State) :
    (exportMoved c t s).blank w = s.blank w := by
  unfold exportMoved
  (repeat' split) <;> simp [State.blank, h1]

theorem exportStranded_frame (h1 : w.events = true) (h2 : w.notices = true) (h3 : w.trunks = true)
    (h4 : w.exported = true) (h5 : w.lineQueue = true) (h6 : w.outbound = true) (h7 : w.routes = true) (c : Nat)
      (s : State) :
    (exportStranded c s).blank w = s.blank w := by
  unfold exportStranded
  (repeat' split) <;> simp [endExport_frame, answerListeners_frame, h1, h2, h3, h4, h5, h6, h7, Channel.plan,
    Booth.plan, Desk.plan, Feed.plan]

theorem closeRelays_frame (h1 : w.events = true) (h2 : w.notices = true) (h3 : w.channels = true)
    (h4 : w.trunks = true) (h5 : w.booths = true) (h6 : w.exported = true) (h7 : w.feeds = true)
      (h8 : w.lineQueue = true) (h9 : w.outbound = true) (h10 : w.routes = true) (c : Nat) (s : State) :
    (closeRelays c s).blank w = s.blank w := by
  simp only [closeRelays]
  (repeat' split) <;> simp [dropRelays_frame, dropExport_frame, enqueueFrame_frame, h1, h2, h3, h4, h5, h6, h7, h8,
    h9, h10, apply_ite (State.blank w), Channel.plan, Booth.plan, Desk.plan, Feed.plan]

theorem grantBooth_frame (h1 : w.booths = true) (h2 : w.outbound = true) (h3 : w.routes = true) (t b : Nat)
    (s : State) :
    (grantBooth t b s).blank w = s.blank w := by
  unfold grantBooth
  (repeat' split) <;> simp [setRoute_frame, modBooth_frame, h1, h2, h3, Channel.plan, Booth.plan, Desk.plan,
    Feed.plan]

theorem takeGrant_frame (h1 : w.events = true) (h2 : w.trunks = true) (h3 : w.booths = true)
    (h4 : w.lineQueue = true) (h5 : w.outbound = true) (h6 : w.routes = true) (q c t : Nat) (s : State) :
    (takeGrant q c t s).blank w = s.blank w := by
  simp only [takeGrant]
  (repeat' split) <;> simp [adoptTrunk_frame, enqueueFrame_frame, grantBooth_frame, forEach_frame, h1, h2, h3, h4,
    h5, h6, apply_ite (State.blank w), Channel.plan, Booth.plan, Desk.plan, Feed.plan]

theorem followTrunkBooths_frame (h1 : w.events = true) (h2 : w.notices = true) (h3 : w.channels = true)
    (h4 : w.booths = true) (h5 : w.feeds = true) (h6 : w.lineQueue = true) (h7 : w.outbound = true)
      (h8 : w.routes = true) (t : Nat) (s : State) :
    (followTrunkBooths t s).blank w = s.blank w := by
  unfold followTrunkBooths
  (repeat' split) <;> simp [dropRelays_frame, setRoute_frame, modBooth_frame, forEach_frame, h1, h2, h3, h4, h5,
    h6, h7, h8, Channel.plan, Booth.plan, Desk.plan, Feed.plan]

theorem setHolder_frame (h1 : w.events = true) (h2 : w.notices = true) (h3 : w.channels = true)
    (h4 : w.booths = true) (h5 : w.feeds = true) (h6 : w.lineQueue = true) (h7 : w.outbound = true)
      (h8 : w.routes = true) (c : Nat) (h : Holder) (s : State) :
    (setHolder c h s).blank w = s.blank w := by
  unfold setHolder
  (repeat' split) <;> simp [modChannel_frame, recomputeChannel_frame, setRoute_frame, h1, h2, h3, h4, h5, h6, h7,
    h8, Channel.plan, Booth.plan, Desk.plan, Feed.plan]

theorem feedTakes_frame (h1 : w.events = true) (h2 : w.notices = true) (h3 : w.channels = true)
    (h4 : w.booths = true) (h5 : w.feeds = true) (h6 : w.lineQueue = true) (h7 : w.outbound = true)
      (h8 : w.routes = true) (k c : Nat) (s : State) :
    (feedTakes k c s).blank w = s.blank w := by
  unfold feedTakes
  (repeat' split) <;> simp [setHolder_frame, modFeed_frame, h1, h2, h3, h4, h5, h6, h7, h8, Channel.plan,
    Booth.plan, Desk.plan, Feed.plan]

theorem vacate_frame (h1 : w.events = true) (h2 : w.notices = true) (h3 : w.channels = true) (h4 : w.booths = true)
    (h5 : w.feeds = true) (h6 : w.lineQueue = true) (h7 : w.outbound = true) (h8 : w.routes = true) (c : Nat)
      (s : State) :
    (vacate c s).blank w = s.blank w := by
  unfold vacate
  (repeat' split) <;> simp [feedTakes_frame, setHolder_frame, h1, h2, h3, h4, h5, h6, h7, h8, Channel.plan,
    Booth.plan, Desk.plan, Feed.plan]

theorem sendFeedState_frame (h1 : w.events = true) (h2 : w.lineQueue = true) (f : Feed) (x : FeedSignal)
    (s : State) :
    (sendFeedState f x s).blank w = s.blank w := by
  unfold sendFeedState
  (repeat' split) <;> simp [enqueueFrame_frame, h1, h2, Channel.plan, Booth.plan, Desk.plan, Feed.plan]

theorem reportHeld_frame (h1 : w.events = true) (h2 : w.feeds = true) (h3 : w.lineQueue = true) (k : Nat)
    (s : State) :
    (reportHeld k s).blank w = s.blank w := by
  unfold reportHeld
  (repeat' split) <;> simp [modFeed_frame, sendFeedState_frame, h1, h2, h3, Channel.plan, Booth.plan, Desk.plan,
    Feed.plan]

theorem reportUnheld_frame (h1 : w.events = true) (h2 : w.feeds = true) (h3 : w.lineQueue = true) (k : Nat)
    (s : State) :
    (reportUnheld k s).blank w = s.blank w := by
  unfold reportUnheld
  (repeat' split) <;> simp [modFeed_frame, sendFeedState_frame, h1, h2, h3, Channel.plan, Booth.plan, Desk.plan,
    Feed.plan]

theorem gain_frame (h1 : w.events = true) (h2 : w.notices = true) (h3 : w.channels = true) (h4 : w.booths = true)
    (h5 : w.feeds = true) (h6 : w.lineQueue = true) (h7 : w.outbound = true) (h8 : w.routes = true) (b d : Nat)
      (h : Option Held) (s : State) :
    (gain b d h s).blank w = s.blank w := by
  unfold gain
  (repeat' split) <;> simp [setHolder_frame, reportHeld_frame, h1, h2, h3, h4, h5, h6, h7, h8, Channel.plan,
    Booth.plan, Desk.plan, Feed.plan]

theorem leave_frame (h1 : w.events = true) (h2 : w.notices = true) (h3 : w.channels = true) (h4 : w.booths = true)
    (h5 : w.feeds = true) (h6 : w.lineQueue = true) (h7 : w.outbound = true) (h8 : w.routes = true)
      (h : Option Held) (s : State) :
    (leave h s).blank w = s.blank w := by
  unfold leave
  (repeat' split) <;> simp [vacate_frame, reportUnheld_frame, h1, h2, h3, h4, h5, h6, h7, h8, Channel.plan,
    Booth.plan, Desk.plan, Feed.plan]

theorem deskOff_frame (h1 : w.desks = true) (d : Nat) (s : State) :
    (deskOff d s).blank w = s.blank w := by
  unfold deskOff
  (repeat' split) <;> simp [modDesk_frame, h1, Channel.plan, Booth.plan, Desk.plan, Feed.plan]

theorem desksOff_frame (h1 : w.booths = true) (h2 : w.desks = true) (b : Nat) (s : State) :
    (desksOff b s).blank w = s.blank w := by
  unfold desksOff
  (repeat' split) <;> simp [modBooth_frame, deskOff_frame, forEach_frame, h1, h2, Channel.plan, Booth.plan,
    Desk.plan, Feed.plan]

theorem forceOff_frame (h1 : w.events = true) (h2 : w.booths = true) (h3 : w.desks = true) (b : Nat)
    (cause : HoldCause) (s : State) :
    (forceOff b cause s).blank w = s.blank w := by
  unfold forceOff
  (repeat' split) <;> simp [queueEvent_frame, desksOff_frame, h1, h2, h3, Channel.plan, Booth.plan, Desk.plan,
    Feed.plan]

theorem releaseHall_frame (h1 : w.events = true) (h2 : w.notices = true) (h3 : w.channels = true)
    (h4 : w.booths = true) (h5 : w.desks = true) (h6 : w.feeds = true) (h7 : w.lineQueue = true)
      (h8 : w.outbound = true) (h9 : w.routes = true) (s : State) :
    (releaseHall s).blank w = s.blank w := by
  unfold releaseHall
  apply forEach_frame
  intro k s
  (repeat' split) <;> simp [leave_frame, desksOff_frame, Channel.plan, Booth.plan, Desk.plan, Feed.plan, h1, h2,
    h3, h4, h5, h6, h7, h8, h9]

theorem refreshDesk_frame (h1 : w.deskShow = true) (h2 : w.outbound = true) (d : Nat) (s : State) :
    (refreshDesk d s).blank w = s.blank w := by
  have show_ : ∀ (f : Desk → Desk) (s : State), (∀ r, (f r).core = r.core) → (∀ r, (f r).plan = r.plan) →
      (modDesk d f s).blank w = s.blank w := by
    intro f s hc hp
    simp only [State.blank, modDesk, h1, Tab.mapAll, mapAll_modify_of_same _ _ _ _ hc,
      mapAll_modify_of_same _ _ _ _ hp, if_true]
  unfold refreshDesk
  have gate : ∀ (g : Bool) (s : State), (modDesk d (fun r => { r with gate := g }) s).blank w = s.blank w :=
    fun g s => show_ _ s (fun _ => rfl) (fun _ => rfl)
  have lamps : ∀ (l : Lamps) (s : State), (modDesk d (fun r => { r with lamps := l }) s).blank w = s.blank w :=
    fun l s => show_ _ s (fun _ => rfl) (fun _ => rfl)
  (repeat' split) <;> simp [queueMessage_frame, gate, lamps, h2, apply_ite (State.blank w)]

theorem refreshDesks_frame (h1 : w.deskShow = true) (h2 : w.outbound = true) (s : State) :
    (refreshDesks s).blank w = s.blank w := by
  unfold refreshDesks
  (repeat' split) <;> simp [refreshDesk_frame, forEach_frame, h1, h2, Channel.plan, Booth.plan, Desk.plan,
    Feed.plan]

theorem freeContext_frame (h1 : w.contexts = true) (k : Nat) (s : State) :
    (freeContext k s).blank w = s.blank w := by
  unfold freeContext
  (repeat' split) <;> simp [State.blank, h1]

theorem endReplacement_frame (h1 : w.events = true) (h2 : w.booths = true) (h3 : w.desks = true) (k b : Nat)
    (s : State) :
    (endReplacement k b s).blank w = s.blank w := by
  unfold endReplacement
  (repeat' split) <;> simp [forceOff_frame, modBooth_frame, h1, h2, h3, Channel.plan, Booth.plan, Desk.plan,
    Feed.plan]

theorem endFeedContext_frame (h1 : w.events = true) (h2 : w.notices = true) (h3 : w.channels = true)
    (h4 : w.trunks = true) (h5 : w.booths = true) (h6 : w.desks = true) (h7 : w.feeds = true)
      (h8 : w.contexts = true) (h9 : w.lineQueue = true) (h10 : w.outbound = true) (h11 : w.routes = true)
        (k : Nat) (cause : FeedCause) (partner : Bool) (s : State) :
    (endFeedContext k cause partner s).blank w = s.blank w := by
  unfold endFeedContext
  (repeat' split) <;> simp [recheckOutputs_frame, freeContext_frame, endReplacement_frame, releaseTrunk_frame,
    setHolder_frame, queueEvent_frame, h1, h2, h3, h4, h5, h6, h7, h8, h9, h10, h11, Channel.plan, Booth.plan,
      Desk.plan, Feed.plan]

theorem endWith_frame (h1 : w.events = true) (h2 : w.notices = true) (h3 : w.channels = true)
    (h4 : w.trunks = true) (h5 : w.booths = true) (h6 : w.desks = true) (h7 : w.feeds = true)
      (h8 : w.contexts = true) (h9 : w.lineQueue = true) (h10 : w.outbound = true) (h11 : w.routes = true)
        (k : Nat) (reason : EndReason) (s : State) :
    (endWith k reason s).blank w = s.blank w := by
  unfold endWith
  (repeat' split) <;> simp [endFeedContext_frame, sendFeedState_frame, h1, h2, h3, h4, h5, h6, h7, h8, h9, h10,
    h11, Channel.plan, Booth.plan, Desk.plan, Feed.plan]

theorem beginReplacement_frame (h1 : w.events = true) (h2 : w.notices = true) (h3 : w.channels = true)
    (h4 : w.booths = true) (h5 : w.desks = true) (h6 : w.feeds = true) (h7 : w.lineQueue = true)
      (h8 : w.outbound = true) (h9 : w.routes = true) (k b : Nat) (s : State) :
    (beginReplacement k b s).blank w = s.blank w := by
  unfold beginReplacement
  (repeat' split) <;> simp [leave_frame, forceOff_frame, recheckOutputs_frame, recomputeBooths_frame,
    modBooth_frame, h1, h2, h3, h4, h5, h6, h7, h8, h9, Channel.plan, Booth.plan, Desk.plan, Feed.plan]

theorem acceptOffer_frame (h1 : w.events = true) (h2 : w.notices = true) (h3 : w.channels = true)
    (h4 : w.trunks = true) (h5 : w.booths = true) (h6 : w.desks = true) (h7 : w.feeds = true)
      (h8 : w.contexts = true) (h9 : w.lineQueue = true) (h10 : w.outbound = true) (h11 : w.routes = true)
        (k : Nat) (s : State) :
    (acceptOffer k s).blank w = s.blank w := by
  simp only [acceptOffer]
  (repeat' split) <;> simp [modFeed_frame, endWith_frame, beginReplacement_frame, takeTrunk_frame, h1, h2, h3, h4,
    h5, h6, h7, h8, h9, h10, h11, apply_ite (State.blank w), Channel.plan, Booth.plan, Desk.plan, Feed.plan]

theorem feedWon_frame (h1 : w.events = true) (h2 : w.feeds = true) (h3 : w.lineQueue = true)
    (h4 : w.outbound = true) (h5 : w.routes = true) (k t : Nat) (s : State) :
    (feedWon k t s).blank w = s.blank w := by
  unfold feedWon
  (repeat' split) <;> simp [modFeed_frame, setRoute_frame, sendFeedState_frame, reportHeld_frame, h1, h2, h3, h4,
    h5, Channel.plan, Booth.plan, Desk.plan, Feed.plan]

theorem feedMoved_frame (h1 : w.feeds = true) (k t : Nat) (s : State) :
    (feedMoved k t s).blank w = s.blank w := by
  unfold feedMoved
  (repeat' split) <;> simp [modFeed_frame, h1, Channel.plan, Booth.plan, Desk.plan, Feed.plan]

theorem tellWon_frame (h1 : w.events = true) (h2 : w.notices = true) (h3 : w.feeds = true)
    (h4 : w.lineQueue = true) (h5 : w.outbound = true) (h6 : w.routes = true) (u : TrunkUser) (t : Nat) (s : State)
      :
    (tellWon u t s).blank w = s.blank w := by
  unfold tellWon
  (repeat' split) <;> simp [exportWon_frame, feedWon_frame, h1, h2, h3, h4, h5, h6, Channel.plan, Booth.plan,
    Desk.plan, Feed.plan]

theorem searchTrunk_frame (h1 : w.events = true) (h2 : w.notices = true) (h3 : w.channels = true)
    (h4 : w.trunks = true) (h5 : w.booths = true) (h6 : w.desks = true) (h7 : w.exported = true)
      (h8 : w.feeds = true) (h9 : w.contexts = true) (h10 : w.lineQueue = true) (h11 : w.outbound = true)
        (h12 : w.routes = true) (u : TrunkUser) (s : State) :
    (searchTrunk u s).blank w = s.blank w := by
  unfold searchTrunk
  (repeat' split) <;> simp [exportMoved_frame, takeTrunk_frame, feedMoved_frame, exportStranded_frame,
    endWith_frame, h1, h2, h3, h4, h5, h6, h7, h8, h9, h10, h11, h12, Channel.plan, Booth.plan, Desk.plan,
      Feed.plan]

theorem yieldTrunk_frame (h1 : w.events = true) (h2 : w.notices = true) (h3 : w.channels = true)
    (h4 : w.trunks = true) (h5 : w.booths = true) (h6 : w.desks = true) (h7 : w.exported = true)
      (h8 : w.feeds = true) (h9 : w.contexts = true) (h10 : w.lineQueue = true) (h11 : w.outbound = true)
        (h12 : w.routes = true) (q t : Nat) (u : TrunkUser) (s : State) :
    (yieldTrunk q t u s).blank w = s.blank w := by
  unfold yieldTrunk
  (repeat' split) <;> simp [sendTrunkClaim_frame, setTrunk_frame, searchTrunk_frame, setRoute_frame, h1, h2, h3,
    h4, h5, h6, h7, h8, h9, h10, h11, h12, Channel.plan, Booth.plan, Desk.plan, Feed.plan]

theorem followTrunkFeeds_frame (h1 : w.feeds = true) (h2 : w.outbound = true) (h3 : w.routes = true) (t : Nat)
    (s : State) :
    (followTrunkFeeds t s).blank w = s.blank w := by
  unfold followTrunkFeeds
  apply forEach_frame
  intro k s
  (repeat' split) <;> simp [modFeed_frame, setRoute_frame, Channel.plan, Booth.plan, Desk.plan, Feed.plan, h1, h2,
    h3]

theorem followTrunk_frame (h1 : w.events = true) (h2 : w.notices = true) (h3 : w.channels = true)
    (h4 : w.booths = true) (h5 : w.feeds = true) (h6 : w.lineQueue = true) (h7 : w.outbound = true)
      (h8 : w.routes = true) (t : Nat) (s : State) :
    (followTrunk t s).blank w = s.blank w := by
  unfold followTrunk
  (repeat' split) <;> simp [followTrunkFeeds_frame, followTrunkBooths_frame, h1, h2, h3, h4, h5, h6, h7, h8,
    Channel.plan, Booth.plan, Desk.plan, Feed.plan]

theorem freePeerTrunk_frame (h1 : w.events = true) (h2 : w.notices = true) (h3 : w.channels = true)
    (h4 : w.trunks = true) (h5 : w.booths = true) (h6 : w.feeds = true) (h7 : w.lineQueue = true)
      (h8 : w.outbound = true) (h9 : w.routes = true) (t : Nat) (s : State) :
    (freePeerTrunk t s).blank w = s.blank w := by
  unfold freePeerTrunk
  (repeat' split) <;> simp [followTrunk_frame, blank_planner_trunks, h1, h2, h3, h4, h5, h6, h7, h8, h9,
    Channel.plan, Booth.plan, Desk.plan, Feed.plan]

theorem refreshTrunk_frame (h1 : w.events = true) (h2 : w.trunks = true) (h3 : w.lineQueue = true) (t : Nat)
    (s : State) :
    (refreshTrunk t s).blank w = s.blank w := by
  unfold refreshTrunk
  (repeat' split) <;> simp [sendTrunkClaim_frame, setTrunk_frame, h1, h2, h3, Channel.plan, Booth.plan, Desk.plan,
    Feed.plan]

theorem hearTrunkClaim_frame (h1 : w.events = true) (h2 : w.notices = true) (h3 : w.channels = true)
    (h4 : w.trunks = true) (h5 : w.booths = true) (h6 : w.desks = true) (h7 : w.exported = true)
      (h8 : w.feeds = true) (h9 : w.contexts = true) (h10 : w.lineQueue = true) (h11 : w.outbound = true)
        (h12 : w.routes = true) (q t : Nat) (s : State) :
    (hearTrunkClaim q t s).blank w = s.blank w := by
  unfold hearTrunkClaim
  (repeat' split) <;> simp [setTrunk_frame, followTrunk_frame, yieldTrunk_frame, refreshTrunk_frame, h1, h2, h3,
    h4, h5, h6, h7, h8, h9, h10, h11, h12, Channel.plan, Booth.plan, Desk.plan, Feed.plan]

theorem winTrunk_frame (h1 : w.events = true) (h2 : w.notices = true) (h3 : w.trunks = true) (h4 : w.feeds = true)
    (h5 : w.lineQueue = true) (h6 : w.outbound = true) (h7 : w.routes = true) (t : Nat) (s : State) :
    (winTrunk t s).blank w = s.blank w := by
  unfold winTrunk
  (repeat' split) <;> simp [setTrunk_frame, tellWon_frame, h1, h2, h3, h4, h5, h6, h7, Channel.plan, Booth.plan,
    Desk.plan, Feed.plan]

theorem hearOffer_frame (h1 : w.events = true) (h2 : w.notices = true) (h3 : w.channels = true)
    (h4 : w.trunks = true) (h5 : w.booths = true) (h6 : w.desks = true) (h7 : w.feeds = true)
      (h8 : w.contexts = true) (h9 : w.lineQueue = true) (h10 : w.outbound = true) (h11 : w.routes = true)
        (q b : Nat) (l : Tag) (c : Nat) (p : Pedigree) (s : State) :
    (hearOffer q b l c p s).blank w = s.blank w := by
  simp only [hearOffer]
  (repeat' split) <;> simp [endFeedContext_frame, queueEvent_frame, enqueueFrame_frame, blank_feed_contexts, h1,
    h2, h3, h4, h5, h6, h7, h8, h9, h10, h11, apply_ite (State.blank w), Channel.plan, Booth.plan, Desk.plan,
      Feed.plan]

theorem enterLive_frame (h1 : w.events = true) (h2 : w.notices = true) (h3 : w.channels = true)
    (h4 : w.booths = true) (h5 : w.feeds = true) (h6 : w.lineQueue = true) (h7 : w.outbound = true)
      (h8 : w.routes = true) (k : Nat) (s : State) :
    (enterLive k s).blank w = s.blank w := by
  unfold enterLive
  (repeat' split) <;> simp [queueEvent_frame, modFeed_frame, feedTakes_frame, h1, h2, h3, h4, h5, h6, h7, h8,
    Channel.plan, Booth.plan, Desk.plan, Feed.plan]

theorem takeLive_frame (h1 : w.events = true) (h2 : w.notices = true) (h3 : w.channels = true)
    (h4 : w.booths = true) (h5 : w.feeds = true) (h6 : w.lineQueue = true) (h7 : w.outbound = true)
      (h8 : w.routes = true) (k : Nat) (p : Pedigree) (s : State) :
    (takeLive k p s).blank w = s.blank w := by
  unfold takeLive
  (repeat' split) <;> simp [modFeed_frame, enterLive_frame, recomputeChannel_frame, h1, h2, h3, h4, h5, h6, h7, h8,
    Channel.plan, Booth.plan, Desk.plan, Feed.plan]

theorem takeSilent_frame (h1 : w.events = true) (h2 : w.notices = true) (h3 : w.channels = true)
    (h4 : w.booths = true) (h5 : w.feeds = true) (h6 : w.lineQueue = true) (h7 : w.outbound = true)
      (h8 : w.routes = true) (k : Nat) (s : State) :
    (takeSilent k s).blank w = s.blank w := by
  unfold takeSilent
  (repeat' split) <;> simp [modFeed_frame, setHolder_frame, h1, h2, h3, h4, h5, h6, h7, h8, Channel.plan,
    Booth.plan, Desk.plan, Feed.plan]

theorem takeReady_frame (h1 : w.events = true) (h2 : w.notices = true) (h3 : w.channels = true)
    (h4 : w.trunks = true) (h5 : w.booths = true) (h6 : w.feeds = true) (h7 : w.lineQueue = true)
      (h8 : w.outbound = true) (h9 : w.routes = true) (k t : Nat) (s : State) :
    (takeReady k t s).blank w = s.blank w := by
  unfold takeReady
  (repeat' split) <;> simp [adoptTrunk_frame, modFeed_frame, enterLive_frame, setRoute_frame, h1, h2, h3, h4, h5,
    h6, h7, h8, h9, Channel.plan, Booth.plan, Desk.plan, Feed.plan]

theorem endBlocked_frame (h1 : w.events = true) (h2 : w.notices = true) (h3 : w.channels = true)
    (h4 : w.booths = true) (h5 : w.desks = true) (h6 : w.feeds = true) (h7 : w.lineQueue = true)
      (h8 : w.outbound = true) (h9 : w.routes = true) (k : Nat) (s : State) :
    (endBlocked k s).blank w = s.blank w := by
  unfold endBlocked
  (repeat' split) <;> simp [forceOff_frame, feedTakes_frame, h1, h2, h3, h4, h5, h6, h7, h8, h9, Channel.plan,
    Booth.plan, Desk.plan, Feed.plan]

theorem restFeeds_frame (h1 : w.events = true) (h2 : w.notices = true) (h3 : w.channels = true)
    (h4 : w.booths = true) (h5 : w.feeds = true) (h6 : w.lineQueue = true) (h7 : w.outbound = true)
      (h8 : w.routes = true) (s : State) :
    (restFeeds s).blank w = s.blank w := by
  unfold restFeeds
  apply forEach_frame
  intro k s
  (repeat' split) <;> simp [setHolder_frame, modFeed_frame, Channel.plan, Booth.plan, Desk.plan, Feed.plan, h1, h2,
    h3, h4, h5, h6, h7, h8]

theorem wakeFeeds_frame (h1 : w.events = true) (h2 : w.notices = true) (h3 : w.channels = true)
    (h4 : w.booths = true) (h5 : w.feeds = true) (h6 : w.lineQueue = true) (h7 : w.outbound = true)
      (h8 : w.routes = true) (s : State) :
    (wakeFeeds s).blank w = s.blank w := by
  unfold wakeFeeds
  apply forEach_frame
  intro k s
  (repeat' split) <;> simp [feedTakes_frame, Channel.plan, Booth.plan, Desk.plan, Feed.plan, h1, h2, h3, h4, h5,
    h6, h7, h8]

theorem endFeeds_frame (h1 : w.events = true) (h2 : w.notices = true) (h3 : w.channels = true)
    (h4 : w.trunks = true) (h5 : w.booths = true) (h6 : w.desks = true) (h7 : w.feeds = true)
      (h8 : w.contexts = true) (h9 : w.lineQueue = true) (h10 : w.outbound = true) (h11 : w.routes = true)
        (p : Feed → Bool) (cause : FeedCause) (s : State) :
    (endFeeds p cause s).blank w = s.blank w := by
  unfold endFeeds
  (repeat' split) <;> simp [endFeedContext_frame, forEach_frame, h1, h2, h3, h4, h5, h6, h7, h8, h9, h10, h11,
    Channel.plan, Booth.plan, Desk.plan, Feed.plan]

theorem flash_frame (h1 : w.outbound = true) (d : Nat) (l : Lamp) (s : State) :
    (flash d l s).blank w = s.blank w := by
  unfold flash
  (repeat' split) <;> simp [queueMessage_frame, h1, Channel.plan, Booth.plan, Desk.plan, Feed.plan]

theorem settleDesk_frame (h1 : w.desks = true) (d : Nat) (s : State) :
    (settleDesk d s).blank w = s.blank w := by
  unfold settleDesk
  (repeat' split) <;> simp [modDesk_frame, h1, Channel.plan, Booth.plan, Desk.plan, Feed.plan]

theorem nameHolder_frame (h1 : w.events = true) (h2 : w.notices = true) (h3 : w.channels = true)
    (h4 : w.booths = true) (h5 : w.feeds = true) (h6 : w.lineQueue = true) (h7 : w.outbound = true)
      (h8 : w.routes = true) (b d : Nat) (s : State) :
    (nameHolder b d s).blank w = s.blank w := by
  unfold nameHolder
  (repeat' split) <;> simp [modBooth_frame, setHolder_frame, h1, h2, h3, h4, h5, h6, h7, h8, Channel.plan,
    Booth.plan, Desk.plan, Feed.plan]

theorem stopOverlap_frame (h1 : w.booths = true) (b : Nat) (s : State) :
    (stopOverlap b s).blank w = s.blank w := by
  unfold stopOverlap
  (repeat' split) <;> simp [modBooth_frame, h1, Channel.plan, Booth.plan, Desk.plan, Feed.plan]

theorem endOverlap_frame (h1 : w.events = true) (h2 : w.notices = true) (h3 : w.channels = true)
    (h4 : w.booths = true) (h5 : w.desks = true) (h6 : w.feeds = true) (h7 : w.lineQueue = true)
      (h8 : w.outbound = true) (h9 : w.routes = true) (b : Nat) (s : State) :
    (endOverlap b s).blank w = s.blank w := by
  unfold endOverlap
  (repeat' split) <;> simp [nameHolder_frame, settleDesk_frame, deskOff_frame, stopOverlap_frame, h1, h2, h3, h4,
    h5, h6, h7, h8, h9, Channel.plan, Booth.plan, Desk.plan, Feed.plan]

theorem cancelOverlap_frame (h1 : w.booths = true) (h2 : w.desks = true) (b : Nat) (s : State) :
    (cancelOverlap b s).blank w = s.blank w := by
  unfold cancelOverlap
  (repeat' split) <;> simp [settleDesk_frame, deskOff_frame, stopOverlap_frame, h1, h2, Channel.plan, Booth.plan,
    Desk.plan, Feed.plan]

theorem endHold_frame (h1 : w.events = true) (h2 : w.notices = true) (h3 : w.channels = true)
    (h4 : w.booths = true) (h5 : w.desks = true) (h6 : w.feeds = true) (h7 : w.lineQueue = true)
      (h8 : w.outbound = true) (h9 : w.routes = true) (b d : Nat) (s : State) :
    (endHold b d s).blank w = s.blank w := by
  unfold endHold
  (repeat' split) <;> simp [leave_frame, deskOff_frame, modBooth_frame, h1, h2, h3, h4, h5, h6, h7, h8, h9,
    Channel.plan, Booth.plan, Desk.plan, Feed.plan]

theorem oust_frame (h1 : w.events = true) (h2 : w.booths = true) (h3 : w.desks = true) (h4 : w.feeds = true)
    (c b : Nat) (s : State) :
    (oust c b s).blank w = s.blank w := by
  unfold oust
  (repeat' split) <;> simp [forceOff_frame, queueEvent_frame, modFeed_frame, h1, h2, h3, h4, Channel.plan,
    Booth.plan, Desk.plan, Feed.plan]

theorem makeWay_frame (h1 : w.events = true) (h2 : w.booths = true) (h3 : w.desks = true) (h4 : w.feeds = true)
    (b : Nat) (a : Access) (s : State) :
    (makeWay b a s).blank w = s.blank w := by
  unfold makeWay
  (repeat' split) <;> simp [oust_frame, h1, h2, h3, h4, Channel.plan, Booth.plan, Desk.plan, Feed.plan]

theorem handOver_frame (h1 : w.events = true) (h2 : w.notices = true) (h3 : w.channels = true)
    (h4 : w.booths = true) (h5 : w.desks = true) (h6 : w.feeds = true) (h7 : w.lineQueue = true)
      (h8 : w.outbound = true) (h9 : w.routes = true) (b d : Nat) (bo : Booth) (s : State) :
    (handOver b d bo s).blank w = s.blank w := by
  unfold handOver
  (repeat' split) <;> simp [gain_frame, modDesk_frame, modBooth_frame, flash_frame, nameHolder_frame,
    deskOff_frame, h1, h2, h3, h4, h5, h6, h7, h8, h9, Channel.plan, Booth.plan, Desk.plan, Feed.plan]

theorem keyTake_frame (h1 : w.events = true) (h2 : w.notices = true) (h3 : w.channels = true)
    (h4 : w.booths = true) (h5 : w.desks = true) (h6 : w.feeds = true) (h7 : w.lineQueue = true)
      (h8 : w.outbound = true) (h9 : w.routes = true) (d : Nat) (r : Desk) (bo : Booth) (s : State) :
    (keyTake d r bo s).blank w = s.blank w := by
  unfold keyTake
  (repeat' split) <;> simp [flash_frame, handOver_frame, makeWay_frame, h1, h2, h3, h4, h5, h6, h7, h8, h9,
    Channel.plan, Booth.plan, Desk.plan, Feed.plan]

theorem keyRelease_frame (h1 : w.events = true) (h2 : w.notices = true) (h3 : w.channels = true)
    (h4 : w.booths = true) (h5 : w.desks = true) (h6 : w.feeds = true) (h7 : w.lineQueue = true)
      (h8 : w.outbound = true) (h9 : w.routes = true) (d : Nat) (r : Desk) (s : State) :
    (keyRelease d r s).blank w = s.blank w := by
  unfold keyRelease
  (repeat' split) <;> simp [endOverlap_frame, cancelOverlap_frame, endHold_frame, h1, h2, h3, h4, h5, h6, h7, h8,
    h9, Channel.plan, Booth.plan, Desk.plan, Feed.plan]

theorem keyCough_frame (h1 : w.desks = true) (d : Nat) (on : Bool) (r : Desk) (s : State) :
    (keyCough d on r s).blank w = s.blank w := by
  unfold keyCough
  (repeat' split) <;> simp [modDesk_frame, h1, Channel.plan, Booth.plan, Desk.plan, Feed.plan]

theorem keyOutput_frame (h1 : w.events = true) (h2 : w.notices = true) (h3 : w.channels = true)
    (h4 : w.booths = true) (h5 : w.desks = true) (h6 : w.feeds = true) (h7 : w.lineQueue = true)
      (h8 : w.outbound = true) (h9 : w.routes = true) (d : Nat) (o : Output) (r : Desk) (bo : Booth) (s : State) :
    (keyOutput d o r bo s).blank w = s.blank w := by
  simp only [keyOutput]
  (repeat' split) <;> simp [flash_frame, modBooth_frame, makeWay_frame, gain_frame, leave_frame, h1, h2, h3, h4,
    h5, h6, h7, h8, h9, apply_ite (State.blank w), Channel.plan, Booth.plan, Desk.plan, Feed.plan]

theorem keyRelay_frame (h1 : w.events = true) (h2 : w.notices = true) (h3 : w.channels = true)
    (h4 : w.booths = true) (h5 : w.feeds = true) (h6 : w.lineQueue = true) (h7 : w.outbound = true)
      (h8 : w.routes = true) (d : Nat) (src : Selection) (r : Desk) (bo : Booth) (s : State) :
    (keyRelay d src r bo s).blank w = s.blank w := by
  unfold keyRelay
  (repeat' split) <;> simp [applySelection_frame, flash_frame, h1, h2, h3, h4, h5, h6, h7, h8, Channel.plan,
    Booth.plan, Desk.plan, Feed.plan]

theorem takeKey_frame (h1 : w.events = true) (h2 : w.notices = true) (h3 : w.channels = true)
    (h4 : w.booths = true) (h5 : w.desks = true) (h6 : w.feeds = true) (h7 : w.lineQueue = true)
      (h8 : w.outbound = true) (h9 : w.routes = true) (d : Nat) (k : Key) (s : State) :
    (takeKey d k s).blank w = s.blank w := by
  unfold takeKey
  (repeat' split) <;> simp [keyTake_frame, keyRelease_frame, keyCough_frame, keyOutput_frame, keyRelay_frame, h1,
    h2, h3, h4, h5, h6, h7, h8, h9, Channel.plan, Booth.plan, Desk.plan, Feed.plan]

theorem deskOffline_frame (h1 : w.events = true) (h2 : w.notices = true) (h3 : w.channels = true)
    (h4 : w.booths = true) (h5 : w.desks = true) (h6 : w.feeds = true) (h7 : w.lineQueue = true)
      (h8 : w.outbound = true) (h9 : w.routes = true) (d : Nat) (s : State) :
    (deskOffline d s).blank w = s.blank w := by
  simp only [deskOffline]
  (repeat' split) <;> simp [queueEvent_frame, modDesk_frame, keyRelease_frame, h1, h2, h3, h4, h5, h6, h7, h8, h9,
    apply_ite (State.blank w), Channel.plan, Booth.plan, Desk.plan, Feed.plan]

theorem deskBack_frame (h1 : w.desks = true) (h2 : w.outbound = true) (d : Nat) (s : State) :
    (deskBack d s).blank w = s.blank w := by
  unfold deskBack
  (repeat' split) <;> simp [queueMessage_frame, modDesk_frame, h1, h2, Channel.plan, Booth.plan, Desk.plan,
    Feed.plan]

theorem expireOverlap_frame (h1 : w.events = true) (h2 : w.notices = true) (h3 : w.channels = true)
    (h4 : w.booths = true) (h5 : w.desks = true) (h6 : w.feeds = true) (h7 : w.lineQueue = true)
      (h8 : w.outbound = true) (h9 : w.routes = true) (b : Nat) (s : State) :
    (expireOverlap b s).blank w = s.blank w := by
  unfold expireOverlap
  (repeat' split) <;> simp [endOverlap_frame, h1, h2, h3, h4, h5, h6, h7, h8, h9, Channel.plan, Booth.plan,
    Desk.plan, Feed.plan]

theorem rebuildMap_frame (h1 : w.mapBack = true) (s : State) :
    (rebuildMap s).blank w = s.blank w := by
  unfold rebuildMap
  (repeat' split) <;> simp [State.blank, h1]

theorem switchMap_frame (h1 : w.mapFront = true) (hold : Nat) (s : State) :
    (switchMap hold s).blank w = s.blank w := by
  unfold switchMap
  (repeat' split) <;> simp [State.blank, h1]

theorem endCycle_frame (h1 : w.mapFront = true) (s : State) :
    (endCycle s).blank w = s.blank w := by
  simp only [endCycle]
  (repeat' split) <;> simp [switchMap_frame, blank_map_holdCount, h1, apply_ite (State.blank w), Channel.plan,
    Booth.plan, Desk.plan, Feed.plan]

theorem leaveDarkMap_frame (h1 : w.mapBack = true) (h2 : w.mapFront = true) (s : State) :
    (leaveDarkMap s).blank w = s.blank w := by
  unfold leaveDarkMap
  (repeat' split) <;> simp [switchMap_frame, setRadiator_frame, rebuildMap_frame, h1, h2, Channel.plan, Booth.plan,
    Desk.plan, Feed.plan]

theorem enterDarkMap_frame (h1 : w.mapBack = true) (h2 : w.mapFront = true) (s : State) :
    (enterDarkMap s).blank w = s.blank w := by
  unfold enterDarkMap
  (repeat' split) <;> simp [setRadiator_frame, blank_map_holdCount, h1, h2, Channel.plan, Booth.plan, Desk.plan,
    Feed.plan]

theorem endMaskWord_frame (h1 : w.mapBack = true) (h2 : w.mapFront = true) (s : State) :
    (endMaskWord s).blank w = s.blank w := by
  unfold endMaskWord
  (repeat' split) <;> simp [State.blank, h1, h2]

theorem routeFloor_frame (h1 : w.outbound = true) (h2 : w.routes = true) (s : State) :
    (routeFloor s).blank w = s.blank w := by
  unfold routeFloor
  (repeat' split) <;> simp [setRoute_frame, h1, h2, Channel.plan, Booth.plan, Desk.plan, Feed.plan]

theorem announce_frame (h1 : w.events = true) (h2 : w.notices = true) (h3 : w.lineQueue = true) (s : State) :
    (announce s).blank w = s.blank w := by
  unfold announce
  (repeat' split) <;> simp [queueNotice_frame, forEach_frame, h1, h2, h3, Channel.plan, Booth.plan, Desk.plan,
    Feed.plan]

theorem settle_frame (h1 : w.events = true) (h2 : w.notices = true) (h3 : w.deskShow = true)
    (h4 : w.mapBack = true) (h5 : w.lineQueue = true) (h6 : w.outbound = true) (h7 : w.routes = true) (s : State) :
    (settle s).blank w = s.blank w := by
  unfold settle
  (repeat' split) <;> simp [syncMask_frame, rebuildMap_frame, announce_frame, refreshDesks_frame, routeFloor_frame,
    h1, h2, h3, h4, h5, h6, h7, Channel.plan, Booth.plan, Desk.plan, Feed.plan]

theorem event_frame (h1 : w.events = true) (h2 : w.notices = true) (h3 : w.deskShow = true) (h4 : w.mapBack = true)
    (h5 : w.lineQueue = true) (h6 : w.outbound = true) (h7 : w.routes = true) (f : State → State)
    (hf : ∀ s, (f s).blank w = s.blank w) (s : State) : (event f s).blank w = s.blank w := by
  simp only [event]
  split <;> simp [settle_frame, hf, h1, h2, h3, h4, h5, h6, h7]

theorem openAChannel_frame (h1 : w.events = true) (h2 : w.notices = true) (h3 : w.channels = true)
    (h4 : w.openings = true) (h5 : w.booths = true) (h6 : w.feeds = true) (h7 : w.lineQueue = true)
      (h8 : w.outbound = true) (h9 : w.routes = true) (c : Nat) (l : Tag) (account : Nat) (s : State) :
    (openAChannel c l account s).blank w = s.blank w := by
  unfold openAChannel
  (repeat' split) <;> simp [recheckOutputs_frame, search_frame, queueNotice_frame, forEach_frame,
    blank_planner_channels, h1, h2, h3, h4, h5, h6, h7, h8, h9, Channel.plan, Booth.plan, Desk.plan, Feed.plan]

theorem winChannel_frame (h1 : w.channels = true) (c : Nat) (s : State) :
    (winChannel c s).blank w = s.blank w := by
  unfold winChannel
  (repeat' split) <;> simp [modChannel_frame, h1, Channel.plan, Booth.plan, Desk.plan, Feed.plan]

theorem refreshChannel_frame (h1 : w.events = true) (h2 : w.channels = true) (h3 : w.lineQueue = true) (c : Nat)
    (s : State) :
    (refreshChannel c s).blank w = s.blank w := by
  unfold refreshChannel
  (repeat' split) <;> simp [modChannel_frame, refreshClaim_frame, h1, h2, h3, Channel.plan, Booth.plan, Desk.plan,
    Feed.plan]

theorem refreshOwnTrunk_frame (h1 : w.events = true) (h2 : w.trunks = true) (h3 : w.lineQueue = true) (t : Nat)
    (s : State) :
    (refreshOwnTrunk t s).blank w = s.blank w := by
  unfold refreshOwnTrunk
  (repeat' split) <;> simp [setTrunk_frame, refreshTrunk_frame, h1, h2, h3, Channel.plan, Booth.plan, Desk.plan,
    Feed.plan]

theorem closeHolders_frame (h1 : w.events = true) (h2 : w.notices = true) (h3 : w.channels = true)
    (h4 : w.trunks = true) (h5 : w.booths = true) (h6 : w.desks = true) (h7 : w.feeds = true)
      (h8 : w.contexts = true) (h9 : w.lineQueue = true) (h10 : w.outbound = true) (h11 : w.routes = true)
        (c : Nat) (s : State) :
    (closeHolders c s).blank w = s.blank w := by
  unfold closeHolders
  (repeat' split) <;> simp [forceOff_frame, setHolder_frame, endWith_frame, forEach_frame, h1, h2, h3, h4, h5, h6,
    h7, h8, h9, h10, h11, Channel.plan, Booth.plan, Desk.plan, Feed.plan]

theorem closeClaim_frame (h1 : w.events = true) (h2 : w.channels = true) (h3 : w.mapBack = true)
    (h4 : w.lineQueue = true) (c : Nat) (s : State) :
    (closeClaim c s).blank w = s.blank w := by
  unfold closeClaim
  (repeat' split) <;> simp [syncMask_frame, modChannel_frame, sendClaim_frame, h1, h2, h3, h4, Channel.plan,
    Booth.plan, Desk.plan, Feed.plan]

theorem closeAccount_frame (h1 : w.events = true) (h2 : w.account = true) (c : Nat) (s : State) :
    (closeAccount c s).blank w = s.blank w := by
  unfold closeAccount
  (repeat' split) <;> simp [settleChannel_frame, h1, h2, Channel.plan, Booth.plan, Desk.plan, Feed.plan]

theorem closeAChannel_frame (h1 : w.events = true) (h2 : w.notices = true) (h3 : w.channels = true)
    (h4 : w.openings = true) (h5 : w.trunks = true) (h6 : w.booths = true) (h7 : w.desks = true)
      (h8 : w.exported = true) (h9 : w.feeds = true) (h10 : w.contexts = true) (h11 : w.mapBack = true)
        (h12 : w.lineQueue = true) (h13 : w.outbound = true) (h14 : w.routes = true) (h15 : w.account = true)
          (c : Nat) (s : State) :
    (closeAChannel c s).blank w = s.blank w := by
  unfold closeAChannel
  (repeat' split) <;> simp [closeAccount_frame, closeRelays_frame, closeClaim_frame, closeHolders_frame,
    setRoute_frame, searchWaiting_frame, rebuildMap_frame, blank_planner_channels, h1, h2, h3, h4, h5, h6, h7, h8,
      h9, h10, h11, h12, h13, h14, h15, Channel.plan, Booth.plan, Desk.plan, Feed.plan]

theorem closeAll_frame (h1 : w.events = true) (h2 : w.notices = true) (h3 : w.channels = true)
    (h4 : w.openings = true) (h5 : w.trunks = true) (h6 : w.booths = true) (h7 : w.desks = true)
      (h8 : w.exported = true) (h9 : w.feeds = true) (h10 : w.contexts = true) (h11 : w.mapBack = true)
        (h12 : w.lineQueue = true) (h13 : w.outbound = true) (h14 : w.routes = true) (h15 : w.account = true)
          (s : State) :
    (closeAll s).blank w = s.blank w := by
  unfold closeAll
  (repeat' split) <;> simp [closeAChannel_frame, forEach_frame, h1, h2, h3, h4, h5, h6, h7, h8, h9, h10, h11, h12,
    h13, h14, h15, Channel.plan, Booth.plan, Desk.plan, Feed.plan]

theorem floorBooths_frame (h1 : w.events = true) (h2 : w.booths = true) (h3 : w.lineQueue = true)
    (h4 : w.outbound = true) (h5 : w.routes = true) (s : State) :
    (floorBooths s).blank w = s.blank w := by
  unfold floorBooths
  apply forEach_frame
  intro k s
  (repeat' split) <;> simp [modBooth_frame, setRoute_frame, sendRelayRelease_frame, Channel.plan, Booth.plan,
    Desk.plan, Feed.plan, h1, h2, h3, h4, h5]

theorem enterDark_frame (h1 : w.events = true) (h2 : w.notices = true) (h3 : w.channels = true)
    (h4 : w.openings = true) (h5 : w.hall = true) (h6 : w.trunks = true) (h7 : w.booths = true)
      (h8 : w.desks = true) (h9 : w.exported = true) (h10 : w.feeds = true) (h11 : w.contexts = true)
        (h12 : w.mapBack = true) (h13 : w.mapFront = true) (h14 : w.lineQueue = true) (h15 : w.outbound = true)
          (h16 : w.routes = true) (h17 : w.account = true) (s : State) :
    (enterDark s).blank w = s.blank w := by
  unfold enterDark
  (repeat' split) <;> simp [releaseHall_frame, restFeeds_frame, closeAll_frame, recomputeBooths_frame,
    floorBooths_frame, endWith_frame, enterDarkMap_frame, releaseOwnTrunks_frame, forEach_frame, blank_planner_hall, h1, h2, h3, h4, h5,
      h6, h7, h8, h9, h10, h11, h12, h13, h14, h15, h16, h17, Channel.plan, Booth.plan, Desk.plan, Feed.plan]

theorem enterRecess_frame (h1 : w.events = true) (h2 : w.notices = true) (h3 : w.channels = true)
    (h4 : w.hall = true) (h5 : w.booths = true) (h6 : w.desks = true) (h7 : w.feeds = true)
      (h8 : w.lineQueue = true) (h9 : w.outbound = true) (h10 : w.routes = true) (s : State) :
    (enterRecess s).blank w = s.blank w := by
  unfold enterRecess
  (repeat' split) <;> simp [restFeeds_frame, releaseHall_frame, blank_planner_hall, h1, h2, h3, h4, h5, h6, h7, h8,
    h9, h10, Channel.plan, Booth.plan, Desk.plan, Feed.plan]

theorem leaveDark_frame (h1 : w.events = true) (h2 : w.notices = true) (h3 : w.channels = true)
    (h4 : w.openings = true) (h5 : w.hall = true) (h6 : w.booths = true) (h7 : w.feeds = true)
      (h8 : w.mapBack = true) (h9 : w.mapFront = true) (h10 : w.lineQueue = true) (h11 : w.outbound = true)
        (h12 : w.routes = true) (h : HallState) (s : State) :
    (leaveDark h s).blank w = s.blank w := by
  unfold leaveDark
  (repeat' split) <;> simp [leaveDarkMap_frame, openAChannel_frame, blank_planner_hall, h1, h2, h3, h4, h5, h6, h7,
    h8, h9, h10, h11, h12, Channel.plan, Booth.plan, Desk.plan, Feed.plan]

theorem changeHall_frame (h1 : w.events = true) (h2 : w.notices = true) (h3 : w.channels = true)
    (h4 : w.openings = true) (h5 : w.hall = true) (h6 : w.trunks = true) (h7 : w.booths = true)
      (h8 : w.desks = true) (h9 : w.exported = true) (h10 : w.feeds = true) (h11 : w.contexts = true)
        (h12 : w.mapBack = true) (h13 : w.mapFront = true) (h14 : w.lineQueue = true) (h15 : w.outbound = true)
          (h16 : w.routes = true) (h17 : w.account = true) (h : HallState) (s : State) :
    (changeHall h s).blank w = s.blank w := by
  unfold changeHall
  (repeat' split) <;> simp [enterDark_frame, leaveDark_frame, enterRecess_frame, wakeFeeds_frame,
    blank_planner_hall, h1, h2, h3, h4, h5, h6, h7, h8, h9, h10, h11, h12, h13, h14, h15, h16, h17, Channel.plan,
      Booth.plan, Desk.plan, Feed.plan]

theorem changeFloor_frame (h1 : w.events = true) (h2 : w.notices = true) (h3 : w.channels = true)
    (h4 : w.openings = true) (h5 : w.hall = true) (h6 : w.booths = true) (h7 : w.feeds = true)
      (h8 : w.lineQueue = true) (h9 : w.outbound = true) (h10 : w.routes = true) (l : Tag) (s : State) :
    (changeFloor l s).blank w = s.blank w := by
  have tag : ∀ (c : Nat) (l : Tag) (s : State),
      (modChannel c (fun ch => { ch with language := l }) s).blank w = s.blank w := by
    intro c l s
    simp [State.blank, modChannel, h4]
  simp only [changeFloor]
  (repeat' split) <;>
    simp [recompute_frame, queueNotice_frame, refreshClaim_frame, tag, blank_planner_floorTag, h1, h2, h3, h4, h5,
      h6, h7, h8, h9, h10]

theorem moveWall_frame (h1 : w.walls = true) (k : Nat) (isOpen : Bool) (s : State) :
    (moveWall k isOpen s).blank w = s.blank w := by
  unfold moveWall
  (repeat' split) <;> simp [State.blank, h1]

theorem settleWall_frame (h1 : w.events = true) (h2 : w.channels = true) (h3 : w.zone = true) (h4 : w.walls = true)
    (h5 : w.mapBack = true) (h6 : w.lineQueue = true) (h7 : w.presence = true) (k : Nat) (s : State) :
    (settleWall k s).blank w = s.blank w := by
  simp only [settleWall]
  (repeat' split) <;> simp [recomputeZone_frame, queuePresence_frame, queueEvent_frame, blank_planner_walls, h1,
    h2, h3, h4, h5, h6, h7, apply_ite (State.blank w), Channel.plan, Booth.plan, Desk.plan, Feed.plan]

theorem unconfirmClaims_frame (h1 : w.events = true) (h2 : w.channels = true) (h3 : w.zone = true)
    (h4 : w.trunks = true) (h5 : w.mapBack = true) (h6 : w.lineQueue = true) (s : State) :
    (unconfirmClaims s).blank w = s.blank w := by
  unfold unconfirmClaims
  rw [recomputeZone_frame h1 h2 h3 h5 h6]
  simp only [State.blank, h2, h4, if_true, Tab.mapAll, List.map_map]
  rfl

theorem reannounceChannel_frame (h1 : w.events = true) (h2 : w.channels = true) (h3 : w.lineQueue = true) (c : Nat)
    (s : State) :
    (reannounceChannel c s).blank w = s.blank w := by
  unfold reannounceChannel
  (repeat' split) <;> simp [sendClaim_frame, modChannel_frame, h1, h2, h3, Channel.plan, Booth.plan, Desk.plan,
    Feed.plan]

theorem reannounceTrunk_frame (h1 : w.events = true) (h2 : w.trunks = true) (h3 : w.lineQueue = true) (t : Nat)
    (s : State) :
    (reannounceTrunk t s).blank w = s.blank w := by
  unfold reannounceTrunk
  (repeat' split) <;> simp [sendTrunkClaim_frame, setTrunk_frame, h1, h2, h3, Channel.plan, Booth.plan, Desk.plan,
    Feed.plan]

theorem reannounce_frame (h1 : w.events = true) (h2 : w.channels = true) (h3 : w.trunks = true)
    (h4 : w.lineQueue = true) (s : State) :
    (reannounce s).blank w = s.blank w := by
  unfold reannounce
  (repeat' split) <;> simp [reannounceChannel_frame, searchWaiting_frame, reannounceTrunk_frame, forEach_frame, h1,
    h2, h3, h4, Channel.plan, Booth.plan, Desk.plan, Feed.plan]

theorem regrant_frame (h1 : w.events = true) (h2 : w.notices = true) (h3 : w.lineQueue = true) (s : State) :
    (regrant s).blank w = s.blank w := by
  unfold regrant
  simp only
  rw [forEach_frame, forEach_frame]
  · intro k s
    exact queueNotice_frame h1 h2 h3 k s
  · intro k s
    (repeat' split) <;> simp [answerListeners_frame, h1, h2, h3]

theorem modOrphan_frame (h1 : w.orphans = true) (serial : Nat) (f : Orphan → Orphan) (s : State) :
    (modOrphan serial f s).blank w = s.blank w := by
  unfold modOrphan
  (repeat' split) <;> simp [State.blank, h1]

theorem removeOrphan_frame (h1 : w.orphans = true) (serial : Nat) (s : State) :
    (removeOrphan serial s).blank w = s.blank w := by
  unfold removeOrphan
  (repeat' split) <;> simp [State.blank, h1]

theorem discardOrphan_frame (h1 : w.events = true) (h2 : w.orphans = true) (o : Orphan) (cause : DiscardCause)
    (s : State) :
    (discardOrphan o cause s).blank w = s.blank w := by
  unfold discardOrphan
  (repeat' split) <;> simp [queueEvent_frame, removeOrphan_frame, h1, h2, Channel.plan, Booth.plan, Desk.plan,
    Feed.plan]

theorem queryOrphan_frame (h1 : w.events = true) (h2 : w.lineQueue = true) (h3 : w.orphans = true) (o : Orphan)
    (s : State) :
    (queryOrphan o s).blank w = s.blank w := by
  unfold queryOrphan
  (repeat' split) <;> simp [enqueueFrame_frame, modOrphan_frame, h1, h2, h3, Channel.plan, Booth.plan, Desk.plan,
    Feed.plan]

theorem queryOrDiscard_frame (h1 : w.events = true) (h2 : w.lineQueue = true) (h3 : w.orphans = true) (o : Orphan)
    (s : State) :
    (queryOrDiscard o s).blank w = s.blank w := by
  unfold queryOrDiscard
  (repeat' split) <;> simp [discardOrphan_frame, queryOrphan_frame, h1, h2, h3, Channel.plan, Booth.plan,
    Desk.plan, Feed.plan]

theorem joinOrphans_frame (h1 : w.events = true) (h2 : w.lineQueue = true) (h3 : w.orphans = true) (q : Nat)
    (s : State) :
    (joinOrphans q s).blank w = s.blank w := by
  unfold joinOrphans forOrphans
  apply foldl_frame
  intro s o
  simp [queryOrDiscard_frame, h1, h2, h3]

theorem refreshOrphans_frame (h1 : w.events = true) (h2 : w.lineQueue = true) (h3 : w.orphans = true) (q : Nat)
    (s : State) :
    (refreshOrphans q s).blank w = s.blank w := by
  unfold refreshOrphans forOrphans
  apply foldl_frame
  intro s o
  simp [queryOrDiscard_frame, h1, h2, h3]

theorem endOrphanWait_frame (h1 : w.events = true) (h2 : w.orphans = true) (o : Orphan) (s : State) :
    (endOrphanWait o s).blank w = s.blank w := by
  unfold endOrphanWait
  (repeat' split) <;> simp [discardOrphan_frame, modOrphan_frame, h1, h2, Channel.plan, Booth.plan, Desk.plan,
    Feed.plan]

theorem loseOrphans_frame (h1 : w.events = true) (h2 : w.orphans = true) (q : Nat) (s : State) :
    (loseOrphans q s).blank w = s.blank w := by
  unfold loseOrphans forOrphans
  apply foldl_frame
  intro s o
  simp [endOrphanWait_frame, h1, h2]

theorem expireOrphan_frame (h1 : w.events = true) (h2 : w.orphans = true) (serial : Nat) (s : State) :
    (expireOrphan serial s).blank w = s.blank w := by
  unfold expireOrphan
  (repeat' split) <;> simp [endOrphanWait_frame, h1, h2, Channel.plan, Booth.plan, Desk.plan, Feed.plan]

theorem remoteReturn_frame (h1 : w.events = true) (h2 : w.lineQueue = true) (h3 : w.orphans = true)
    (slot q serial minute battery : Nat) (s : State) :
    (remoteReturn slot q serial minute battery s).blank w = s.blank w := by
  simp only [remoteReturn]
  (repeat' split) <;> simp [discardOrphan_frame, queueEvent_frame, queryOrphan_frame, blank_ledger_orphans, h1, h2,
    h3, apply_ite (State.blank w), Channel.plan, Booth.plan, Desk.plan, Feed.plan]

theorem hearReturnAnswer_frame (h1 : w.events = true) (h2 : w.orphans = true) (q serial : Nat) (o : ReturnOutcome)
    (s : State) :
    (hearReturnAnswer q serial o s).blank w = s.blank w := by
  unfold hearReturnAnswer
  (repeat' split) <;> simp [queueEvent_frame, removeOrphan_frame, h1, h2, Channel.plan, Booth.plan, Desk.plan,
    Feed.plan]

theorem removeLost_frame (h1 : w.lost = true) (serial : Nat) (s : State) :
    (removeLost serial s).blank w = s.blank w := by
  unfold removeLost
  (repeat' split) <;> simp [State.blank, h1]

theorem joinLost_frame (h1 : w.events = true) (h2 : w.lost = true) (serial account : Nat) (s : State) :
    (joinLost serial account s).blank w = s.blank w := by
  simp only [joinLost]
  (repeat' split) <;> simp [removeLost_frame, queueEvent_frame, blank_ledger_lost, h1, h2,
    apply_ite (State.blank w), Channel.plan, Booth.plan, Desk.plan, Feed.plan]

theorem recoverLost_frame (h1 : w.events = true) (h2 : w.lost = true) (h3 : w.account = true) (e : Lost)
    (minute : Nat) (s : State) :
    (recoverLost e minute s).blank w = s.blank w := by
  unfold recoverLost
  (repeat' split) <;> simp [settleRecovery_frame, removeLost_frame, h1, h2, h3, Channel.plan, Booth.plan,
    Desk.plan, Feed.plan]

theorem hearReturnQuery_frame (h1 : w.events = true) (h2 : w.lineQueue = true) (h3 : w.outbound = true)
    (h4 : w.slots = true) (h5 : w.hires = true) (h6 : w.lost = true) (h7 : w.account = true)
      (q serial minute battery : Nat) (s : State) :
    (hearReturnQuery q serial minute battery s).blank w = s.blank w := by
  unfold hearReturnQuery
  (repeat' split) <;> simp [enqueueFrame_frame, queueEvent_frame, closeHire_frame, recoverLost_frame, h1, h2, h3,
    h4, h5, h6, h7, Channel.plan, Booth.plan, Desk.plan, Feed.plan]

theorem testOverdue_frame (h1 : w.events = true) (h2 : w.hires = true) (serial : Nat) (s : State) :
    (testOverdue serial s).blank w = s.blank w := by
  simp only [testOverdue]
  (repeat' split) <;> simp [queueEvent_frame, blank_ledger_hires, h1, h2, apply_ite (State.blank w), Channel.plan,
    Booth.plan, Desk.plan, Feed.plan]

theorem testAllOverdue_frame (h1 : w.events = true) (h2 : w.hires = true) (s : State) :
    (testAllOverdue s).blank w = s.blank w := by
  unfold testAllOverdue
  (repeat' split) <;> simp [testOverdue_frame, forEach_frame, h1, h2, Channel.plan, Booth.plan, Desk.plan,
    Feed.plan]

theorem clearSlot_frame (h1 : w.slots = true) (k : Nat) (s : State) :
    (clearSlot k s).blank w = s.blank w := by
  unfold clearSlot
  (repeat' split) <;> simp [modSlot_frame, h1, Channel.plan, Booth.plan, Desk.plan, Feed.plan]

theorem discardMessages_frame (h1 : w.outbound = true) (t : Target) (s : State) :
    (discardMessages t s).blank w = s.blank w := by
  unfold discardMessages
  (repeat' split) <;> simp [removeMessages_frame, blank_panel_deferred, h1, Channel.plan, Booth.plan, Desk.plan,
    Feed.plan]

theorem joinReady_frame (h1 : w.ready = true) (k : Nat) (startUp : Bool) (s : State) :
    (joinReady k startUp s).blank w = s.blank w := by
  unfold joinReady
  (repeat' split) <;> simp [State.blank, h1]

theorem leaveReady_frame (h1 : w.ready = true) (k : Nat) (s : State) :
    (leaveReady k s).blank w = s.blank w := by
  unfold leaveReady
  (repeat' split) <;> simp [State.blank, h1]

theorem completeSlot_frame (h1 : w.slots = true) (h2 : w.ready = true) (k serial battery : Nat) (mark : HireMark)
    (s : State) :
    (completeSlot k serial battery mark s).blank w = s.blank w := by
  simp only [completeSlot]
  (repeat' split) <;> simp [modSlot_frame, joinReady_frame, h1, h2, apply_ite (State.blank w), Channel.plan,
    Booth.plan, Desk.plan, Feed.plan]

theorem decideRecords_frame (h1 : w.events = true) (h2 : w.outbound = true) (h3 : w.slots = true)
    (h4 : w.hires = true) (h5 : w.lost = true) (h6 : w.account = true) (k serial minute : Nat) (mark : HireMark)
      (s : State) :
    (decideRecords k serial minute mark s).blank w = s.blank w := by
  unfold decideRecords
  (repeat' split) <;> simp [queueEvent_frame, closeHire_frame, recoverLost_frame, h1, h2, h3, h4, h5, h6,
    Channel.plan, Booth.plan, Desk.plan, Feed.plan]

theorem decideMark_frame (h1 : w.events = true) (h2 : w.lineQueue = true) (h3 : w.orphans = true)
    (k serial battery minute : Nat) (mark : HireMark) (known : Bool) (s : State) :
    (decideMark k serial battery minute mark known s).blank w = s.blank w := by
  unfold decideMark
  (repeat' split) <;> simp [queueEvent_frame, remoteReturn_frame, h1, h2, h3, Channel.plan, Booth.plan, Desk.plan,
    Feed.plan]

theorem oweClearMark_frame (h1 : w.outbound = true) (h2 : w.slots = true) (k : Nat) (s : State) :
    (oweClearMark k s).blank w = s.blank w := by
  unfold oweClearMark
  (repeat' split) <;> simp [queueMessage_frame, modSlot_frame, h1, h2, Channel.plan, Booth.plan, Desk.plan,
    Feed.plan]

theorem decideReceiver_frame (h1 : w.events = true) (h2 : w.lineQueue = true) (h3 : w.outbound = true)
    (h4 : w.slots = true) (h5 : w.ready = true) (h6 : w.hires = true) (h7 : w.lost = true) (h8 : w.orphans = true)
      (h9 : w.account = true) (k serial battery : Nat) (mark : HireMark) (s : State) :
    (decideReceiver k serial battery mark s).blank w = s.blank w := by
  simp only [decideReceiver]
  (repeat' split) <;> simp [decideMark_frame, decideRecords_frame, oweClearMark_frame, queueEvent_frame,
    modSlot_frame, completeSlot_frame, h1, h2, h3, h4, h5, h6, h7, h8, h9, apply_ite (State.blank w), Channel.plan,
      Booth.plan, Desk.plan, Feed.plan]

theorem identifySlot_frame (h1 : w.events = true) (h2 : w.lineQueue = true) (h3 : w.outbound = true)
    (h4 : w.slots = true) (h5 : w.ready = true) (h6 : w.hires = true) (h7 : w.lost = true) (h8 : w.orphans = true)
      (h9 : w.account = true) (k serial battery : Nat) (mark : HireMark) (s : State) :
    (identifySlot k serial battery mark s).blank w = s.blank w := by
  unfold identifySlot
  (repeat' split) <;> simp [queueEvent_frame, modSlot_frame, decideReceiver_frame, h1, h2, h3, h4, h5, h6, h7, h8,
    h9, Channel.plan, Booth.plan, Desk.plan, Feed.plan]

theorem disownMessages_frame (h1 : w.outbound = true) (n : Nat) (s : State) :
    (disownMessages n s).blank w = s.blank w := by
  unfold disownMessages
  (repeat' split) <;> simp [State.blank, h1]

theorem endIssue_frame (h1 : w.outbound = true) (h2 : w.issues = true) (n k : Nat) (s : State) :
    (endIssue n k s).blank w = s.blank w := by
  unfold endIssue
  (repeat' split) <;> simp [discardMessages_frame, disownMessages_frame, blank_dock_issues, h1, h2, Channel.plan,
    Booth.plan, Desk.plan, Feed.plan]

theorem cancelIssue_frame (h1 : w.events = true) (h2 : w.outbound = true) (h3 : w.slots = true)
    (h4 : w.ready = true) (h5 : w.issues = true) (n : Nat) (cause : CancelCause) (s : State) :
    (cancelIssue n cause s).blank w = s.blank w := by
  simp only [cancelIssue]
  split
  · rfl
  · rw [queueEvent_frame h1, blank_dock_ready h4]
    simp [modSlot_frame, discardMessages_frame, oweClearMark_frame, queueMessage_frame, disownMessages_frame,
      blank_dock_issues, h1, h2, h3, h4, h5]

theorem failIssue_frame (h1 : w.events = true) (h2 : w.outbound = true) (h3 : w.slots = true)
    (h4 : w.issues = true) (n : Nat) (i : Issue) (kind : MsgKind) (s : State) :
    (failIssue n i kind s).blank w = s.blank w := by
  unfold failIssue
  (repeat' split) <;> simp [endIssue_frame, queueEvent_frame, modSlot_frame, h1, h2, h3, h4, Channel.plan,
    Booth.plan, Desk.plan, Feed.plan]

theorem emptySlot_frame (h1 : w.outbound = true) (h2 : w.slots = true) (k : Nat) (s : State) :
    (emptySlot k s).blank w = s.blank w := by
  simp [emptySlot, discardMessages_frame, clearSlot_frame, blank_panel_deferred, h1, h2]

theorem removeReceiver_frame (h1 : w.events = true) (h2 : w.outbound = true) (h3 : w.slots = true)
    (h4 : w.ready = true) (h5 : w.issues = true) (h6 : w.hires = true) (h7 : w.account = true) (k : Nat)
      (s : State) :
    (removeReceiver k s).blank w = s.blank w := by
  unfold removeReceiver
  (repeat' split) <;> simp [discardMessages_frame, emptySlot_frame, queueEvent_frame, leaveReady_frame,
    endIssue_frame, openHire_frame, h1, h2, h3, h4, h5, h6, h7, Channel.plan, Booth.plan, Desk.plan, Feed.plan]

theorem startReading_frame (h1 : w.slots = true) (k : Nat) (s : State) :
    (startReading k s).blank w = s.blank w := by
  unfold startReading
  (repeat' split) <;> simp [modSlot_frame, h1, Channel.plan, Booth.plan, Desk.plan, Feed.plan]

theorem insertReceiver_frame (h1 : w.outbound = true) (h2 : w.slots = true) (k : Nat) (s : State) :
    (insertReceiver k s).blank w = s.blank w := by
  unfold insertReceiver
  (repeat' split) <;> simp [queueMessage_frame, startReading_frame, h1, h2, Channel.plan, Booth.plan, Desk.plan,
    Feed.plan]

theorem exchangeReceiver_frame (h1 : w.events = true) (h2 : w.lineQueue = true) (h3 : w.outbound = true)
    (h4 : w.slots = true) (h5 : w.ready = true) (h6 : w.issues = true) (h7 : w.hires = true) (h8 : w.lost = true)
      (h9 : w.orphans = true) (h10 : w.account = true) (k serial battery : Nat) (mark : HireMark) (s : State) :
    (exchangeReceiver k serial battery mark s).blank w = s.blank w := by
  unfold exchangeReceiver
  (repeat' split) <;> simp [identifySlot_frame, startReading_frame, removeReceiver_frame, h1, h2, h3, h4, h5, h6,
    h7, h8, h9, h10, Channel.plan, Booth.plan, Desk.plan, Feed.plan]

theorem readBattery_frame (h1 : w.slots = true) (h2 : w.ready = true) (k battery : Nat) (sl : Slot) (s : State) :
    (readBattery k battery sl s).blank w = s.blank w := by
  simp only [readBattery]
  (repeat' split) <;> simp [modSlot_frame, joinReady_frame, leaveReady_frame, h1, h2, apply_ite (State.blank w),
    Channel.plan, Booth.plan, Desk.plan, Feed.plan]

theorem hearReceiver_frame (h1 : w.events = true) (h2 : w.lineQueue = true) (h3 : w.outbound = true)
    (h4 : w.slots = true) (h5 : w.ready = true) (h6 : w.issues = true) (h7 : w.hires = true) (h8 : w.lost = true)
      (h9 : w.orphans = true) (h10 : w.account = true) (k : Nat) (r : Receiver) (s : State) :
    (hearReceiver k r s).blank w = s.blank w := by
  unfold hearReceiver
  (repeat' split) <;> simp [identifySlot_frame, exchangeReceiver_frame, completeSlot_frame, readBattery_frame, h1,
    h2, h3, h4, h5, h6, h7, h8, h9, h10, Channel.plan, Booth.plan, Desk.plan, Feed.plan]

theorem slotOffline_frame (h1 : w.events = true) (h2 : w.outbound = true) (h3 : w.slots = true)
    (h4 : w.ready = true) (h5 : w.issues = true) (k : Nat) (s : State) :
    (slotOffline k s).blank w = s.blank w := by
  unfold slotOffline
  (repeat' split) <;> simp [queueEvent_frame, endIssue_frame, modSlot_frame, leaveReady_frame, h1, h2, h3, h4, h5,
    Channel.plan, Booth.plan, Desk.plan, Feed.plan]

theorem slotBack_frame (h1 : w.slots = true) (k : Nat) (occupied : Bool) (s : State) :
    (slotBack k occupied s).blank w = s.blank w := by
  unfold slotBack
  (repeat' split) <;> simp [modSlot_frame, h1, Channel.plan, Booth.plan, Desk.plan, Feed.plan]

theorem correctLatch_frame (h1 : w.outbound = true) (k : Nat) (latchOpen before : Bool) (s : State) :
    (correctLatch k latchOpen before s).blank w = s.blank w := by
  unfold correctLatch
  (repeat' split) <;> simp [queueMessage_frame, h1, Channel.plan, Booth.plan, Desk.plan, Feed.plan]

theorem hearSlotPoll_frame (h1 : w.events = true) (h2 : w.outbound = true) (h3 : w.slots = true)
    (h4 : w.ready = true) (h5 : w.issues = true) (h6 : w.hires = true) (h7 : w.account = true) (k : Nat)
      (occupied latchOpen : Bool) (s : State) :
    (hearSlotPoll k occupied latchOpen s).blank w = s.blank w := by
  unfold hearSlotPoll
  (repeat' split) <;> simp [slotBack_frame, insertReceiver_frame, modSlot_frame, removeReceiver_frame,
    correctLatch_frame, h1, h2, h3, h4, h5, h6, h7, Channel.plan, Booth.plan, Desk.plan, Feed.plan]

theorem readSlots_frame (h1 : w.outbound = true) (s : State) :
    (readSlots s).blank w = s.blank w := by
  unfold readSlots
  (repeat' split) <;> simp [queueMessage_frame, forEach_frame, h1, Channel.plan, Booth.plan, Desk.plan, Feed.plan]

theorem faultSlot_frame (h1 : w.events = true) (h2 : w.slots = true) (k : Nat) (cause : SlotCause) (s : State) :
    (faultSlot k cause s).blank w = s.blank w := by
  unfold faultSlot
  (repeat' split) <;> simp [queueEvent_frame, modSlot_frame, h1, h2, Channel.plan, Booth.plan, Desk.plan, Feed.plan]

theorem correctCharge_frame (h1 : w.slots = true) (k : Nat) (s : State) :
    (correctCharge k s).blank w = s.blank w := by
  unfold correctCharge
  (repeat' split) <;> simp [modSlot_frame, h1, Channel.plan, Booth.plan, Desk.plan, Feed.plan]

theorem testDeadCell_frame (h1 : w.events = true) (h2 : w.slots = true) (k : Nat) (s : State) :
    (testDeadCell k s).blank w = s.blank w := by
  unfold testDeadCell
  (repeat' split) <;> simp [modSlot_frame, faultSlot_frame, h1, h2, Channel.plan, Booth.plan, Desk.plan, Feed.plan]

theorem testChargeTimeout_frame (h1 : w.events = true) (h2 : w.slots = true) (k : Nat) (s : State) :
    (testChargeTimeout k s).blank w = s.blank w := by
  unfold testChargeTimeout
  (repeat' split) <;> simp [faultSlot_frame, h1, h2, Channel.plan, Booth.plan, Desk.plan, Feed.plan]

theorem testCharging_frame (h1 : w.events = true) (h2 : w.slots = true) (s : State) :
    (testCharging s).blank w = s.blank w := by
  unfold testCharging
  (repeat' split) <;> simp [testChargeTimeout_frame, testDeadCell_frame, correctCharge_frame, forEach_frame, h1,
    h2, Channel.plan, Booth.plan, Desk.plan, Feed.plan]

theorem sendMessage_frame (h1 : w.outbound = true) (h2 : w.panelLine = true) (m : Message) (s : State) :
    (sendMessage m s).blank w = s.blank w := by
  unfold sendMessage
  (repeat' split) <;> simp [State.blank, h1, h2]

theorem sendPoll_frame (h1 : w.panelLine = true) (a : Nat) (rest : List Nat) (s : State) :
    (sendPoll a rest s).blank w = s.blank w := by
  unfold sendPoll
  (repeat' split) <;> simp [State.blank, h1]

theorem beginRound_frame (h1 : w.panelLine = true) (s : State) :
    (beginRound s).blank w = s.blank w := by
  unfold beginRound
  (repeat' split) <;> simp [State.blank, h1]

theorem endRound_frame (h1 : w.panelLine = true) (s : State) :
    (endRound s).blank w = s.blank w := by
  unfold endRound
  (repeat' split) <;> simp [State.blank, h1]

theorem nextPoll_frame (h1 : w.panelLine = true) (n : Nat) (s : State) : (nextPoll n s).blank w = s.blank w := by
  induction n generalizing s with
  | zero => rfl
  | succ n ih =>
    rw [nextPoll]
    (repeat' split) <;> simp [ih, beginRound_frame, endRound_frame, sendPoll_frame, h1]

theorem startExchange_frame (h1 : w.outbound = true) (h2 : w.panelLine = true) (s : State) :
    (startExchange s).blank w = s.blank w := by
  simp only [startExchange]
  (repeat' split) <;> simp [sendMessage_frame, nextPoll_frame, h1, h2, apply_ite (State.blank w), Channel.plan,
    Booth.plan, Desk.plan, Feed.plan]

theorem endExchange_frame (h1 : w.outbound = true) (h2 : w.panelLine = true) (e : Ended) (s : State) :
    (endExchange e s).blank w = s.blank w := by
  unfold endExchange
  (repeat' split) <;> simp [State.blank, h1, h2]

theorem fillRoom_frame (h1 : w.outbound = true) (s : State) :
    (fillRoom s).blank w = s.blank w := by
  simp only [fillRoom]
  (repeat' split) <;> simp [refill_frame, h1, apply_ite (State.blank w), Channel.plan, Booth.plan, Desk.plan,
    Feed.plan]

theorem modDrop_frame (h1 : w.drops = true) (a : Nat) (f : Drop → Drop) (s : State) :
    (modDrop a f s).blank w = s.blank w := by
  unfold modDrop
  (repeat' split) <;> simp [State.blank, h1]

theorem restoreRoutes_frame (h1 : w.outbound = true) (s : State) :
    (restoreRoutes s).blank w = s.blank w := by
  unfold restoreRoutes
  (repeat' split) <;> simp [queueMessage_frame, forEach_frame, h1, Channel.plan, Booth.plan, Desk.plan, Feed.plan]

theorem dropAnswers_frame (h1 : w.events = true) (h2 : w.desks = true) (h3 : w.outbound = true)
    (h4 : w.drops = true) (a : Nat) (s : State) :
    (dropAnswers a s).blank w = s.blank w := by
  unfold dropAnswers
  (repeat' split) <;> simp [modDrop_frame, queueEvent_frame, deskBack_frame, restoreRoutes_frame, h1, h2, h3, h4,
    Channel.plan, Booth.plan, Desk.plan, Feed.plan]

theorem dropGoesOffline_frame (h1 : w.events = true) (h2 : w.notices = true) (h3 : w.channels = true)
    (h4 : w.booths = true) (h5 : w.desks = true) (h6 : w.feeds = true) (h7 : w.lineQueue = true)
      (h8 : w.outbound = true) (h9 : w.routes = true) (h10 : w.drops = true) (h11 : w.slots = true)
        (h12 : w.ready = true) (h13 : w.issues = true) (a : Nat) (kind : DropKind) (s : State) :
    (dropGoesOffline a kind s).blank w = s.blank w := by
  unfold dropGoesOffline
  (repeat' split) <;> simp [queueEvent_frame, modDrop_frame, removeMessages_frame, deskOffline_frame,
    slotOffline_frame, blank_panel_deferred, h1, h2, h3, h4, h5, h6, h7, h8, h9, h10, h11, h12, h13, Channel.plan,
      Booth.plan, Desk.plan, Feed.plan]

theorem countSilence_frame (h1 : w.events = true) (h2 : w.notices = true) (h3 : w.channels = true)
    (h4 : w.booths = true) (h5 : w.desks = true) (h6 : w.feeds = true) (h7 : w.lineQueue = true)
      (h8 : w.outbound = true) (h9 : w.routes = true) (h10 : w.drops = true) (h11 : w.slots = true)
        (h12 : w.ready = true) (h13 : w.issues = true) (a : Nat) (s : State) :
    (countSilence a s).blank w = s.blank w := by
  unfold countSilence
  (repeat' split) <;> simp [modDrop_frame, dropGoesOffline_frame, h1, h2, h3, h4, h5, h6, h7, h8, h9, h10, h11,
    h12, h13, Channel.plan, Booth.plan, Desk.plan, Feed.plan]

theorem answered_frame (h1 : w.events = true) (h2 : w.desks = true) (h3 : w.outbound = true)
    (h4 : w.panelLine = true) (h5 : w.drops = true) (a : Nat) (kind : MsgKind)
    (act : Ended → State → State) (hact : ∀ e s, (act e s).blank w = s.blank w) (s : State) :
    (answered a kind act s).blank w = s.blank w := by
  simp only [answered]
  split <;> simp [fillRoom_frame, hact, dropAnswers_frame, endExchange_frame, h1, h2, h3, h4, h5]

theorem takeKeys_frame (h1 : w.events = true) (h2 : w.notices = true) (h3 : w.channels = true)
    (h4 : w.booths = true) (h5 : w.deskShow = true) (h6 : w.desks = true) (h7 : w.feeds = true)
      (h8 : w.mapBack = true) (h9 : w.lineQueue = true) (h10 : w.outbound = true) (h11 : w.routes = true) (d : Nat)
        (ks : List Key) (s : State) :
    (takeKeys d ks s).blank w = s.blank w := by
  unfold takeKeys
  apply foldl_frame
  intro s k
  simp [settle_frame, takeKey_frame, h1, h2, h3, h4, h5, h6, h7, h8, h9, h10, h11]

theorem hearDesk_frame (h1 : w.events = true) (h2 : w.notices = true) (h3 : w.channels = true)
    (h4 : w.booths = true) (h5 : w.deskShow = true) (h6 : w.desks = true) (h7 : w.feeds = true)
      (h8 : w.mapBack = true) (h9 : w.lineQueue = true) (h10 : w.outbound = true) (h11 : w.routes = true)
        (h12 : w.panelLine = true) (h13 : w.drops = true) (d : Nat) (ks : List Key) (s : State) :
    (hearDesk d ks s).blank w = s.blank w := by
  unfold hearDesk
  apply answered_frame h1 h6 h10 h12 h13
  intro e s
  split
  · rfl
  · exact takeKeys_frame h1 h2 h3 h4 h5 h6 h7 h8 h9 h10 h11 _ _ _

theorem hearIdentify_frame (h1 : w.events = true) (h2 : w.lineQueue = true) (h3 : w.outbound = true)
    (h4 : w.slots = true) (h5 : w.ready = true) (h6 : w.issues = true) (h7 : w.hires = true) (h8 : w.lost = true)
      (h9 : w.orphans = true) (h10 : w.account = true) (k : Nat) (r : Option Receiver) (s : State) :
    (hearIdentify k r s).blank w = s.blank w := by
  unfold hearIdentify
  (repeat' split) <;> simp [slotBack_frame, removeReceiver_frame, hearReceiver_frame, h1, h2, h3, h4, h5, h6,
    h7, h8, h9, h10, Channel.plan, Booth.plan, Desk.plan, Feed.plan]

theorem setPhase_frame (h1 : w.issues = true) (n : Nat) (ph : IssuePhase) (removal : Option Nat) (s : State) :
    (setPhase n ph removal s).blank w = s.blank w := by
  unfold setPhase
  (repeat' split) <;> simp [State.blank, h1]

theorem hearPreset_frame (h1 : w.outbound = true) (h2 : w.slots = true) (h3 : w.issues = true) (k : Nat)
    (m : Message) (s : State) :
    (hearPreset k m s).blank w = s.blank w := by
  unfold hearPreset
  (repeat' split) <;> simp [queueMessage_frame, modSlot_frame, setPhase_frame, h1, h2, h3, Channel.plan,
    Booth.plan, Desk.plan, Feed.plan]

theorem hearLatch_frame (h1 : w.issues = true) (m : Message) (s : State) :
    (hearLatch m s).blank w = s.blank w := by
  unfold hearLatch
  (repeat' split) <;> simp [setPhase_frame, h1, Channel.plan, Booth.plan, Desk.plan, Feed.plan]

theorem hearClearMark_frame (h1 : w.slots = true) (k : Nat) (m : Message) (s : State) :
    (hearClearMark k m s).blank w = s.blank w := by
  unfold hearClearMark
  (repeat' split) <;> simp [modSlot_frame, h1, Channel.plan, Booth.plan, Desk.plan, Feed.plan]

theorem silent_frame (h1 : w.events = true) (h2 : w.notices = true) (h3 : w.channels = true) (h4 : w.booths = true)
    (h5 : w.desks = true) (h6 : w.feeds = true) (h7 : w.lineQueue = true) (h8 : w.outbound = true)
      (h9 : w.routes = true) (h10 : w.panelLine = true) (h11 : w.drops = true) (h12 : w.slots = true)
        (h13 : w.ready = true) (h14 : w.issues = true) (a : Nat) (kind : MsgKind) (s : State) :
    (silent a kind s).blank w = s.blank w := by
  simp only [silent]
  (repeat' split) <;> simp [endExchange_frame, fillRoom_frame, countSilence_frame, failIssue_frame,
    queueMessage_frame, h1, h2, h3, h4, h5, h6, h7, h8, h9, h10, h11, h12, h13, h14, apply_ite (State.blank w),
      Channel.plan, Booth.plan, Desk.plan, Feed.plan]

theorem cutExchange_frame (h1 : w.panelLine = true) (s : State) :
    (cutExchange s).blank w = s.blank w := by
  unfold cutExchange
  (repeat' split) <;> simp [State.blank, h1]

theorem tellLine_frame (h1 : w.events = true) (s : State) :
    (tellLine s).blank w = s.blank w := by
  unfold tellLine
  (repeat' split) <;> simp [queueEvent_frame, h1, Channel.plan, Booth.plan, Desk.plan, Feed.plan]

theorem goOffLine_frame (h1 : w.events = true) (h2 : w.notices = true) (h3 : w.channels = true)
    (h4 : w.zone = true) (h5 : w.trunks = true) (h6 : w.booths = true) (h7 : w.desks = true) (h8 : w.feeds = true)
      (h9 : w.contexts = true) (h10 : w.mapBack = true) (h11 : w.lineQueue = true) (h12 : w.lineState = true)
        (h13 : w.peers = true) (h14 : w.outbound = true) (h15 : w.routes = true) (s : State) :
    (goOffLine s).blank w = s.blank w := by
  simp only [goOffLine]
  (repeat' split) <;> simp [tellLine_frame, endFeeds_frame, unconfirmClaims_frame, blank_line_state,
    blank_line_queue, blank_line_peers, blank_line_sequences, h1, h2, h3, h4, h5, h6, h7, h8, h9, h10, h11, h12,
      h13, h14, h15, Channel.plan, Booth.plan, Desk.plan, Feed.plan]
  all_goals simp [State.blank, h1, h2, h3, h4, h5, h6, h7, h8, h9, h10, h11, h12, h13, h14, h15]

theorem testScores_frame (h1 : w.events = true) (h2 : w.notices = true) (h3 : w.channels = true)
    (h4 : w.zone = true) (h5 : w.trunks = true) (h6 : w.booths = true) (h7 : w.desks = true) (h8 : w.feeds = true)
      (h9 : w.contexts = true) (h10 : w.mapBack = true) (h11 : w.lineQueue = true) (h12 : w.lineState = true)
        (h13 : w.peers = true) (h14 : w.outbound = true) (h15 : w.routes = true) (s : State) :
    (testScores s).blank w = s.blank w := by
  unfold testScores
  (repeat' split) <;> simp [goOffLine_frame, tellLine_frame, blank_line_state, h1, h2, h3, h4, h5, h6, h7, h8, h9,
    h10, h11, h12, h13, h14, h15, Channel.plan, Booth.plan, Desk.plan, Feed.plan]

theorem startPresence_frame (h1 : w.events = true) (h2 : w.lineQueue = true) (h3 : w.presence = true) (s : State) :
    (startPresence s).blank w = s.blank w := by
  unfold startPresence
  (repeat' split) <;> simp [queuePresence_frame, blank_line_presence, h1, h2, h3, Channel.plan, Booth.plan,
    Desk.plan, Feed.plan]

theorem joinLine_frame (h1 : w.events = true) (h2 : w.lineQueue = true) (h3 : w.lineState = true)
    (h4 : w.presence = true) (s : State) :
    (joinLine s).blank w = s.blank w := by
  unfold joinLine
  (repeat' split) <;> simp [startPresence_frame, blank_line_state, h1, h2, h3, h4, Channel.plan, Booth.plan,
    Desk.plan, Feed.plan]

theorem rejoinLine_frame (h1 : w.events = true) (h2 : w.notices = true) (h3 : w.channels = true)
    (h4 : w.trunks = true) (h5 : w.lineQueue = true) (h6 : w.lineState = true) (h7 : w.presence = true)
      (h8 : w.epoch = true) (s : State) :
    (rejoinLine s).blank w = s.blank w := by
  simp only [rejoinLine]
  (repeat' split) <;> simp [startPresence_frame, tellLine_frame, regrant_frame, reannounce_frame, blank_line_state,
    blank_line_sequences, h1, h2, h3, h4, h5, h6, h7, h8, Channel.plan, Booth.plan, Desk.plan, Feed.plan]
  all_goals simp [State.blank, h1, h2, h3, h4, h5, h6, h7, h8]

theorem countSequence_frame (h1 : w.events = true) (h2 : w.notices = true) (h3 : w.channels = true)
    (h4 : w.trunks = true) (h5 : w.lineQueue = true) (h6 : w.lineState = true) (h7 : w.presence = true)
      (h8 : w.epoch = true) (s : State) :
    (countSequence s).blank w = s.blank w := by
  simp only [countSequence]
  (repeat' split) <;> simp [rejoinLine_frame, blank_line_sequences, h1, h2, h3, h4, h5, h6, h7, h8,
    apply_ite (State.blank w), Channel.plan, Booth.plan, Desk.plan, Feed.plan]

theorem expirePresence_frame (h1 : w.events = true) (h2 : w.lineQueue = true) (h3 : w.presence = true) (s : State) :
    (expirePresence s).blank w = s.blank w := by
  unfold expirePresence
  (repeat' split) <;> simp [queuePresence_frame, blank_line_presence, h1, h2, h3, Channel.plan, Booth.plan,
    Desk.plan, Feed.plan]

theorem startFrame_frame (h1 : w.lineQueue = true) (h2 : w.lineState = true) (s : State) :
    (startFrame s).blank w = s.blank w := by
  unfold startFrame
  (repeat' split) <;> simp [State.blank, h1, h2]

theorem keepFrame_frame (h1 : w.lineQueue = true) (f : TxFrame) (noAcks : Nat) (s : State) :
    (keepFrame f noAcks s).blank w = s.blank w := by
  unfold keepFrame
  (repeat' split) <;> simp [State.blank, h1]

theorem loseArbitration_frame (h1 : w.lineQueue = true) (h2 : w.lineState = true) (s : State) :
    (loseArbitration s).blank w = s.blank w := by
  simp only [loseArbitration]
  (repeat' split) <;> simp [startFrame_frame, keepFrame_frame, blank_line_drive, h1, h2, apply_ite (State.blank w),
    Channel.plan, Booth.plan, Desk.plan, Feed.plan]

theorem succeed_frame (h1 : w.events = true) (h2 : w.notices = true) (h3 : w.channels = true) (h4 : w.zone = true)
    (h5 : w.trunks = true) (h6 : w.booths = true) (h7 : w.desks = true) (h8 : w.feeds = true)
      (h9 : w.contexts = true) (h10 : w.mapBack = true) (h11 : w.lineQueue = true) (h12 : w.lineState = true)
        (h13 : w.peers = true) (h14 : w.outbound = true) (h15 : w.routes = true) (s : State) :
    (succeed s).blank w = s.blank w := by
  have three : ∀ (a : List TxFrame) (b : Nat) (c : LineDrive) (t : State),
      State.blank w { t with line.queue := a, line.txScore := b, line.drive := c } = t.blank w := by
    intro a b c t; simp [State.blank, h1, h2, h3, h4, h5, h6, h7, h8, h9, h10, h11, h12, h13, h14, h15]
  simp only [succeed]
  split <;> simp [startFrame_frame, testScores_frame, three, h1, h2, h3, h4, h5, h6, h7, h8, h9, h10, h11, h12,
    h13, h14, h15]

theorem fail_frame (h1 : w.events = true) (h2 : w.notices = true) (h3 : w.channels = true) (h4 : w.zone = true)
    (h5 : w.trunks = true) (h6 : w.booths = true) (h7 : w.desks = true) (h8 : w.feeds = true)
      (h9 : w.contexts = true) (h10 : w.mapBack = true) (h11 : w.lineQueue = true) (h12 : w.lineState = true)
        (h13 : w.peers = true) (h14 : w.outbound = true) (h15 : w.routes = true) (fault : SendFault) (s : State) :
    (fail fault s).blank w = s.blank w := by
  have two : ∀ (b : Nat) (c : LineDrive) (t : State),
      State.blank w { t with line.drive := c, line.txScore := b } = t.blank w := by
    intro b c t; simp [State.blank, h1, h2, h3, h4, h5, h6, h7, h8, h9, h10, h11, h12, h13, h14, h15]
  have three : ∀ (a : List TxFrame) (b : Nat) (c : LineDrive) (t : State),
      State.blank w { t with line.queue := a, line.txScore := b, line.drive := c } = t.blank w := by
    intro a b c t; simp [State.blank, h1, h2, h3, h4, h5, h6, h7, h8, h9, h10, h11, h12, h13, h14, h15]
  simp only [fail]
  (repeat' split) <;>
    simp [startFrame_frame, testScores_frame, queueEvent_frame, keepFrame_frame, two, three, h1, h2, h3, h4, h5,
      h6, h7, h8, h9, h10, h11, h12, h13, h14, h15]

theorem dropPeerClaims_frame (h1 : w.events = true) (h2 : w.channels = true) (h3 : w.zone = true)
    (h4 : w.claims = true) (h5 : w.trunks = true) (h6 : w.mapBack = true) (h7 : w.lineQueue = true) (q : Nat)
      (s : State) :
    (dropPeerClaims q s).blank w = s.blank w := by
  simp only [dropPeerClaims]
  (repeat' split) <;> simp [searchWaiting_frame, recomputeZone_frame, blank_planner_peerClaims,
    blank_planner_trunks, h1, h2, h3, h4, h5, h6, h7, Channel.plan, Booth.plan, Desk.plan, Feed.plan]
  all_goals simp [State.blank, h1, h2, h3, h4, h5, h6, h7]

theorem dropPeerListener_frame (h1 : w.events = true) (h2 : w.notices = true) (h3 : w.trunks = true)
    (h4 : w.exported = true) (h5 : w.lineQueue = true) (h6 : w.outbound = true) (h7 : w.routes = true) (q : Nat)
      (s : State) :
    (dropPeerListener q s).blank w = s.blank w := by
  unfold dropPeerListener
  (repeat' split) <;> simp [leaveExport_frame, forEach_frame, h1, h2, h3, h4, h5, h6, h7, Channel.plan, Booth.plan,
    Desk.plan, Feed.plan]

theorem dropPeer_frame (h1 : w.events = true) (h2 : w.notices = true) (h3 : w.channels = true) (h4 : w.zone = true)
    (h5 : w.claims = true) (h6 : w.trunks = true) (h7 : w.booths = true) (h8 : w.desks = true)
      (h9 : w.directory = true) (h10 : w.exported = true) (h11 : w.feeds = true) (h12 : w.contexts = true)
        (h13 : w.mapBack = true) (h14 : w.lineQueue = true) (h15 : w.outbound = true) (h16 : w.routes = true)
          (q : Nat) (s : State) :
    (dropPeer q s).blank w = s.blank w := by
  unfold dropPeer
  (repeat' split) <;> simp [endFeeds_frame, dropPeerListener_frame, dropPeerEntries_frame, dropPeerClaims_frame,
    h1, h2, h3, h4, h5, h6, h7, h8, h9, h10, h11, h12, h13, h14, h15, h16, Channel.plan, Booth.plan, Desk.plan,
      Feed.plan]

theorem losePeer_frame (h1 : w.events = true) (h2 : w.notices = true) (h3 : w.channels = true) (h4 : w.zone = true)
    (h5 : w.claims = true) (h6 : w.trunks = true) (h7 : w.booths = true) (h8 : w.desks = true)
      (h9 : w.directory = true) (h10 : w.exported = true) (h11 : w.feeds = true) (h12 : w.contexts = true)
        (h13 : w.mapBack = true) (h14 : w.lineQueue = true) (h15 : w.peers = true) (h16 : w.outbound = true)
          (h17 : w.routes = true) (h18 : w.orphans = true) (q : Nat) (s : State) :
    (losePeer q s).blank w = s.blank w := by
  unfold losePeer
  (repeat' split) <;> simp [dropPeer_frame, queueEvent_frame, loseOrphans_frame, blank_line_peers, h1, h2, h3, h4,
    h5, h6, h7, h8, h9, h10, h11, h12, h13, h14, h15, h16, h17, h18, Channel.plan, Booth.plan, Desk.plan, Feed.plan]

theorem notePeer_frame (h1 : w.events = true) (h2 : w.notices = true) (h3 : w.channels = true) (h4 : w.zone = true)
    (h5 : w.claims = true) (h6 : w.trunks = true) (h7 : w.booths = true) (h8 : w.desks = true)
      (h9 : w.directory = true) (h10 : w.exported = true) (h11 : w.feeds = true) (h12 : w.contexts = true)
        (h13 : w.mapBack = true) (h14 : w.lineQueue = true) (h15 : w.peers = true) (h16 : w.outbound = true)
          (h17 : w.routes = true) (h18 : w.orphans = true) (q epoch : Nat) (s : State) :
    (notePeer q epoch s).blank w = s.blank w := by
  unfold notePeer
  (repeat' split) <;> simp [queueEvent_frame, joinOrphans_frame, dropPeer_frame, refreshOrphans_frame,
    blank_line_peers, h1, h2, h3, h4, h5, h6, h7, h8, h9, h10, h11, h12, h13, h14, h15, h16, h17, h18,
      Channel.plan, Booth.plan, Desk.plan, Feed.plan]

theorem takeEdges_frame (h1 : w.events = true) (h2 : w.channels = true) (h3 : w.zone = true)
    (h4 : w.mapBack = true) (h5 : w.lineQueue = true) (h6 : w.peers = true) (q : Nat) (edges : List (Nat × Bool))
      (s : State) :
    (takeEdges q edges s).blank w = s.blank w := by
  unfold takeEdges
  (repeat' split) <;> simp [recomputeZone_frame, blank_line_peers, h1, h2, h3, h4, h5, h6, Channel.plan,
    Booth.plan, Desk.plan, Feed.plan]

theorem countGood_frame (h1 : w.events = true) (h2 : w.notices = true) (h3 : w.channels = true)
    (h4 : w.zone = true) (h5 : w.trunks = true) (h6 : w.booths = true) (h7 : w.desks = true) (h8 : w.feeds = true)
      (h9 : w.contexts = true) (h10 : w.mapBack = true) (h11 : w.lineQueue = true) (h12 : w.lineState = true)
        (h13 : w.peers = true) (h14 : w.outbound = true) (h15 : w.routes = true) (s : State) :
    (countGood s).blank w = s.blank w := by
  simp only [countGood]
  (repeat' split) <;> simp [testScores_frame, blank_line_drive, h1, h2, h3, h4, h5, h6, h7, h8, h9, h10, h11, h12,
    h13, h14, h15, Channel.plan, Booth.plan, Desk.plan, Feed.plan]
  all_goals simp [State.blank, h1, h2, h3, h4, h5, h6, h7, h8, h9, h10, h11, h12, h13, h14, h15]

theorem receive_frame (h1 : w.events = true) (h2 : w.notices = true) (h3 : w.channels = true) (h4 : w.zone = true)
    (h5 : w.claims = true) (h6 : w.trunks = true) (h7 : w.booths = true) (h8 : w.desks = true)
      (h9 : w.directory = true) (h10 : w.exported = true) (h11 : w.feeds = true) (h12 : w.contexts = true)
        (h13 : w.mapBack = true) (h14 : w.lineQueue = true) (h15 : w.lineState = true) (h16 : w.peers = true)
          (h17 : w.outbound = true) (h18 : w.routes = true) (h19 : w.orphans = true) (f : Sender)
            (kind : Nat)
    (deliver : State → State) (hd : ∀ s, (deliver s).blank w = s.blank w) (s : State) :
    (receive f kind deliver s).blank w = s.blank w := by
  simp only [receive]
  (repeat' split) <;> simp [countGood_frame, notePeer_frame, queueEvent_frame, hd, h1, h2, h3, h4, h5, h6, h7, h8,
    h9, h10, h11, h12, h13, h14, h15, h16, h17, h18, h19]

theorem receiveFaulty_frame (h1 : w.events = true) (h2 : w.notices = true) (h3 : w.channels = true)
    (h4 : w.zone = true) (h5 : w.trunks = true) (h6 : w.booths = true) (h7 : w.desks = true) (h8 : w.feeds = true)
      (h9 : w.contexts = true) (h10 : w.mapBack = true) (h11 : w.lineQueue = true) (h12 : w.lineState = true)
        (h13 : w.peers = true) (h14 : w.outbound = true) (h15 : w.routes = true) (fault : FrameFault) (s : State) :
    (receiveFaulty fault s).blank w = s.blank w := by
  simp only [receiveFaulty]
  (repeat' split) <;> simp [testScores_frame, blank_line_drive, h1, h2, h3, h4, h5, h6, h7, h8, h9, h10, h11, h12,
    h13, h14, h15, Channel.plan, Booth.plan, Desk.plan, Feed.plan]
  all_goals simp [State.blank, h1, h2, h3, h4, h5, h6, h7, h8, h9, h10, h11, h12, h13, h14, h15]

theorem assign_frame (h1 : w.events = true) (h2 : w.notices = true) (h3 : w.channels = true)
    (h4 : w.outputs = true) (h5 : w.booths = true) (h6 : w.feeds = true) (h7 : w.lineQueue = true)
      (h8 : w.outbound = true) (h9 : w.routes = true) (b : Nat) (o : Output) (c : Option Nat) (s : State) :
    (assign b o c s).blank w = s.blank w := by
  have put : ∀ (b : Nat) (f : Booth → Booth) (s : State), (modBooth b f s).blank w = s.blank w := by
    intro b f s
    simp [State.blank, modBooth, h4]
  simp only [assign]
  (repeat' split) <;> simp [recheckOutputs_frame, recomputeChannel_frame, modChannel_frame, put, h1, h2, h3, h4,
    h5, h6, h7, h8, h9]

theorem offer_frame (h1 : w.events = true) (h2 : w.contexts = true) (h3 : w.lineQueue = true) (k a b c : Nat)
    (l : Tag) (s : State) :
    (offer k a b c l s).blank w = s.blank w := by
  unfold offer
  (repeat' split) <;> simp [enqueueFrame_frame, blank_feed_contexts, h1, h2, h3, Channel.plan, Booth.plan,
    Desk.plan, Feed.plan]

theorem declineOffer_frame (h1 : w.events = true) (h2 : w.notices = true) (h3 : w.channels = true)
    (h4 : w.trunks = true) (h5 : w.booths = true) (h6 : w.desks = true) (h7 : w.feeds = true)
      (h8 : w.contexts = true) (h9 : w.lineQueue = true) (h10 : w.outbound = true) (h11 : w.routes = true)
        (k : Nat) (cause : FeedCause) (s : State) :
    (declineOffer k cause s).blank w = s.blank w := by
  unfold declineOffer
  (repeat' split) <;> simp [endFeedContext_frame, enqueueFrame_frame, h1, h2, h3, h4, h5, h6, h7, h8, h9, h10, h11,
    Channel.plan, Booth.plan, Desk.plan, Feed.plan]

theorem acceptByHost_frame (h1 : w.events = true) (h2 : w.feeds = true) (h3 : w.lineQueue = true) (k : Nat)
    (s : State) :
    (acceptByHost k s).blank w = s.blank w := by
  unfold acceptByHost
  (repeat' split) <;> simp [modFeed_frame, enqueueFrame_frame, h1, h2, h3, Channel.plan, Booth.plan, Desk.plan,
    Feed.plan]

theorem dropClearMark_frame (h1 : w.outbound = true) (h2 : w.slots = true) (k : Nat) (s : State) :
    (dropClearMark k s).blank w = s.blank w := by
  unfold dropClearMark
  (repeat' split) <;> simp [discardMessages_frame, modSlot_frame, blank_panel_outbound, h1, h2, Channel.plan,
    Booth.plan, Desk.plan, Feed.plan]

theorem beginIssue_frame (h1 : w.events = true) (h2 : w.outbound = true) (h3 : w.slots = true)
    (h4 : w.ready = true) (h5 : w.issues = true) (n k account tariff : Nat) (asked : Option Tag) (deposit : Nat)
      (s : State) :
    (beginIssue n k account tariff asked deposit s).blank w = s.blank w := by
  have issues : ∀ (x : Table Issue) (t : State), State.blank w { t with dock.issues := x } = t.blank w :=
    fun x t => blank_dock_issues h5 x t
  simp only [beginIssue]
  rw [queueMessage_frame h2]
  generalize ha : modSlot k (fun sl => { sl with state := .issuing }) { s with dock.ready := s.dock.ready.tail } = a
  have hb : a.blank w = s.blank w := by rw [← ha, modSlot_frame h3, blank_dock_ready h4]
  rw [← hb]
  (repeat' split) <;> simp [dropClearMark_frame, queueEvent_frame, issues, h1, h2, h3, h4, h5]

theorem declare_frame (h1 : w.events = true) (h2 : w.outbound = true) (h3 : w.slots = true) (h4 : w.hires = true)
    (h5 : w.lost = true) (h6 : w.account = true) (serial account : Nat) (s : State) :
    (declare serial account s).blank w = s.blank w := by
  unfold declare
  (repeat' split) <;> simp [joinLost_frame, closeHire_frame, h1, h2, h3, h4, h5, h6, Channel.plan, Booth.plan,
    Desk.plan, Feed.plan]


end Sys2Proof.Machine
end

