-- ==== Sys2Proof/Laws/Growth.lean ====
section
/-! SUPPORT. What no operation of a step takes back: events queued stay queued, or a full queue is reported; frames out
of transmission stay queued, or their loss is reported. From these follow what a step tells and sends. -/

set_option linter.unusedSimpArgs false
set_option linter.unusedVariables false
set_option linter.unreachableTactic false
set_option linter.unusedTactic false

namespace Sys2Proof.Machine

/-- Which queued frames an operation keeps: those without a superseding key, claims, notices and PRESENCE. -/
structure Keep where
  plain : Bool := true
  claims : Bool := true
  notices : Bool := true
  presence : Bool := true

/-- Is a frame of this key kept? -/
def Keep.has (κ : Keep) : Option FrameKey → Bool
  | none => κ.plain
  | some (.claim _) => κ.claims
  | some (.notice _) => κ.notices
  | some .presence => κ.presence

/-- From s to t nothing queued is taken back. -/
structure Grows (κ : Keep) (s t : State) : Prop where
  clock : t.clock = s.clock
  state : s.line.state ≠ .detached → t.line.state ≠ .detached
  queue : s.events.queue <+: t.events.queue
  overrun : 0 < s.events.overrun → 0 < t.events.overrun
  frames : ∀ f ∈ s.line.queue, f.sending = none → κ.has f.payload.key = true →
    f ∈ t.line.queue ∨ ∃ x, s.tells t .lineCongestion [f.payload.code, f.dest, x]

variable {κ : Keep}

theorem Grows.refl (s : State) : Grows κ s s :=
  ⟨rfl, id, List.prefix_rfl, id, fun _ h _ _ => Or.inl h⟩

/-- What is told stays told. -/
theorem Grows.tells {r s t : State} (h : Grows κ s t) {k : EventKind} {fields : List Nat}
    (ht : r.tells s k fields) : r.tells t k fields := by
  rcases ht with ht | ⟨h1, h2⟩
  · refine Or.inl ?_
    obtain ⟨u, hu⟩ := h.queue
    rw [← hu]
    by_cases hl : r.events.queue.length ≤ s.events.queue.length
    · rw [List.drop_append_of_le_length hl]
      exact List.mem_append_left _ ht
    · rw [List.drop_eq_nil_of_le (by omega)] at ht
      exact absurd ht (by simp)
  · exact Or.inr ⟨le_trans h1 h.queue.length_le, h.overrun h2⟩

/-- What is told from a later state on is told from an earlier one on. -/
theorem Grows.tells_from {r s t : State} (h : Grows κ r s) {k : EventKind} {fields : List Nat}
    (ht : s.tells t k fields) : r.tells t k fields := by
  rcases ht with ht | ht
  · refine Or.inl ?_
    rw [← h.clock]
    exact (List.drop_sublist_drop_left _ h.queue.length_le).subset ht
  · exact Or.inr ht

theorem Grows.trans {r s t : State} (h : Grows κ r s) (h' : Grows κ s t) : Grows κ r t where
  clock := h'.clock.trans h.clock
  state := fun x => h'.state (h.state x)
  queue := h.queue.trans h'.queue
  overrun := fun x => h'.overrun (h.overrun x)
  frames := fun f hf hs hk => by
    rcases h.frames f hf hs hk with h1 | ⟨x, h1⟩
    · rcases h'.frames f h1 hs hk with h2 | ⟨x, h2⟩
      · exact Or.inl h2
      · exact Or.inr ⟨x, h.tells_from h2⟩
    · exact Or.inr ⟨x, h'.tells h1⟩

/-- An operation that leaves clock, events and the transmit queue alone. -/
theorem Grows.of_same {s t : State} (hc : t.clock = s.clock) (he : t.events = s.events)
    (hq : t.line.queue = s.line.queue) (hs : t.line.state = s.line.state) : Grows κ s t :=
  ⟨hc, by rw [hs]; exact id, by rw [he], by rw [he]; exact id, fun f hf _ _ => Or.inl (by rw [hq]; exact hf)⟩

/-- The same, for an update of other parts of the state. -/
theorem Grows.update {r s : State} {a : List Instr} {b : ClockBlock} {c : PortBlock} {d : EventBlock}
    {e : PlannerBlock} {f : BoothBlock} {g : RelayBlock} {i : FeedBlock} {j : MapBlock} {k : LineBlock}
    {l : PanelBlock} {m : DockBlock} {n : LedgerBlock} {o : AccountBlock} (hc : b = s.clock) (he : d = s.events)
    (hq : k.queue = s.line.queue) (hs : k.state = s.line.state) (h : Grows κ r s) :
    Grows κ r (State.mk a b c d e f g i j k l m n o) :=
  h.trans (Grows.of_same hc he hq hs)

/-- An operation run after such an update. -/
theorem Grows.after {s u t : State} (h : Grows κ u t) (hc : u.clock = s.clock) (he : u.events = s.events)
    (hq : u.line.queue = s.line.queue) (hs : u.line.state = s.line.state) : Grows κ s t :=
  (Grows.of_same hc he hq hs).trans h

/-- Fewer frames are kept by more operations. -/
theorem Grows.weaken {κ' : Keep} {s t : State} (h : Grows κ s t)
    (hk : ∀ k, κ'.has k = true → κ.has k = true) : Grows κ' s t :=
  ⟨h.clock, h.state, h.queue, h.overrun, fun f hf hs hp => h.frames f hf hs (hk _ hp)⟩

/-! ### The two queues -/

theorem queueEvent_grows (k : EventKind) (fields : List Nat) (s : State) : Grows κ s (queueEvent k fields s) := by
  unfold queueEvent
  split
  · exact ⟨rfl, id, List.prefix_append _ _, id, fun f hf _ _ => Or.inl hf⟩
  · exact ⟨rfl, id, List.prefix_rfl, fun _ => by simp [Config.overrunMax], fun f hf _ _ => Or.inl hf⟩

/-- Queuing an event tells it (R181). -/
theorem queueEvent_tells (k : EventKind) (fields : List Nat) (s : State) :
    s.tells (queueEvent k fields s) k fields := by
  unfold queueEvent State.tells
  split
  · left; simp
  · right
    rename_i h
    simp only [Config.eventCapacity, not_lt] at h
    exact ⟨h, by simp [Config.overrunMax]⟩

theorem lastMatch_mem {α : Type} {p : α → Bool} {l : List α} {a : α} (h : lastMatch p l = some a) :
    a ∈ l ∧ p a = true := by
  unfold lastMatch at h
  exact ⟨List.mem_reverse.1 (List.mem_of_find?_eq_some h), List.find?_some h⟩

/-- Removing the last match keeps everything but a match. -/
theorem mem_dropLastMatch {α : Type} {p : α → Bool} {l : List α} {a b : α} (h : lastMatch p l = some b)
    (ha : a ∈ l) : a ∈ dropLastMatch p l ∨ a = b := by
  unfold lastMatch at h
  unfold dropLastMatch
  rw [List.mem_reverse]
  have ha' : a ∈ l.reverse := List.mem_reverse.2 ha
  generalize l.reverse = m at h ha'
  induction m with
  | nil => simp at ha'
  | cons x rest ih =>
    by_cases hx : p x = true
    · simp only [List.find?_cons_of_pos hx, Option.some.injEq] at h
      subst h
      simp only [List.eraseP_cons_of_pos hx]
      rcases List.mem_cons.1 ha' with h1 | h1
      · exact Or.inr h1
      · exact Or.inl h1
    · simp only [List.find?_cons_of_neg hx] at h
      simp only [List.eraseP_cons_of_neg hx, List.mem_cons]
      rcases List.mem_cons.1 ha' with h1 | h1
      · exact Or.inl (Or.inl h1)
      · rcases ih h h1 with h2 | h2
        · exact Or.inl (Or.inr h2)
        · exact Or.inr h2

/-- Handing a frame over keeps every other frame but those it supersedes, or reports a loss (R169, R170). -/
theorem enqueueFrame_grows (dest : Nat) (p : Payload) (h : p.key.isSome = true → κ.has p.key = false) (s : State) :
    Grows κ s (enqueueFrame dest p s) := by
  unfold enqueueFrame
  dsimp only
  split
  · exact Grows.refl s
  split
  · refine ⟨rfl, id, List.prefix_rfl, id, fun f hf hs hk => Or.inl ?_⟩
    simp only [List.mem_map]
    refine ⟨f, hf, ?_⟩
    split
    · rename_i hsup
      simp only [supersededBy, Bool.and_eq_true, decide_eq_true_eq] at hsup
      obtain ⟨⟨h1, h2⟩, _⟩ := hsup
      rw [h2, h h1] at hk
      exact absurd hk (by simp)
    · rfl
  split
  · exact ⟨rfl, id, List.prefix_rfl, id, fun f hf _ _ => Or.inl (List.mem_append_left _ hf)⟩
  split
  · rename_i lost hl
    have he := queueEvent_grows (κ := κ) .lineCongestion [lost.payload.code, lost.dest, 0]
      { s with line.queue := dropLastMatch (fun g : TxFrame => p.precedence < g.payload.precedence
        && g.sending.isNone) s.line.queue ++ [{ dest, payload := p, sending := none, noAcks := 0 }] }
    refine ⟨he.clock, he.state, he.queue, he.overrun, fun f hf _ _ => ?_⟩
    have hq : (queueEvent .lineCongestion [lost.payload.code, lost.dest, 0]
        { s with line.queue := dropLastMatch (fun g : TxFrame => p.precedence < g.payload.precedence
          && g.sending.isNone) s.line.queue ++ [{ dest, payload := p, sending := none, noAcks := 0 }] }).line.queue
        = dropLastMatch (fun g : TxFrame => p.precedence < g.payload.precedence && g.sending.isNone) s.line.queue
          ++ [{ dest, payload := p, sending := none, noAcks := 0 }] := by
      unfold queueEvent; split <;> rfl
    rcases mem_dropLastMatch hl hf with h1 | h1
    · left; rw [hq]; exact List.mem_append_left _ h1
    · right
      subst h1
      exact ⟨0, queueEvent_tells .lineCongestion [f.payload.code, f.dest, 0]
        { s with line.queue := dropLastMatch (fun g : TxFrame => p.precedence < g.payload.precedence
          && g.sending.isNone) s.line.queue ++ [{ dest, payload := p, sending := none, noAcks := 0 }] }⟩
  · exact queueEvent_grows _ _ _

/-- Handing a frame over sends it (R164, R169, R170). -/
theorem enqueueFrame_sends (dest : Nat) (p : Payload) (s : State) : s.sends (enqueueFrame dest p s) dest p := by
  intro hd
  unfold enqueueFrame
  dsimp only
  split
  · contradiction
  split
  · rename_i hany
    left
    obtain ⟨g, hg, hp⟩ := List.any_eq_true.1 hany
    simp only [List.mem_map]
    exact ⟨g, hg, by simp [hp]⟩
  split
  · left; simp
  split
  · left
    unfold queueEvent
    split <;> simp
  · right
    exact ⟨1, queueEvent_tells _ _ _⟩

/-- What is sent stays sent. -/
theorem Grows.sends {r s t : State} (hg : Grows κ s t) (hrs : Grows κ r s) {dest : Nat} {p : Payload}
    (hk : κ.has p.key = true) (h : r.sends s dest p) : r.sends t dest p := by
  intro hd
  rcases h hd with h1 | ⟨x, h1⟩
  · rcases hg.frames _ h1 rfl hk with h2 | ⟨x, h2⟩
    · exact Or.inl h2
    · exact Or.inr ⟨x, hrs.tells_from h2⟩
  · exact Or.inr ⟨x, hg.tells h1⟩

/-- What is sent from a later state on is sent from an earlier one on. -/
theorem Grows.sends_from {r s t : State} (h : Grows κ r s) {dest : Nat} {p : Payload} (hs : s.sends t dest p) :
    r.sends t dest p := by
  intro hd
  rcases hs (h.state hd) with h1 | ⟨x, h1⟩
  · exact Or.inl h1
  · exact Or.inr ⟨x, h.tells_from h1⟩

theorem forEach_grows (l : List Nat) {f : Nat → State → State} (h : ∀ k s, Grows κ s (f k s)) (s : State) :
    Grows κ s (forEach l f s) := by
  unfold forEach
  induction l generalizing s with
  | nil => exact Grows.refl s
  | cons k rest ih => exact (h k s).trans (ih (f k s))

theorem foldl_grows {α : Type} (l : List α) {f : State → α → State} (h : ∀ s a, Grows κ s (f s a)) (s : State) :
    Grows κ s (l.foldl f s) := by
  induction l generalizing s with
  | nil => exact Grows.refl s
  | cons a rest ih => exact (h s a).trans (ih (f s a))

/-! ### Every other operation -/

theorem modChannel_grows (c : Nat) (f : Channel → Channel) (s : State) : Grows κ s (modChannel c f s) := by
  unfold modChannel
  all_goals repeat' first
    | with_reducible exact Grows.refl _
    | split
    | extract_lets
    | fail_if_no_progress (dsimp (zetaDelta := true) only)
    | fail_if_no_progress (with_reducible refine Grows.update rfl rfl rfl rfl ?_)

theorem modBooth_grows (b : Nat) (f : Booth → Booth) (s : State) : Grows κ s (modBooth b f s) := by
  unfold modBooth
  all_goals repeat' first
    | with_reducible exact Grows.refl _
    | split
    | extract_lets
    | fail_if_no_progress (dsimp (zetaDelta := true) only)
    | fail_if_no_progress (with_reducible refine Grows.update rfl rfl rfl rfl ?_)

theorem modDesk_grows (d : Nat) (f : Desk → Desk) (s : State) : Grows κ s (modDesk d f s) := by
  unfold modDesk
  all_goals repeat' first
    | with_reducible exact Grows.refl _
    | split
    | extract_lets
    | fail_if_no_progress (dsimp (zetaDelta := true) only)
    | fail_if_no_progress (with_reducible refine Grows.update rfl rfl rfl rfl ?_)

theorem modFeed_grows (k : Nat) (f : Feed → Feed) (s : State) : Grows κ s (modFeed k f s) := by
  unfold modFeed
  all_goals repeat' first
    | with_reducible exact Grows.refl _
    | split
    | extract_lets
    | fail_if_no_progress (dsimp (zetaDelta := true) only)
    | fail_if_no_progress (with_reducible refine Grows.update rfl rfl rfl rfl ?_)

theorem modSlot_grows (k : Nat) (f : Slot → Slot) (s : State) : Grows κ s (modSlot k f s) := by
  unfold modSlot
  all_goals repeat' first
    | with_reducible exact Grows.refl _
    | split
    | extract_lets
    | fail_if_no_progress (dsimp (zetaDelta := true) only)
    | fail_if_no_progress (with_reducible refine Grows.update rfl rfl rfl rfl ?_)

theorem queuePresence_grows (hp : κ.presence = false) (s : State) : Grows κ s (queuePresence s) := by
  unfold queuePresence
  all_goals repeat' first
    | with_reducible exact Grows.refl _
    | with_reducible refine Grows.trans ?_ (enqueueFrame_grows _ _ (by simp [Payload.key, Keep.has, hp]) _)
    | split
    | extract_lets
    | fail_if_no_progress (dsimp (zetaDelta := true) only)
    | fail_if_no_progress (with_reducible refine Grows.update rfl rfl rfl rfl ?_)

theorem deferTarget_grows (t : Target) (s : State) : Grows κ s (deferTarget t s) := by
  unfold deferTarget
  all_goals repeat' first
    | with_reducible exact Grows.refl _
    | split
    | extract_lets
    | fail_if_no_progress (dsimp (zetaDelta := true) only)
    | fail_if_no_progress (with_reducible refine Grows.update rfl rfl rfl rfl ?_)

theorem queueMessage_grows (b : Body) (origin : Origin) (s : State) : Grows κ s (queueMessage b origin s) := by
  unfold queueMessage
  all_goals repeat' first
    | with_reducible exact Grows.refl _
    | with_reducible refine Grows.trans ?_ (deferTarget_grows _ _)
    | split
    | extract_lets
    | fail_if_no_progress (dsimp (zetaDelta := true) only)
    | fail_if_no_progress (with_reducible refine Grows.update rfl rfl rfl rfl ?_)

theorem refill_grows (n : Nat) (s : State) : Grows κ s (refill n s) := by
  induction n generalizing s with
  | zero => exact Grows.refl _
  | succ n ih =>
    unfold refill
    split
    · split
      · exact Grows.refl _
      · rename_i t _
        have h0 : Grows κ s { s with panel.deferred := s.panel.deferred.erase t } := Grows.of_same rfl rfl rfl rfl
        dsimp only
        split
        · exact (h0.trans (queueMessage_grows _ _ _)).trans (ih _)
        · exact h0.trans (ih _)
    · exact Grows.refl _

theorem removeMessages_grows (p : Message → Bool) (s : State) : Grows κ s (removeMessages p s) := by
  unfold removeMessages
  all_goals repeat' first
    | with_reducible exact Grows.refl _
    | with_reducible refine Grows.trans ?_ (refill_grows _ _)
    | split
    | extract_lets
    | fail_if_no_progress (dsimp (zetaDelta := true) only)
    | fail_if_no_progress (with_reducible refine Grows.update rfl rfl rfl rfl ?_)

theorem setRoute_grows (o : Nat) (src : Source) (s : State) : Grows κ s (setRoute o src s) := by
  unfold setRoute
  all_goals repeat' first
    | with_reducible exact Grows.refl _
    | with_reducible refine Grows.trans ?_ (queueMessage_grows _ _ _)
    | split
    | extract_lets
    | fail_if_no_progress (dsimp (zetaDelta := true) only)
    | fail_if_no_progress (with_reducible refine Grows.update rfl rfl rfl rfl ?_)

theorem sendMaskWord_grows (s : State) : Grows κ s (sendMaskWord s) := by
  unfold sendMaskWord
  all_goals repeat' first
    | with_reducible exact Grows.refl _
    | split
    | extract_lets
    | fail_if_no_progress (dsimp (zetaDelta := true) only)
    | fail_if_no_progress (with_reducible refine Grows.update rfl rfl rfl rfl ?_)

theorem syncMask_grows (s : State) : Grows κ s (syncMask s) := by
  unfold syncMask
  all_goals repeat' first
    | with_reducible exact Grows.refl _
    | with_reducible refine Grows.trans ?_ (sendMaskWord_grows _)
    | split
    | extract_lets
    | fail_if_no_progress (dsimp (zetaDelta := true) only)
    | fail_if_no_progress (with_reducible refine Grows.update rfl rfl rfl rfl ?_)

theorem setRadiator_grows (on : Bool) (s : State) : Grows κ s (setRadiator on s) := by
  unfold setRadiator
  all_goals repeat' first
    | with_reducible exact Grows.refl _
    | with_reducible refine Grows.trans ?_ (sendMaskWord_grows _)
    | split
    | extract_lets
    | fail_if_no_progress (dsimp (zetaDelta := true) only)
    | fail_if_no_progress (with_reducible refine Grows.update rfl rfl rfl rfl ?_)

theorem queueNotice_grows (hn : κ.notices = false) (c : Nat) (s : State) : Grows κ s (queueNotice c s) := by
  unfold queueNotice
  all_goals repeat' first
    | with_reducible exact Grows.refl _
    | with_reducible refine Grows.trans ?_ (enqueueFrame_grows _ _ (by simp [Payload.key, Keep.has, hn]) _)
    | with_reducible refine Grows.trans ?_ (modChannel_grows _ _ _)
    | split
    | extract_lets
    | fail_if_no_progress (dsimp (zetaDelta := true) only)
    | fail_if_no_progress (with_reducible refine Grows.update rfl rfl rfl rfl ?_)

theorem modAccount_grows (a : Nat) (f : Account → Account) (s : State) : Grows κ s (modAccount a f s) := by
  unfold modAccount
  all_goals repeat' first
    | with_reducible exact Grows.refl _
    | split
    | extract_lets
    | fail_if_no_progress (dsimp (zetaDelta := true) only)
    | fail_if_no_progress (with_reducible refine Grows.update rfl rfl rfl rfl ?_)

theorem book_grows (a : Nat) (f : Total) (n : Nat) (s : State) : Grows κ s (book a f n s) := by
  unfold book
  all_goals repeat' first
    | with_reducible exact Grows.refl _
    | with_reducible refine Grows.trans ?_ (modAccount_grows _ _ _)
    | with_reducible refine Grows.trans ?_ (queueEvent_grows _ _ _)
    | split
    | extract_lets
    | fail_if_no_progress (dsimp (zetaDelta := true) only)
    | fail_if_no_progress (with_reducible refine Grows.update rfl rfl rfl rfl ?_)

theorem enterLog_grows (st : Settlement) (s : State) : Grows κ s (enterLog st s) := by
  unfold enterLog
  all_goals repeat' first
    | with_reducible exact Grows.refl _
    | with_reducible refine Grows.trans ?_ (queueEvent_grows _ _ _)
    | split
    | extract_lets
    | fail_if_no_progress (dsimp (zetaDelta := true) only)
    | fail_if_no_progress (with_reducible refine Grows.update rfl rfl rfl rfl ?_)

theorem endHolds_grows (serial : Nat) (s : State) : Grows κ s (endHolds serial s) := by
  unfold endHolds
  all_goals repeat' first
    | with_reducible exact Grows.refl _
    | with_reducible refine Grows.trans ?_ (queueMessage_grows _ _ _)
    | with_reducible refine Grows.trans ?_ (modSlot_grows _ _ _)
    | with_reducible refine Grows.trans ?_ (forEach_grows _ (fun _ _ => ?_) _)
    | split
    | extract_lets
    | fail_if_no_progress (dsimp (zetaDelta := true) only)
    | fail_if_no_progress (with_reducible refine Grows.update rfl rfl rfl rfl ?_)

theorem hireLeaves_grows (serial : Nat) (s : State) : Grows κ s (hireLeaves serial s) := by
  unfold hireLeaves
  all_goals repeat' first
    | with_reducible exact Grows.refl _
    | with_reducible refine Grows.trans ?_ (endHolds_grows _ _)
    | with_reducible refine Grows.trans ?_ (modAccount_grows _ _ _)
    | split
    | extract_lets
    | fail_if_no_progress (dsimp (zetaDelta := true) only)
    | fail_if_no_progress (with_reducible refine Grows.update rfl rfl rfl rfl ?_)

theorem closeHire_grows (serial : Nat) (kind : HireKind) (asked : Nat) (returnedAt : Option Nat) (s : State) : Grows κ s (closeHire serial kind asked returnedAt s) := by
  unfold closeHire
  dsimp only
  all_goals repeat' first
    | with_reducible exact Grows.refl _
    | with_reducible refine Grows.trans ?_ (book_grows _ _ _ _)
    | with_reducible refine Grows.trans ?_ (hireLeaves_grows _ _)
    | with_reducible refine Grows.trans ?_ (enterLog_grows _ _)
    | split
    | fail_if_no_progress (with_reducible refine Grows.update rfl rfl rfl rfl ?_)

theorem waitBill_grows (new : ChannelBill) (s : State) : Grows κ s (waitBill new s) := by
  unfold waitBill
  all_goals repeat' first
    | with_reducible exact Grows.refl _
    | split
    | extract_lets
    | fail_if_no_progress (dsimp (zetaDelta := true) only)
    | fail_if_no_progress (with_reducible refine Grows.update rfl rfl rfl rfl ?_)

theorem settleChannel_grows (c : Nat) (ch : Channel) (s : State) : Grows κ s (settleChannel c ch s) := by
  unfold settleChannel
  all_goals repeat' first
    | with_reducible exact Grows.refl _
    | with_reducible refine Grows.trans ?_ (book_grows _ _ _ _)
    | with_reducible refine Grows.trans ?_ (enterLog_grows _ _)
    | with_reducible refine Grows.trans ?_ (waitBill_grows _ _)
    | split
    | extract_lets
    | fail_if_no_progress (dsimp (zetaDelta := true) only)
    | fail_if_no_progress (with_reducible refine Grows.update rfl rfl rfl rfl ?_)

theorem settleRecovery_grows (serial account minute : Nat) (s : State) : Grows κ s (settleRecovery serial account minute s) := by
  unfold settleRecovery
  all_goals repeat' first
    | with_reducible exact Grows.refl _
    | with_reducible refine Grows.trans ?_ (enterLog_grows _ _)
    | with_reducible refine Grows.trans ?_ (queueEvent_grows _ _ _)
    | split
    | extract_lets
    | fail_if_no_progress (dsimp (zetaDelta := true) only)
    | fail_if_no_progress (with_reducible refine Grows.update rfl rfl rfl rfl ?_)

theorem moveClosing_grows (s : State) : Grows κ s (moveClosing s) := by
  unfold moveClosing
  all_goals repeat' first
    | with_reducible exact Grows.refl _
    | with_reducible refine Grows.trans ?_ (enterLog_grows _ _)
    | with_reducible refine Grows.trans ?_ (hireLeaves_grows _ _)
    | split
    | extract_lets
    | fail_if_no_progress (dsimp (zetaDelta := true) only)
    | fail_if_no_progress (with_reducible refine Grows.update rfl rfl rfl rfl ?_)

theorem openHire_grows (i : Issue) (s : State) : Grows κ s (openHire i s) := by
  unfold openHire
  all_goals repeat' first
    | with_reducible exact Grows.refl _
    | with_reducible refine Grows.trans ?_ (modAccount_grows _ _ _)
    | split
    | extract_lets
    | fail_if_no_progress (dsimp (zetaDelta := true) only)
    | fail_if_no_progress (with_reducible refine Grows.update rfl rfl rfl rfl ?_)

theorem sendClaim_grows (hc : κ.claims = false) (r : Resource) (a : ClaimAction) (c : Nat) (l : Tag) (s : State) : Grows κ s (sendClaim r a c l s) := by
  unfold sendClaim
  all_goals repeat' first
    | with_reducible exact Grows.refl _
    | with_reducible refine Grows.trans ?_ (enqueueFrame_grows _ _ (by simp [Payload.key, Keep.has, hc]) _)
    | split
    | extract_lets
    | fail_if_no_progress (dsimp (zetaDelta := true) only)
    | fail_if_no_progress (with_reducible refine Grows.update rfl rfl rfl rfl ?_)

theorem search_grows (hc : κ.claims = false) (c : Nat) (s : State) : Grows κ s (search c s) := by
  unfold search
  all_goals repeat' first
    | with_reducible exact Grows.refl _
    | with_reducible refine Grows.trans ?_ (sendClaim_grows hc _ _ _ _ _)
    | with_reducible refine Grows.trans ?_ (modChannel_grows _ _ _)
    | with_reducible refine Grows.trans ?_ (queueEvent_grows _ _ _)
    | split
    | extract_lets
    | fail_if_no_progress (dsimp (zetaDelta := true) only)
    | fail_if_no_progress (with_reducible refine Grows.update rfl rfl rfl rfl ?_)

theorem searchWaiting_grows (hc : κ.claims = false) (fresh : List Nat) (s : State) : Grows κ s (searchWaiting fresh s) := by
  unfold searchWaiting
  all_goals repeat' first
    | with_reducible exact Grows.refl _
    | with_reducible refine Grows.trans ?_ (search_grows hc _ _)
    | with_reducible refine Grows.trans ?_ (forEach_grows _ (fun _ _ => ?_) _)
    | split
    | extract_lets
    | fail_if_no_progress (dsimp (zetaDelta := true) only)
    | fail_if_no_progress (with_reducible refine Grows.update rfl rfl rfl rfl ?_)

theorem giveWay_grows (hc : κ.claims = false) (q c sc : Nat) (s : State) : Grows κ s (giveWay q c sc s) := by
  unfold giveWay
  split
  · exact Grows.refl _
  dsimp only
  split
  · refine Grows.trans ?_ (queueEvent_grows _ _ _)
    exact (((modChannel_grows _ _ _).trans (syncMask_grows _)).trans (sendClaim_grows hc _ _ _ _ _)).trans
      (searchWaiting_grows hc _ _)
  · exact (((modChannel_grows _ _ _).trans (syncMask_grows _)).trans (sendClaim_grows hc _ _ _ _ _)).trans
      (searchWaiting_grows hc _ _)

theorem refreshClaim_grows (hc : κ.claims = false) (c : Nat) (s : State) : Grows κ s (refreshClaim c s) := by
  unfold refreshClaim
  all_goals repeat' first
    | with_reducible exact Grows.refl _
    | with_reducible refine Grows.trans ?_ (sendClaim_grows hc _ _ _ _ _)
    | with_reducible refine Grows.trans ?_ (modChannel_grows _ _ _)
    | split
    | extract_lets
    | fail_if_no_progress (dsimp (zetaDelta := true) only)
    | fail_if_no_progress (with_reducible refine Grows.update rfl rfl rfl rfl ?_)

theorem testClaim_grows (hc : κ.claims = false) (q sc : Nat) (s : State) : Grows κ s (testClaim q sc s) := by
  unfold testClaim
  all_goals repeat' first
    | with_reducible exact Grows.refl _
    | with_reducible refine Grows.trans ?_ (giveWay_grows hc _ _ _ _)
    | with_reducible refine Grows.trans ?_ (refreshClaim_grows hc _ _)
    | with_reducible refine Grows.trans ?_ (forEach_grows _ (fun _ _ => ?_) _)
    | split
    | extract_lets
    | fail_if_no_progress (dsimp (zetaDelta := true) only)
    | fail_if_no_progress (with_reducible refine Grows.update rfl rfl rfl rfl ?_)

theorem storeClaim_grows (q sc c : Nat) (l : Tag) (s : State) : Grows κ s (storeClaim q sc c l s) := by
  unfold storeClaim
  all_goals repeat' first
    | with_reducible exact Grows.refl _
    | with_reducible refine Grows.trans ?_ (queueEvent_grows _ _ _)
    | split
    | extract_lets
    | fail_if_no_progress (dsimp (zetaDelta := true) only)
    | fail_if_no_progress (with_reducible refine Grows.update rfl rfl rfl rfl ?_)

theorem removeClaim_grows (hc : κ.claims = false) (q sc : Nat) (s : State) : Grows κ s (removeClaim q sc s) := by
  unfold removeClaim
  all_goals repeat' first
    | with_reducible exact Grows.refl _
    | with_reducible refine Grows.trans ?_ (searchWaiting_grows hc _ _)
    | split
    | extract_lets
    | fail_if_no_progress (dsimp (zetaDelta := true) only)
    | fail_if_no_progress (with_reducible refine Grows.update rfl rfl rfl rfl ?_)

theorem recomputeZone_grows (hc : κ.claims = false) (s : State) : Grows κ s (recomputeZone s) := by
  unfold recomputeZone
  dsimp only
  have h0 : ∀ joined : List Nat, Grows κ s (forEach (List.range 32)
      (fun sc t => match t.lowestClaimant joined sc with
        | some q => testClaim q sc t
        | none => t) { s with planner.zone := s.zoneNow }) := by
    intro joined
    refine Grows.after (forEach_grows _ (fun sc t => ?_) _) rfl rfl rfl rfl
    split
    · exact testClaim_grows hc _ _ _
    · exact Grows.refl _
  split
  · exact Grows.refl _
  split
  · exact (h0 _).trans (searchWaiting_grows hc _ _)
  · exact h0 _

theorem setTrunk_grows (t : Nat) (e : TrunkEntry) (s : State) : Grows κ s (setTrunk t e s) := by
  unfold setTrunk
  all_goals repeat' first
    | with_reducible exact Grows.refl _
    | split
    | extract_lets
    | fail_if_no_progress (dsimp (zetaDelta := true) only)
    | fail_if_no_progress (with_reducible refine Grows.update rfl rfl rfl rfl ?_)

theorem sendTrunkClaim_grows (hc : κ.claims = false) (t : Nat) (a : ClaimAction) (u : TrunkUser) (s : State) : Grows κ s (sendTrunkClaim t a u s) := by
  unfold sendTrunkClaim
  all_goals repeat' first
    | with_reducible exact Grows.refl _
    | with_reducible refine Grows.trans ?_ (sendClaim_grows hc _ _ _ _ _)
    | split
    | extract_lets
    | fail_if_no_progress (dsimp (zetaDelta := true) only)
    | fail_if_no_progress (with_reducible refine Grows.update rfl rfl rfl rfl ?_)

theorem takeTrunk_grows (hc : κ.claims = false) (t : Nat) (u : TrunkUser) (s : State) : Grows κ s (takeTrunk t u s) := by
  unfold takeTrunk
  all_goals repeat' first
    | with_reducible exact Grows.refl _
    | with_reducible refine Grows.trans ?_ (sendTrunkClaim_grows hc _ _ _ _)
    | with_reducible refine Grows.trans ?_ (setTrunk_grows _ _ _)
    | split
    | extract_lets
    | fail_if_no_progress (dsimp (zetaDelta := true) only)
    | fail_if_no_progress (with_reducible refine Grows.update rfl rfl rfl rfl ?_)

theorem giveUpTrunk_grows (hc : κ.claims = false) (t : Nat) (u : TrunkUser) (s : State) :
    Grows κ s (giveUpTrunk t u s) := by
  refine Grows.trans ?_ (sendTrunkClaim_grows hc _ _ _ _)
  exact (setRoute_grows _ _ _).trans (Grows.of_same rfl rfl rfl rfl)

theorem releaseTrunk_grows (hc : κ.claims = false) (u : TrunkUser) (s : State) : Grows κ s (releaseTrunk u s) := by
  unfold releaseTrunk
  split
  · exact Grows.refl _
  · exact giveUpTrunk_grows hc _ _ _

theorem releaseOwnTrunks_grows (hc : κ.claims = false) (s : State) : Grows κ s (releaseOwnTrunks s) := by
  refine forEach_grows _ (fun _ _ => ?_) s
  split
  · exact giveUpTrunk_grows hc _ _ _
  · exact Grows.refl _

theorem adoptTrunk_grows (q t : Nat) (s : State) : Grows κ s (adoptTrunk q t s) := by
  unfold adoptTrunk
  all_goals repeat' first
    | with_reducible exact Grows.refl _
    | with_reducible refine Grows.trans ?_ (setTrunk_grows _ _ _)
    | split
    | extract_lets
    | fail_if_no_progress (dsimp (zetaDelta := true) only)
    | fail_if_no_progress (with_reducible refine Grows.update rfl rfl rfl rfl ?_)

theorem sendRelayRelease_grows (b : Nat) (src : Selection) (s : State) : Grows κ s (sendRelayRelease b src s) := by
  unfold sendRelayRelease
  all_goals repeat' first
    | with_reducible exact Grows.refl _
    | with_reducible refine Grows.trans ?_ (enqueueFrame_grows _ _ (by simp [Payload.key, Keep.has]) _)
    | split
    | extract_lets
    | fail_if_no_progress (dsimp (zetaDelta := true) only)
    | fail_if_no_progress (with_reducible refine Grows.update rfl rfl rfl rfl ?_)

theorem dropRelay_grows (cause : LostCause) (b : Nat) (s : State) : Grows κ s (dropRelay cause b s) := by
  unfold dropRelay
  all_goals repeat' first
    | with_reducible exact Grows.refl _
    | with_reducible refine Grows.trans ?_ (modBooth_grows _ _ _)
    | with_reducible refine Grows.trans ?_ (queueEvent_grows _ _ _)
    | with_reducible refine Grows.trans ?_ (setRoute_grows _ _ _)
    | with_reducible refine Grows.trans ?_ (sendRelayRelease_grows _ _ _)
    | split
    | extract_lets
    | fail_if_no_progress (dsimp (zetaDelta := true) only)
    | fail_if_no_progress (with_reducible refine Grows.update rfl rfl rfl rfl ?_)

theorem storePedigree_grows (hn : κ.notices = false) (c : Nat) (s : State) : Grows κ s (storePedigree c s) := by
  unfold storePedigree
  all_goals repeat' first
    | with_reducible exact Grows.refl _
    | with_reducible refine Grows.trans ?_ (queueNotice_grows hn _ _)
    | with_reducible refine Grows.trans ?_ (modChannel_grows _ _ _)
    | split
    | extract_lets
    | fail_if_no_progress (dsimp (zetaDelta := true) only)
    | fail_if_no_progress (with_reducible refine Grows.update rfl rfl rfl rfl ?_)

theorem storeFeedPedigree_grows (k : Nat) (s : State) : Grows κ s (storeFeedPedigree k s) := by
  unfold storeFeedPedigree
  all_goals repeat' first
    | with_reducible exact Grows.refl _
    | with_reducible refine Grows.trans ?_ (modFeed_grows _ _ _)
    | with_reducible refine Grows.trans ?_ (enqueueFrame_grows _ _ (by simp [Payload.key, Keep.has]) _)
    | split
    | extract_lets
    | fail_if_no_progress (dsimp (zetaDelta := true) only)
    | fail_if_no_progress (with_reducible refine Grows.update rfl rfl rfl rfl ?_)

theorem recheckBooth_grows (src : Selection) (b : Nat) (s : State) : Grows κ s (recheckBooth src b s) := by
  unfold recheckBooth
  all_goals repeat' first
    | with_reducible exact Grows.refl _
    | with_reducible refine Grows.trans ?_ (dropRelay_grows _ _ _)
    | split
    | extract_lets
    | fail_if_no_progress (dsimp (zetaDelta := true) only)
    | fail_if_no_progress (with_reducible refine Grows.update rfl rfl rfl rfl ?_)

theorem followChanges_grows (hn : κ.notices = false) (n : Nat) (l : List Selection) (s : State) :
    Grows κ s (followChanges n l s) := by
  induction n generalizing l s with
  | zero => exact Grows.refl _
  | succ n ih =>
    cases l with
    | nil => exact Grows.refl _
    | cons src rest =>
      unfold followChanges
      exact (((forEach_grows _ (fun _ _ => recheckBooth_grows _ _ _) _).trans
        (forEach_grows _ (fun _ _ => storePedigree_grows hn _ _) _)).trans
        (forEach_grows _ (fun _ _ => storeFeedPedigree_grows _ _) _)).trans (ih _ _)

theorem recompute_grows (hn : κ.notices = false) (which : Nat → Channel → Bool) (booths : List Nat) (s : State) : Grows κ s (recompute which booths s) := by
  unfold recompute
  all_goals repeat' first
    | with_reducible exact Grows.refl _
    | with_reducible refine Grows.trans ?_ (storeFeedPedigree_grows _ _)
    | with_reducible refine Grows.trans ?_ (storePedigree_grows hn _ _)
    | with_reducible refine Grows.trans ?_ (followChanges_grows hn _ _ _)
    | with_reducible refine Grows.trans ?_ (forEach_grows _ (fun _ _ => ?_) _)
    | split
    | extract_lets
    | fail_if_no_progress (dsimp (zetaDelta := true) only)
    | fail_if_no_progress (with_reducible refine Grows.update rfl rfl rfl rfl ?_)

theorem recomputeBooths_grows (hn : κ.notices = false) (booths : List Nat) (s : State) : Grows κ s (recomputeBooths booths s) := by
  unfold recomputeBooths
  all_goals repeat' first
    | with_reducible exact Grows.refl _
    | with_reducible refine Grows.trans ?_ (recompute_grows hn _ _ _)
    | split
    | extract_lets
    | fail_if_no_progress (dsimp (zetaDelta := true) only)
    | fail_if_no_progress (with_reducible refine Grows.update rfl rfl rfl rfl ?_)

theorem recomputeChannel_grows (hn : κ.notices = false) (c : Nat) (s : State) : Grows κ s (recomputeChannel c s) := by
  unfold recomputeChannel
  all_goals repeat' first
    | with_reducible exact Grows.refl _
    | with_reducible refine Grows.trans ?_ (recompute_grows hn _ _ _)
    | split
    | extract_lets
    | fail_if_no_progress (dsimp (zetaDelta := true) only)
    | fail_if_no_progress (with_reducible refine Grows.update rfl rfl rfl rfl ?_)

theorem dropRelays_grows (hn : κ.notices = false) (cause : LostCause) (booths : List Nat) (s : State) : Grows κ s (dropRelays cause booths s) := by
  unfold dropRelays
  all_goals repeat' first
    | with_reducible exact Grows.refl _
    | with_reducible refine Grows.trans ?_ (recomputeBooths_grows hn _ _)
    | with_reducible refine Grows.trans ?_ (dropRelay_grows _ _ _)
    | with_reducible refine Grows.trans ?_ (forEach_grows _ (fun _ _ => ?_) _)
    | split
    | extract_lets
    | fail_if_no_progress (dsimp (zetaDelta := true) only)
    | fail_if_no_progress (with_reducible refine Grows.update rfl rfl rfl rfl ?_)

theorem recheckOutputs_grows (hn : κ.notices = false) (b : Nat) (s : State) : Grows κ s (recheckOutputs b s) := by
  unfold recheckOutputs
  all_goals repeat' first
    | with_reducible exact Grows.refl _
    | with_reducible refine Grows.trans ?_ (dropRelays_grows hn _ _ _)
    | split
    | extract_lets
    | fail_if_no_progress (dsimp (zetaDelta := true) only)
    | fail_if_no_progress (with_reducible refine Grows.update rfl rfl rfl rfl ?_)

theorem applySelection_grows (hn : κ.notices = false) (b : Nat) (src : Selection) (s : State) : Grows κ s (applySelection b src s) := by
  unfold applySelection
  all_goals repeat' first
    | with_reducible exact Grows.refl _
    | with_reducible refine Grows.trans ?_ (sendRelayRelease_grows _ _ _)
    | with_reducible refine Grows.trans ?_ (setRoute_grows _ _ _)
    | with_reducible refine Grows.trans ?_ (modBooth_grows _ _ _)
    | with_reducible refine Grows.trans ?_ (recomputeBooths_grows hn _ _)
    | with_reducible refine Grows.trans ?_ (enqueueFrame_grows _ _ (by simp [Payload.key, Keep.has, hn]) _)
    | split
    | extract_lets
    | fail_if_no_progress (dsimp (zetaDelta := true) only)
    | fail_if_no_progress (with_reducible refine Grows.update rfl rfl rfl rfl ?_)

theorem enterNotice_grows (hn : κ.notices = false) (q c : Nat) (l : Tag) (st : NoticeState) (t : Option Nat) (p : Pedigree) (s : State) : Grows κ s (enterNotice q c l st t p s) := by
  unfold enterNotice
  split
  · have h0 : ∀ (b : Prop) [Decidable b] (l : List Selection) (t : State), Grows κ s t →
        Grows κ s (if b then t else followChanges changeBound l t) := by
      intro b _ l t ht
      split
      · exact ht
      · exact ht.trans (followChanges_grows hn _ _ _)
    have h1 : ∀ (b : Prop) [Decidable b] (l : List Nat) (t : State), Grows κ s t →
        Grows κ s (if b then dropRelays .closed l t else t) := by
      intro b _ l t ht
      split
      · exact ht.trans (dropRelays_grows hn _ _ _)
      · exact ht
    refine h1 _ _ _ (h0 _ _ _ ?_)
    exact Grows.of_same rfl rfl rfl rfl
  · dsimp only
    split
    · exact Grows.refl _
    split
    · exact Grows.of_same rfl rfl rfl rfl
    · exact Grows.of_same rfl rfl rfl rfl

theorem expireEntry_grows (hn : κ.notices = false) (q c : Nat) (s : State) : Grows κ s (expireEntry q c s) := by
  unfold expireEntry
  all_goals repeat' first
    | with_reducible exact Grows.refl _
    | with_reducible refine Grows.trans ?_ (dropRelays_grows hn _ _ _)
    | split
    | extract_lets
    | fail_if_no_progress (dsimp (zetaDelta := true) only)
    | fail_if_no_progress (with_reducible refine Grows.update rfl rfl rfl rfl ?_)

theorem dropPeerEntries_grows (hn : κ.notices = false) (q : Nat) (s : State) : Grows κ s (dropPeerEntries q s) := by
  unfold dropPeerEntries
  all_goals repeat' first
    | with_reducible exact Grows.refl _
    | with_reducible refine Grows.trans ?_ (dropRelays_grows hn _ _ _)
    | split
    | extract_lets
    | fail_if_no_progress (dsimp (zetaDelta := true) only)
    | fail_if_no_progress (with_reducible refine Grows.update rfl rfl rfl rfl ?_)

theorem answerListeners_grows (c : Nat) (o : RelayOutcome) (ls : List Listener) (s : State) : Grows κ s (answerListeners c o ls s) := by
  unfold answerListeners
  all_goals repeat' first
    | with_reducible exact Grows.refl _
    | with_reducible refine Grows.trans ?_ (enqueueFrame_grows _ _ (by simp [Payload.key, Keep.has]) _)
    | with_reducible refine Grows.trans ?_ (forEach_grows _ (fun _ _ => ?_) _)
    | split
    | extract_lets
    | fail_if_no_progress (dsimp (zetaDelta := true) only)
    | fail_if_no_progress (with_reducible refine Grows.update rfl rfl rfl rfl ?_)

theorem dropExport_grows (hc : κ.claims = false) (c : Nat) (s : State) : Grows κ s (dropExport c s) := by
  unfold dropExport
  all_goals repeat' first
    | with_reducible exact Grows.refl _
    | with_reducible refine Grows.trans ?_ (releaseTrunk_grows hc _ _)
    | split
    | extract_lets
    | fail_if_no_progress (dsimp (zetaDelta := true) only)
    | fail_if_no_progress (with_reducible refine Grows.update rfl rfl rfl rfl ?_)

theorem endExport_grows (hc : κ.claims = false) (hn : κ.notices = false) (c : Nat) (s : State) : Grows κ s (endExport c s) := by
  unfold endExport
  all_goals repeat' first
    | with_reducible exact Grows.refl _
    | with_reducible refine Grows.trans ?_ (queueNotice_grows hn _ _)
    | with_reducible refine Grows.trans ?_ (dropExport_grows hc _ _)
    | split
    | extract_lets
    | fail_if_no_progress (dsimp (zetaDelta := true) only)
    | fail_if_no_progress (with_reducible refine Grows.update rfl rfl rfl rfl ?_)

theorem requestRelay_grows (hc : κ.claims = false) (q c b : Nat) (s : State) : Grows κ s (requestRelay q c b s) := by
  unfold requestRelay
  split
  · exact enqueueFrame_grows _ _ (by simp [Payload.key]) _
  split
  · dsimp only
    split
    · refine Grows.trans ?_ (enqueueFrame_grows _ _ (by simp [Payload.key]) _)
      exact Grows.after (setRoute_grows _ _ _) rfl rfl rfl rfl
    · exact Grows.of_same rfl rfl rfl rfl
  split
  · exact enqueueFrame_grows _ _ (by simp [Payload.key]) _
  · rename_i t _
    exact (takeTrunk_grows hc t (.exported c) s).trans (Grows.of_same rfl rfl rfl rfl)

theorem leaveExport_grows (hc : κ.claims = false) (hn : κ.notices = false) (q c b : Nat) (s : State) : Grows κ s (leaveExport q c b s) := by
  unfold leaveExport
  all_goals repeat' first
    | with_reducible exact Grows.refl _
    | with_reducible refine Grows.trans ?_ (endExport_grows hc hn _ _)
    | split
    | extract_lets
    | fail_if_no_progress (dsimp (zetaDelta := true) only)
    | fail_if_no_progress (with_reducible refine Grows.update rfl rfl rfl rfl ?_)

theorem exportWon_grows (hn : κ.notices = false) (c t : Nat) (s : State) : Grows κ s (exportWon c t s) := by
  unfold exportWon
  all_goals repeat' first
    | with_reducible exact Grows.refl _
    | with_reducible refine Grows.trans ?_ (queueNotice_grows hn _ _)
    | with_reducible refine Grows.trans ?_ (setRoute_grows _ _ _)
    | with_reducible refine Grows.trans ?_ (answerListeners_grows _ _ _ _)
    | split
    | extract_lets
    | fail_if_no_progress (dsimp (zetaDelta := true) only)
    | fail_if_no_progress (with_reducible refine Grows.update rfl rfl rfl rfl ?_)

theorem exportMoved_grows (c t : Nat) (s : State) : Grows κ s (exportMoved c t s) := by
  unfold exportMoved
  all_goals repeat' first
    | with_reducible exact Grows.refl _
    | split
    | extract_lets
    | fail_if_no_progress (dsimp (zetaDelta := true) only)
    | fail_if_no_progress (with_reducible refine Grows.update rfl rfl rfl rfl ?_)

theorem exportStranded_grows (hc : κ.claims = false) (hn : κ.notices = false) (c : Nat) (s : State) : Grows κ s (exportStranded c s) := by
  unfold exportStranded
  all_goals repeat' first
    | with_reducible exact Grows.refl _
    | with_reducible refine Grows.trans ?_ (endExport_grows hc hn _ _)
    | with_reducible refine Grows.trans ?_ (answerListeners_grows _ _ _ _)
    | split
    | extract_lets
    | fail_if_no_progress (dsimp (zetaDelta := true) only)
    | fail_if_no_progress (with_reducible refine Grows.update rfl rfl rfl rfl ?_)

theorem closeRelays_grows (hc : κ.claims = false) (hn : κ.notices = false) (c : Nat) (s : State) : Grows κ s (closeRelays c s) := by
  unfold closeRelays
  dsimp only
  all_goals repeat' first
    | with_reducible exact Grows.refl _
    | with_reducible refine Grows.trans ?_ (dropRelays_grows hn _ _ _)
    | with_reducible refine Grows.trans ?_ (dropExport_grows hc _ _)
    | with_reducible refine Grows.trans ?_ (enqueueFrame_grows _ _ (by simp [Payload.key, Keep.has, hc, hn]) _)
    | split
    | fail_if_no_progress (with_reducible refine Grows.update rfl rfl rfl rfl ?_)

theorem grantBooth_grows (t b : Nat) (s : State) : Grows κ s (grantBooth t b s) := by
  unfold grantBooth
  all_goals repeat' first
    | with_reducible exact Grows.refl _
    | with_reducible refine Grows.trans ?_ (setRoute_grows _ _ _)
    | with_reducible refine Grows.trans ?_ (modBooth_grows _ _ _)
    | split
    | extract_lets
    | fail_if_no_progress (dsimp (zetaDelta := true) only)
    | fail_if_no_progress (with_reducible refine Grows.update rfl rfl rfl rfl ?_)

theorem takeGrant_grows (q c t : Nat) (s : State) : Grows κ s (takeGrant q c t s) := by
  unfold takeGrant
  all_goals repeat' first
    | with_reducible exact Grows.refl _
    | with_reducible refine Grows.trans ?_ (adoptTrunk_grows _ _ _)
    | with_reducible refine Grows.trans ?_ (enqueueFrame_grows _ _ (by simp [Payload.key, Keep.has]) _)
    | with_reducible refine Grows.trans ?_ (grantBooth_grows _ _ _)
    | with_reducible refine Grows.trans ?_ (forEach_grows _ (fun _ _ => ?_) _)
    | split
    | extract_lets
    | fail_if_no_progress (dsimp (zetaDelta := true) only)
    | fail_if_no_progress (with_reducible refine Grows.update rfl rfl rfl rfl ?_)

theorem followTrunkBooths_grows (hn : κ.notices = false) (t : Nat) (s : State) : Grows κ s (followTrunkBooths t s) := by
  unfold followTrunkBooths
  all_goals repeat' first
    | with_reducible exact Grows.refl _
    | with_reducible refine Grows.trans ?_ (dropRelays_grows hn _ _ _)
    | with_reducible refine Grows.trans ?_ (setRoute_grows _ _ _)
    | with_reducible refine Grows.trans ?_ (modBooth_grows _ _ _)
    | with_reducible refine Grows.trans ?_ (forEach_grows _ (fun _ _ => ?_) _)
    | split
    | extract_lets
    | fail_if_no_progress (dsimp (zetaDelta := true) only)
    | fail_if_no_progress (with_reducible refine Grows.update rfl rfl rfl rfl ?_)

theorem setHolder_grows (hn : κ.notices = false) (c : Nat) (h : Holder) (s : State) : Grows κ s (setHolder c h s) := by
  unfold setHolder
  all_goals repeat' first
    | with_reducible exact Grows.refl _
    | with_reducible refine Grows.trans ?_ (modChannel_grows _ _ _)
    | with_reducible refine Grows.trans ?_ (recomputeChannel_grows hn _ _)
    | with_reducible refine Grows.trans ?_ (setRoute_grows _ _ _)
    | split
    | extract_lets
    | fail_if_no_progress (dsimp (zetaDelta := true) only)
    | fail_if_no_progress (with_reducible refine Grows.update rfl rfl rfl rfl ?_)

theorem feedTakes_grows (hn : κ.notices = false) (k c : Nat) (s : State) : Grows κ s (feedTakes k c s) := by
  unfold feedTakes
  all_goals repeat' first
    | with_reducible exact Grows.refl _
    | with_reducible refine Grows.trans ?_ (setHolder_grows hn _ _ _)
    | with_reducible refine Grows.trans ?_ (modFeed_grows _ _ _)
    | split
    | extract_lets
    | fail_if_no_progress (dsimp (zetaDelta := true) only)
    | fail_if_no_progress (with_reducible refine Grows.update rfl rfl rfl rfl ?_)

theorem vacate_grows (hn : κ.notices = false) (c : Nat) (s : State) : Grows κ s (vacate c s) := by
  unfold vacate
  all_goals repeat' first
    | with_reducible exact Grows.refl _
    | with_reducible refine Grows.trans ?_ (feedTakes_grows hn _ _ _)
    | with_reducible refine Grows.trans ?_ (setHolder_grows hn _ _ _)
    | split
    | extract_lets
    | fail_if_no_progress (dsimp (zetaDelta := true) only)
    | fail_if_no_progress (with_reducible refine Grows.update rfl rfl rfl rfl ?_)

theorem sendFeedState_grows (f : Feed) (x : FeedSignal) (s : State) : Grows κ s (sendFeedState f x s) := by
  unfold sendFeedState
  all_goals repeat' first
    | with_reducible exact Grows.refl _
    | with_reducible refine Grows.trans ?_ (enqueueFrame_grows _ _ (by simp [Payload.key, Keep.has]) _)
    | split
    | extract_lets
    | fail_if_no_progress (dsimp (zetaDelta := true) only)
    | fail_if_no_progress (with_reducible refine Grows.update rfl rfl rfl rfl ?_)

theorem reportHeld_grows (k : Nat) (s : State) : Grows κ s (reportHeld k s) := by
  unfold reportHeld
  all_goals repeat' first
    | with_reducible exact Grows.refl _
    | with_reducible refine Grows.trans ?_ (modFeed_grows _ _ _)
    | with_reducible refine Grows.trans ?_ (sendFeedState_grows _ _ _)
    | split
    | extract_lets
    | fail_if_no_progress (dsimp (zetaDelta := true) only)
    | fail_if_no_progress (with_reducible refine Grows.update rfl rfl rfl rfl ?_)

theorem reportUnheld_grows (k : Nat) (s : State) : Grows κ s (reportUnheld k s) := by
  unfold reportUnheld
  all_goals repeat' first
    | with_reducible exact Grows.refl _
    | with_reducible refine Grows.trans ?_ (modFeed_grows _ _ _)
    | with_reducible refine Grows.trans ?_ (sendFeedState_grows _ _ _)
    | split
    | extract_lets
    | fail_if_no_progress (dsimp (zetaDelta := true) only)
    | fail_if_no_progress (with_reducible refine Grows.update rfl rfl rfl rfl ?_)

theorem gain_grows (hn : κ.notices = false) (b d : Nat) (h : Option Held) (s : State) : Grows κ s (gain b d h s) := by
  unfold gain
  all_goals repeat' first
    | with_reducible exact Grows.refl _
    | with_reducible refine Grows.trans ?_ (setHolder_grows hn _ _ _)
    | with_reducible refine Grows.trans ?_ (reportHeld_grows _ _)
    | split
    | extract_lets
    | fail_if_no_progress (dsimp (zetaDelta := true) only)
    | fail_if_no_progress (with_reducible refine Grows.update rfl rfl rfl rfl ?_)

theorem leave_grows (hn : κ.notices = false) (h : Option Held) (s : State) : Grows κ s (leave h s) := by
  unfold leave
  all_goals repeat' first
    | with_reducible exact Grows.refl _
    | with_reducible refine Grows.trans ?_ (vacate_grows hn _ _)
    | with_reducible refine Grows.trans ?_ (reportUnheld_grows _ _)
    | split
    | extract_lets
    | fail_if_no_progress (dsimp (zetaDelta := true) only)
    | fail_if_no_progress (with_reducible refine Grows.update rfl rfl rfl rfl ?_)

theorem deskOff_grows (d : Nat) (s : State) : Grows κ s (deskOff d s) := by
  unfold deskOff
  all_goals repeat' first
    | with_reducible exact Grows.refl _
    | with_reducible refine Grows.trans ?_ (modDesk_grows _ _ _)
    | split
    | extract_lets
    | fail_if_no_progress (dsimp (zetaDelta := true) only)
    | fail_if_no_progress (with_reducible refine Grows.update rfl rfl rfl rfl ?_)

theorem desksOff_grows (b : Nat) (s : State) : Grows κ s (desksOff b s) := by
  unfold desksOff
  all_goals repeat' first
    | with_reducible exact Grows.refl _
    | with_reducible refine Grows.trans ?_ (modBooth_grows _ _ _)
    | with_reducible refine Grows.trans ?_ (deskOff_grows _ _)
    | with_reducible refine Grows.trans ?_ (forEach_grows _ (fun _ _ => ?_) _)
    | split
    | extract_lets
    | fail_if_no_progress (dsimp (zetaDelta := true) only)
    | fail_if_no_progress (with_reducible refine Grows.update rfl rfl rfl rfl ?_)

theorem forceOff_grows (b : Nat) (cause : HoldCause) (s : State) : Grows κ s (forceOff b cause s) := by
  unfold forceOff
  all_goals repeat' first
    | with_reducible exact Grows.refl _
    | with_reducible refine Grows.trans ?_ (queueEvent_grows _ _ _)
    | with_reducible refine Grows.trans ?_ (desksOff_grows _ _)
    | split
    | extract_lets
    | fail_if_no_progress (dsimp (zetaDelta := true) only)
    | fail_if_no_progress (with_reducible refine Grows.update rfl rfl rfl rfl ?_)

theorem releaseHall_grows (hn : κ.notices = false) (s : State) : Grows κ s (releaseHall s) := by
  unfold releaseHall
  all_goals repeat' first
    | with_reducible exact Grows.refl _
    | with_reducible refine Grows.trans ?_ (leave_grows hn _ _)
    | with_reducible refine Grows.trans ?_ (desksOff_grows _ _)
    | with_reducible refine Grows.trans ?_ (forEach_grows _ (fun _ _ => ?_) _)
    | split
    | extract_lets
    | fail_if_no_progress (dsimp (zetaDelta := true) only)
    | fail_if_no_progress (with_reducible refine Grows.update rfl rfl rfl rfl ?_)

theorem refreshDesk_grows (d : Nat) (s : State) : Grows κ s (refreshDesk d s) := by
  unfold refreshDesk
  dsimp only
  all_goals repeat' first
    | with_reducible exact Grows.refl _
    | with_reducible refine Grows.trans ?_ (queueMessage_grows _ _ _)
    | with_reducible refine Grows.trans ?_ (modDesk_grows _ _ _)
    | split
    | fail_if_no_progress (with_reducible refine Grows.update rfl rfl rfl rfl ?_)

theorem refreshDesks_grows (s : State) : Grows κ s (refreshDesks s) := by
  unfold refreshDesks
  all_goals repeat' first
    | with_reducible exact Grows.refl _
    | with_reducible refine Grows.trans ?_ (refreshDesk_grows _ _)
    | with_reducible refine Grows.trans ?_ (forEach_grows _ (fun _ _ => ?_) _)
    | split
    | extract_lets
    | fail_if_no_progress (dsimp (zetaDelta := true) only)
    | fail_if_no_progress (with_reducible refine Grows.update rfl rfl rfl rfl ?_)

theorem freeContext_grows (k : Nat) (s : State) : Grows κ s (freeContext k s) := by
  unfold freeContext
  all_goals repeat' first
    | with_reducible exact Grows.refl _
    | split
    | extract_lets
    | fail_if_no_progress (dsimp (zetaDelta := true) only)
    | fail_if_no_progress (with_reducible refine Grows.update rfl rfl rfl rfl ?_)

theorem endReplacement_grows (k b : Nat) (s : State) : Grows κ s (endReplacement k b s) := by
  unfold endReplacement
  all_goals repeat' first
    | with_reducible exact Grows.refl _
    | with_reducible refine Grows.trans ?_ (forceOff_grows _ _ _)
    | with_reducible refine Grows.trans ?_ (modBooth_grows _ _ _)
    | split
    | extract_lets
    | fail_if_no_progress (dsimp (zetaDelta := true) only)
    | fail_if_no_progress (with_reducible refine Grows.update rfl rfl rfl rfl ?_)

theorem endFeedContext_grows (hc : κ.claims = false) (hn : κ.notices = false) (k : Nat) (cause : FeedCause) (partner : Bool) (s : State) : Grows κ s (endFeedContext k cause partner s) := by
  unfold endFeedContext
  all_goals repeat' first
    | with_reducible exact Grows.refl _
    | with_reducible refine Grows.trans ?_ (recheckOutputs_grows hn _ _)
    | with_reducible refine Grows.trans ?_ (freeContext_grows _ _)
    | with_reducible refine Grows.trans ?_ (endReplacement_grows _ _ _)
    | with_reducible refine Grows.trans ?_ (releaseTrunk_grows hc _ _)
    | with_reducible refine Grows.trans ?_ (setHolder_grows hn _ _ _)
    | with_reducible refine Grows.trans ?_ (queueEvent_grows _ _ _)
    | split
    | extract_lets
    | fail_if_no_progress (dsimp (zetaDelta := true) only)
    | fail_if_no_progress (with_reducible refine Grows.update rfl rfl rfl rfl ?_)

theorem endWith_grows (hc : κ.claims = false) (hn : κ.notices = false) (k : Nat) (reason : EndReason) (s : State) : Grows κ s (endWith k reason s) := by
  unfold endWith
  all_goals repeat' first
    | with_reducible exact Grows.refl _
    | with_reducible refine Grows.trans ?_ (endFeedContext_grows hc hn _ _ _ _)
    | with_reducible refine Grows.trans ?_ (sendFeedState_grows _ _ _)
    | split
    | extract_lets
    | fail_if_no_progress (dsimp (zetaDelta := true) only)
    | fail_if_no_progress (with_reducible refine Grows.update rfl rfl rfl rfl ?_)

theorem beginReplacement_grows (hn : κ.notices = false) (k b : Nat) (s : State) : Grows κ s (beginReplacement k b s) := by
  unfold beginReplacement
  all_goals repeat' first
    | with_reducible exact Grows.refl _
    | with_reducible refine Grows.trans ?_ (leave_grows hn _ _)
    | with_reducible refine Grows.trans ?_ (forceOff_grows _ _ _)
    | with_reducible refine Grows.trans ?_ (recheckOutputs_grows hn _ _)
    | with_reducible refine Grows.trans ?_ (recomputeBooths_grows hn _ _)
    | with_reducible refine Grows.trans ?_ (modBooth_grows _ _ _)
    | split
    | extract_lets
    | fail_if_no_progress (dsimp (zetaDelta := true) only)
    | fail_if_no_progress (with_reducible refine Grows.update rfl rfl rfl rfl ?_)

theorem acceptOffer_grows (hc : κ.claims = false) (hn : κ.notices = false) (k : Nat) (s : State) : Grows κ s (acceptOffer k s) := by
  unfold acceptOffer
  all_goals repeat' first
    | with_reducible exact Grows.refl _
    | with_reducible refine Grows.trans ?_ (modFeed_grows _ _ _)
    | with_reducible refine Grows.trans ?_ (endWith_grows hc hn _ _ _)
    | with_reducible refine Grows.trans ?_ (beginReplacement_grows hn _ _ _)
    | with_reducible refine Grows.trans ?_ (takeTrunk_grows hc _ _ _)
    | split
    | extract_lets
    | fail_if_no_progress (dsimp (zetaDelta := true) only)
    | fail_if_no_progress (with_reducible refine Grows.update rfl rfl rfl rfl ?_)

theorem feedWon_grows (k t : Nat) (s : State) : Grows κ s (feedWon k t s) := by
  unfold feedWon
  all_goals repeat' first
    | with_reducible exact Grows.refl _
    | with_reducible refine Grows.trans ?_ (modFeed_grows _ _ _)
    | with_reducible refine Grows.trans ?_ (setRoute_grows _ _ _)
    | with_reducible refine Grows.trans ?_ (sendFeedState_grows _ _ _)
    | with_reducible refine Grows.trans ?_ (reportHeld_grows _ _)
    | split
    | extract_lets
    | fail_if_no_progress (dsimp (zetaDelta := true) only)
    | fail_if_no_progress (with_reducible refine Grows.update rfl rfl rfl rfl ?_)

theorem feedMoved_grows (k t : Nat) (s : State) : Grows κ s (feedMoved k t s) := by
  unfold feedMoved
  all_goals repeat' first
    | with_reducible exact Grows.refl _
    | with_reducible refine Grows.trans ?_ (modFeed_grows _ _ _)
    | split
    | extract_lets
    | fail_if_no_progress (dsimp (zetaDelta := true) only)
    | fail_if_no_progress (with_reducible refine Grows.update rfl rfl rfl rfl ?_)

theorem tellWon_grows (hn : κ.notices = false) (u : TrunkUser) (t : Nat) (s : State) : Grows κ s (tellWon u t s) := by
  unfold tellWon
  all_goals repeat' first
    | with_reducible exact Grows.refl _
    | with_reducible refine Grows.trans ?_ (exportWon_grows hn _ _ _)
    | with_reducible refine Grows.trans ?_ (feedWon_grows _ _ _)
    | split
    | extract_lets
    | fail_if_no_progress (dsimp (zetaDelta := true) only)
    | fail_if_no_progress (with_reducible refine Grows.update rfl rfl rfl rfl ?_)

theorem searchTrunk_grows (hc : κ.claims = false) (hn : κ.notices = false) (u : TrunkUser) (s : State) : Grows κ s (searchTrunk u s) := by
  unfold searchTrunk
  all_goals repeat' first
    | with_reducible exact Grows.refl _
    | with_reducible refine Grows.trans ?_ (exportMoved_grows _ _ _)
    | with_reducible refine Grows.trans ?_ (takeTrunk_grows hc _ _ _)
    | with_reducible refine Grows.trans ?_ (feedMoved_grows _ _ _)
    | with_reducible refine Grows.trans ?_ (exportStranded_grows hc hn _ _)
    | with_reducible refine Grows.trans ?_ (endWith_grows hc hn _ _ _)
    | split
    | extract_lets
    | fail_if_no_progress (dsimp (zetaDelta := true) only)
    | fail_if_no_progress (with_reducible refine Grows.update rfl rfl rfl rfl ?_)

theorem yieldTrunk_grows (hc : κ.claims = false) (hn : κ.notices = false) (q t : Nat) (u : TrunkUser) (s : State) : Grows κ s (yieldTrunk q t u s) := by
  unfold yieldTrunk
  all_goals repeat' first
    | with_reducible exact Grows.refl _
    | with_reducible refine Grows.trans ?_ (sendTrunkClaim_grows hc _ _ _ _)
    | with_reducible refine Grows.trans ?_ (setTrunk_grows _ _ _)
    | with_reducible refine Grows.trans ?_ (searchTrunk_grows hc hn _ _)
    | with_reducible refine Grows.trans ?_ (setRoute_grows _ _ _)
    | split
    | extract_lets
    | fail_if_no_progress (dsimp (zetaDelta := true) only)
    | fail_if_no_progress (with_reducible refine Grows.update rfl rfl rfl rfl ?_)

theorem followTrunkFeeds_grows (t : Nat) (s : State) : Grows κ s (followTrunkFeeds t s) := by
  unfold followTrunkFeeds
  all_goals repeat' first
    | with_reducible exact Grows.refl _
    | with_reducible refine Grows.trans ?_ (modFeed_grows _ _ _)
    | with_reducible refine Grows.trans ?_ (setRoute_grows _ _ _)
    | with_reducible refine Grows.trans ?_ (forEach_grows _ (fun _ _ => ?_) _)
    | split
    | extract_lets
    | fail_if_no_progress (dsimp (zetaDelta := true) only)
    | fail_if_no_progress (with_reducible refine Grows.update rfl rfl rfl rfl ?_)

theorem followTrunk_grows (hn : κ.notices = false) (t : Nat) (s : State) : Grows κ s (followTrunk t s) := by
  unfold followTrunk
  all_goals repeat' first
    | with_reducible exact Grows.refl _
    | with_reducible refine Grows.trans ?_ (followTrunkFeeds_grows _ _)
    | with_reducible refine Grows.trans ?_ (followTrunkBooths_grows hn _ _)
    | split
    | extract_lets
    | fail_if_no_progress (dsimp (zetaDelta := true) only)
    | fail_if_no_progress (with_reducible refine Grows.update rfl rfl rfl rfl ?_)

theorem freePeerTrunk_grows (hn : κ.notices = false) (t : Nat) (s : State) : Grows κ s (freePeerTrunk t s) := by
  unfold freePeerTrunk
  all_goals repeat' first
    | with_reducible exact Grows.refl _
    | with_reducible refine Grows.trans ?_ (followTrunk_grows hn _ _)
    | split
    | extract_lets
    | fail_if_no_progress (dsimp (zetaDelta := true) only)
    | fail_if_no_progress (with_reducible refine Grows.update rfl rfl rfl rfl ?_)

theorem refreshTrunk_grows (hc : κ.claims = false) (t : Nat) (s : State) : Grows κ s (refreshTrunk t s) := by
  unfold refreshTrunk
  all_goals repeat' first
    | with_reducible exact Grows.refl _
    | with_reducible refine Grows.trans ?_ (sendTrunkClaim_grows hc _ _ _ _)
    | with_reducible refine Grows.trans ?_ (setTrunk_grows _ _ _)
    | split
    | extract_lets
    | fail_if_no_progress (dsimp (zetaDelta := true) only)
    | fail_if_no_progress (with_reducible refine Grows.update rfl rfl rfl rfl ?_)

theorem hearTrunkClaim_grows (hc : κ.claims = false) (hn : κ.notices = false) (q t : Nat) (s : State) : Grows κ s (hearTrunkClaim q t s) := by
  unfold hearTrunkClaim
  all_goals repeat' first
    | with_reducible exact Grows.refl _
    | with_reducible refine Grows.trans ?_ (setTrunk_grows _ _ _)
    | with_reducible refine Grows.trans ?_ (followTrunk_grows hn _ _)
    | with_reducible refine Grows.trans ?_ (yieldTrunk_grows hc hn _ _ _ _)
    | with_reducible refine Grows.trans ?_ (refreshTrunk_grows hc _ _)
    | split
    | extract_lets
    | fail_if_no_progress (dsimp (zetaDelta := true) only)
    | fail_if_no_progress (with_reducible refine Grows.update rfl rfl rfl rfl ?_)

theorem winTrunk_grows (hn : κ.notices = false) (t : Nat) (s : State) : Grows κ s (winTrunk t s) := by
  unfold winTrunk
  all_goals repeat' first
    | with_reducible exact Grows.refl _
    | with_reducible refine Grows.trans ?_ (setTrunk_grows _ _ _)
    | with_reducible refine Grows.trans ?_ (tellWon_grows hn _ _ _)
    | split
    | extract_lets
    | fail_if_no_progress (dsimp (zetaDelta := true) only)
    | fail_if_no_progress (with_reducible refine Grows.update rfl rfl rfl rfl ?_)

theorem hearOffer_grows (hc : κ.claims = false) (hn : κ.notices = false) (q b : Nat) (l : Tag) (c : Nat) (p : Pedigree) (s : State) : Grows κ s (hearOffer q b l c p s) := by
  unfold hearOffer
  all_goals repeat' first
    | with_reducible exact Grows.refl _
    | with_reducible refine Grows.trans ?_ (endFeedContext_grows hc hn _ _ _ _)
    | with_reducible refine Grows.trans ?_ (queueEvent_grows _ _ _)
    | with_reducible refine Grows.trans ?_ (enqueueFrame_grows _ _ (by simp [Payload.key, Keep.has, hc, hn]) _)
    | split
    | extract_lets
    | fail_if_no_progress (dsimp (zetaDelta := true) only)
    | fail_if_no_progress (with_reducible refine Grows.update rfl rfl rfl rfl ?_)

theorem enterLive_grows (hn : κ.notices = false) (k : Nat) (s : State) : Grows κ s (enterLive k s) := by
  unfold enterLive
  all_goals repeat' first
    | with_reducible exact Grows.refl _
    | with_reducible refine Grows.trans ?_ (queueEvent_grows _ _ _)
    | with_reducible refine Grows.trans ?_ (modFeed_grows _ _ _)
    | with_reducible refine Grows.trans ?_ (feedTakes_grows hn _ _ _)
    | split
    | extract_lets
    | fail_if_no_progress (dsimp (zetaDelta := true) only)
    | fail_if_no_progress (with_reducible refine Grows.update rfl rfl rfl rfl ?_)

theorem takeLive_grows (hn : κ.notices = false) (k : Nat) (p : Pedigree) (s : State) : Grows κ s (takeLive k p s) := by
  unfold takeLive
  all_goals repeat' first
    | with_reducible exact Grows.refl _
    | with_reducible refine Grows.trans ?_ (modFeed_grows _ _ _)
    | with_reducible refine Grows.trans ?_ (enterLive_grows hn _ _)
    | with_reducible refine Grows.trans ?_ (recomputeChannel_grows hn _ _)
    | split
    | extract_lets
    | fail_if_no_progress (dsimp (zetaDelta := true) only)
    | fail_if_no_progress (with_reducible refine Grows.update rfl rfl rfl rfl ?_)

theorem takeSilent_grows (hn : κ.notices = false) (k : Nat) (s : State) : Grows κ s (takeSilent k s) := by
  unfold takeSilent
  all_goals repeat' first
    | with_reducible exact Grows.refl _
    | with_reducible refine Grows.trans ?_ (modFeed_grows _ _ _)
    | with_reducible refine Grows.trans ?_ (setHolder_grows hn _ _ _)
    | split
    | extract_lets
    | fail_if_no_progress (dsimp (zetaDelta := true) only)
    | fail_if_no_progress (with_reducible refine Grows.update rfl rfl rfl rfl ?_)

theorem takeReady_grows (hn : κ.notices = false) (k t : Nat) (s : State) : Grows κ s (takeReady k t s) := by
  unfold takeReady
  all_goals repeat' first
    | with_reducible exact Grows.refl _
    | with_reducible refine Grows.trans ?_ (adoptTrunk_grows _ _ _)
    | with_reducible refine Grows.trans ?_ (modFeed_grows _ _ _)
    | with_reducible refine Grows.trans ?_ (enterLive_grows hn _ _)
    | with_reducible refine Grows.trans ?_ (setRoute_grows _ _ _)
    | split
    | extract_lets
    | fail_if_no_progress (dsimp (zetaDelta := true) only)
    | fail_if_no_progress (with_reducible refine Grows.update rfl rfl rfl rfl ?_)

theorem endBlocked_grows (hn : κ.notices = false) (k : Nat) (s : State) : Grows κ s (endBlocked k s) := by
  unfold endBlocked
  all_goals repeat' first
    | with_reducible exact Grows.refl _
    | with_reducible refine Grows.trans ?_ (forceOff_grows _ _ _)
    | with_reducible refine Grows.trans ?_ (feedTakes_grows hn _ _ _)
    | split
    | extract_lets
    | fail_if_no_progress (dsimp (zetaDelta := true) only)
    | fail_if_no_progress (with_reducible refine Grows.update rfl rfl rfl rfl ?_)

theorem restFeeds_grows (hn : κ.notices = false) (s : State) : Grows κ s (restFeeds s) := by
  unfold restFeeds
  all_goals repeat' first
    | with_reducible exact Grows.refl _
    | with_reducible refine Grows.trans ?_ (modFeed_grows _ _ _)
    | with_reducible refine Grows.trans ?_ (setHolder_grows hn _ _ _)
    | with_reducible refine Grows.trans ?_ (forEach_grows _ (fun _ _ => ?_) _)
    | split
    | extract_lets
    | fail_if_no_progress (dsimp (zetaDelta := true) only)
    | fail_if_no_progress (with_reducible refine Grows.update rfl rfl rfl rfl ?_)

theorem wakeFeeds_grows (hn : κ.notices = false) (s : State) : Grows κ s (wakeFeeds s) := by
  unfold wakeFeeds
  all_goals repeat' first
    | with_reducible exact Grows.refl _
    | with_reducible refine Grows.trans ?_ (feedTakes_grows hn _ _ _)
    | with_reducible refine Grows.trans ?_ (forEach_grows _ (fun _ _ => ?_) _)
    | split
    | extract_lets
    | fail_if_no_progress (dsimp (zetaDelta := true) only)
    | fail_if_no_progress (with_reducible refine Grows.update rfl rfl rfl rfl ?_)

theorem endFeeds_grows (hc : κ.claims = false) (hn : κ.notices = false) (p : Feed → Bool) (cause : FeedCause) (s : State) : Grows κ s (endFeeds p cause s) := by
  unfold endFeeds
  all_goals repeat' first
    | with_reducible exact Grows.refl _
    | with_reducible refine Grows.trans ?_ (endFeedContext_grows hc hn _ _ _ _)
    | with_reducible refine Grows.trans ?_ (forEach_grows _ (fun _ _ => ?_) _)
    | split
    | extract_lets
    | fail_if_no_progress (dsimp (zetaDelta := true) only)
    | fail_if_no_progress (with_reducible refine Grows.update rfl rfl rfl rfl ?_)

theorem flash_grows (d : Nat) (l : Lamp) (s : State) : Grows κ s (flash d l s) := by
  unfold flash
  all_goals repeat' first
    | with_reducible exact Grows.refl _
    | with_reducible refine Grows.trans ?_ (queueMessage_grows _ _ _)
    | split
    | extract_lets
    | fail_if_no_progress (dsimp (zetaDelta := true) only)
    | fail_if_no_progress (with_reducible refine Grows.update rfl rfl rfl rfl ?_)

theorem settleDesk_grows (d : Nat) (s : State) : Grows κ s (settleDesk d s) := by
  unfold settleDesk
  all_goals repeat' first
    | with_reducible exact Grows.refl _
    | with_reducible refine Grows.trans ?_ (modDesk_grows _ _ _)
    | split
    | extract_lets
    | fail_if_no_progress (dsimp (zetaDelta := true) only)
    | fail_if_no_progress (with_reducible refine Grows.update rfl rfl rfl rfl ?_)

theorem nameHolder_grows (hn : κ.notices = false) (b d : Nat) (s : State) : Grows κ s (nameHolder b d s) := by
  unfold nameHolder
  all_goals repeat' first
    | with_reducible exact Grows.refl _
    | with_reducible refine Grows.trans ?_ (modBooth_grows _ _ _)
    | with_reducible refine Grows.trans ?_ (setHolder_grows hn _ _ _)
    | split
    | extract_lets
    | fail_if_no_progress (dsimp (zetaDelta := true) only)
    | fail_if_no_progress (with_reducible refine Grows.update rfl rfl rfl rfl ?_)

theorem stopOverlap_grows (b : Nat) (s : State) : Grows κ s (stopOverlap b s) := by
  unfold stopOverlap
  all_goals repeat' first
    | with_reducible exact Grows.refl _
    | with_reducible refine Grows.trans ?_ (modBooth_grows _ _ _)
    | split
    | extract_lets
    | fail_if_no_progress (dsimp (zetaDelta := true) only)
    | fail_if_no_progress (with_reducible refine Grows.update rfl rfl rfl rfl ?_)

theorem endOverlap_grows (hn : κ.notices = false) (b : Nat) (s : State) : Grows κ s (endOverlap b s) := by
  unfold endOverlap
  all_goals repeat' first
    | with_reducible exact Grows.refl _
    | with_reducible refine Grows.trans ?_ (nameHolder_grows hn _ _ _)
    | with_reducible refine Grows.trans ?_ (settleDesk_grows _ _)
    | with_reducible refine Grows.trans ?_ (deskOff_grows _ _)
    | with_reducible refine Grows.trans ?_ (stopOverlap_grows _ _)
    | split
    | extract_lets
    | fail_if_no_progress (dsimp (zetaDelta := true) only)
    | fail_if_no_progress (with_reducible refine Grows.update rfl rfl rfl rfl ?_)

theorem cancelOverlap_grows (b : Nat) (s : State) : Grows κ s (cancelOverlap b s) := by
  unfold cancelOverlap
  all_goals repeat' first
    | with_reducible exact Grows.refl _
    | with_reducible refine Grows.trans ?_ (settleDesk_grows _ _)
    | with_reducible refine Grows.trans ?_ (deskOff_grows _ _)
    | with_reducible refine Grows.trans ?_ (stopOverlap_grows _ _)
    | split
    | extract_lets
    | fail_if_no_progress (dsimp (zetaDelta := true) only)
    | fail_if_no_progress (with_reducible refine Grows.update rfl rfl rfl rfl ?_)

theorem endHold_grows (hn : κ.notices = false) (b d : Nat) (s : State) : Grows κ s (endHold b d s) := by
  unfold endHold
  all_goals repeat' first
    | with_reducible exact Grows.refl _
    | with_reducible refine Grows.trans ?_ (leave_grows hn _ _)
    | with_reducible refine Grows.trans ?_ (deskOff_grows _ _)
    | with_reducible refine Grows.trans ?_ (modBooth_grows _ _ _)
    | split
    | extract_lets
    | fail_if_no_progress (dsimp (zetaDelta := true) only)
    | fail_if_no_progress (with_reducible refine Grows.update rfl rfl rfl rfl ?_)

theorem oust_grows (c b : Nat) (s : State) : Grows κ s (oust c b s) := by
  unfold oust
  all_goals repeat' first
    | with_reducible exact Grows.refl _
    | with_reducible refine Grows.trans ?_ (forceOff_grows _ _ _)
    | with_reducible refine Grows.trans ?_ (queueEvent_grows _ _ _)
    | with_reducible refine Grows.trans ?_ (modFeed_grows _ _ _)
    | split
    | extract_lets
    | fail_if_no_progress (dsimp (zetaDelta := true) only)
    | fail_if_no_progress (with_reducible refine Grows.update rfl rfl rfl rfl ?_)

theorem makeWay_grows (b : Nat) (a : Access) (s : State) : Grows κ s (makeWay b a s) := by
  unfold makeWay
  all_goals repeat' first
    | with_reducible exact Grows.refl _
    | with_reducible refine Grows.trans ?_ (oust_grows _ _ _)
    | split
    | extract_lets
    | fail_if_no_progress (dsimp (zetaDelta := true) only)
    | fail_if_no_progress (with_reducible refine Grows.update rfl rfl rfl rfl ?_)

theorem handOver_grows (hn : κ.notices = false) (b d : Nat) (bo : Booth) (s : State) : Grows κ s (handOver b d bo s) := by
  unfold handOver
  all_goals repeat' first
    | with_reducible exact Grows.refl _
    | with_reducible refine Grows.trans ?_ (gain_grows hn _ _ _ _)
    | with_reducible refine Grows.trans ?_ (modDesk_grows _ _ _)
    | with_reducible refine Grows.trans ?_ (modBooth_grows _ _ _)
    | with_reducible refine Grows.trans ?_ (flash_grows _ _ _)
    | with_reducible refine Grows.trans ?_ (nameHolder_grows hn _ _ _)
    | with_reducible refine Grows.trans ?_ (deskOff_grows _ _)
    | split
    | extract_lets
    | fail_if_no_progress (dsimp (zetaDelta := true) only)
    | fail_if_no_progress (with_reducible refine Grows.update rfl rfl rfl rfl ?_)

theorem keyTake_grows (hn : κ.notices = false) (d : Nat) (r : Desk) (bo : Booth) (s : State) : Grows κ s (keyTake d r bo s) := by
  unfold keyTake
  all_goals repeat' first
    | with_reducible exact Grows.refl _
    | with_reducible refine Grows.trans ?_ (flash_grows _ _ _)
    | with_reducible refine Grows.trans ?_ (handOver_grows hn _ _ _ _)
    | with_reducible refine Grows.trans ?_ (makeWay_grows _ _ _)
    | split
    | extract_lets
    | fail_if_no_progress (dsimp (zetaDelta := true) only)
    | fail_if_no_progress (with_reducible refine Grows.update rfl rfl rfl rfl ?_)

theorem keyRelease_grows (hn : κ.notices = false) (d : Nat) (r : Desk) (s : State) : Grows κ s (keyRelease d r s) := by
  unfold keyRelease
  all_goals repeat' first
    | with_reducible exact Grows.refl _
    | with_reducible refine Grows.trans ?_ (endOverlap_grows hn _ _)
    | with_reducible refine Grows.trans ?_ (cancelOverlap_grows _ _)
    | with_reducible refine Grows.trans ?_ (endHold_grows hn _ _ _)
    | split
    | extract_lets
    | fail_if_no_progress (dsimp (zetaDelta := true) only)
    | fail_if_no_progress (with_reducible refine Grows.update rfl rfl rfl rfl ?_)

theorem keyCough_grows (d : Nat) (on : Bool) (r : Desk) (s : State) : Grows κ s (keyCough d on r s) := by
  unfold keyCough
  all_goals repeat' first
    | with_reducible exact Grows.refl _
    | with_reducible refine Grows.trans ?_ (modDesk_grows _ _ _)
    | split
    | extract_lets
    | fail_if_no_progress (dsimp (zetaDelta := true) only)
    | fail_if_no_progress (with_reducible refine Grows.update rfl rfl rfl rfl ?_)

theorem keyOutput_grows (hn : κ.notices = false) (d : Nat) (o : Output) (r : Desk) (bo : Booth) (s : State) : Grows κ s (keyOutput d o r bo s) := by
  unfold keyOutput
  all_goals repeat' first
    | with_reducible exact Grows.refl _
    | with_reducible refine Grows.trans ?_ (flash_grows _ _ _)
    | with_reducible refine Grows.trans ?_ (modBooth_grows _ _ _)
    | with_reducible refine Grows.trans ?_ (makeWay_grows _ _ _)
    | with_reducible refine Grows.trans ?_ (gain_grows hn _ _ _ _)
    | with_reducible refine Grows.trans ?_ (leave_grows hn _ _)
    | split
    | extract_lets
    | fail_if_no_progress (dsimp (zetaDelta := true) only)
    | fail_if_no_progress (with_reducible refine Grows.update rfl rfl rfl rfl ?_)

theorem keyRelay_grows (hn : κ.notices = false) (d : Nat) (src : Selection) (r : Desk) (bo : Booth) (s : State) : Grows κ s (keyRelay d src r bo s) := by
  unfold keyRelay
  all_goals repeat' first
    | with_reducible exact Grows.refl _
    | with_reducible refine Grows.trans ?_ (applySelection_grows hn _ _ _)
    | with_reducible refine Grows.trans ?_ (flash_grows _ _ _)
    | split
    | extract_lets
    | fail_if_no_progress (dsimp (zetaDelta := true) only)
    | fail_if_no_progress (with_reducible refine Grows.update rfl rfl rfl rfl ?_)

theorem takeKey_grows (hn : κ.notices = false) (d : Nat) (k : Key) (s : State) : Grows κ s (takeKey d k s) := by
  unfold takeKey
  all_goals repeat' first
    | with_reducible exact Grows.refl _
    | with_reducible refine Grows.trans ?_ (keyTake_grows hn _ _ _ _)
    | with_reducible refine Grows.trans ?_ (keyRelease_grows hn _ _ _)
    | with_reducible refine Grows.trans ?_ (keyCough_grows _ _ _ _)
    | with_reducible refine Grows.trans ?_ (keyOutput_grows hn _ _ _ _ _)
    | with_reducible refine Grows.trans ?_ (keyRelay_grows hn _ _ _ _ _)
    | split
    | extract_lets
    | fail_if_no_progress (dsimp (zetaDelta := true) only)
    | fail_if_no_progress (with_reducible refine Grows.update rfl rfl rfl rfl ?_)

theorem deskOffline_grows (hn : κ.notices = false) (d : Nat) (s : State) : Grows κ s (deskOffline d s) := by
  unfold deskOffline
  all_goals repeat' first
    | with_reducible exact Grows.refl _
    | with_reducible refine Grows.trans ?_ (queueEvent_grows _ _ _)
    | with_reducible refine Grows.trans ?_ (modDesk_grows _ _ _)
    | with_reducible refine Grows.trans ?_ (keyRelease_grows hn _ _ _)
    | split
    | extract_lets
    | fail_if_no_progress (dsimp (zetaDelta := true) only)
    | fail_if_no_progress (with_reducible refine Grows.update rfl rfl rfl rfl ?_)

theorem deskBack_grows (d : Nat) (s : State) : Grows κ s (deskBack d s) := by
  unfold deskBack
  all_goals repeat' first
    | with_reducible exact Grows.refl _
    | with_reducible refine Grows.trans ?_ (queueMessage_grows _ _ _)
    | with_reducible refine Grows.trans ?_ (modDesk_grows _ _ _)
    | split
    | extract_lets
    | fail_if_no_progress (dsimp (zetaDelta := true) only)
    | fail_if_no_progress (with_reducible refine Grows.update rfl rfl rfl rfl ?_)

theorem expireOverlap_grows (hn : κ.notices = false) (b : Nat) (s : State) : Grows κ s (expireOverlap b s) := by
  unfold expireOverlap
  all_goals repeat' first
    | with_reducible exact Grows.refl _
    | with_reducible refine Grows.trans ?_ (endOverlap_grows hn _ _)
    | split
    | extract_lets
    | fail_if_no_progress (dsimp (zetaDelta := true) only)
    | fail_if_no_progress (with_reducible refine Grows.update rfl rfl rfl rfl ?_)

theorem rebuildMap_grows (s : State) : Grows κ s (rebuildMap s) := by
  unfold rebuildMap
  all_goals repeat' first
    | with_reducible exact Grows.refl _
    | split
    | extract_lets
    | fail_if_no_progress (dsimp (zetaDelta := true) only)
    | fail_if_no_progress (with_reducible refine Grows.update rfl rfl rfl rfl ?_)

theorem switchMap_grows (hold : Nat) (s : State) : Grows κ s (switchMap hold s) := by
  unfold switchMap
  all_goals repeat' first
    | with_reducible exact Grows.refl _
    | split
    | extract_lets
    | fail_if_no_progress (dsimp (zetaDelta := true) only)
    | fail_if_no_progress (with_reducible refine Grows.update rfl rfl rfl rfl ?_)

theorem endCycle_grows (s : State) : Grows κ s (endCycle s) := by
  unfold endCycle
  all_goals repeat' first
    | with_reducible exact Grows.refl _
    | with_reducible refine Grows.trans ?_ (switchMap_grows _ _)
    | split
    | extract_lets
    | fail_if_no_progress (dsimp (zetaDelta := true) only)
    | fail_if_no_progress (with_reducible refine Grows.update rfl rfl rfl rfl ?_)

theorem leaveDarkMap_grows (s : State) : Grows κ s (leaveDarkMap s) := by
  unfold leaveDarkMap
  all_goals repeat' first
    | with_reducible exact Grows.refl _
    | with_reducible refine Grows.trans ?_ (switchMap_grows _ _)
    | with_reducible refine Grows.trans ?_ (setRadiator_grows _ _)
    | with_reducible refine Grows.trans ?_ (rebuildMap_grows _)
    | split
    | extract_lets
    | fail_if_no_progress (dsimp (zetaDelta := true) only)
    | fail_if_no_progress (with_reducible refine Grows.update rfl rfl rfl rfl ?_)

theorem enterDarkMap_grows (s : State) : Grows κ s (enterDarkMap s) := by
  unfold enterDarkMap
  all_goals repeat' first
    | with_reducible exact Grows.refl _
    | with_reducible refine Grows.trans ?_ (setRadiator_grows _ _)
    | split
    | extract_lets
    | fail_if_no_progress (dsimp (zetaDelta := true) only)
    | fail_if_no_progress (with_reducible refine Grows.update rfl rfl rfl rfl ?_)

theorem endMaskWord_grows (s : State) : Grows κ s (endMaskWord s) := by
  unfold endMaskWord
  all_goals repeat' first
    | with_reducible exact Grows.refl _
    | split
    | extract_lets
    | fail_if_no_progress (dsimp (zetaDelta := true) only)
    | fail_if_no_progress (with_reducible refine Grows.update rfl rfl rfl rfl ?_)

theorem routeFloor_grows (s : State) : Grows κ s (routeFloor s) := by
  unfold routeFloor
  all_goals repeat' first
    | with_reducible exact Grows.refl _
    | with_reducible refine Grows.trans ?_ (setRoute_grows _ _ _)
    | split
    | extract_lets
    | fail_if_no_progress (dsimp (zetaDelta := true) only)
    | fail_if_no_progress (with_reducible refine Grows.update rfl rfl rfl rfl ?_)

theorem announce_grows (hn : κ.notices = false) (s : State) : Grows κ s (announce s) := by
  unfold announce
  all_goals repeat' first
    | with_reducible exact Grows.refl _
    | with_reducible refine Grows.trans ?_ (queueNotice_grows hn _ _)
    | with_reducible refine Grows.trans ?_ (forEach_grows _ (fun _ _ => ?_) _)
    | split
    | extract_lets
    | fail_if_no_progress (dsimp (zetaDelta := true) only)
    | fail_if_no_progress (with_reducible refine Grows.update rfl rfl rfl rfl ?_)

theorem settle_grows (hn : κ.notices = false) (s : State) : Grows κ s (settle s) := by
  unfold settle
  all_goals repeat' first
    | with_reducible exact Grows.refl _
    | with_reducible refine Grows.trans ?_ (syncMask_grows _)
    | with_reducible refine Grows.trans ?_ (rebuildMap_grows _)
    | with_reducible refine Grows.trans ?_ (announce_grows hn _)
    | with_reducible refine Grows.trans ?_ (refreshDesks_grows _)
    | with_reducible refine Grows.trans ?_ (routeFloor_grows _)
    | split
    | extract_lets
    | fail_if_no_progress (dsimp (zetaDelta := true) only)
    | fail_if_no_progress (with_reducible refine Grows.update rfl rfl rfl rfl ?_)

theorem openAChannel_grows (hc : κ.claims = false) (hn : κ.notices = false) (c : Nat) (l : Tag) (account : Nat) (s : State) : Grows κ s (openAChannel c l account s) := by
  unfold openAChannel
  all_goals repeat' first
    | with_reducible exact Grows.refl _
    | with_reducible refine Grows.trans ?_ (recheckOutputs_grows hn _ _)
    | with_reducible refine Grows.trans ?_ (search_grows hc _ _)
    | with_reducible refine Grows.trans ?_ (queueNotice_grows hn _ _)
    | with_reducible refine Grows.trans ?_ (forEach_grows _ (fun _ _ => ?_) _)
    | split
    | extract_lets
    | fail_if_no_progress (dsimp (zetaDelta := true) only)
    | fail_if_no_progress (with_reducible refine Grows.update rfl rfl rfl rfl ?_)

theorem winChannel_grows (c : Nat) (s : State) : Grows κ s (winChannel c s) := by
  unfold winChannel
  all_goals repeat' first
    | with_reducible exact Grows.refl _
    | with_reducible refine Grows.trans ?_ (modChannel_grows _ _ _)
    | split
    | extract_lets
    | fail_if_no_progress (dsimp (zetaDelta := true) only)
    | fail_if_no_progress (with_reducible refine Grows.update rfl rfl rfl rfl ?_)

theorem refreshChannel_grows (hc : κ.claims = false) (c : Nat) (s : State) : Grows κ s (refreshChannel c s) := by
  unfold refreshChannel
  all_goals repeat' first
    | with_reducible exact Grows.refl _
    | with_reducible refine Grows.trans ?_ (modChannel_grows _ _ _)
    | with_reducible refine Grows.trans ?_ (refreshClaim_grows hc _ _)
    | split
    | extract_lets
    | fail_if_no_progress (dsimp (zetaDelta := true) only)
    | fail_if_no_progress (with_reducible refine Grows.update rfl rfl rfl rfl ?_)

theorem refreshOwnTrunk_grows (hc : κ.claims = false) (t : Nat) (s : State) : Grows κ s (refreshOwnTrunk t s) := by
  unfold refreshOwnTrunk
  all_goals repeat' first
    | with_reducible exact Grows.refl _
    | with_reducible refine Grows.trans ?_ (setTrunk_grows _ _ _)
    | with_reducible refine Grows.trans ?_ (refreshTrunk_grows hc _ _)
    | split
    | extract_lets
    | fail_if_no_progress (dsimp (zetaDelta := true) only)
    | fail_if_no_progress (with_reducible refine Grows.update rfl rfl rfl rfl ?_)

theorem closeHolders_grows (hc : κ.claims = false) (hn : κ.notices = false) (c : Nat) (s : State) : Grows κ s (closeHolders c s) := by
  unfold closeHolders
  all_goals repeat' first
    | with_reducible exact Grows.refl _
    | with_reducible refine Grows.trans ?_ (forceOff_grows _ _ _)
    | with_reducible refine Grows.trans ?_ (setHolder_grows hn _ _ _)
    | with_reducible refine Grows.trans ?_ (endWith_grows hc hn _ _ _)
    | with_reducible refine Grows.trans ?_ (forEach_grows _ (fun _ _ => ?_) _)
    | split
    | extract_lets
    | fail_if_no_progress (dsimp (zetaDelta := true) only)
    | fail_if_no_progress (with_reducible refine Grows.update rfl rfl rfl rfl ?_)

theorem closeClaim_grows (hc : κ.claims = false) (c : Nat) (s : State) : Grows κ s (closeClaim c s) := by
  unfold closeClaim
  all_goals repeat' first
    | with_reducible exact Grows.refl _
    | with_reducible refine Grows.trans ?_ (syncMask_grows _)
    | with_reducible refine Grows.trans ?_ (modChannel_grows _ _ _)
    | with_reducible refine Grows.trans ?_ (sendClaim_grows hc _ _ _ _ _)
    | split
    | extract_lets
    | fail_if_no_progress (dsimp (zetaDelta := true) only)
    | fail_if_no_progress (with_reducible refine Grows.update rfl rfl rfl rfl ?_)

theorem closeAccount_grows (c : Nat) (s : State) : Grows κ s (closeAccount c s) := by
  unfold closeAccount
  all_goals repeat' first
    | with_reducible exact Grows.refl _
    | with_reducible refine Grows.trans ?_ (settleChannel_grows _ _ _)
    | split
    | extract_lets
    | fail_if_no_progress (dsimp (zetaDelta := true) only)
    | fail_if_no_progress (with_reducible refine Grows.update rfl rfl rfl rfl ?_)

theorem closeAChannel_grows (hc : κ.claims = false) (hn : κ.notices = false) (c : Nat) (s : State) : Grows κ s (closeAChannel c s) := by
  unfold closeAChannel
  dsimp only
  refine Grows.trans ?_ (searchWaiting_grows hc _ _)
  refine Grows.trans ?_ (rebuildMap_grows _)
  refine Grows.trans ?_ (setRoute_grows _ _ _)
  have h := (((closeHolders_grows hc hn c s).trans (closeClaim_grows hc c _)).trans (closeRelays_grows hc hn c _)).trans
    (closeAccount_grows c _)
  refine Grows.trans h ?_
  generalize closeAccount c (closeRelays c (closeClaim c (closeHolders c s))) = t
  exact Grows.of_same rfl rfl rfl rfl

theorem closeAll_grows (hc : κ.claims = false) (hn : κ.notices = false) (s : State) : Grows κ s (closeAll s) := by
  exact forEach_grows _ (fun _ _ => closeAChannel_grows hc hn _ _) s

theorem floorBooths_grows (s : State) : Grows κ s (floorBooths s) := by
  unfold floorBooths
  all_goals repeat' first
    | with_reducible exact Grows.refl _
    | with_reducible refine Grows.trans ?_ (sendRelayRelease_grows _ _ _)
    | with_reducible refine Grows.trans ?_ (modBooth_grows _ _ _)
    | with_reducible refine Grows.trans ?_ (setRoute_grows _ _ _)
    | with_reducible refine Grows.trans ?_ (forEach_grows _ (fun _ _ => ?_) _)
    | split
    | extract_lets
    | fail_if_no_progress (dsimp (zetaDelta := true) only)
    | fail_if_no_progress (with_reducible refine Grows.update rfl rfl rfl rfl ?_)

theorem enterDark_grows (hc : κ.claims = false) (hn : κ.notices = false) (s : State) : Grows κ s (enterDark s) := by
  unfold enterDark
  dsimp only
  refine Grows.trans ?_ (enterDarkMap_grows _)
  refine Grows.trans ?_ (releaseOwnTrunks_grows hc _)
  refine Grows.trans ?_ (forEach_grows _ (fun _ _ => endWith_grows hc hn _ _ _) _)
  refine Grows.trans ?_ (closeAll_grows hc hn _)
  refine Grows.trans ?_ (recomputeBooths_grows hn _ _)
  refine Grows.trans ?_ (floorBooths_grows _)
  refine Grows.trans ?_ (restFeeds_grows hn _)
  exact Grows.after (releaseHall_grows hn _) rfl rfl rfl rfl

theorem enterRecess_grows (hn : κ.notices = false) (s : State) : Grows κ s (enterRecess s) := by
  unfold enterRecess
  all_goals repeat' first
    | with_reducible exact Grows.refl _
    | with_reducible refine Grows.trans ?_ (restFeeds_grows hn _)
    | with_reducible refine Grows.trans ?_ (releaseHall_grows hn _)
    | split
    | extract_lets
    | fail_if_no_progress (dsimp (zetaDelta := true) only)
    | fail_if_no_progress (with_reducible refine Grows.update rfl rfl rfl rfl ?_)

theorem leaveDark_grows (hc : κ.claims = false) (hn : κ.notices = false) (h : HallState) (s : State) : Grows κ s (leaveDark h s) := by
  unfold leaveDark
  all_goals repeat' first
    | with_reducible exact Grows.refl _
    | with_reducible refine Grows.trans ?_ (leaveDarkMap_grows _)
    | with_reducible refine Grows.trans ?_ (openAChannel_grows hc hn _ _ _ _)
    | split
    | extract_lets
    | fail_if_no_progress (dsimp (zetaDelta := true) only)
    | fail_if_no_progress (with_reducible refine Grows.update rfl rfl rfl rfl ?_)

theorem changeHall_grows (hc : κ.claims = false) (hn : κ.notices = false) (h : HallState) (s : State) : Grows κ s (changeHall h s) := by
  unfold changeHall
  split
  · exact Grows.refl _
  split
  · exact enterDark_grows hc hn _
  · exact leaveDark_grows hc hn _ _
  · exact enterRecess_grows hn _
  · refine Grows.trans (s := { s with planner.hall := .session }) (Grows.of_same rfl rfl rfl rfl) ?_
    exact wakeFeeds_grows hn _

theorem changeFloor_grows (hc : κ.claims = false) (hn : κ.notices = false) (l : Tag) (s : State) : Grows κ s (changeFloor l s) := by
  unfold changeFloor
  all_goals repeat' first
    | with_reducible exact Grows.refl _
    | with_reducible refine Grows.trans ?_ (queueNotice_grows hn _ _)
    | with_reducible refine Grows.trans ?_ (refreshClaim_grows hc _ _)
    | with_reducible refine Grows.trans ?_ (modChannel_grows _ _ _)
    | with_reducible refine Grows.trans ?_ (recompute_grows hn _ _ _)
    | split
    | extract_lets
    | fail_if_no_progress (dsimp (zetaDelta := true) only)
    | fail_if_no_progress (with_reducible refine Grows.update rfl rfl rfl rfl ?_)

theorem moveWall_grows (w : Nat) (isOpen : Bool) (s : State) : Grows κ s (moveWall w isOpen s) := by
  unfold moveWall
  all_goals repeat' first
    | with_reducible exact Grows.refl _
    | split
    | extract_lets
    | fail_if_no_progress (dsimp (zetaDelta := true) only)
    | fail_if_no_progress (with_reducible refine Grows.update rfl rfl rfl rfl ?_)

theorem settleWall_grows (hc : κ.claims = false) (hp : κ.presence = false) (w : Nat) (s : State) : Grows κ s (settleWall w s) := by
  unfold settleWall
  all_goals repeat' first
    | with_reducible exact Grows.refl _
    | with_reducible refine Grows.trans ?_ (recomputeZone_grows hc _)
    | with_reducible refine Grows.trans ?_ (queuePresence_grows hp _)
    | with_reducible refine Grows.trans ?_ (queueEvent_grows _ _ _)
    | split
    | extract_lets
    | fail_if_no_progress (dsimp (zetaDelta := true) only)
    | fail_if_no_progress (with_reducible refine Grows.update rfl rfl rfl rfl ?_)

theorem unconfirmClaims_grows (hc : κ.claims = false) (s : State) : Grows κ s (unconfirmClaims s) := by
  unfold unconfirmClaims
  all_goals repeat' first
    | with_reducible exact Grows.refl _
    | with_reducible refine Grows.trans ?_ (recomputeZone_grows hc _)
    | split
    | extract_lets
    | fail_if_no_progress (dsimp (zetaDelta := true) only)
    | fail_if_no_progress (with_reducible refine Grows.update rfl rfl rfl rfl ?_)

theorem reannounceChannel_grows (hc : κ.claims = false) (c : Nat) (s : State) : Grows κ s (reannounceChannel c s) := by
  unfold reannounceChannel
  all_goals repeat' first
    | with_reducible exact Grows.refl _
    | with_reducible refine Grows.trans ?_ (sendClaim_grows hc _ _ _ _ _)
    | with_reducible refine Grows.trans ?_ (modChannel_grows _ _ _)
    | split
    | extract_lets
    | fail_if_no_progress (dsimp (zetaDelta := true) only)
    | fail_if_no_progress (with_reducible refine Grows.update rfl rfl rfl rfl ?_)

theorem reannounceTrunk_grows (hc : κ.claims = false) (t : Nat) (s : State) : Grows κ s (reannounceTrunk t s) := by
  unfold reannounceTrunk
  all_goals repeat' first
    | with_reducible exact Grows.refl _
    | with_reducible refine Grows.trans ?_ (sendTrunkClaim_grows hc _ _ _ _)
    | with_reducible refine Grows.trans ?_ (setTrunk_grows _ _ _)
    | split
    | extract_lets
    | fail_if_no_progress (dsimp (zetaDelta := true) only)
    | fail_if_no_progress (with_reducible refine Grows.update rfl rfl rfl rfl ?_)

theorem reannounce_grows (hc : κ.claims = false) (s : State) : Grows κ s (reannounce s) := by
  unfold reannounce
  all_goals repeat' first
    | with_reducible exact Grows.refl _
    | with_reducible refine Grows.trans ?_ (reannounceChannel_grows hc _ _)
    | with_reducible refine Grows.trans ?_ (searchWaiting_grows hc _ _)
    | with_reducible refine Grows.trans ?_ (reannounceTrunk_grows hc _ _)
    | with_reducible refine Grows.trans ?_ (forEach_grows _ (fun _ _ => ?_) _)
    | split
    | extract_lets
    | fail_if_no_progress (dsimp (zetaDelta := true) only)
    | fail_if_no_progress (with_reducible refine Grows.update rfl rfl rfl rfl ?_)

theorem regrant_grows (hn : κ.notices = false) (s : State) : Grows κ s (regrant s) := by
  unfold regrant
  all_goals repeat' first
    | with_reducible exact Grows.refl _
    | with_reducible refine Grows.trans ?_ (queueNotice_grows hn _ _)
    | with_reducible refine Grows.trans ?_ (answerListeners_grows _ _ _ _)
    | with_reducible refine Grows.trans ?_ (forEach_grows _ (fun _ _ => ?_) _)
    | split
    | extract_lets
    | fail_if_no_progress (dsimp (zetaDelta := true) only)
    | fail_if_no_progress (with_reducible refine Grows.update rfl rfl rfl rfl ?_)

theorem modOrphan_grows (serial : Nat) (f : Orphan → Orphan) (s : State) : Grows κ s (modOrphan serial f s) := by
  unfold modOrphan
  all_goals repeat' first
    | with_reducible exact Grows.refl _
    | split
    | extract_lets
    | fail_if_no_progress (dsimp (zetaDelta := true) only)
    | fail_if_no_progress (with_reducible refine Grows.update rfl rfl rfl rfl ?_)

theorem removeOrphan_grows (serial : Nat) (s : State) : Grows κ s (removeOrphan serial s) := by
  unfold removeOrphan
  all_goals repeat' first
    | with_reducible exact Grows.refl _
    | split
    | extract_lets
    | fail_if_no_progress (dsimp (zetaDelta := true) only)
    | fail_if_no_progress (with_reducible refine Grows.update rfl rfl rfl rfl ?_)

theorem discardOrphan_grows (o : Orphan) (cause : DiscardCause) (s : State) : Grows κ s (discardOrphan o cause s) := by
  unfold discardOrphan
  all_goals repeat' first
    | with_reducible exact Grows.refl _
    | with_reducible refine Grows.trans ?_ (queueEvent_grows _ _ _)
    | with_reducible refine Grows.trans ?_ (removeOrphan_grows _ _)
    | split
    | extract_lets
    | fail_if_no_progress (dsimp (zetaDelta := true) only)
    | fail_if_no_progress (with_reducible refine Grows.update rfl rfl rfl rfl ?_)

theorem queryOrphan_grows (o : Orphan) (s : State) : Grows κ s (queryOrphan o s) := by
  unfold queryOrphan
  all_goals repeat' first
    | with_reducible exact Grows.refl _
    | with_reducible refine Grows.trans ?_ (enqueueFrame_grows _ _ (by simp [Payload.key, Keep.has]) _)
    | with_reducible refine Grows.trans ?_ (modOrphan_grows _ _ _)
    | split
    | extract_lets
    | fail_if_no_progress (dsimp (zetaDelta := true) only)
    | fail_if_no_progress (with_reducible refine Grows.update rfl rfl rfl rfl ?_)

theorem queryOrDiscard_grows (o : Orphan) (s : State) : Grows κ s (queryOrDiscard o s) := by
  unfold queryOrDiscard
  all_goals repeat' first
    | with_reducible exact Grows.refl _
    | with_reducible refine Grows.trans ?_ (discardOrphan_grows _ _ _)
    | with_reducible refine Grows.trans ?_ (queryOrphan_grows _ _)
    | split
    | extract_lets
    | fail_if_no_progress (dsimp (zetaDelta := true) only)
    | fail_if_no_progress (with_reducible refine Grows.update rfl rfl rfl rfl ?_)

theorem forOrphans_grows {p : Orphan → Bool} {f : Orphan → State → State} (h : ∀ o s, Grows κ s (f o s)) (s : State) :
    Grows κ s (forOrphans p f s) := foldl_grows _ (fun s o => h o s) s

theorem joinOrphans_grows (q : Nat) (s : State) : Grows κ s (joinOrphans q s) := by
  exact forOrphans_grows (fun _ _ => queryOrDiscard_grows _ _) _

theorem refreshOrphans_grows (q : Nat) (s : State) : Grows κ s (refreshOrphans q s) := by
  exact forOrphans_grows (fun _ _ => queryOrDiscard_grows _ _) _

theorem endOrphanWait_grows (o : Orphan) (s : State) : Grows κ s (endOrphanWait o s) := by
  unfold endOrphanWait
  all_goals repeat' first
    | with_reducible exact Grows.refl _
    | with_reducible refine Grows.trans ?_ (discardOrphan_grows _ _ _)
    | with_reducible refine Grows.trans ?_ (modOrphan_grows _ _ _)
    | split
    | extract_lets
    | fail_if_no_progress (dsimp (zetaDelta := true) only)
    | fail_if_no_progress (with_reducible refine Grows.update rfl rfl rfl rfl ?_)

theorem loseOrphans_grows (q : Nat) (s : State) : Grows κ s (loseOrphans q s) := by
  exact forOrphans_grows (fun _ _ => endOrphanWait_grows _ _) _

theorem expireOrphan_grows (serial : Nat) (s : State) : Grows κ s (expireOrphan serial s) := by
  unfold expireOrphan
  all_goals repeat' first
    | with_reducible exact Grows.refl _
    | with_reducible refine Grows.trans ?_ (endOrphanWait_grows _ _)
    | split
    | extract_lets
    | fail_if_no_progress (dsimp (zetaDelta := true) only)
    | fail_if_no_progress (with_reducible refine Grows.update rfl rfl rfl rfl ?_)

theorem remoteReturn_grows (slot q serial minute battery : Nat) (s : State) : Grows κ s (remoteReturn slot q serial minute battery s) := by
  unfold remoteReturn
  dsimp only
  all_goals repeat' first
    | with_reducible exact Grows.refl _
    | with_reducible refine Grows.trans ?_ (discardOrphan_grows _ _ _)
    | with_reducible refine Grows.trans ?_ (queueEvent_grows _ _ _)
    | with_reducible refine Grows.trans ?_ (queryOrphan_grows _ _)
    | split
    | fail_if_no_progress (with_reducible refine Grows.update rfl rfl rfl rfl ?_)

theorem hearReturnAnswer_grows (q serial : Nat) (o : ReturnOutcome) (s : State) : Grows κ s (hearReturnAnswer q serial o s) := by
  unfold hearReturnAnswer
  all_goals repeat' first
    | with_reducible exact Grows.refl _
    | with_reducible refine Grows.trans ?_ (queueEvent_grows _ _ _)
    | with_reducible refine Grows.trans ?_ (removeOrphan_grows _ _)
    | split
    | extract_lets
    | fail_if_no_progress (dsimp (zetaDelta := true) only)
    | fail_if_no_progress (with_reducible refine Grows.update rfl rfl rfl rfl ?_)

theorem removeLost_grows (serial : Nat) (s : State) : Grows κ s (removeLost serial s) := by
  unfold removeLost
  all_goals repeat' first
    | with_reducible exact Grows.refl _
    | split
    | extract_lets
    | fail_if_no_progress (dsimp (zetaDelta := true) only)
    | fail_if_no_progress (with_reducible refine Grows.update rfl rfl rfl rfl ?_)

theorem joinLost_grows (serial account : Nat) (s : State) : Grows κ s (joinLost serial account s) := by
  unfold joinLost
  dsimp only
  all_goals repeat' first
    | with_reducible exact Grows.refl _
    | with_reducible refine Grows.trans ?_ (removeLost_grows _ _)
    | with_reducible refine Grows.trans ?_ (queueEvent_grows _ _ _)
    | split
    | fail_if_no_progress (with_reducible refine Grows.update rfl rfl rfl rfl ?_)

theorem recoverLost_grows (e : Lost) (minute : Nat) (s : State) : Grows κ s (recoverLost e minute s) := by
  unfold recoverLost
  all_goals repeat' first
    | with_reducible exact Grows.refl _
    | with_reducible refine Grows.trans ?_ (settleRecovery_grows _ _ _ _)
    | with_reducible refine Grows.trans ?_ (removeLost_grows _ _)
    | split
    | extract_lets
    | fail_if_no_progress (dsimp (zetaDelta := true) only)
    | fail_if_no_progress (with_reducible refine Grows.update rfl rfl rfl rfl ?_)

theorem hearReturnQuery_grows (q serial minute battery : Nat) (s : State) : Grows κ s (hearReturnQuery q serial minute battery s) := by
  unfold hearReturnQuery
  all_goals repeat' first
    | with_reducible exact Grows.refl _
    | with_reducible refine Grows.trans ?_ (enqueueFrame_grows _ _ (by simp [Payload.key, Keep.has]) _)
    | with_reducible refine Grows.trans ?_ (queueEvent_grows _ _ _)
    | with_reducible refine Grows.trans ?_ (closeHire_grows _ _ _ _ _)
    | with_reducible refine Grows.trans ?_ (recoverLost_grows _ _ _)
    | split
    | extract_lets
    | fail_if_no_progress (dsimp (zetaDelta := true) only)
    | fail_if_no_progress (with_reducible refine Grows.update rfl rfl rfl rfl ?_)

theorem testOverdue_grows (serial : Nat) (s : State) : Grows κ s (testOverdue serial s) := by
  unfold testOverdue
  all_goals repeat' first
    | with_reducible exact Grows.refl _
    | with_reducible refine Grows.trans ?_ (queueEvent_grows _ _ _)
    | split
    | extract_lets
    | fail_if_no_progress (dsimp (zetaDelta := true) only)
    | fail_if_no_progress (with_reducible refine Grows.update rfl rfl rfl rfl ?_)

theorem testAllOverdue_grows (s : State) : Grows κ s (testAllOverdue s) := by
  unfold testAllOverdue
  all_goals repeat' first
    | with_reducible exact Grows.refl _
    | with_reducible refine Grows.trans ?_ (testOverdue_grows _ _)
    | with_reducible refine Grows.trans ?_ (forEach_grows _ (fun _ _ => ?_) _)
    | split
    | extract_lets
    | fail_if_no_progress (dsimp (zetaDelta := true) only)
    | fail_if_no_progress (with_reducible refine Grows.update rfl rfl rfl rfl ?_)

theorem clearSlot_grows (k : Nat) (s : State) : Grows κ s (clearSlot k s) := by
  unfold clearSlot
  all_goals repeat' first
    | with_reducible exact Grows.refl _
    | with_reducible refine Grows.trans ?_ (modSlot_grows _ _ _)
    | split
    | extract_lets
    | fail_if_no_progress (dsimp (zetaDelta := true) only)
    | fail_if_no_progress (with_reducible refine Grows.update rfl rfl rfl rfl ?_)

theorem discardMessages_grows (t : Target) (s : State) : Grows κ s (discardMessages t s) := by
  unfold discardMessages
  all_goals repeat' first
    | with_reducible exact Grows.refl _
    | with_reducible refine Grows.trans ?_ (removeMessages_grows _ _)
    | split
    | extract_lets
    | fail_if_no_progress (dsimp (zetaDelta := true) only)
    | fail_if_no_progress (with_reducible refine Grows.update rfl rfl rfl rfl ?_)

theorem joinReady_grows (k : Nat) (startUp : Bool) (s : State) : Grows κ s (joinReady k startUp s) := by
  unfold joinReady
  all_goals repeat' first
    | with_reducible exact Grows.refl _
    | split
    | extract_lets
    | fail_if_no_progress (dsimp (zetaDelta := true) only)
    | fail_if_no_progress (with_reducible refine Grows.update rfl rfl rfl rfl ?_)

theorem leaveReady_grows (k : Nat) (s : State) : Grows κ s (leaveReady k s) := by
  unfold leaveReady
  all_goals repeat' first
    | with_reducible exact Grows.refl _
    | split
    | extract_lets
    | fail_if_no_progress (dsimp (zetaDelta := true) only)
    | fail_if_no_progress (with_reducible refine Grows.update rfl rfl rfl rfl ?_)

theorem completeSlot_grows (k serial battery : Nat) (mark : HireMark) (s : State) : Grows κ s (completeSlot k serial battery mark s) := by
  unfold completeSlot
  all_goals repeat' first
    | with_reducible exact Grows.refl _
    | with_reducible refine Grows.trans ?_ (modSlot_grows _ _ _)
    | with_reducible refine Grows.trans ?_ (joinReady_grows _ _ _)
    | split
    | extract_lets
    | fail_if_no_progress (dsimp (zetaDelta := true) only)
    | fail_if_no_progress (with_reducible refine Grows.update rfl rfl rfl rfl ?_)

theorem decideRecords_grows (k serial minute : Nat) (mark : HireMark) (s : State) : Grows κ s (decideRecords k serial minute mark s) := by
  unfold decideRecords
  all_goals repeat' first
    | with_reducible exact Grows.refl _
    | with_reducible refine Grows.trans ?_ (queueEvent_grows _ _ _)
    | with_reducible refine Grows.trans ?_ (closeHire_grows _ _ _ _ _)
    | with_reducible refine Grows.trans ?_ (recoverLost_grows _ _ _)
    | split
    | extract_lets
    | fail_if_no_progress (dsimp (zetaDelta := true) only)
    | fail_if_no_progress (with_reducible refine Grows.update rfl rfl rfl rfl ?_)

theorem decideMark_grows (k serial battery minute : Nat) (mark : HireMark) (known : Bool) (s : State) : Grows κ s (decideMark k serial battery minute mark known s) := by
  unfold decideMark
  all_goals repeat' first
    | with_reducible exact Grows.refl _
    | with_reducible refine Grows.trans ?_ (queueEvent_grows _ _ _)
    | with_reducible refine Grows.trans ?_ (remoteReturn_grows _ _ _ _ _ _)
    | split
    | extract_lets
    | fail_if_no_progress (dsimp (zetaDelta := true) only)
    | fail_if_no_progress (with_reducible refine Grows.update rfl rfl rfl rfl ?_)

theorem oweClearMark_grows (k : Nat) (s : State) : Grows κ s (oweClearMark k s) := by
  unfold oweClearMark
  all_goals repeat' first
    | with_reducible exact Grows.refl _
    | with_reducible refine Grows.trans ?_ (queueMessage_grows _ _ _)
    | with_reducible refine Grows.trans ?_ (modSlot_grows _ _ _)
    | split
    | extract_lets
    | fail_if_no_progress (dsimp (zetaDelta := true) only)
    | fail_if_no_progress (with_reducible refine Grows.update rfl rfl rfl rfl ?_)

theorem decideReceiver_grows (k serial battery : Nat) (mark : HireMark) (s : State) : Grows κ s (decideReceiver k serial battery mark s) := by
  unfold decideReceiver
  all_goals repeat' first
    | with_reducible exact Grows.refl _
    | with_reducible refine Grows.trans ?_ (decideMark_grows _ _ _ _ _ _ _)
    | with_reducible refine Grows.trans ?_ (decideRecords_grows _ _ _ _ _)
    | with_reducible refine Grows.trans ?_ (oweClearMark_grows _ _)
    | with_reducible refine Grows.trans ?_ (queueEvent_grows _ _ _)
    | with_reducible refine Grows.trans ?_ (modSlot_grows _ _ _)
    | with_reducible refine Grows.trans ?_ (completeSlot_grows _ _ _ _ _)
    | split
    | extract_lets
    | fail_if_no_progress (dsimp (zetaDelta := true) only)
    | fail_if_no_progress (with_reducible refine Grows.update rfl rfl rfl rfl ?_)

theorem identifySlot_grows (k serial battery : Nat) (mark : HireMark) (s : State) : Grows κ s (identifySlot k serial battery mark s) := by
  unfold identifySlot
  all_goals repeat' first
    | with_reducible exact Grows.refl _
    | with_reducible refine Grows.trans ?_ (queueEvent_grows _ _ _)
    | with_reducible refine Grows.trans ?_ (modSlot_grows _ _ _)
    | with_reducible refine Grows.trans ?_ (decideReceiver_grows _ _ _ _ _)
    | split
    | extract_lets
    | fail_if_no_progress (dsimp (zetaDelta := true) only)
    | fail_if_no_progress (with_reducible refine Grows.update rfl rfl rfl rfl ?_)

theorem disownMessages_grows (n : Nat) (s : State) : Grows κ s (disownMessages n s) := by
  unfold disownMessages
  all_goals repeat' first
    | with_reducible exact Grows.refl _
    | split
    | extract_lets
    | fail_if_no_progress (dsimp (zetaDelta := true) only)
    | fail_if_no_progress (with_reducible refine Grows.update rfl rfl rfl rfl ?_)

theorem endIssue_grows (n k : Nat) (s : State) : Grows κ s (endIssue n k s) := by
  unfold endIssue
  all_goals repeat' first
    | with_reducible exact Grows.refl _
    | with_reducible refine Grows.trans ?_ (discardMessages_grows _ _)
    | with_reducible refine Grows.trans ?_ (disownMessages_grows _ _)
    | split
    | extract_lets
    | fail_if_no_progress (dsimp (zetaDelta := true) only)
    | fail_if_no_progress (with_reducible refine Grows.update rfl rfl rfl rfl ?_)

theorem cancelIssue_grows (n : Nat) (cause : CancelCause) (s : State) : Grows κ s (cancelIssue n cause s) := by
  unfold cancelIssue
  split
  · exact Grows.refl _
  dsimp only
  refine Grows.trans ?_ (queueEvent_grows _ _ _)
  rename_i i _
  have h0 : Grows κ s { s with dock.issues := Tab.erase s.dock.issues n } := Grows.of_same rfl rfl rfl rfl
  have h1 := (((((h0.trans (disownMessages_grows n _)).trans
    (modSlot_grows i.slot (fun sl => { sl with latchOpen := false }) _)).trans
    (queueMessage_grows (.latch i.slot false) .plain _)).trans (oweClearMark_grows i.slot _)).trans
    (discardMessages_grows (.preset i.slot) _)).trans (modSlot_grows i.slot (fun sl => { sl with state := .ready }) _)
  exact h1.trans (Grows.of_same rfl rfl rfl rfl)

theorem failIssue_grows (n : Nat) (i : Issue) (kind : MsgKind) (s : State) : Grows κ s (failIssue n i kind s) := by
  unfold failIssue
  all_goals repeat' first
    | with_reducible exact Grows.refl _
    | with_reducible refine Grows.trans ?_ (endIssue_grows _ _ _)
    | with_reducible refine Grows.trans ?_ (queueEvent_grows _ _ _)
    | with_reducible refine Grows.trans ?_ (modSlot_grows _ _ _)
    | split
    | extract_lets
    | fail_if_no_progress (dsimp (zetaDelta := true) only)
    | fail_if_no_progress (with_reducible refine Grows.update rfl rfl rfl rfl ?_)

theorem emptySlot_grows (k : Nat) (s : State) : Grows κ s (emptySlot k s) := by
  refine Grows.trans ?_ (discardMessages_grows _ _)
  exact Grows.after (clearSlot_grows k _) rfl rfl rfl rfl

theorem removeReceiver_grows (k : Nat) (s : State) : Grows κ s (removeReceiver k s) := by
  unfold removeReceiver
  split
  · exact Grows.refl _
  dsimp only
  split
  · exact Grows.refl _
  · exact Grows.refl _
  · exact ((discardMessages_grows _ s).trans (emptySlot_grows k _)).trans (queueEvent_grows _ _ _)
  · exact (emptySlot_grows k s).trans (queueEvent_grows _ _ _)
  · exact ((leaveReady_grows k s).trans (emptySlot_grows k _)).trans (queueEvent_grows _ _ _)
  · exact (emptySlot_grows k s).trans (queueEvent_grows _ _ _)
  split
  · exact emptySlot_grows k s
  split
  · exact ((endIssue_grows _ k s).trans (emptySlot_grows k _)).trans (queueEvent_grows _ _ _)
  · exact (((endIssue_grows _ k s).trans (openHire_grows _ _)).trans (emptySlot_grows k _)).trans (queueEvent_grows _ _ _)

theorem startReading_grows (k : Nat) (s : State) : Grows κ s (startReading k s) := by
  unfold startReading
  all_goals repeat' first
    | with_reducible exact Grows.refl _
    | with_reducible refine Grows.trans ?_ (modSlot_grows _ _ _)
    | split
    | extract_lets
    | fail_if_no_progress (dsimp (zetaDelta := true) only)
    | fail_if_no_progress (with_reducible refine Grows.update rfl rfl rfl rfl ?_)

theorem insertReceiver_grows (k : Nat) (s : State) : Grows κ s (insertReceiver k s) := by
  unfold insertReceiver
  all_goals repeat' first
    | with_reducible exact Grows.refl _
    | with_reducible refine Grows.trans ?_ (queueMessage_grows _ _ _)
    | with_reducible refine Grows.trans ?_ (startReading_grows _ _)
    | split
    | extract_lets
    | fail_if_no_progress (dsimp (zetaDelta := true) only)
    | fail_if_no_progress (with_reducible refine Grows.update rfl rfl rfl rfl ?_)

theorem exchangeReceiver_grows (k serial battery : Nat) (mark : HireMark) (s : State) : Grows κ s (exchangeReceiver k serial battery mark s) := by
  unfold exchangeReceiver
  all_goals repeat' first
    | with_reducible exact Grows.refl _
    | with_reducible refine Grows.trans ?_ (identifySlot_grows _ _ _ _ _)
    | with_reducible refine Grows.trans ?_ (startReading_grows _ _)
    | with_reducible refine Grows.trans ?_ (removeReceiver_grows _ _)
    | split
    | extract_lets
    | fail_if_no_progress (dsimp (zetaDelta := true) only)
    | fail_if_no_progress (with_reducible refine Grows.update rfl rfl rfl rfl ?_)

theorem readBattery_grows (k battery : Nat) (sl : Slot) (s : State) : Grows κ s (readBattery k battery sl s) := by
  unfold readBattery
  all_goals repeat' first
    | with_reducible exact Grows.refl _
    | with_reducible refine Grows.trans ?_ (modSlot_grows _ _ _)
    | with_reducible refine Grows.trans ?_ (joinReady_grows _ _ _)
    | with_reducible refine Grows.trans ?_ (leaveReady_grows _ _)
    | split
    | extract_lets
    | fail_if_no_progress (dsimp (zetaDelta := true) only)
    | fail_if_no_progress (with_reducible refine Grows.update rfl rfl rfl rfl ?_)

theorem hearReceiver_grows (k : Nat) (r : Receiver) (s : State) : Grows κ s (hearReceiver k r s) := by
  unfold hearReceiver
  (repeat' split)
  all_goals first
    | exact Grows.refl _
    | exact identifySlot_grows _ _ _ _ _
    | exact exchangeReceiver_grows _ _ _ _ _
    | exact completeSlot_grows _ _ _ _ _
    | exact readBattery_grows _ _ _ _

theorem slotOffline_grows (k : Nat) (s : State) : Grows κ s (slotOffline k s) := by
  unfold slotOffline
  all_goals repeat' first
    | with_reducible exact Grows.refl _
    | with_reducible refine Grows.trans ?_ (queueEvent_grows _ _ _)
    | with_reducible refine Grows.trans ?_ (endIssue_grows _ _ _)
    | with_reducible refine Grows.trans ?_ (modSlot_grows _ _ _)
    | with_reducible refine Grows.trans ?_ (leaveReady_grows _ _)
    | split
    | extract_lets
    | fail_if_no_progress (dsimp (zetaDelta := true) only)
    | fail_if_no_progress (with_reducible refine Grows.update rfl rfl rfl rfl ?_)

theorem slotBack_grows (k : Nat) (occupied : Bool) (s : State) : Grows κ s (slotBack k occupied s) := by
  unfold slotBack
  all_goals repeat' first
    | with_reducible exact Grows.refl _
    | with_reducible refine Grows.trans ?_ (modSlot_grows _ _ _)
    | split
    | extract_lets
    | fail_if_no_progress (dsimp (zetaDelta := true) only)
    | fail_if_no_progress (with_reducible refine Grows.update rfl rfl rfl rfl ?_)

theorem correctLatch_grows (k : Nat) (latchOpen before : Bool) (s : State) : Grows κ s (correctLatch k latchOpen before s) := by
  unfold correctLatch
  all_goals repeat' first
    | with_reducible exact Grows.refl _
    | with_reducible refine Grows.trans ?_ (queueMessage_grows _ _ _)
    | split
    | extract_lets
    | fail_if_no_progress (dsimp (zetaDelta := true) only)
    | fail_if_no_progress (with_reducible refine Grows.update rfl rfl rfl rfl ?_)

theorem hearSlotPoll_grows (k : Nat) (occupied latchOpen : Bool) (s : State) : Grows κ s (hearSlotPoll k occupied latchOpen s) := by
  unfold hearSlotPoll
  all_goals repeat' first
    | with_reducible exact Grows.refl _
    | with_reducible refine Grows.trans ?_ (slotBack_grows _ _ _)
    | with_reducible refine Grows.trans ?_ (insertReceiver_grows _ _)
    | with_reducible refine Grows.trans ?_ (modSlot_grows _ _ _)
    | with_reducible refine Grows.trans ?_ (removeReceiver_grows _ _)
    | with_reducible refine Grows.trans ?_ (correctLatch_grows _ _ _ _)
    | split
    | extract_lets
    | fail_if_no_progress (dsimp (zetaDelta := true) only)
    | fail_if_no_progress (with_reducible refine Grows.update rfl rfl rfl rfl ?_)

theorem readSlots_grows (s : State) : Grows κ s (readSlots s) := by
  unfold readSlots
  all_goals repeat' first
    | with_reducible exact Grows.refl _
    | with_reducible refine Grows.trans ?_ (queueMessage_grows _ _ _)
    | with_reducible refine Grows.trans ?_ (forEach_grows _ (fun _ _ => ?_) _)
    | split
    | extract_lets
    | fail_if_no_progress (dsimp (zetaDelta := true) only)
    | fail_if_no_progress (with_reducible refine Grows.update rfl rfl rfl rfl ?_)

theorem faultSlot_grows (k : Nat) (cause : SlotCause) (s : State) : Grows κ s (faultSlot k cause s) := by
  unfold faultSlot
  all_goals repeat' first
    | with_reducible exact Grows.refl _
    | with_reducible refine Grows.trans ?_ (queueEvent_grows _ _ _)
    | with_reducible refine Grows.trans ?_ (modSlot_grows _ _ _)
    | split
    | extract_lets
    | fail_if_no_progress (dsimp (zetaDelta := true) only)
    | fail_if_no_progress (with_reducible refine Grows.update rfl rfl rfl rfl ?_)

theorem correctCharge_grows (k : Nat) (s : State) : Grows κ s (correctCharge k s) := by
  unfold correctCharge
  all_goals repeat' first
    | with_reducible exact Grows.refl _
    | with_reducible refine Grows.trans ?_ (modSlot_grows _ _ _)
    | split
    | extract_lets
    | fail_if_no_progress (dsimp (zetaDelta := true) only)
    | fail_if_no_progress (with_reducible refine Grows.update rfl rfl rfl rfl ?_)

theorem testDeadCell_grows (k : Nat) (s : State) : Grows κ s (testDeadCell k s) := by
  unfold testDeadCell
  all_goals repeat' first
    | with_reducible exact Grows.refl _
    | with_reducible refine Grows.trans ?_ (modSlot_grows _ _ _)
    | with_reducible refine Grows.trans ?_ (faultSlot_grows _ _ _)
    | split
    | extract_lets
    | fail_if_no_progress (dsimp (zetaDelta := true) only)
    | fail_if_no_progress (with_reducible refine Grows.update rfl rfl rfl rfl ?_)

theorem testChargeTimeout_grows (k : Nat) (s : State) : Grows κ s (testChargeTimeout k s) := by
  unfold testChargeTimeout
  all_goals repeat' first
    | with_reducible exact Grows.refl _
    | with_reducible refine Grows.trans ?_ (faultSlot_grows _ _ _)
    | split
    | extract_lets
    | fail_if_no_progress (dsimp (zetaDelta := true) only)
    | fail_if_no_progress (with_reducible refine Grows.update rfl rfl rfl rfl ?_)

theorem testCharging_grows (s : State) : Grows κ s (testCharging s) := by
  unfold testCharging
  all_goals repeat' first
    | with_reducible exact Grows.refl _
    | with_reducible refine Grows.trans ?_ (testChargeTimeout_grows _ _)
    | with_reducible refine Grows.trans ?_ (testDeadCell_grows _ _)
    | with_reducible refine Grows.trans ?_ (correctCharge_grows _ _)
    | with_reducible refine Grows.trans ?_ (forEach_grows _ (fun _ _ => ?_) _)
    | split
    | extract_lets
    | fail_if_no_progress (dsimp (zetaDelta := true) only)
    | fail_if_no_progress (with_reducible refine Grows.update rfl rfl rfl rfl ?_)

theorem sendMessage_grows (m : Message) (s : State) : Grows κ s (sendMessage m s) := by
  unfold sendMessage
  all_goals repeat' first
    | with_reducible exact Grows.refl _
    | split
    | extract_lets
    | fail_if_no_progress (dsimp (zetaDelta := true) only)
    | fail_if_no_progress (with_reducible refine Grows.update rfl rfl rfl rfl ?_)

theorem sendPoll_grows (a : Nat) (rest : List Nat) (s : State) : Grows κ s (sendPoll a rest s) := by
  unfold sendPoll
  all_goals repeat' first
    | with_reducible exact Grows.refl _
    | split
    | extract_lets
    | fail_if_no_progress (dsimp (zetaDelta := true) only)
    | fail_if_no_progress (with_reducible refine Grows.update rfl rfl rfl rfl ?_)

theorem beginRound_grows (s : State) : Grows κ s (beginRound s) := by
  unfold beginRound
  all_goals repeat' first
    | with_reducible exact Grows.refl _
    | split
    | extract_lets
    | fail_if_no_progress (dsimp (zetaDelta := true) only)
    | fail_if_no_progress (with_reducible refine Grows.update rfl rfl rfl rfl ?_)

theorem endRound_grows (s : State) : Grows κ s (endRound s) := by
  unfold endRound
  all_goals repeat' first
    | with_reducible exact Grows.refl _
    | split
    | extract_lets
    | fail_if_no_progress (dsimp (zetaDelta := true) only)
    | fail_if_no_progress (with_reducible refine Grows.update rfl rfl rfl rfl ?_)

theorem nextPoll_grows (n : Nat) (s : State) : Grows κ s (nextPoll n s) := by
  induction n generalizing s with
  | zero => exact Grows.refl _
  | succ n ih =>
    unfold nextPoll
    split
    · exact (beginRound_grows s).trans (ih _)
    · exact (endRound_grows s).trans (ih _)
    · exact sendPoll_grows _ _ s

theorem startExchange_grows (s : State) : Grows κ s (startExchange s) := by
  unfold startExchange
  all_goals repeat' first
    | with_reducible exact Grows.refl _
    | with_reducible refine Grows.trans ?_ (sendMessage_grows _ _)
    | with_reducible refine Grows.trans ?_ (nextPoll_grows _ _)
    | split
    | extract_lets
    | fail_if_no_progress (dsimp (zetaDelta := true) only)
    | fail_if_no_progress (with_reducible refine Grows.update rfl rfl rfl rfl ?_)

theorem endExchange_grows (e : Ended) (s : State) : Grows κ s (endExchange e s) := by
  unfold endExchange
  all_goals repeat' first
    | with_reducible exact Grows.refl _
    | split
    | extract_lets
    | fail_if_no_progress (dsimp (zetaDelta := true) only)
    | fail_if_no_progress (with_reducible refine Grows.update rfl rfl rfl rfl ?_)

theorem fillRoom_grows (s : State) : Grows κ s (fillRoom s) := by
  unfold fillRoom
  all_goals repeat' first
    | with_reducible exact Grows.refl _
    | with_reducible refine Grows.trans ?_ (refill_grows _ _)
    | split
    | extract_lets
    | fail_if_no_progress (dsimp (zetaDelta := true) only)
    | fail_if_no_progress (with_reducible refine Grows.update rfl rfl rfl rfl ?_)

theorem modDrop_grows (a : Nat) (f : Drop → Drop) (s : State) : Grows κ s (modDrop a f s) := by
  unfold modDrop
  all_goals repeat' first
    | with_reducible exact Grows.refl _
    | split
    | extract_lets
    | fail_if_no_progress (dsimp (zetaDelta := true) only)
    | fail_if_no_progress (with_reducible refine Grows.update rfl rfl rfl rfl ?_)

theorem restoreRoutes_grows (s : State) : Grows κ s (restoreRoutes s) := by
  exact forEach_grows (List.range 52) (fun _ _ => queueMessage_grows _ _ _) s

theorem dropAnswers_grows (a : Nat) (s : State) : Grows κ s (dropAnswers a s) := by
  unfold dropAnswers
  split
  · exact Grows.refl _
  dsimp only
  have h0 := modDrop_grows (κ := κ) a (fun d => { d with online := true, silences := 0 }) s
  split
  · exact h0
  have h1 := fun k f => h0.trans (queueEvent_grows k f _)
  split
  · exact (h1 _ _).trans (deskBack_grows _ _)
  · exact (h1 _ _).trans (restoreRoutes_grows _)
  · exact h1 _ _

theorem dropGoesOffline_grows (hn : κ.notices = false) (a : Nat) (kind : DropKind) (s : State) : Grows κ s (dropGoesOffline a kind s) := by
  unfold dropGoesOffline
  dsimp only
  all_goals repeat' first
    | with_reducible exact Grows.refl _
    | with_reducible refine Grows.trans ?_ (queueEvent_grows _ _ _)
    | with_reducible refine Grows.trans ?_ (modDrop_grows _ _ _)
    | with_reducible refine Grows.trans ?_ (removeMessages_grows _ _)
    | with_reducible refine Grows.trans ?_ (deskOffline_grows hn _ _)
    | with_reducible refine Grows.trans ?_ (slotOffline_grows _ _)
    | split
    | fail_if_no_progress (with_reducible refine Grows.update rfl rfl rfl rfl ?_)

theorem countSilence_grows (hn : κ.notices = false) (a : Nat) (s : State) : Grows κ s (countSilence a s) := by
  unfold countSilence
  all_goals repeat' first
    | with_reducible exact Grows.refl _
    | with_reducible refine Grows.trans ?_ (modDrop_grows _ _ _)
    | with_reducible refine Grows.trans ?_ (dropGoesOffline_grows hn _ _ _)
    | split
    | extract_lets
    | fail_if_no_progress (dsimp (zetaDelta := true) only)
    | fail_if_no_progress (with_reducible refine Grows.update rfl rfl rfl rfl ?_)

theorem answered_grows  (a : Nat) (kind : MsgKind) {act : Ended → State → State}
    (h : ∀ e s, Grows κ s (act e s)) (s : State) : Grows κ s (answered a kind act s) := by
  unfold answered
  split
  · exact Grows.refl _
  · exact ((endExchange_grows _ _).trans (dropAnswers_grows _ _)).trans ((h _ _).trans (fillRoom_grows _))

theorem takeKeys_grows (hn : κ.notices = false) (d : Nat) (ks : List Key) (s : State) : Grows κ s (takeKeys d ks s) := by
  unfold takeKeys
  all_goals repeat' first
    | with_reducible exact Grows.refl _
    | with_reducible refine Grows.trans ?_ (settle_grows hn _)
    | with_reducible refine Grows.trans ?_ (takeKey_grows hn _ _ _)
    | with_reducible refine Grows.trans ?_ (foldl_grows _ (fun _ _ => ?_) _)
    | split
    | extract_lets
    | fail_if_no_progress (dsimp (zetaDelta := true) only)
    | fail_if_no_progress (with_reducible refine Grows.update rfl rfl rfl rfl ?_)

theorem hearDesk_grows (hn : κ.notices = false) (d : Nat) (ks : List Key) (s : State) : Grows κ s (hearDesk d ks s) := by
  unfold hearDesk
  refine answered_grows _ _ (fun _ s => ?_) _
  split
  · exact Grows.refl _
  · exact takeKeys_grows hn _ _ _

theorem hearIdentify_grows (k : Nat) (r : Option Receiver) (s : State) : Grows κ s (hearIdentify k r s) := by
  unfold hearIdentify
  all_goals repeat' first
    | with_reducible exact Grows.refl _
    | with_reducible refine Grows.trans ?_ (slotBack_grows _ _ _)
    | with_reducible refine Grows.trans ?_ (removeReceiver_grows _ _)
    | with_reducible refine Grows.trans ?_ (hearReceiver_grows _ _ _)
    | split
    | extract_lets
    | fail_if_no_progress (dsimp (zetaDelta := true) only)
    | fail_if_no_progress (with_reducible refine Grows.update rfl rfl rfl rfl ?_)

theorem setPhase_grows (n : Nat) (ph : IssuePhase) (removal : Option Nat) (s : State) : Grows κ s (setPhase n ph removal s) := by
  unfold setPhase
  all_goals repeat' first
    | with_reducible exact Grows.refl _
    | split
    | extract_lets
    | fail_if_no_progress (dsimp (zetaDelta := true) only)
    | fail_if_no_progress (with_reducible refine Grows.update rfl rfl rfl rfl ?_)

theorem hearPreset_grows (k : Nat) (m : Message) (s : State) : Grows κ s (hearPreset k m s) := by
  unfold hearPreset
  all_goals repeat' first
    | with_reducible exact Grows.refl _
    | with_reducible refine Grows.trans ?_ (queueMessage_grows _ _ _)
    | with_reducible refine Grows.trans ?_ (modSlot_grows _ _ _)
    | with_reducible refine Grows.trans ?_ (setPhase_grows _ _ _ _)
    | split
    | extract_lets
    | fail_if_no_progress (dsimp (zetaDelta := true) only)
    | fail_if_no_progress (with_reducible refine Grows.update rfl rfl rfl rfl ?_)

theorem hearLatch_grows (m : Message) (s : State) : Grows κ s (hearLatch m s) := by
  unfold hearLatch
  all_goals repeat' first
    | with_reducible exact Grows.refl _
    | with_reducible refine Grows.trans ?_ (setPhase_grows _ _ _ _)
    | split
    | extract_lets
    | fail_if_no_progress (dsimp (zetaDelta := true) only)
    | fail_if_no_progress (with_reducible refine Grows.update rfl rfl rfl rfl ?_)

theorem hearClearMark_grows (k : Nat) (m : Message) (s : State) : Grows κ s (hearClearMark k m s) := by
  unfold hearClearMark
  all_goals repeat' first
    | with_reducible exact Grows.refl _
    | with_reducible refine Grows.trans ?_ (modSlot_grows _ _ _)
    | split
    | extract_lets
    | fail_if_no_progress (dsimp (zetaDelta := true) only)
    | fail_if_no_progress (with_reducible refine Grows.update rfl rfl rfl rfl ?_)

set_option maxHeartbeats 1000000 in
theorem silent_grows (hn : κ.notices = false) (a : Nat) (kind : MsgKind) (s : State) : Grows κ s (silent a kind s) := by
  unfold silent
  dsimp only
  all_goals repeat' first
    | with_reducible exact Grows.refl _
    | with_reducible refine Grows.trans ?_ (endExchange_grows _ _)
    | with_reducible refine Grows.trans ?_ (fillRoom_grows _)
    | with_reducible refine Grows.trans ?_ (countSilence_grows hn _ _)
    | with_reducible refine Grows.trans ?_ (failIssue_grows _ _ _ _)
    | with_reducible refine Grows.trans ?_ (queueMessage_grows _ _ _)
    | split
    | fail_if_no_progress (with_reducible refine Grows.update rfl rfl rfl rfl ?_)

theorem cutExchange_grows (s : State) : Grows κ s (cutExchange s) := by
  unfold cutExchange
  all_goals repeat' first
    | with_reducible exact Grows.refl _
    | split
    | extract_lets
    | fail_if_no_progress (dsimp (zetaDelta := true) only)
    | fail_if_no_progress (with_reducible refine Grows.update rfl rfl rfl rfl ?_)

theorem tellLine_grows (s : State) : Grows κ s (tellLine s) := by
  unfold tellLine
  all_goals repeat' first
    | with_reducible exact Grows.refl _
    | with_reducible refine Grows.trans ?_ (queueEvent_grows _ _ _)
    | split
    | extract_lets
    | fail_if_no_progress (dsimp (zetaDelta := true) only)
    | fail_if_no_progress (with_reducible refine Grows.update rfl rfl rfl rfl ?_)

theorem goOffLine_grows (hc : κ.claims = false) (hn : κ.notices = false) (s : State) : Grows κ s (goOffLine s) := by
  unfold goOffLine
  refine Grows.trans (s := { s with
      line.state := .offLine
      line.queue := s.line.queue.map fun f => { f with sending := none }
      line.peers := []
      line.sequences := 0 }) ?_ ?_
  · refine ⟨rfl, fun _ => by simp, List.prefix_rfl, id, fun f hf hs _ => Or.inl ?_⟩
    exact List.mem_map.2 ⟨f, hf, by cases f; simp_all⟩
  · refine Grows.trans ?_ (tellLine_grows _)
    refine Grows.trans ?_ (endFeeds_grows hc hn _ _ _)
    exact unconfirmClaims_grows hc _

theorem testScores_grows (hc : κ.claims = false) (hn : κ.notices = false) (s : State) : Grows κ s (testScores s) := by
  unfold testScores
  split
  · exact Grows.refl _
  split
  · exact goOffLine_grows hc hn _
  split
  · refine Grows.trans (s := { s with line.state := .quiet }) ?_ (tellLine_grows _)
    exact ⟨rfl, fun _ => by simp, List.prefix_rfl, id, fun _ hf _ _ => Or.inl hf⟩
  split
  · refine Grows.trans (s := { s with line.state := .joined }) ?_ (tellLine_grows _)
    exact ⟨rfl, fun _ => by simp, List.prefix_rfl, id, fun _ hf _ _ => Or.inl hf⟩
  · exact Grows.refl _

theorem startPresence_grows (hp : κ.presence = false) (s : State) : Grows κ s (startPresence s) := by
  unfold startPresence
  all_goals repeat' first
    | with_reducible exact Grows.refl _
    | with_reducible refine Grows.trans ?_ (queuePresence_grows hp _)
    | split
    | extract_lets
    | fail_if_no_progress (dsimp (zetaDelta := true) only)
    | fail_if_no_progress (with_reducible refine Grows.update rfl rfl rfl rfl ?_)

theorem joinLine_grows (hp : κ.presence = false) (s : State) : Grows κ s (joinLine s) := by
  unfold joinLine
  split
  · refine Grows.trans (s := { s with line.state := .joined }) ?_ (startPresence_grows hp _)
    exact ⟨rfl, fun _ => by simp, List.prefix_rfl, id, fun _ hf _ _ => Or.inl hf⟩
  · exact Grows.refl _

theorem rejoinLine_grows (hc : κ.claims = false) (hn : κ.notices = false) (hp : κ.presence = false) (s : State) : Grows κ s (rejoinLine s) := by
  unfold rejoinLine
  split
  · refine Grows.trans ?_ (tellLine_grows _)
    refine Grows.trans ?_ (regrant_grows hn _)
    refine Grows.trans ?_ (reannounce_grows hc _)
    refine Grows.trans (s := { s with
        line.state := .joined, line.txScore := 0, line.rxScore := 0, line.sequences := 0
        line.epoch := (s.line.epoch + 1) % 256 }) ?_ (startPresence_grows hp _)
    exact ⟨rfl, fun _ => by simp, List.prefix_rfl, id, fun _ hf _ _ => Or.inl hf⟩
  · exact Grows.refl _

theorem countSequence_grows (hc : κ.claims = false) (hn : κ.notices = false) (hp : κ.presence = false) (s : State) : Grows κ s (countSequence s) := by
  unfold countSequence
  split
  · dsimp only
    split
    · exact rejoinLine_grows hc hn hp _
    · exact Grows.of_same rfl rfl rfl rfl
  · exact Grows.refl _

theorem expirePresence_grows (hp : κ.presence = false) (s : State) : Grows κ s (expirePresence s) := by
  unfold expirePresence
  all_goals repeat' first
    | with_reducible exact Grows.refl _
    | with_reducible refine Grows.trans ?_ (queuePresence_grows hp _)
    | split
    | extract_lets
    | fail_if_no_progress (dsimp (zetaDelta := true) only)
    | fail_if_no_progress (with_reducible refine Grows.update rfl rfl rfl rfl ?_)

theorem dropPeerClaims_grows (hc : κ.claims = false) (q : Nat) (s : State) : Grows κ s (dropPeerClaims q s) := by
  unfold dropPeerClaims
  all_goals repeat' first
    | with_reducible exact Grows.refl _
    | with_reducible refine Grows.trans ?_ (searchWaiting_grows hc _ _)
    | with_reducible refine Grows.trans ?_ (recomputeZone_grows hc _)
    | split
    | extract_lets
    | fail_if_no_progress (dsimp (zetaDelta := true) only)
    | fail_if_no_progress (with_reducible refine Grows.update rfl rfl rfl rfl ?_)

theorem dropPeerListener_grows (hc : κ.claims = false) (hn : κ.notices = false) (q : Nat) (s : State) : Grows κ s (dropPeerListener q s) := by
  unfold dropPeerListener
  all_goals repeat' first
    | with_reducible exact Grows.refl _
    | with_reducible refine Grows.trans ?_ (leaveExport_grows hc hn _ _ _ _)
    | with_reducible refine Grows.trans ?_ (forEach_grows _ (fun _ _ => ?_) _)
    | split
    | extract_lets
    | fail_if_no_progress (dsimp (zetaDelta := true) only)
    | fail_if_no_progress (with_reducible refine Grows.update rfl rfl rfl rfl ?_)

theorem dropPeer_grows (hc : κ.claims = false) (hn : κ.notices = false) (q : Nat) (s : State) : Grows κ s (dropPeer q s) := by
  unfold dropPeer
  exact (((dropPeerClaims_grows hc q s).trans (dropPeerEntries_grows hn q _)).trans
    (dropPeerListener_grows hc hn q _)).trans (endFeeds_grows hc hn _ _ _)

theorem losePeer_grows (hc : κ.claims = false) (hn : κ.notices = false) (q : Nat) (s : State) : Grows κ s (losePeer q s) := by
  unfold losePeer
  split
  · exact Grows.refl _
  split
  · exact Grows.refl _
  dsimp only
  refine Grows.trans ?_ (queueEvent_grows _ _ _)
  refine Grows.trans ?_ (loseOrphans_grows _ _)
  exact Grows.after (dropPeer_grows hc hn q _) rfl rfl rfl rfl

theorem notePeer_grows (hc : κ.claims = false) (hn : κ.notices = false) (q epoch : Nat) (s : State) : Grows κ s (notePeer q epoch s) := by
  unfold notePeer
  split
  · dsimp only
    refine Grows.trans ?_ (queueEvent_grows _ _ _)
    exact Grows.after (joinOrphans_grows  q _) rfl rfl rfl rfl
  split
  · exact Grows.of_same rfl rfl rfl rfl
  · dsimp only
    refine Grows.trans ?_ (queueEvent_grows _ _ _)
    refine Grows.trans ?_ (refreshOrphans_grows  q _)
    exact Grows.after (dropPeer_grows hc hn q _) rfl rfl rfl rfl

theorem takeEdges_grows (hc : κ.claims = false) (q : Nat) (edges : List (Nat × Bool)) (s : State) : Grows κ s (takeEdges q edges s) := by
  unfold takeEdges
  all_goals repeat' first
    | with_reducible exact Grows.refl _
    | with_reducible refine Grows.trans ?_ (recomputeZone_grows hc _)
    | split
    | extract_lets
    | fail_if_no_progress (dsimp (zetaDelta := true) only)
    | fail_if_no_progress (with_reducible refine Grows.update rfl rfl rfl rfl ?_)

theorem countGood_grows (hc : κ.claims = false) (hn : κ.notices = false) (s : State) : Grows κ s (countGood s) := by
  unfold countGood
  all_goals repeat' first
    | with_reducible exact Grows.refl _
    | with_reducible refine Grows.trans ?_ (testScores_grows hc hn _)
    | split
    | extract_lets
    | fail_if_no_progress (dsimp (zetaDelta := true) only)
    | fail_if_no_progress (with_reducible refine Grows.update rfl rfl rfl rfl ?_)

theorem receive_grows (hc : κ.claims = false) (hn : κ.notices = false) (f : Sender) (kind : Nat) {deliver : State → State}
    (h : ∀ s, Grows κ s (deliver s)) (s : State) : Grows κ s (receive f kind deliver s) := by
  unfold receive
  dsimp only
  (repeat' split)
  · exact Grows.refl _
  · exact (countGood_grows hc hn _).trans (queueEvent_grows _ _ _)
  · exact countGood_grows hc hn _
  · exact ((countGood_grows hc hn _).trans (notePeer_grows hc hn _ _ _)).trans (h _)

theorem receiveFaulty_grows (hc : κ.claims = false) (hn : κ.notices = false) (fault : FrameFault) (s : State) : Grows κ s (receiveFaulty fault s) := by
  unfold receiveFaulty
  all_goals repeat' first
    | with_reducible exact Grows.refl _
    | with_reducible refine Grows.trans ?_ (testScores_grows hc hn _)
    | split
    | extract_lets
    | fail_if_no_progress (dsimp (zetaDelta := true) only)
    | fail_if_no_progress (with_reducible refine Grows.update rfl rfl rfl rfl ?_)

theorem assign_grows (hn : κ.notices = false) (b : Nat) (o : Output) (c : Option Nat) (s : State) : Grows κ s (assign b o c s) := by
  unfold assign
  all_goals repeat' first
    | with_reducible exact Grows.refl _
    | with_reducible refine Grows.trans ?_ (modBooth_grows _ _ _)
    | with_reducible refine Grows.trans ?_ (recomputeChannel_grows hn _ _)
    | with_reducible refine Grows.trans ?_ (modChannel_grows _ _ _)
    | with_reducible refine Grows.trans ?_ (recheckOutputs_grows hn _ _)
    | split
    | extract_lets
    | fail_if_no_progress (dsimp (zetaDelta := true) only)
    | fail_if_no_progress (with_reducible refine Grows.update rfl rfl rfl rfl ?_)

theorem offer_grows (k a b c : Nat) (l : Tag) (s : State) : Grows κ s (offer k a b c l s) := by
  unfold offer
  all_goals repeat' first
    | with_reducible exact Grows.refl _
    | with_reducible refine Grows.trans ?_ (enqueueFrame_grows _ _ (by simp [Payload.key, Keep.has]) _)
    | split
    | extract_lets
    | fail_if_no_progress (dsimp (zetaDelta := true) only)
    | fail_if_no_progress (with_reducible refine Grows.update rfl rfl rfl rfl ?_)

theorem declineOffer_grows (hc : κ.claims = false) (hn : κ.notices = false) (k : Nat) (cause : FeedCause) (s : State) : Grows κ s (declineOffer k cause s) := by
  unfold declineOffer
  all_goals repeat' first
    | with_reducible exact Grows.refl _
    | with_reducible refine Grows.trans ?_ (endFeedContext_grows hc hn _ _ _ _)
    | with_reducible refine Grows.trans ?_ (enqueueFrame_grows _ _ (by simp [Payload.key, Keep.has, hc, hn]) _)
    | split
    | extract_lets
    | fail_if_no_progress (dsimp (zetaDelta := true) only)
    | fail_if_no_progress (with_reducible refine Grows.update rfl rfl rfl rfl ?_)

theorem acceptByHost_grows (k : Nat) (s : State) : Grows κ s (acceptByHost k s) := by
  unfold acceptByHost
  all_goals repeat' first
    | with_reducible exact Grows.refl _
    | with_reducible refine Grows.trans ?_ (modFeed_grows _ _ _)
    | with_reducible refine Grows.trans ?_ (enqueueFrame_grows _ _ (by simp [Payload.key, Keep.has]) _)
    | split
    | extract_lets
    | fail_if_no_progress (dsimp (zetaDelta := true) only)
    | fail_if_no_progress (with_reducible refine Grows.update rfl rfl rfl rfl ?_)

theorem dropClearMark_grows (k : Nat) (s : State) : Grows κ s (dropClearMark k s) := by
  unfold dropClearMark
  all_goals repeat' first
    | with_reducible exact Grows.refl _
    | with_reducible refine Grows.trans ?_ (discardMessages_grows _ _)
    | with_reducible refine Grows.trans ?_ (modSlot_grows _ _ _)
    | split
    | extract_lets
    | fail_if_no_progress (dsimp (zetaDelta := true) only)
    | fail_if_no_progress (with_reducible refine Grows.update rfl rfl rfl rfl ?_)

theorem beginIssue_grows (n k account tariff : Nat) (asked : Option Tag) (deposit : Nat) (s : State) : Grows κ s (beginIssue n k account tariff asked deposit s) := by
  unfold beginIssue
  dsimp only
  all_goals repeat' first
    | with_reducible exact Grows.refl _
    | with_reducible refine Grows.trans ?_ (modSlot_grows _ _ _)
    | with_reducible refine Grows.trans ?_ (queueEvent_grows _ _ _)
    | with_reducible refine Grows.trans ?_ (dropClearMark_grows _ _)
    | with_reducible refine Grows.trans ?_ (queueMessage_grows _ _ _)
    | split
    | fail_if_no_progress (with_reducible refine Grows.update rfl rfl rfl rfl ?_)

theorem declare_grows (serial account : Nat) (s : State) : Grows κ s (declare serial account s) := by
  unfold declare
  all_goals repeat' first
    | with_reducible exact Grows.refl _
    | with_reducible refine Grows.trans ?_ (joinLost_grows _ _ _)
    | with_reducible refine Grows.trans ?_ (closeHire_grows _ _ _ _ _)
    | split
    | extract_lets
    | fail_if_no_progress (dsimp (zetaDelta := true) only)
    | fail_if_no_progress (with_reducible refine Grows.update rfl rfl rfl rfl ?_)

end Sys2Proof.Machine
end

