-- ==== Sys2Proof/Laws/PerInstr.lean ====
section
/-! SUPPORT. A law of every command as syntax: a frame the outside world can spell carries a payload in the ranges of
R175, so that its own bits read back. One lemma for each constructor. -/

set_option linter.unusedSimpArgs false

namespace Sys2Proof.Laws.FrameFields

open Sys2Proof.Machine

/-- The payload of a received frame that is delivered (section 9.1). -/
def heard : Instr → Option Payload
  | .claim _ refresh sc c l => some (.claim (.subcarrier sc) (if refresh then .refresh else .claim) c l)
  | .claimRelease _ r c l => some (.claim r .release c l)
  | .trunkClaim _ refresh t c l => some (.claim (.trunk t) (if refresh then .refresh else .claim) c l)
  | .relayRequest _ c b => some (.relayRequest c b)
  | .relayAnswer _ c o => some (.relayAnswer c o)
  | .relayRelease _ c b => some (.relayRelease c b)
  | .channelNotice _ c l st t p => some (.channelNotice c l st t p)
  | .feedOffer _ b l c p => some (.feedOffer b l c p)
  | .feedAnswer _ b c a => some (.feedAnswer b c a)
  | .feedStateReady _ b c t => some (.feedState b c (.ready t))
  | .feedStateLive _ b c p => some (.feedState b c (.live p))
  | .feedStateSilent _ b c => some (.feedState b c .silent)
  | .feedStateEnd _ b c r => some (.feedState b c (.ended r))
  | .returnQuery _ s m b => some (.returnQuery s m b)
  | .returnAnswer _ s o => some (.returnAnswer s o)
  | .presence _ e => some (.presence e)
  | _ => none

/-- A well-formed frame carries a payload in range (R175). -/
def Statement (i : Instr) : Prop := i.wellFormed = true → ∀ p, heard i = some p → p.ok = true

/-- What carries no payload meets the statement. -/
theorem of_unheard {i : Instr} (h : heard i = none) : Statement i := by
  intro _ p hp
  rw [h] at hp
  contradiction

theorem configure (params : List Byte) : Statement (.configure params) := of_unheard rfl

theorem start (params : List Byte) : Statement (.start params) := of_unheard rfl

theorem setClock (params : List Byte) : Statement (.setClock params) := of_unheard rfl

theorem setHallState (params : List Byte) : Statement (.setHallState params) := of_unheard rfl

theorem setFloorLanguage (params : List Byte) : Statement (.setFloorLanguage params) := of_unheard rfl

theorem openChannel (params : List Byte) : Statement (.openChannel params) := of_unheard rfl

theorem closeChannel (params : List Byte) : Statement (.closeChannel params) := of_unheard rfl

theorem assignOutput (params : List Byte) : Statement (.assignOutput params) := of_unheard rfl

theorem selectRelay (params : List Byte) : Statement (.selectRelay params) := of_unheard rfl

theorem offerFeed (params : List Byte) : Statement (.offerFeed params) := of_unheard rfl

theorem answerFeed (params : List Byte) : Statement (.answerFeed params) := of_unheard rfl

theorem endFeed (params : List Byte) : Statement (.endFeed params) := of_unheard rfl

theorem issue (params : List Byte) : Statement (.issue params) := of_unheard rfl

theorem cancelIssue (params : List Byte) : Statement (.cancelIssue params) := of_unheard rfl

theorem declareLost (params : List Byte) : Statement (.declareLost params) := of_unheard rfl

theorem readHire (params : List Byte) : Statement (.readHire params) := of_unheard rfl

theorem readAccount (params : List Byte) : Statement (.readAccount params) := of_unheard rfl

theorem readSettlement (params : List Byte) : Statement (.readSettlement params) := of_unheard rfl

theorem readChannel (params : List Byte) : Statement (.readChannel params) := of_unheard rfl

theorem readBooth (params : List Byte) : Statement (.readBooth params) := of_unheard rfl

theorem readPeer (params : List Byte) : Statement (.readPeer params) := of_unheard rfl

theorem readStatus (params : List Byte) : Statement (.readStatus params) := of_unheard rfl

theorem readEvent (params : List Byte) : Statement (.readEvent params) := of_unheard rfl

theorem answerTransfer (shifted : Nat) : Statement (.answerTransfer shifted) := of_unheard rfl

theorem incompleteTransfer (sent : List Byte) : Statement (.incompleteTransfer sent) := of_unheard rfl

theorem unknownCommandCode (code : Byte) (params : List Byte) : Statement (.unknownCommandCode code params) := of_unheard rfl

theorem claim (sender : Sender) (refresh : Bool) (subcarrier channel : Nat) (language : Tag) : Statement (.claim sender refresh subcarrier channel language) := by
  intro h p hp
  cases hp
  simp_all [Instr.wellFormed, Payload.ok, Resource.ok]

theorem claimRelease (sender : Sender) (resource : Resource) (channel : Nat) (language : Tag) : Statement (.claimRelease sender resource channel language) := by
  intro h p hp
  cases hp
  simp_all [Instr.wellFormed, Payload.ok, Resource.ok]

theorem trunkClaim (sender : Sender) (refresh : Bool) (trunk channel : Nat) (language : Tag) : Statement (.trunkClaim sender refresh trunk channel language) := by
  intro h p hp
  cases hp
  simp_all [Instr.wellFormed, Payload.ok, Resource.ok]

theorem relayRequest (sender : Sender) (channel booth : Nat) : Statement (.relayRequest sender channel booth) := by
  intro h p hp
  cases hp
  simp_all [Instr.wellFormed, Payload.ok, Resource.ok]

theorem relayAnswer (sender : Sender) (channel : Nat) (outcome : RelayOutcome) : Statement (.relayAnswer sender channel outcome) := by
  intro h p hp
  cases hp
  simp_all [Instr.wellFormed, Payload.ok, Resource.ok]

theorem relayRelease (sender : Sender) (channel booth : Nat) : Statement (.relayRelease sender channel booth) := by
  intro h p hp
  cases hp
  simp_all [Instr.wellFormed, Payload.ok, Resource.ok]

theorem channelNotice (sender : Sender) (channel : Nat) (language : Tag) (state : NoticeState) (trunk : Option Nat) (pedigree : Pedigree) : Statement (.channelNotice sender channel language state trunk pedigree) := by
  intro h p hp
  cases hp
  simp_all [Instr.wellFormed, Payload.ok, Resource.ok]

theorem feedOffer (sender : Sender) (booth : Nat) (language : Tag) (channel : Nat) (pedigree : Pedigree) : Statement (.feedOffer sender booth language channel pedigree) := by
  intro h p hp
  cases hp
  simp_all [Instr.wellFormed, Payload.ok, Resource.ok]

theorem feedAnswer (sender : Sender) (booth channel : Nat) (accept : Bool) : Statement (.feedAnswer sender booth channel accept) := by
  intro h p hp
  cases hp
  simp_all [Instr.wellFormed, Payload.ok, Resource.ok]

theorem feedStateReady (sender : Sender) (booth channel trunk : Nat) : Statement (.feedStateReady sender booth channel trunk) := by
  intro h p hp
  cases hp
  simp_all [Instr.wellFormed, Payload.ok, Resource.ok]

theorem feedStateLive (sender : Sender) (booth channel : Nat) (pedigree : Pedigree) : Statement (.feedStateLive sender booth channel pedigree) := by
  intro h p hp
  cases hp
  simp_all [Instr.wellFormed, Payload.ok, Resource.ok]

theorem feedStateSilent (sender : Sender) (booth channel : Nat) : Statement (.feedStateSilent sender booth channel) := by
  intro h p hp
  cases hp
  simp_all [Instr.wellFormed, Payload.ok, Resource.ok]

theorem feedStateEnd (sender : Sender) (booth channel : Nat) (reason : EndReason) : Statement (.feedStateEnd sender booth channel reason) := by
  intro h p hp
  cases hp
  simp_all [Instr.wellFormed, Payload.ok, Resource.ok]

theorem returnQuery (sender : Sender) (serial minute battery : Nat) : Statement (.returnQuery sender serial minute battery) := by
  intro h p hp
  cases hp
  simp_all [Instr.wellFormed, Payload.ok, Resource.ok]

theorem returnAnswer (sender : Sender) (serial : Nat) (outcome : ReturnOutcome) : Statement (.returnAnswer sender serial outcome) := by
  intro h p hp
  cases hp
  simp_all [Instr.wellFormed, Payload.ok, Resource.ok]

theorem presence (sender : Sender) (edges : List (Nat × Bool)) : Statement (.presence sender edges) := by
  intro h p hp
  cases hp
  simp_all [Instr.wellFormed, Payload.ok, Resource.ok]

theorem duplicateStation (kind epoch : Nat) : Statement (.duplicateStation kind epoch) := of_unheard rfl

theorem frameForOtherStation (frame : LineFrame) : Statement (.frameForOtherStation frame) := of_unheard rfl

theorem receiveFault (fault : FrameFault) : Statement (.receiveFault fault) := of_unheard rfl

theorem frameTransmitStart : Statement .frameTransmitStart := of_unheard rfl

theorem lostArbitration : Statement .lostArbitration := of_unheard rfl

theorem transmitSuccess : Statement .transmitSuccess := of_unheard rfl

theorem transmitFailure (fault : SendFault) : Statement (.transmitFailure fault) := of_unheard rfl

theorem lineJoined : Statement .lineJoined := of_unheard rfl

theorem rejoin : Statement .rejoin := of_unheard rfl

theorem presenceTimer : Statement .presenceTimer := of_unheard rfl

theorem peerLost (station : Nat) : Statement (.peerLost station) := of_unheard rfl

theorem claimWindowExpiry (channel : Nat) : Statement (.claimWindowExpiry channel) := of_unheard rfl

theorem trunkWindowExpiry (trunk : Nat) : Statement (.trunkWindowExpiry trunk) := of_unheard rfl

theorem claimRefresh (channel : Nat) : Statement (.claimRefresh channel) := of_unheard rfl

theorem trunkRefresh (trunk : Nat) : Statement (.trunkRefresh trunk) := of_unheard rfl

theorem peerClaimExpiry (station subcarrier : Nat) : Statement (.peerClaimExpiry station subcarrier) := of_unheard rfl

theorem peerTrunkExpiry (trunk : Nat) : Statement (.peerTrunkExpiry trunk) := of_unheard rfl

theorem directoryExpiry (station channel : Nat) : Statement (.directoryExpiry station channel) := of_unheard rfl

theorem noticeTimer (channel : Nat) : Statement (.noticeTimer channel) := of_unheard rfl

theorem relayAnswerWait (booth : Nat) : Statement (.relayAnswerWait booth) := of_unheard rfl

theorem feedAnswerWait (context : Nat) : Statement (.feedAnswerWait context) := of_unheard rfl

theorem hostAnswerWait (context : Nat) : Statement (.hostAnswerWait context) := of_unheard rfl

theorem readyWait (context : Nat) : Statement (.readyWait context) := of_unheard rfl

theorem blockedWait (context : Nat) : Statement (.blockedWait context) := of_unheard rfl

theorem overlapTimer (booth : Nat) : Statement (.overlapTimer booth) := of_unheard rfl

theorem removalTimer (context : Nat) : Statement (.removalTimer context) := of_unheard rfl

theorem orphanAnswerWait (serial : Nat) : Statement (.orphanAnswerWait serial) := of_unheard rfl

theorem wallInputChange (input : Nat) (isOpen : Bool) : Statement (.wallInputChange input isOpen) := of_unheard rfl

theorem wallDebounce (input : Nat) : Statement (.wallDebounce input) := of_unheard rfl

theorem secondTick : Statement .secondTick := of_unheard rfl

theorem minuteTick : Statement .minuteTick := of_unheard rfl

theorem deadCell (slot : Nat) : Statement (.deadCell slot) := of_unheard rfl

theorem chargeTimeout (slot : Nat) : Statement (.chargeTimeout slot) := of_unheard rfl

theorem overdue (serial : Nat) : Statement (.overdue serial) := of_unheard rfl

theorem mapCycleEnd : Statement .mapCycleEnd := of_unheard rfl

theorem retuneHoldExpiry : Statement .retuneHoldExpiry := of_unheard rfl

theorem maskWordSent : Statement .maskWordSent := of_unheard rfl

theorem panelExchangeStart : Statement .panelExchangeStart := of_unheard rfl

theorem deskPollReply (desk : Nat) (keys : List Key) : Statement (.deskPollReply desk keys) := of_unheard rfl

theorem slotPollReply (slot : Nat) (occupied latchOpen : Bool) : Statement (.slotPollReply slot occupied latchOpen) := of_unheard rfl

theorem identifyReply (slot : Nat) (receiver : Option Receiver) : Statement (.identifyReply slot receiver) := of_unheard rfl

theorem presetAnswered (slot : Nat) : Statement (.presetAnswered slot) := of_unheard rfl

theorem latchAnswered (slot : Nat) : Statement (.latchAnswered slot) := of_unheard rfl

theorem clearMarkAnswered (slot : Nat) : Statement (.clearMarkAnswered slot) := of_unheard rfl

theorem messageAnswered (drop : Nat) (kind : MsgKind) : Statement (.messageAnswered drop kind) := of_unheard rfl

theorem exchangeSilent (drop : Nat) (kind : MsgKind) : Statement (.exchangeSilent drop kind) := of_unheard rfl

theorem supplyLow : Statement .supplyLow := of_unheard rfl

theorem supplyRiseAboveWarn (checkMatches : Bool) : Statement (.supplyRiseAboveWarn checkMatches) := of_unheard rfl

theorem enterRetain : Statement .enterRetain := of_unheard rfl

theorem resetAsserted : Statement .resetAsserted := of_unheard rfl

theorem resetReleased (checkMatches : Bool) : Statement (.resetReleased checkMatches) := of_unheard rfl

theorem mainPowerApplied (aboveWarn retentionPresent : Bool) : Statement (.mainPowerApplied aboveWarn retentionPresent) := of_unheard rfl

theorem retentionSupplyFails : Statement .retentionSupplyFails := of_unheard rfl

theorem recessiveSequence : Statement .recessiveSequence := of_unheard rfl

end Sys2Proof.Laws.FrameFields
end

