-- ==== Sys2Proof/Laws/Settle.lean ====
section
/-! SUPPORT. How a step settles: what it leaves alone, and the two device laws it restores (R91, R95). Then what an
event and a complete block can do. -/

namespace Sys2Proof.Machine

/-- The parts that settling writes. -/
def settleParts : Parts :=
  { events := true, notices := true, deskShow := true, lineQueue := true, outbound := true, routes := true
    mapBack := true }

/-- Settling leaves everything but those parts as it was. -/
theorem settle_blank (s : State) : (settle s).blank settleParts = s.blank settleParts :=
  settle_frame rfl rfl rfl rfl rfl rfl rfl s

@[simp] theorem settle_pending (s : State) : (settle s).pending = s.pending :=
  same_pending (settle_blank s)

@[simp] theorem settle_clock (s : State) : (settle s).clock = s.clock :=
  same_clock (settle_blank s)

@[simp] theorem settle_port (s : State) : (settle s).port = s.port :=
  same_port (settle_blank s)

@[simp] theorem settle_planner_hall (s : State) : (settle s).planner.hall = s.planner.hall :=
  same_planner_hall (settle_blank s) rfl

@[simp] theorem settle_planner_floorTag (s : State) : (settle s).planner.floorTag = s.planner.floorTag :=
  same_planner_floorTag (settle_blank s) rfl

@[simp] theorem settle_planner_zone (s : State) : (settle s).planner.zone = s.planner.zone :=
  same_planner_zone (settle_blank s) rfl

@[simp] theorem settle_planner_peerClaims (s : State) : (settle s).planner.peerClaims = s.planner.peerClaims :=
  same_planner_peerClaims (settle_blank s) rfl

@[simp] theorem settle_planner_trunks (s : State) : (settle s).planner.trunks = s.planner.trunks :=
  same_planner_trunks (settle_blank s) rfl

@[simp] theorem settle_planner_walls (s : State) : (settle s).planner.walls = s.planner.walls :=
  same_planner_walls (settle_blank s) rfl

@[simp] theorem settle_booth_booths (s : State) : (settle s).booth.booths = s.booth.booths :=
  same_booth_booths (settle_blank s) rfl rfl

@[simp] theorem settle_relay (s : State) : (settle s).relay = s.relay :=
  same_relay (settle_blank s) rfl rfl

@[simp] theorem settle_feed (s : State) : (settle s).feed = s.feed :=
  same_feed (settle_blank s) rfl rfl

@[simp] theorem settle_map_front (s : State) : (settle s).map.front = s.map.front :=
  same_map_front (settle_blank s) rfl

@[simp] theorem settle_map_holdCount (s : State) : (settle s).map.holdCount = s.map.holdCount :=
  same_map_holdCount (settle_blank s) rfl

@[simp] theorem settle_map_radiator (s : State) : (settle s).map.radiator = s.map.radiator :=
  same_map_radiator (settle_blank s) rfl

@[simp] theorem settle_map_driver (s : State) : (settle s).map.driver = s.map.driver :=
  same_map_driver (settle_blank s) rfl

@[simp] theorem settle_line_state (s : State) : (settle s).line.state = s.line.state :=
  same_line_state (settle_blank s) rfl

@[simp] theorem settle_line_txScore (s : State) : (settle s).line.txScore = s.line.txScore :=
  same_line_txScore (settle_blank s) rfl

@[simp] theorem settle_line_rxScore (s : State) : (settle s).line.rxScore = s.line.rxScore :=
  same_line_rxScore (settle_blank s) rfl

@[simp] theorem settle_line_epoch (s : State) : (settle s).line.epoch = s.line.epoch :=
  same_line_epoch (settle_blank s) rfl

@[simp] theorem settle_line_sequences (s : State) : (settle s).line.sequences = s.line.sequences :=
  same_line_sequences (settle_blank s) rfl

@[simp] theorem settle_line_presence (s : State) : (settle s).line.presence = s.line.presence :=
  same_line_presence (settle_blank s) rfl

@[simp] theorem settle_line_peers (s : State) : (settle s).line.peers = s.line.peers :=
  same_line_peers (settle_blank s) rfl

@[simp] theorem settle_line_drive (s : State) : (settle s).line.drive = s.line.drive :=
  same_line_drive (settle_blank s) rfl

@[simp] theorem settle_panel_drops (s : State) : (settle s).panel.drops = s.panel.drops :=
  same_panel_drops (settle_blank s) rfl

@[simp] theorem settle_panel_exchange (s : State) : (settle s).panel.exchange = s.panel.exchange :=
  same_panel_exchange (settle_blank s) rfl

@[simp] theorem settle_panel_out (s : State) : (settle s).panel.out = s.panel.out :=
  same_panel_out (settle_blank s) rfl

@[simp] theorem settle_panel_round (s : State) : (settle s).panel.round = s.panel.round :=
  same_panel_round (settle_blank s) rfl

@[simp] theorem settle_panel_rotation (s : State) : (settle s).panel.rotation = s.panel.rotation :=
  same_panel_rotation (settle_blank s) rfl

@[simp] theorem settle_panel_polls (s : State) : (settle s).panel.polls = s.panel.polls :=
  same_panel_polls (settle_blank s) rfl

@[simp] theorem settle_dock (s : State) : (settle s).dock = s.dock :=
  same_dock (settle_blank s) rfl rfl rfl

@[simp] theorem settle_ledger (s : State) : (settle s).ledger = s.ledger :=
  same_ledger (settle_blank s) rfl rfl rfl

@[simp] theorem settle_account (s : State) : (settle s).account = s.account :=
  same_account (settle_blank s) rfl

/-- Settling keeps every channel, but for its notice timer and announced state. -/
theorem settle_channels_core (s : State) :
    Tab.mapAll (settle s).planner.channels Channel.core = Tab.mapAll s.planner.channels Channel.core :=
  same_channels_core (settle_blank s) rfl rfl

/-- Settling keeps every desk, but for what it shows. -/
theorem settle_desks_core (s : State) :
    Tab.mapAll (settle s).booth.desks Desk.core = Tab.mapAll s.booth.desks Desk.core :=
  same_desks_core (settle_blank s) rfl

@[simp] theorem settle_running (s : State) : (settle s).running = s.running := by simp [State.running]

@[simp] theorem settle_cfg (s : State) : (settle s).cfg = s.cfg := by simp [State.cfg]

@[simp] theorem settle_self (s : State) : (settle s).self = s.self := by simp [State.self]

/-! ### The device laws settling restores -/

theorem onAirSubcarriers_eq_of_channels {s t : State} (h : s.planner.channels = t.planner.channels) :
    s.onAirSubcarriers = t.onAirSubcarriers := by simp [State.onAirSubcarriers, h]

theorem sendMaskWord_mask (s : State) : (sendMaskWord s).map.mask = s.map.mask := by
  unfold sendMaskWord; split <;> rfl

theorem sendMaskWord_back (s : State) : (sendMaskWord s).map.back = s.map.back := by
  unfold sendMaskWord; split <;> rfl

theorem syncMask_back (s : State) : (syncMask s).map.back = s.map.back := by
  unfold syncMask
  simp only
  split
  · rfl
  · exact sendMaskWord_back _

theorem syncMask_mask (s : State) : (syncMask s).map.mask = s.onAirSubcarriers := by
  unfold syncMask
  simp only
  split
  · rename_i h; exact h.symm
  · rw [sendMaskWord_mask]

/-- The parts the mask writes. -/
theorem syncMask_planner (s : State) : (syncMask s).planner = s.planner := by
  unfold syncMask sendMaskWord
  simp only
  repeat' split
  all_goals rfl

theorem syncMask_clock (s : State) : (syncMask s).clock = s.clock := by
  unfold syncMask sendMaskWord
  simp only
  repeat' split
  all_goals rfl

theorem syncMask_front (s : State) : (syncMask s).map.front = s.map.front := by
  unfold syncMask sendMaskWord
  simp only
  repeat' split
  all_goals rfl

/-- The map a state gives depends on its channels, hall state, station number and front version. -/
theorem mapNow_congr {s t : State} (hp : s.planner = t.planner) (hc : s.clock = t.clock)
    (hf : s.map.front = t.map.front) : s.mapNow = t.mapNow := by
  simp [State.mapNow, State.mapRecords, State.mapRecord, State.mapStatus, State.channelHeld, State.self, State.cfg,
    hp, hc, hf]

/-- A settled state's mask is the set of its ON AIR subcarriers (R95). -/
theorem settle_mask (s : State) : (settle s).map.mask = (settle s).onAirSubcarriers := by
  unfold settle
  rw [syncMask_mask]
  exact onAirSubcarriers_eq_of_channels (congrArg PlannerBlock.channels (syncMask_planner _).symm)

/-- A settled state's back map is the one its channels and hall state give (R91). -/
theorem settle_back (s : State) : (settle s).map.back = (settle s).mapNow := by
  unfold settle
  rw [syncMask_back]
  generalize announce (refreshDesks (routeFloor s)) = t
  exact (mapNow_congr (t := rebuildMap t) rfl rfl rfl).trans
    (mapNow_congr (syncMask_planner _).symm (syncMask_clock _).symm (syncMask_front _).symm)

/-! ### Events and blocks -/

/-- An event acts while the blocks run, and settles. -/
theorem event_of_running (f : State → State) {s : State} (h : s.running = true) : event f s = settle (f s) := by
  simp [event, h]

/-- No event reaches blocks that do not run. -/
theorem event_of_stopped (f : State → State) {s : State} (h : s.running = false) : event f s = s := by
  simp [event, h]

/-- A block's port before anything else: the status byte goes out. -/
theorem shiftOut_of_driven {s : State} (h : s.portDriven = true) (bytes : List Byte) :
    shiftOut bytes s = { s with port.shifted := bytes } := by
  have h1 : s.clock.resetHeld = false := by simp_all [State.portDriven]
  have h2 : s.clock.station ≠ .retain := by simp_all [State.portDriven]
  simp [shiftOut, h1, h2]

/-- What a complete block does, once and for all: nothing but shifting out where the port is not driven or an answer
waits; otherwise an answer, and a change of anything else only where the command is taken (R178, R179). -/
theorem command_cases (len : Nat) (taken : StationState → Bool) (act : List Nat → State → Verdict)
    (params : List Byte) (s : State) :
    let t := shiftOut [s.statusByte] s
    command len taken act params s = t
      ∨ (∃ r, command len taken act params s = putAnswer r [] t)
      ∨ (∃ data, command len taken act params s = putAnswer .done data t)
      ∨ (∃ data u, act (numbers params) t = .took data u
          ∧ command len taken act params s = putAnswer .done data u)
      ∨ ∃ data u, act (numbers params) t = .accept data u
          ∧ command len taken act params s = putAnswer .done data (settle u) := by
  simp only [command]
  repeat' split
  · exact Or.inl rfl
  · exact Or.inr (Or.inl ⟨_, rfl⟩)
  · exact Or.inr (Or.inl ⟨_, rfl⟩)
  · exact Or.inr (Or.inl ⟨_, rfl⟩)
  · exact Or.inr (Or.inr (Or.inl ⟨_, rfl⟩))
  · rename_i data u h
    exact Or.inr (Or.inr (Or.inr (Or.inl ⟨data, u, h, rfl⟩)))
  · rename_i data u h
    exact Or.inr (Or.inr (Or.inr (Or.inr ⟨data, u, h, rfl⟩)))

/-- A block that is checked through to its own tests (R179). -/
theorem command_tested {len : Nat} {taken : StationState → Bool} {act : List Nat → State → Verdict}
    {params : List Byte} {s : State} (hd : s.portDriven = true) (ha : s.port.answer = none)
    (hl : params.length = len) (ht : taken s.clock.station = true) :
    command len taken act params s =
      match act (numbers params) { s with port.shifted := [s.statusByte] } with
      | .refuse r => putAnswer r [] { s with port.shifted := [s.statusByte] }
      | .tell data => putAnswer .done data { s with port.shifted := [s.statusByte] }
      | .took data u => putAnswer .done data u
      | .accept data u => putAnswer .done data (settle u) := by
  unfold command
  simp only [shiftOut_of_driven hd]
  simp only [hd, ha, hl, ht, Bool.not_true, Option.isSome_none, Bool.or_self, ne_eq, not_true_eq_false,
    Bool.false_eq_true, ↓reduceIte]
  all_goals (cases act (numbers params) _ <;> rfl)

end Sys2Proof.Machine
end

