-- ==== Sys2Proof/Laws/Tables.lean ====
section
/-! SUPPORT. Keyed tables: what a read gives after each update, and that every update keeps the canonical form. -/

namespace Sys2Proof.Machine

variable {α : Type}

theorem tab_get_set_self (t : Table α) (k : Nat) (v : α) : Tab.get (Tab.set t k v) k = some v := by
  induction t with
  | nil => simp [Tab.set, Tab.get]
  | cons e rest ih =>
    obtain ⟨j, w⟩ := e
    simp only [Tab.set]
    split
    · simp [Tab.get]
    · split
      · simp [Tab.get]
      · simp [Tab.get, *]

theorem tab_get_set_ne (t : Table α) (k j : Nat) (v : α) (h : j ≠ k) :
    Tab.get (Tab.set t k v) j = Tab.get t j := by
  induction t with
  | nil => simp [Tab.set, Tab.get, Ne.symm h]
  | cons e rest ih =>
    obtain ⟨i, w⟩ := e
    simp only [Tab.set]
    split
    · simp [Tab.get, Ne.symm h]
    · split
      · rename_i hk
        subst hk
        simp [Tab.get, Ne.symm h]
      · simp [Tab.get, ih]

theorem tab_get_erase_self (t : Table α) (k : Nat) : Tab.get (Tab.erase t k) k = none := by
  induction t with
  | nil => rfl
  | cons e rest ih =>
    obtain ⟨j, w⟩ := e
    by_cases h : j = k
    · subst h
      simpa [Tab.erase] using ih
    · simp only [Tab.erase] at ih
      simp [Tab.erase, Tab.get, h] 
      simpa using ih

theorem tab_get_erase_ne (t : Table α) (k j : Nat) (h : j ≠ k) : Tab.get (Tab.erase t k) j = Tab.get t j := by
  induction t with
  | nil => rfl
  | cons e rest ih =>
    obtain ⟨i, w⟩ := e
    simp only [Tab.erase, ne_eq, decide_not] at ih
    by_cases hi : i = k
    · subst hi
      simp [Tab.erase, Tab.get, Ne.symm h, ih]
    · simp [Tab.erase, Tab.get, hi, ih]

theorem tab_get_modify_self (t : Table α) (k : Nat) (f : α → α) :
    Tab.get (Tab.modify t k f) k = (Tab.get t k).map f := by
  induction t with
  | nil => rfl
  | cons e rest ih =>
    obtain ⟨j, w⟩ := e
    simp only [Tab.modify] at ih
    by_cases h : j = k
    · subst h
      simp [Tab.modify, Tab.get]
    · simp [Tab.modify, Tab.get, h, ih]

theorem tab_get_modify_ne (t : Table α) (k j : Nat) (f : α → α) (h : j ≠ k) :
    Tab.get (Tab.modify t k f) j = Tab.get t j := by
  induction t with
  | nil => rfl
  | cons e rest ih =>
    obtain ⟨i, w⟩ := e
    simp only [Tab.modify] at ih
    by_cases hi : i = k
    · subst hi
      simp [Tab.modify, Tab.get, Ne.symm h, ih]
    · simp [Tab.modify, Tab.get, hi, ih]

theorem tab_get_map {β : Type} (t : Table α) (f : α → β) (k : Nat) :
    Tab.get (t.map fun e => (e.1, f e.2)) k = (Tab.get t k).map f := by
  induction t with
  | nil => rfl
  | cons e rest ih =>
    obtain ⟨j, w⟩ := e
    by_cases h : j = k <;> simp [Tab.get, h, ih]

theorem tab_get_mapAll (t : Table α) (f : α → α) (k : Nat) :
    Tab.get (Tab.mapAll t f) k = (Tab.get t k).map f := tab_get_map t f k

@[simp] theorem tab_keys_modify (t : Table α) (k : Nat) (f : α → α) :
    Tab.keys (Tab.modify t k f) = Tab.keys t := by
  simp only [Tab.keys, Tab.modify, List.map_map]
  apply List.map_congr_left
  intro e _
  simp only [Function.comp]
  split <;> rfl

@[simp] theorem tab_keys_mapAll (t : Table α) (f : α → α) : Tab.keys (Tab.mapAll t f) = Tab.keys t := by
  simp [Tab.keys, Tab.mapAll]

/-- The canonical form is that the keys are pairwise rising. -/
theorem tab_wf_iff (t : Table α) : Tab.wf t = true ↔ (Tab.keys t).Pairwise (· < ·) := by
  induction t with
  | nil => simp [Tab.wf, Tab.keys]
  | cons e rest ih =>
    cases rest with
    | nil => simp [Tab.wf, Tab.keys]
    | cons e' rest' =>
      obtain ⟨j, v⟩ := e
      obtain ⟨k, u⟩ := e'
      simp only [Tab.wf, Bool.and_eq_true, decide_eq_true_eq, ih]
      simp only [Tab.keys, List.map_cons, List.pairwise_cons, List.mem_cons]
      constructor
      · rintro ⟨h, h2, h3⟩
        exact ⟨fun a ha => ha.elim (fun e => e ▸ h) (fun m => h.trans (h2 a m)), h2, h3⟩
      · rintro ⟨h, h2, h3⟩
        exact ⟨h k (Or.inl rfl), h2, h3⟩

theorem tab_keys_set_mem (t : Table α) (k : Nat) (v : α) (j : Nat) :
    j ∈ Tab.keys (Tab.set t k v) ↔ j = k ∨ j ∈ Tab.keys t := by
  induction t with
  | nil => simp [Tab.set, Tab.keys]
  | cons e rest ih =>
    obtain ⟨i, w⟩ := e
    simp only [Tab.keys] at ih
    simp only [Tab.set]
    split
    · simp [Tab.keys]
    · split
      · rename_i h
        subst h
        simp [Tab.keys]
      · simp only [Tab.keys, List.map_cons, List.mem_cons, ih]
        tauto

theorem tab_wf_set (t : Table α) (k : Nat) (v : α) (h : Tab.wf t = true) : Tab.wf (Tab.set t k v) = true := by
  rw [tab_wf_iff] at h ⊢
  induction t with
  | nil => simp [Tab.set, Tab.keys]
  | cons e rest ih =>
    obtain ⟨i, w⟩ := e
    simp only [Tab.keys, List.map_cons, List.pairwise_cons] at h ih
    simp only [Tab.set]
    split
    · rename_i hlt
      simp only [Tab.keys, List.map_cons, List.pairwise_cons, List.mem_cons]
      exact ⟨fun a ha => ha.elim (fun e => e ▸ hlt) (fun m => hlt.trans (h.1 a m)), h⟩
    · split
      · rename_i _ he
        subst he
        simp only [Tab.keys, List.map_cons, List.pairwise_cons]
        exact h
      · rename_i hlt hne
        simp only [Tab.keys, List.map_cons, List.pairwise_cons]
        refine ⟨fun a ha => ?_, ih h.2⟩
        rcases (tab_keys_set_mem rest k v a).1 ha with rfl | m
        · omega
        · exact h.1 a m

theorem tab_wf_erase (t : Table α) (k : Nat) (h : Tab.wf t = true) : Tab.wf (Tab.erase t k) = true := by
  rw [tab_wf_iff] at h ⊢
  exact h.sublist (List.filter_sublist.map _)

theorem tab_wf_modify (t : Table α) (k : Nat) (f : α → α) (h : Tab.wf t = true) :
    Tab.wf (Tab.modify t k f) = true := by
  rw [tab_wf_iff] at h ⊢
  rwa [tab_keys_modify]

theorem tab_wf_mapAll (t : Table α) (f : α → α) (h : Tab.wf t = true) : Tab.wf (Tab.mapAll t f) = true := by
  rw [tab_wf_iff] at h ⊢
  rwa [tab_keys_mapAll]

/-- The least free key is free, and is one of the candidates. -/
theorem tab_firstFree_some (t : Table α) (first n k : Nat) (h : Tab.firstFree t first n = some k) :
    Tab.get t k = none ∧ first ≤ k ∧ k < first + n := by
  induction n generalizing first with
  | zero => simp [Tab.firstFree] at h
  | succ n ih =>
    simp only [Tab.firstFree] at h
    split at h
    · have := ih (first + 1) h
      exact ⟨this.1, by omega, by omega⟩
    · rename_i hn
      simp only [Option.some.injEq] at h
      subst h
      refine ⟨?_, by omega, by omega⟩
      simpa [Tab.has] using hn

end Sys2Proof.Machine
end

