-- ==== Sys2Proof/Laws/Wire.lean ====
section
/-! SUPPORT. What the readers of the wire undo: spacing bits (R159), whole frames, blocks of the command port. -/

namespace Sys2Proof.Machine

/-- Reading bits back through the spacing: the bits read are those sent, whatever follows the span. -/
theorem unspace_space (l : Bits) : ∀ (last : Bool) (run n : Nat) (tail : Bits), n ≤ l.length →
    ∃ rest, unspace last run n (space last run l ++ tail) = some (l.take n, rest)
      ∧ (n = l.length → rest = tail) := by
  induction l with
  | nil =>
    intro last run n tail h
    obtain rfl : n = 0 := by simpa using h
    exact ⟨tail, rfl, fun _ => rfl⟩
  | cons b l ih =>
    intro last run n tail h
    cases n with
    | zero => exact ⟨_, rfl, fun h => by simp at h⟩
    | succ n =>
      have hn : n ≤ l.length := by simpa using h
      simp only [space]
      by_cases h6 : (if b = last then run + 1 else 1) = 6
      · by_cases hl : l = []
        · subst hl
          obtain rfl : n = 0 := by simpa using hn
          simp [h6, space, unspace]
        · have hs : ((if b = last then run + 1 else 1) = 6 && !l.isEmpty) = true := by simp [h6, hl]
          simp only [hs, ↓reduceIte, List.cons_append]
          by_cases hz : n = 0
          · subst hz
            refine ⟨(!b) :: (space (!b) 1 l ++ tail), by simp [unspace], fun hc => ?_⟩
            simp only [Nat.zero_add, List.length_cons] at hc
            exact absurd (List.eq_nil_of_length_eq_zero (by omega)) hl
          · obtain ⟨rest, hr, ht⟩ := ih (!b) 1 n tail hn
            refine ⟨rest, ?_, fun hc => ht (by simpa using hc)⟩
            simp [unspace, h6, hz, hr]
      · have hs : ((if b = last then run + 1 else 1) = 6 && !l.isEmpty) = false := by simp [h6]
        simp only [hs, Bool.false_eq_true, ↓reduceIte, List.cons_append]
        obtain ⟨rest, hr, ht⟩ := ih b (if b = last then run + 1 else 1) n tail hn
        refine ⟨rest, ?_, fun hc => ht (by simpa using hc)⟩
        simp [unspace, h6, hr]

/-- A number written in bits reads back. -/
theorem bitsValue_bits (w n : Nat) : bitsValue (bits w n) = n % 2 ^ w := by
  have key : ∀ (w n acc : Nat), (bits w n).foldl (fun acc b => acc * 2 + cond b 1 0) acc
      = acc * 2 ^ w + n % 2 ^ w := by
    intro w
    induction w with
    | zero => intro n acc; simp [bits, Nat.mod_one]
    | succ w ih =>
      intro n acc
      have hm : n % 2 ^ (w + 1) = n / 2 ^ w % 2 * 2 ^ w + n % 2 ^ w := by
        rw [pow_succ, Nat.mod_mul]
        ring
      rw [hm, pow_succ]
      simp only [bits, List.foldl_cons, ih]
      rcases Nat.mod_two_eq_zero_or_one (n / 2 ^ w) with h | h <;> simp [h] <;> ring
  simpa [bitsValue] using key w n 0

@[simp] theorem length_bits (w n : Nat) : (bits w n).length = w := by
  induction w with
  | zero => rfl
  | succ w ih => simp [bits, ih]

/-- A field at its place in a run of bits. -/
theorem bitField_append (a b c : Bits) (i w n : Nat) (ha : a.length = i) (hb : b = bits w n) :
    bitField (a ++ (b ++ c)) i w = n % 2 ^ w := by
  subst ha hb
  rw [bitField, List.drop_left, List.take_left' (length_bits w n), bitsValue_bits]

/-- A complete block reads as the command of its code with its parameters (R178, R179). -/
theorem transferCommand_blockBytes (code : Byte) (p : List Byte) (hc : code ≠ 0) (hp : p.length < 65536) :
    transferCommand (blockBytes code p) = some (blockCommand code p) := by
  have h1 : p.length / 256 % 256 * 256 + p.length % 256 = p.length := by omega
  have h0 : ¬ code = 0#8 := hc
  simp [transferCommand, blockBytes, be, h0, h1]

/-- The span of a frame, field by field. -/
theorem spanBits_eq (f : LineFrame) :
    spanBits f = [false] ++ (bits 3 f.precedence ++ (bits 4 f.kind ++ (bits 6 f.source ++ (bits 6 f.destination
      ++ (bits 8 f.epoch ++ (bits 5 (f.payload.length / 8) ++ (f.payload
        ++ (bits 16 (crc (coveredBits f)).toNat ++ [])))))))) := by
  simp [spanBits, coveredBits]

theorem length_coveredBits (f : LineFrame) : (coveredBits f).length = 32 + f.payload.length := by
  simp [coveredBits]; omega

theorem length_spanBits (f : LineFrame) : (spanBits f).length = headBits + f.payload.length + 16 := by
  simp [spanBits, length_coveredBits, headBits]; omega

/-- The numeric fields of a frame, in its span. -/
theorem bitField_spanBits (f : LineFrame) :
    bitField (spanBits f) 1 3 = f.precedence % 8 ∧ bitField (spanBits f) 4 4 = f.kind % 16
      ∧ bitField (spanBits f) 8 6 = f.source % 64 ∧ bitField (spanBits f) 14 6 = f.destination % 64
      ∧ bitField (spanBits f) 20 8 = f.epoch % 256 ∧ bitField (spanBits f) 28 5 = f.payload.length / 8 % 32 := by
  have hd : ∀ (w n k : Nat), w ≤ k → (bits w n).drop k = [] := fun w n k h => List.drop_eq_nil_of_le (by simpa)
  refine ⟨?_, ?_, ?_, ?_, ?_, ?_⟩ <;> rw [bitField, spanBits_eq] <;>
    simp [List.drop_append, hd, bitsValue_bits]

/-- The check of a frame, in its span. -/
theorem bitField_check (f : LineFrame) :
    bitField (spanBits f) (headBits + f.payload.length) 16 = (crc (coveredBits f)).toNat := by
  have h := bitField_append (false :: coveredBits f) _ [] (headBits + f.payload.length) 16
    (crc (coveredBits f)).toNat (by simp [length_coveredBits, headBits]; omega) rfl
  rw [List.append_nil, Nat.mod_eq_of_lt (BitVec.isLt _)] at h
  exact h

/-- The payload of a frame, in its span. -/
theorem payload_spanBits (f : LineFrame) : ((spanBits f).drop headBits).take f.payload.length = f.payload := by
  have hd : ∀ (w n k : Nat), w ≤ k → (bits w n).drop k = [] := fun w n k h => List.drop_eq_nil_of_le (by simpa)
  rw [spanBits_eq]
  simp [headBits, List.drop_append, hd]

/-- A frame whose fields fit their widths reads back from the line with every field (R159). -/
theorem readFrame_lineBits (f : LineFrame) (hf : f.ok = true) : readFrame (lineBits f) = .frame f := by
  simp only [LineFrame.ok, Bool.and_eq_true, decide_eq_true_eq] at hf
  obtain ⟨⟨⟨⟨⟨⟨h1, h2⟩, h3⟩, h4⟩, h5⟩, h6⟩, h7⟩ := hf
  obtain ⟨e1, e2, e3, e4, e5, e6⟩ := bitField_spanBits f
  have hl := length_spanBits f
  obtain ⟨rest, hr, -⟩ := unspace_space (spanBits f) true 0 headBits (true :: List.replicate 8 true) (by omega)
  obtain ⟨rest', hr', ht⟩ := unspace_space (spanBits f) true 0 (headBits + f.payload.length + 16)
    (true :: List.replicate 8 true) (by omega)
  obtain rfl := ht hl.symm
  have hsize : 8 * bitField ((spanBits f).take headBits) 28 5 = f.payload.length := by
    have : bitField ((spanBits f).take headBits) 28 5 = bitField (spanBits f) 28 5 := by
      simp [bitField, headBits, List.drop_take, List.take_take]
    rw [this, e6]
    omega
  have hcov : ((spanBits f).drop 1).take (32 + f.payload.length) = coveredBits f := by
    rw [← length_coveredBits f]
    simp [spanBits]
  have hfull : (spanBits f).take (headBits + f.payload.length + 16) = spanBits f :=
    List.take_of_length_le (by omega)
  have hfields : spanFields (spanBits f) f.payload.length = f := by
    rw [spanFields, e1, e2, e3, e4, e5, payload_spanBits, Nat.mod_eq_of_lt h1, Nat.mod_eq_of_lt h2,
      Nat.mod_eq_of_lt h3, Nat.mod_eq_of_lt h4, Nat.mod_eq_of_lt h5]
  simp only [readFrame, lineBits, hr, hr', hsize, hfull, hcov, bitField_check, hfields]
  rw [if_neg (by omega), if_neg (by simp), if_neg (by decide)]

end Sys2Proof.Machine
end

