-- ==== Sys2Proof/Tests/Slice0.lean ====
section
/-! SUPPORT. The model's own tests: what WellFormed refuses, that the hypotheses of every obligation can be met, and a
few steps of each family. -/

set_option Elab.async false

namespace Sys2Proof.Tests

open Sys2Proof Sys2Proof.Machine

/-! ### What WellFormed refuses: an ill-formed term for each check -/

/-- The tag ENG. -/
def eng : Tag := ⟨5, 14, 7⟩

/-- The tag FRA. -/
def fra : Tag := ⟨6, 18, 1⟩

/-- A sender of station 3. -/
def three : Sender := ⟨3, 0⟩

theorem test_wf_tag : (Tag.ok ⟨0, 1, 1⟩ || Tag.ok ⟨1, 27, 1⟩ || Tag.ok ⟨1, 1, 0⟩) = false ∧ Tag.ok ⟨1, 26, 13⟩ = true := by
  decide

theorem test_wf_station : (stationOk 0 || stationOk 49) = false ∧ stationOk 1 = true ∧ stationOk 48 = true := by decide

theorem test_wf_trunk : (trunkOk 0 || trunkOk 13) = false ∧ trunkOk 1 = true ∧ trunkOk 12 = true := by decide

theorem test_wf_pedigree :
    (pedigreeOk [] || pedigreeOk (List.replicate 4 ⟨3, 1, eng⟩) || pedigreeOk [⟨0, 1, eng⟩] || pedigreeOk [⟨3, 9, eng⟩]
      || pedigreeOk [⟨3, 1, ⟨0, 0, 0⟩⟩]) = false ∧ pedigreeOk [⟨3, 0, eng⟩] = true := by decide

theorem test_wf_frames :
    [Instr.claim ⟨0, 0⟩ false 1 1 eng, .claim ⟨3, 256⟩ false 1 1 eng, .claim three false 32 1 eng,
      .claim three false 1 32 eng, .claim three false 1 1 ⟨0, 1, 1⟩,
      .claimRelease three (.subcarrier 32) 1 eng, .claimRelease three (.trunk 13) 1 eng, .trunkClaim three false 0 1 eng,
      .relayRequest three 32 1, .relayRequest three 1 9, .relayAnswer three 1 (.grant 13), .relayAnswer three 32 (.grant 1),
      .relayRelease three 32 1, .relayRelease three 1 9, .channelNotice three 1 eng .live (some 13) [⟨3, 1, eng⟩],
      .channelNotice three 1 eng .live none [], .feedOffer three 9 eng 1 [⟨3, 1, eng⟩], .feedOffer three 1 eng 1 [],
      .feedAnswer three 9 1 true, .feedAnswer three 1 32 true, .feedStateReady three 1 1 13,
      .feedStateLive three 1 1 [], .feedStateSilent three 1 32, .feedStateEnd three 9 1 .host,
      .returnQuery three (2 ^ 24) 0 0, .returnQuery three 1 (2 ^ 24) 0, .returnQuery three 1 0 101,
      .returnAnswer three 1 (.recovered (2 ^ 24)), .returnAnswer three 1 (.closed .ret (2 ^ 24) 0 0 0),
      .returnAnswer three 1 (.closed .ret 0 (2 ^ 27) 0 0), .returnAnswer three 1 (.closed .ret 0 0 (2 ^ 24) 0),
      .returnAnswer three 1 (.closed .ret 0 0 0 (2 ^ 20)), .presence three (List.replicate 5 (3, true)),
      .presence three [(49, true)], .duplicateStation 16 0, .duplicateStation 1 256].any Instr.wellFormed
      = false := by decide

/-- A RELAY REQUEST of station 3 to station 7. -/
def other : LineFrame := ⟨2, 5, 3, 7, 0, (Payload.relayRequest 1 1).bits⟩

theorem test_wf_other_frame :
    [{ other with precedence := 8 }, { other with kind := 16 }, { other with source := 64 },
      { other with destination := 64 }, { other with epoch := 256 }, { other with payload := [true] },
      { other with payload := List.replicate 136 false }].any LineFrame.ok = false
      ∧ other.ok = true ∧ (Instr.frameForOtherStation { other with epoch := 256 }).wellFormed = false := by
  decide +kernel

theorem test_wf_expiries :
    [Instr.peerLost 0, .claimWindowExpiry 32, .claimRefresh 32, .noticeTimer 32, .trunkWindowExpiry 0, .trunkRefresh 13,
      .peerTrunkExpiry 13, .peerClaimExpiry 0 1, .peerClaimExpiry 3 32, .directoryExpiry 49 1, .directoryExpiry 3 32,
      .relayAnswerWait 0, .overlapTimer 9, .feedAnswerWait 0, .hostAnswerWait 5, .readyWait 5, .blockedWait 0,
      .removalTimer 5, .orphanAnswerWait 0, .overdue (2 ^ 24), .wallInputChange 0 true, .wallDebounce 5, .deadCell 0,
      .chargeTimeout 97].any Instr.wellFormed = false := by decide

theorem test_wf_panel :
    [Instr.deskPollReply 0 [], .deskPollReply 25 [], .deskPollReply 1 (List.replicate 5 .take),
      .deskPollReply 1 [.relay .nothing], .deskPollReply 1 [.relay (.own 32)], .deskPollReply 1 [.relay (.remote 256 1)],
      .deskPollReply 1 [.relay (.remote 3 32)], .slotPollReply 97 true true, .identifyReply 0 none,
      .identifyReply 1 (some ⟨0, 50, 0, eng⟩), .identifyReply 1 (some ⟨2 ^ 24, 50, 0, eng⟩),
      .identifyReply 1 (some ⟨1, 101, 0, eng⟩), .presetAnswered 97, .latchAnswered 0, .clearMarkAnswered 97,
      .messageAnswered 128 .gate, .messageAnswered 1 .poll, .messageAnswered 1 .latch,
      .exchangeSilent 128 .poll].any Instr.wellFormed = false := by decide

theorem test_wf_port :
    [Instr.unknownCommandCode 23 []].any Instr.wellFormed = false ∧ blockOk (List.replicate 3 0) = true
      ∧ (Instr.unknownCommandCode 24 []).wellFormed = true := by decide

theorem test_wf_block (params : List Byte) (h : params.length = 65536) : (Instr.configure params).wellFormed = false := by
  simp [Instr.wellFormed, blockOk, h]

/-! ### A small running station -/

/-- A tariff of 30 minutes at 1.50, 10 minutes of grace, a cap of 12.00 and a horizon of 2 days. -/
def tariff : Tariff := ⟨30, 150, 10, 1200, 5000, 2⟩

/-- Station 5: wall input 1 bound to station 3, two booths, three desks, two slots, two tariffs, two accounts. -/
def settings : StationConfig :=
  { station := 5, walls := [(1, 3)], interlock := .refuse, slotCount := 2, readyLevel := 80, floorTag := eng
    dayBoundary := 240, hold := true, retuneHold := 2
    carrier := ⟨.pulseLength, 40, 60, 10, 20, 10, 0, 0, 0⟩
    booths := [(1, ⟨[1, 2], .overlap, 10⟩), (2, ⟨[3], .interlock, 1⟩)]
    tariffs := [(0, tariff), (1, ⟨15, 0, 0, 0, 100, 1⟩)], rates := [(0, 30), (1, 20)] }

/-- An open channel in a state, on a subcarrier, with a holder. -/
def chan (st : ChanState) (sc : Option Nat) (h : Holder) : Channel :=
  { state := st, language := fra, subcarrier := sc, confirmed := true, account := 1, holder := h, liveSeconds := 61
    opening := 0, pedigree := [⟨5, 1, fra⟩], everOnAir := true, window := none
    refresh := if st = .onAir then some 500 else none, firstBooth := 1, everHeld := true, notice := some 300
    announced := .silent }

/-- The station RUNNING in SESSION, on the line with peers 3 and 9, channels 0 and 1 ON AIR and its drops ONLINE. -/
def base : State :=
  { State.reset with
    clock := { State.reset.clock with
      station := .running, minute := 1000, second := 30, runMark := true, retainedValid := true, config := some settings }
    planner :=
      { hall := .session, floorTag := eng
        channels := [(0, { chan .onAir (some 2) .none with language := eng, account := 0 }), (1, chan .onAir (some 3) .none)]
        zone := [3, 5], peerClaims := [⟨3, 7, 1, eng, 5⟩], trunks := [], walls := [(1, ⟨true, true, none⟩)] }
    booth :=
      { booths :=
          [(1, { freshBooth ⟨[1, 2], .overlap, 10⟩ with outputA := some 1, outputB := some 2 }),
            (2, freshBooth ⟨[3], .interlock, 1⟩)]
        desks := freshDesks settings }
    line := { State.reset.line with
      state := .joined, peers := [(3, ⟨0, [(5, true)], 10⟩), (9, ⟨1, [], 10⟩)], presence := some 700 }
    panel := { State.reset.panel with drops := freshDrops settings, rotation := 1 }
    dock := { State.reset.dock with slots := freshSlots settings }
    map := { State.reset.map with radiator := true }
    account := { State.reset.account with accounts := [(0, freshAccount 30), (1, freshAccount 20)] } }

/-- The station with a hall state. -/
def hall (h : HallState) : State := { base with planner.hall := h }

/-- The station in a station state. -/
def inState (x : StationState) : State := { base with clock.station := x }

/-- The station CONFIGURED, with nothing open. -/
def configured : State :=
  { base with clock := { base.clock with station := .configured, runMark := false }, planner.channels := [], planner.hall := .dark }

/-- An open hire of account 1 since minute 100. -/
def hire : Hire := ⟨1, 0, fra, 2000, 100, false, none⟩

/-- A closing outcome. -/
def closing : Closing := ⟨.ret, 500, some 5, ⟨1200, 0, 2000, 1200, 800, 0⟩⟩

/-- A feed context of partner 3, booth 1 and channel 1. -/
def feed (side : Side) (st : FeedState) : Feed :=
  { side := side, state := st, partner := 3, booth := 1, target := 1, language := fra, trunk := none
    pedigree := [⟨3, 1, fra⟩], boothHeld := false, senderLive := false, answerWait := some 9, readyWait := some 8
    blockedWait := some 7 }

/-- The station with one feed context. -/
def feeding (side : Side) (st : FeedState) : State := { base with feed := ⟨[(1, feed side st)]⟩ }

/-- A slot in a state with receiver 7. -/
def slotIn (st : SlotState) : Slot := { Slot.empty with state := st, serial := some 7, battery := some 90 }

/-- The station with slot 1 in a state. -/
def docked (st : SlotState) : State := { base with dock.slots := [(1, slotIn st), (2, Slot.empty)] }

/-- An issue of slot 1 in a phase. -/
def order (p : IssuePhase) : Issue := ⟨1, 7, 1, 0, 2000, eng, p, if p = .awaitingRemoval then some 5 else none⟩

/-- The station with an issue in context 1. -/
def issuing (p : IssuePhase) : State := { docked .issuing with dock.issues := [(1, order p)] }

/-- The station with a message waiting. -/
def waiting (s : State) (b : Body) (o : Origin) : State := { s with panel.outbound := [⟨b, o, false⟩] }

/-- A frame in the transmit queue. -/
def frame (p : Payload) : TxFrame := ⟨0, p, none, 0⟩

/-- The station with frames waiting. -/
def queued (l : List TxFrame) : State := { base with line.queue := l }

/-- A CONFIGURE block of 248 bytes in range. -/
def block : List Byte :=
  [5, 3, 0, 0, 0, 0, 2, 80, 5, 14, 7, 0, 240, 1, 2, 0, 40, 60, 10, 20, 10, 0, 0, 0]
    ++ ([2, 1, 2, 0, 2, 10, 1, 3, 0, 0, 0, 1] ++ List.replicate 36 0)
    ++ (List.replicate 8 ([0, 30, 0, 150, 10, 0, 0, 4, 176, 0, 0, 19, 136, 2] : List Byte)).flatten
    ++ List.replicate 64 0

/-- What hears asks, as a test. -/
theorem hears_of {s : State} {f : Sender}
    (h : (s.running && s.line.state.live && decide (s.line.txScore < 200) && stationOk f.station
      && decide (f.station ≠ s.self) && (Tab.get s.line.peers f.station).any fun p => decide (p.epoch = f.epoch)) = true) :
    s.hears f := by
  simp only [Bool.and_eq_true, decide_eq_true_eq] at h
  obtain ⟨⟨⟨⟨⟨h1, h2⟩, h3⟩, h4⟩, h5⟩, h6⟩ := h
  refine ⟨h1, h2, h3, h4, h5, ?_⟩
  cases hp : Tab.get s.line.peers f.station with
  | none => simp [hp] at h6
  | some p => exact ⟨p, rfl, by simpa [hp] using h6⟩

/-! ### The hypotheses of the obligations can be met, clause by clause -/

theorem test_base_hears : base.hears three ∧ base.hears ⟨9, 1⟩ := ⟨hears_of (by decide), hears_of (by decide)⟩

theorem test_meets_EmptyQueuePassesMillisecond :
    base.pending = [] ∧ (inState .retain).pending = [] ∧ (inState .retain).clock.station = .retain
      ∧ { base with clock.resetHeld := true }.clock.resetHeld = true
      ∧ base.clock.station ≠ .retain ∧ base.clock.resetHeld = false := by decide

theorem test_meets_LawsKeptByEveryStep :
    ({ State.reset with clock.minute := 7 } : State).lawful
      ∧ ∃ t, step { State.reset with clock.minute := 7 } = .next t := by
  refine ⟨?_, _, rfl⟩
  unfold State.lawful State.mapFollows State.maskFollows State.radiatorFollows State.restsDark
  decide

/-- The station with channel 1 held by desk 1 of booth 1. -/
def held : State :=
  { base with
    planner.channels := Tab.set base.planner.channels 1 (chan .onAir (some 3) (.desk 1 1))
    booth.booths := Tab.modify base.booth.booths 1 fun bo => { bo with holding := some 1 }
    booth.desks := Tab.modify base.booth.desks 1 fun r => { r with state := .live } }

theorem test_meets_LiveSecondsRiseOnlyAtSecondTicks :
    ∃ t, exec .secondTick held = .next t ∧ (held.channel 1).map Channel.liveSeconds = some 61
      ∧ (t.channel 1).map Channel.liveSeconds = some 62 := by
  refine ⟨_, rfl, by decide +kernel, by decide +kernel⟩

theorem test_meets_RefusedTransfersChangeOnlyThePort :
    (hostBlock (.setHallState [])).map HostBlock.length = some 1 ∧ (hostBlock (.setHallState [2])).isSome = true
      ∧ { base with port.answer := some ⟨.done, []⟩ }.port.answer.isSome = true
      ∧ base.portDriven = true ∧ base.port.answer = none ∧ configured.portDriven = true
      ∧ (hostBlock (.setHallState [2])).any (fun h => !h.states.contains configured.clock.station) = true
      ∧ { base with clock.resetHeld := true }.clock.resetHeld = true
      ∧ (inState .retain).clock.resetHeld = false ∧ (inState .retain).clock.station = .retain := by decide

theorem test_meets_OtherTransfers :
    base.portDriven = true ∧ base.port.answer = none
      ∧ { base with port.answer := some ⟨.done, [1]⟩ }.portDriven = true
      ∧ { base with port.answer := some ⟨.done, [1]⟩ }.port.answer = some ⟨.done, [1]⟩ := by decide

theorem test_meets_StatusByteShowsThreeFlags :
    base.clock.station ≠ .retain ∧ (inState .retain).clock.station = .retain := by decide

/-- The station with n events waiting. -/
def told (n : Nat) : State := { base with events := ⟨List.replicate n ⟨.supplyLow, 1, 2, []⟩, 0⟩ }

theorem test_meets_EventQueue :
    base.portFree ∧ (base.events.queue = [] ∧ (told 63).events.queue.length < 64 ∧ 64 ≤ (told 64).events.queue.length
      ∧ (told 64).events.queue = ⟨.supplyLow, 1, 2, []⟩ :: List.replicate 63 ⟨.supplyLow, 1, 2, []⟩
      ∧ (List.replicate 63 (⟨.supplyLow, 1, 2, []⟩ : Event)).length < 64 ∧ (told 64).portDriven = true) := by
  refine ⟨⟨rfl, rfl⟩, ?_⟩
  decide +kernel

theorem test_meets_PayloadsReadBack :
    (Payload.presence []).ok = true ∧ (Payload.returnAnswer 9 (.closed .loss 1 2 3 4)).ok = true
      ∧ (Payload.feedState 8 31 (.live (List.replicate 3 ⟨48, 8, ⟨26, 26, 26⟩⟩))).ok = true := by decide

theorem test_meets_SpacingAndHeader :
    stationOk 1 = true ∧ stationOk 48 = true ∧ precedenceOf 1 < precedenceOf 11 := by decide

theorem test_meets_PulseLengthCoding : carrierOk true 8 ⟨.pulseLength, 255, 1, 1, 63, 63, 0, 0, 0⟩ = true := by decide

theorem test_meets_TwoToneCoding : carrierOk true 1 ⟨.twoTone, 1, 1, 0, 0, 0, 255, 255, 63⟩ = true := by decide

theorem test_meets_SegmentCharge :
    tariffOk tariff = true ∧ 240 < 1440 ∧ 100 < 200 ∧ 200 ≤ nextBoundary 240 100
      ∧ (31 ≤ 1440 ∧ 31 ≤ 2 * tariff.unit ∧ (2 - 1) * tariff.unit < 31) ∧ (0 ≤ 0 * tariff.unit)
      ∧ 3125 = nextBoundary 240 100 + 1440 * 2 + 5 ∧ tariffOk ⟨15, 0, 0, 0, 100, 1⟩ = true := by decide

theorem test_meets_TimeChargeWithinCapPerDay : tariffOk tariff = true ∧ 240 < 1440 ∧ 100 ≤ 3000 ∧ tariff.cap ≠ 0 := by
  decide

/-- The station with hire 7 open. -/
def hired : State := { base with ledger.hires := [(7, hire)] }

theorem test_meets_ClosingSettledAgainstDeposit :
    Tab.get hired.ledger.hires 7 = some hire ∧ hire.closing = none
      ∧ Tab.get hired.account.accounts hire.account = some (freshAccount 20) ∧ hired.logOpen = true := by decide

theorem test_meets_AccountFieldsSaturate :
    Tab.get base.account.accounts 1 = some (freshAccount 20)
      ∧ (freshAccount 20).saturated = false ∧ 99999999 < Total.refunds.get (freshAccount 20) + 100000000 := by
  decide +kernel

theorem test_meets_ConfigureCreatesRecords :
    State.reset.portFree ∧ (State.reset.clock.station = .unconfigured ∧ block.length = 248
      ∧ (List.replicate 248 (0 : Byte)).length = 248 ∧ configureOk (numbers block) = true
      ∧ configureOk (numbers (List.replicate 248 0)) = false) := by
  refine ⟨⟨rfl, rfl⟩, ?_⟩
  decide +kernel

theorem test_meets_StartBegins : configured.portFree ∧ configured.clock.station = .configured := ⟨⟨rfl, rfl⟩, rfl⟩

theorem test_meets_SetClockSetsBothCounts :
    base.portFree ∧ (inCR base.clock.station = true
      ∧ 59 < field (numbers [0, 3, 232, 60]) 3 1
      ∧ (field (numbers [0, 3, 231, 59]) 3 1 ≤ 59 ∧ field (numbers [0, 3, 231, 59]) 0 3 < base.clock.minute)
      ∧ { base with ledger.hires := [(7, hire)] }.ledger.hires ≠ []
      ∧ base.clock.minute ≤ field (numbers [0, 3, 232, 59]) 0 3 ∧ base.ledger.hires = []) := by
  refine ⟨⟨rfl, rfl⟩, ?_⟩
  decide

theorem test_meets_HallStates :
    (hall .dark).portFree ∧ (hall .recess).portFree ∧ ((hall .dark).clock.station = .running
      ∧ (hall .dark).planner.hall = .dark ∧ hallOf (1 : Byte).toNat = some .recess ∧ hallOf (2 : Byte).toNat = some .session
      ∧ base.planner.hall ≠ .dark ∧ hallOf (0 : Byte).toNat = some .dark ∧ hallOf (3 : Byte).toNat = none
      ∧ hallOf (2 : Byte).toNat = some base.planner.hall ∧ (hall .recess).planner.hall ≠ .session) := by
  refine ⟨⟨rfl, rfl⟩, ⟨rfl, rfl⟩, ?_⟩
  decide

/-- Every subcarrier claimed by a station of the zone. -/
def allClaimed : List PeerClaim := (List.range 32).map fun sc => ⟨3, sc, 1, eng, 5⟩

/-- The station resting in DARK, with claims of peers. -/
def dark (claims : List PeerClaim) : State :=
  { hall .dark with planner := { (hall .dark).planner with channels := [], peerClaims := claims } }

theorem test_meets_LeavingDark :
    (dark []).portFree ∧ (dark allClaimed).portFree ∧ ((dark []).clock.station = .running
      ∧ (dark []).planner.hall = .dark ∧ (dark []).channel 0 = none ∧ (dark []).freeSubcarrier.isSome = true
      ∧ (dark allClaimed).freeSubcarrier = none) := by
  refine ⟨⟨rfl, rfl⟩, ⟨rfl, rfl⟩, ?_⟩
  decide +kernel

theorem test_meets_EnteringDark :
    let s : State := { held with planner.trunks := [(1, .own .held true (.exported 1) none (some 9)), (4, .peer 3 5)] }
    s.portFree ∧ (s.clock.station = .running ∧ s.planner.hall ≠ .dark
      ∧ (s.boothRec 1).map Booth.holding = some (some 1) ∧ (s.boothRec 1).map Booth.desks = some [1, 2]
      ∧ (s.desk 1).map (fun r => r.state.holds) = some true ∧ (s.channel 1).map Channel.holder = some (.desk 1 1)
      ∧ s.trunk 1 = some (.own .held true (.exported 1) none (some 9)) ∧ s.trunk 4 = some (.peer 3 5)
      ∧ Tab.wf s.planner.trunks = true) := by
  refine ⟨⟨rfl, rfl⟩, ?_⟩
  decide

theorem test_meets_SetFloorLanguage :
    base.portFree ∧ (inCR base.clock.station = true ∧ (tagAt (numbers [6, 18, 1]) 0).ok = true
      ∧ (tagAt (numbers [6, 18, 27]) 0).ok = false ∧ (base.channel 0).isSome = true ∧ (base.channel 1).isSome = true) := by
  refine ⟨⟨rfl, rfl⟩, ?_⟩
  decide

/-- The station whose subcarriers are all claimed in the zone. -/
def crowded : State := { base with planner.peerClaims := allClaimed }

theorem test_meets_OpenChannel :
    base.portFree ∧ (hall .dark).portFree ∧ crowded.portFree ∧ (base.clock.station = .running
      ∧ (hall .dark).planner.hall = .dark ∧ base.planner.hall ≠ .dark
      ∧ field (numbers [0, 6, 18, 1, 0]) 0 1 = 0 ∧ 31 < field (numbers [32, 6, 18, 1, 0]) 0 1
      ∧ (tagAt (numbers [31, 6, 18, 0, 0]) 1).ok = false ∧ 31 < field (numbers [31, 6, 18, 1, 32]) 4 1
      ∧ (base.channel 1).isSome = true ∧ base.channel 31 = none ∧ base.pendingElsewhere 31 31 = false
      ∧ { base with account.closing := [.channel ⟨2, 1, 0, 5, 60, 1, 20⟩] }.pendingElsewhere 2 0 = true
      ∧ base.freeSubcarrier.isSome = true ∧ crowded.freeSubcarrier = none) := by
  refine ⟨⟨rfl, rfl⟩, ⟨rfl, rfl⟩, ⟨rfl, rfl⟩, ?_⟩
  decide +kernel

theorem test_meets_CloseChannelSettles :
    base.portFree ∧ (base.clock.station = .running ∧ (base.channel 1).map Channel.everOnAir = some true
      ∧ base.logOpen = true
      ∧ ({ base with planner.channels := [(31, { chan .claiming (some 9) .none with everOnAir := false })] }.channel 31).map
          Channel.everOnAir = some false) := by
  refine ⟨⟨rfl, rfl⟩, ?_⟩
  decide

/-- A full settlement log. -/
def fullLog : List LogRecord := List.replicate 128 ⟨0, .recovery 1 1 1⟩

/-- The station with a full settlement log and an item that waits. -/
def full (item : ClosingItem) : State := { base with account := { base.account with log := fullLog, closing := [item] } }

theorem test_meets_CloseChannelWaits :
    (full (.recovery 9 1 2)).portFree ∧ ((full (.recovery 9 1 2)).logOpen = false
      ∧ (full (.channel ⟨1, 1, 0, 5, 60, 1, 20⟩)).logOpen = false
      ∧ (full (.channel ⟨1, 1, 0, 5, 60, 1, 20⟩)).account.closing = [.channel ⟨1, 1, 0, 5, 60, 1, 20⟩]
      ∧ (full (.channel ⟨1, 1, 0, 5, 60, 1, 20⟩)).account.closing.all (fun i =>
          match i with
          | .channel x => x.channel = 1
          | _ => false) = true
      ∧ ((full (.recovery 9 1 2)).channel 1).map Channel.account = some 1
      ∧ (Tab.get (full (.recovery 9 1 2)).account.accounts 1).isSome = true) := by
  refine ⟨⟨rfl, rfl⟩, ?_⟩
  decide +kernel

theorem test_meets_AssignOutput :
    base.portFree ∧ held.portFree ∧ ((base.boothRec 1).isSome = true ∧ (held.boothRec 1).map Booth.holding = some (some 1)
      ∧ (held.boothRec 1).map Booth.selected = some .a ∧ (base.boothRec 1).map Booth.outputB = some (some 2)
      ∧ (base.boothRec 2).map Booth.holding = some none ∧ (base.channel 1).isSome = true) := by
  refine ⟨⟨rfl, rfl⟩, ⟨rfl, rfl⟩, ?_⟩
  decide

/-- The station with channel 4 of station 3 in its directory, and booth 2 listening to it. -/
def listening : State :=
  { base with
    relay.directory := [⟨3, 4, ⟨19, 16, 1⟩, [⟨3, 2, ⟨19, 16, 1⟩⟩], .live, none, 5⟩]
    booth.booths := Tab.modify base.booth.booths 2 fun bo =>
      { bo with input := .remote 3 4, relay := .waiting, answerWait := some 900 } }

theorem test_meets_SelectRelay :
    base.portFree ∧ listening.portFree ∧ (selectionOf (numbers [2, 2, 0, 1]) = some (.own 1)
      ∧ (base.boothRec 2).map (fun bo => base.accepts 2 bo (.own 1)) = some true
      ∧ (base.boothRec 2).map (fun bo => base.accepts 2 bo (.own 9)) = some false
      ∧ selectionOf (numbers [1, 3, 3, 4]) = some (.remote 3 4)
      ∧ (listening.boothRec 2).map (fun bo => listening.accepts 2 bo (.remote 3 4)) = some true
      ∧ (listening.boothRec 2).map (fun bo => (bo.input, bo.relay)) = some (.remote 3 4, .waiting)
      ∧ (listening.boothRec 1).map (fun bo => listening.accepts 1 bo (.remote 3 4)) = some true
      ∧ (listening.boothRec 1).map Booth.input = some .floor)
      ∧ listening.boothMute 1 ∧ listening.boothMute 2 := by
  refine ⟨⟨rfl, rfl⟩, ⟨rfl, rfl⟩, by decide, ?_, ?_⟩ <;> (unfold State.boothMute; decide)

theorem test_meets_OfferFeed :
    listening.portFree ∧ (listening.planner.hall ≠ .dark ∧ (listening.boothRec 1).map Booth.holding = some none
      ∧ stationOk 3 = true ∧ 3 ≠ listening.self ∧ (listening.remote 3 4).map DirEntry.state = some .live
      ∧ Tab.firstFree listening.feed.contexts 1 4 = some 1
      ∧ Tab.firstFree ((List.range 4).map fun k => (k + 1, feed .receiving .offered)) 1 4 = none) := by
  refine ⟨⟨rfl, rfl⟩, ?_⟩
  decide

theorem test_meets_AnswerAndEndFeed :
    (feeding .receiving .offered).portFree ∧ (feeding .sending .live).portFree
      ∧ ((feeding .receiving .offered).context 1 = some (feed .receiving .offered)
      ∧ (feeding .sending .live).context 1 = some (feed .sending .live) ∧ (4 : Byte).toNat ≤ 4
      ∧ { feeding .sending .live with planner.trunks := [(1, .own .held true (.feed 1) none (some 5))] }.trunkOf (.feed 1)
          = some 1
      ∧ (feeding .receiving .holding).context 1 = some (feed .receiving .holding)
      ∧ ((feeding .receiving .holding).channel 1).isSome = true) := by
  refine ⟨⟨rfl, rfl⟩, ⟨rfl, rfl⟩, ?_⟩
  decide

/-- The station with slot 1 READY at the head of its queue. -/
def stocked : State := { docked .ready with dock.ready := [⟨1, false⟩] }

theorem test_meets_IssueTakesReadyHead :
    stocked.portFree ∧ base.portFree ∧ (stocked.dock.ready = [⟨1, false⟩] ∧ Tab.firstFree stocked.dock.issues 1 4 = some 1
      ∧ stocked.slot 1 = some (slotIn .ready) ∧ (slotIn .ready).serial = some 7
      ∧ stocked.ledger.hires.length + stocked.dock.issues.length < 512 ∧ base.dock.ready = []
      ∧ tagAt (numbers [1, 7, 0, 0, 0, 15, 66, 63]) 2 = ⟨0, 0, 0⟩ ∧ field (numbers [31, 7, 0, 0, 0, 15, 66, 63]) 5 3 ≤ 999999
      ∧ (tagAt (numbers [1, 7, 19, 16, 1, 0, 0, 0]) 2).ok = true ∧ stocked.carried ⟨19, 16, 1⟩ = false
      ∧ stocked.carried fra = true) := by
  refine ⟨⟨rfl, rfl⟩, ⟨rfl, rfl⟩, ?_⟩
  decide

theorem test_meets_CancelledIssueReturnsItsSlot :
    (issuing .awaitingRemoval).clock.station = .running ∧ (issuing .awaitingRemoval).clock.resetHeld = false
      ∧ Tab.get (issuing .awaitingRemoval).dock.issues 1 = some (order .awaitingRemoval)
      ∧ (issuing .awaitingRemoval).slot (order .awaitingRemoval).slot = some (slotIn .issuing)
      ∧ (order .awaitingRemoval).removal.isSome = true ∧ (order .presetting).removal = none
      ∧ (1 : Byte).toNat = 1 ∧ (issuing .presetting).port.answer = none := by decide

theorem test_meets_LossAndReturnAreBooked :
    Tab.get hired.ledger.hires 7 = some hire ∧ hire.closing = none
      ∧ Tab.get hired.account.accounts hire.account = some (freshAccount 20) ∧ hired.clock.minute = 1000 := by decide

theorem test_meets_DeclareLost :
    hired.portFree ∧ (field (numbers [0, 0, 7]) 0 3 = 7 ∧ Tab.get hired.ledger.hires 7 = some hire ∧ hire.closing = none
      ∧ hired.logOpen = true ∧ { hired with account.log := fullLog }.logOpen = false) := by
  refine ⟨⟨rfl, rfl⟩, ?_⟩
  decide +kernel

theorem test_meets_ReadsChangeNothing :
    hired.portFree ∧ State.reset.portFree ∧ (inCR hired.clock.station = true ∧ (31 : Byte).toNat ≤ 31
      ∧ (hired.boothRec (2 : Byte).toNat).isSome = true ∧ hired.boothRec (0 : Byte).toNat = none
      ∧ (Tab.get hired.account.accounts (1 : Byte).toNat).isSome = true
      ∧ stationOk (48 : Byte).toNat = true ∧ (48 : Byte).toNat ≠ hired.self
      ∧ field (numbers [0, 0, 7, 0]) 3 1 = 0 ∧ field (numbers [0, 0, 7, 0]) 0 3 ≠ 0
      ∧ field (numbers [0, 0, 6, 1]) 3 1 = 1 ∧ (hired.nextHire 6).isSome = true ∧ hired.nextHire 7 = none
      ∧ hired.clock.station ≠ .unconfigured ∧ (8 : Byte).toNat ≤ 8 ∧ State.reset.clock.station = .unconfigured) := by
  refine ⟨⟨rfl, rfl⟩, ⟨rfl, rfl⟩, ?_⟩
  decide

/-- The station with a record logged and closings waiting. -/
def settling (item : ClosingItem) : State :=
  { base with
    ledger.hires := [(7, { hire with closing := some closing })]
    account := { base.account with log := [⟨4, .recovery 1 1 1⟩], closing := [item] } }

theorem test_meets_ReadSettlement :
    base.portFree ∧ (settling (.hire 7)).portFree ∧ (base.account.log = []
      ∧ (settling (.hire 7)).account.log = [⟨4, .recovery 1 1 1⟩] ∧ (settling (.hire 7)).account.closing = [.hire 7]
      ∧ Tab.get (settling (.hire 7)).ledger.hires 7 = some { hire with closing := some closing }
      ∧ (settling (.recovery 9 1 2)).account.closing = [.recovery 9 1 2]
      ∧ (settling (.channel ⟨2, 1, 0, 5, 60, 1, 20⟩)).account.closing = [.channel ⟨2, 1, 0, 5, 60, 1, 20⟩]) := by
  refine ⟨⟨rfl, rfl⟩, ⟨rfl, rfl⟩, ?_⟩
  decide

theorem test_meets_ClaimHeard :
    base.hears three ∧ (3 ≤ 31 ∧ eng.ok = true ∧ base.planner.peerClaims.length < 320
      ∧ base.planner.peerClaims.any (PeerClaim.isFor 3 7) = true
      ∧ base.inZone 9 = false ∧ base.ownSubcarrier 9 = false ∧ base.inZone 3 = true
      ∧ Tab.wf base.planner.channels = true ∧ base.channel 1 = some (chan .onAir (some 3) .none)
      ∧ (∀ e ∈ base.planner.channels, e.2.subcarrier = some 3 → e.1 = 1)
      ∧ (∀ e ∈ base.planner.channels, e.2.state ≠ .starved) ∧ 3 < base.self ∧ base.freeSubcarrier.isSome = true
      ∧ crowded.freeSubcarrier = none)
      ∧ { base with planner.zone := [3, 5, 9] }.hears ⟨9, 1⟩
      ∧ ({ base with planner.zone := [3, 5, 9] }.inZone 9 = true ∧ base.self < 9) := by
  refine ⟨hears_of (by decide), by decide +kernel, hears_of (by decide), by decide⟩

/-- The station with an entry for trunk 1, and booth 2 relaying station 3's channel 4 on it. -/
def trunked (x : TrunkEntry) : State :=
  { listening with
    planner.trunks := [(1, x)]
    booth.booths := Tab.modify listening.booth.booths 2 fun bo =>
      { bo with relay := .relayed, sourceTrunk := some 1, answerWait := none } }

theorem test_meets_ReleasedResourcesBecomeFree :
    (trunked (.peer 3 5)).hears three ∧ ((trunked (.peer 3 5)).trunk 1 = some (.peer 3 5)
      ∧ (trunked (.peer 9 5)).trunk 1 ≠ some (.peer 3 5) ∧ (1 ≤ 12 ∧ 12 ≤ 12)
      ∧ ((trunked (.peer 3 5)).boothRec 2).map (fun bo => (bo.sourceTrunk, bo.input)) = some (some 1, .remote 3 4)
      ∧ (∀ e ∈ base.planner.channels, e.2.state ≠ .starved) ∧ base.running = true) :=
  ⟨hears_of (by decide), by decide⟩

theorem test_meets_TrunkClaimHeard :
    base.hears three ∧ (trunked (.peer 9 5)).hears three ∧ (trunked (.peer 3 5)).hears ⟨9, 1⟩
      ∧ (trunked (.own .window false (.exported 1) (some 9) none)).hears three
      ∧ (trunked (.own .held true (.exported 1) none (some 9))).hears ⟨9, 1⟩
      ∧ (base.trunk 1 = none ∧ (trunked (.peer 9 5)).trunk 1 = some (.peer 9 5) ∧ 3 ≤ 9 ∧ 3 < 9
      ∧ (trunked (.own .window false (.exported 1) (some 9) none)).trunk 1
          = some (.own .window false (.exported 1) (some 9) none)
      ∧ 3 < base.self ∧ base.self < 9
      ∧ (trunked (.own .window false (.exported 1) (some 9) none)).freeTrunk = some 2) :=
  ⟨hears_of (by decide), hears_of (by decide), hears_of (by decide), hears_of (by decide), hears_of (by decide), by decide⟩

/-- The station exporting channel 1 on trunk 2 to a booth of station 3. -/
def exporting (x : TrunkEntry) : State :=
  { base with planner.trunks := [(2, x)], relay.exported := [(1, ⟨2, [⟨3, [2]⟩]⟩)] }

/-- The station whose trunks are all taken. -/
def trunkless : State := { base with planner.trunks := (List.range 12).map fun t => (t + 1, .peer 9 3) }

theorem test_meets_ExportsFollowRequests :
    base.hears three ∧ trunkless.hears three ∧ (exporting (.own .held true (.exported 1) none (some 9))).hears three
      ∧ (base.channel 31 = none ∧ (base.channel 1).isSome = true ∧ Tab.get base.relay.exported 1 = none
      ∧ trunkless.freeTrunk = none ∧ base.freeTrunk = some 1
      ∧ Tab.get (exporting (.own .held true (.exported 1) none (some 9))).relay.exported 1 = some ⟨2, [⟨3, [2]⟩]⟩
      ∧ (exporting (.own .held true (.exported 1) none (some 9))).exportTrunk 1 = some 2
      ∧ (exporting (.own .held true (.exported 1) none (some 9))).trunkOf (.exported 1) = some 2
      ∧ dropListener 3 2 [⟨3, [2]⟩] = [] ∧ dropListener 3 1 [⟨3, [1, 2]⟩] ≠ [] ∧ 8 ≤ 8) :=
  ⟨hears_of (by decide), hears_of (by decide), hears_of (by decide), by decide⟩

theorem test_meets_RelaysFollowTheirSource :
    listening.hears three ∧ (trunked (.peer 9 5)).hears three ∧ base.hears three
      ∧ ((trunked (.peer 9 5)).trunkOpenTo 3 1 = false ∧ listening.trunkOpenTo 3 1 = true
      ∧ (listening.boothRec 2).map (fun bo => (bo.input, bo.relay)) = some (.remote 3 4, .waiting)
      ∧ base.listeners (.remote 3 4) = [] ∧ (listening.remote 3 4).isSome = true ∧ base.remote 3 4 = none
      ∧ base.relay.directory.length < 128 ∧ pedigreeOk [⟨3, 2, ⟨19, 16, 1⟩⟩] = true
      ∧ (listening.remote 3 4).map DirEntry.pedigree = some [⟨3, 2, ⟨19, 16, 1⟩⟩]
      ∧ (some 12).all trunkOk = true ∧ (listening.boothRec 2).map (fun bo => bo.answerWait.isSome) = some true
      ∧ (listening.boothRec 1).map Booth.answerWait = some none) :=
  ⟨hears_of (by decide), hears_of (by decide), hears_of (by decide), by decide⟩

theorem test_meets_FeedOffersAndAnswers :
    base.hears three ∧ (feeding .sending .offered).hears three ∧ (feeding .sending .live).hears three
      ∧ { feeding .sending .offered with planner.trunks := trunkless.planner.trunks }.hears three
      ∧ (base.matchFeed .receiving 3 1 1 = none ∧ base.offerRefused eng 1 = some .language
      ∧ base.offerRefused fra 1 = none ∧ Tab.firstFree base.feed.contexts 1 4 = some 1
      ∧ base.matchFeed .sending 3 1 1 = none ∧ (feeding .sending .offered).matchFeed .sending 3 1 1 = some 1
      ∧ (feeding .sending .offered).context 1 = some (feed .sending .offered) ∧ (feed .sending .live).state ≠ .offered
      ∧ (feeding .sending .offered).freeTrunk = some 1 ∧ Tab.wf (feeding .sending .offered).feed.contexts = true
      ∧ { feeding .sending .offered with planner.trunks := trunkless.planner.trunks }.freeTrunk = none
      ∧ ((feeding .sending .offered).boothRec 1).isSome = true) :=
  ⟨hears_of (by decide), hears_of (by decide), hears_of (by decide), hears_of (by decide), by decide⟩

/-- The clause of FeedOffersAndAnswers on an offer under the key of a receiving context. -/
theorem test_meets_FeedOfferedAgain :
    let s := feeding .receiving .offered
    let freed : State := { s with feed.contexts := Tab.erase s.feed.contexts 1 }
    s.hears three
      ∧ (s.matchFeed .receiving 3 1 1 = some 1 ∧ s.context 1 = some (feed .receiving .offered)
      ∧ Tab.wf s.feed.contexts = true ∧ freed.offerRefused eng 1 = some .language ∧ freed.offerRefused fra 1 = none
      ∧ Tab.firstFree freed.feed.contexts 1 4 = some 1) :=
  ⟨hears_of (by decide), by decide⟩

/-- The station with a receiving feed and channel 1 held by desk 1 of booth 1. -/
def contested (st : FeedState) : State := { held with feed := ⟨[(1, feed .receiving st)]⟩ }

theorem test_meets_FeedStatesMoveContexts :
    (feeding .receiving .accepted).hears three ∧ (contested .routed).hears three
      ∧ { feeding .receiving .routed with planner.hall := .recess }.hears three
      ∧ { feeding .receiving .accepted with planner.trunks := [(1, .peer 9 3)] }.hears three
      ∧ (base.matchFeed .receiving 3 1 1 = none ∧ (feeding .receiving .accepted).matchFeed .receiving 3 1 1 = some 1
      ∧ (feeding .receiving .accepted).context 1 = some (feed .receiving .accepted)
      ∧ (feeding .receiving .accepted).trunkOpenTo 3 12 = true
      ∧ { feeding .receiving .accepted with planner.trunks := [(1, .peer 9 3)] }.trunkOpenTo 3 1 = false
      ∧ (feed .receiving .accepted).senderLive = false ∧ (feed .receiving .routed).target = 1
      ∧ Tab.wf (contested .routed).feed.contexts = true
      ∧ (contested .routed).channel 1 = some (chan .onAir (some 3) (.desk 1 1))
      ∧ (feeding .receiving .routed).channel 1 = some (chan .onAir (some 3) .none)
      ∧ (feeding .receiving .holding).context 1 = some (feed .receiving .holding)
      ∧ (feeding .receiving .routed).planner.hall = .session
      ∧ { feeding .receiving .routed with planner.hall := .recess }.planner.hall ≠ .session
      ∧ (feeding .receiving .routed).matchEnd 3 1 1 .host = some 1 ∧ base.matchEnd 3 1 1 .host = none) :=
  ⟨hears_of (by decide), hears_of (by decide), hears_of (by decide), hears_of (by decide), by decide⟩

/-- The station with serial 7 in its lost list. -/
def losing : State := { base with ledger.lost := [⟨7, 1, 900⟩] }

/-- The station with an orphan of station 3. -/
def orphaned (queries : Nat) (wait : Option Nat) : State :=
  { base with ledger.orphans := [⟨7, 3, 900, 50, queries, wait⟩] }

theorem test_meets_ReturnsAreAnswered :
    hired.hears three ∧ losing.hears three ∧ (settling (.hire 7)).hears three ∧ base.hears three
      ∧ (orphaned 1 none).hears three ∧ (orphaned 1 none).hears ⟨9, 1⟩
      ∧ (Tab.get hired.ledger.hires 7 = some hire ∧ hire.closing = none ∧ hired.logOpen = true
      ∧ losing.lostEntry 7 = some ⟨7, 1, 900⟩ ∧ (Tab.get losing.ledger.hires 7).all (fun h => h.closing.isSome) = true
      ∧ (settling (.hire 7)).lostEntry 7 = none
      ∧ Tab.get (settling (.hire 7)).ledger.hires 7 = some { hire with closing := some closing }
      ∧ base.lostEntry 7 = none ∧ Tab.get base.ledger.hires 7 = none ∧ 16777215 < 2 ^ 24 ∧ 100 ≤ 100
      ∧ (orphaned 1 none).orphan 7 = some ⟨7, 3, 900, 50, 1, none⟩
      ∧ ((orphaned 1 none).orphan 7).all (fun x => x.owner ≠ 9) = true
      ∧ ReturnOutcome.ok .notOpen = true ∧ (orphaned 12 (some 1)).orphan 7 = some ⟨7, 3, 900, 50, 12, some 1⟩
      ∧ (orphaned 11 (some 1)).orphan 7 = some ⟨7, 3, 900, 50, 11, some 1⟩) :=
  ⟨hears_of (by decide), hears_of (by decide), hears_of (by decide), hears_of (by decide), hears_of (by decide),
    hears_of (by decide), by decide⟩

theorem test_meets_FramesWithoutDelivery :
    base.hears three ∧ (List.all [((48 : Nat), true)] (fun x => stationOk x.1) = true
      ∧ Tab.get base.line.peers 3 = some ⟨0, [(5, true)], 10⟩ ∧ ([] : List (Nat × Bool)) ≠ [(5, true)]
      ∧ base.running = true ∧ base.line.state.live = true ∧ base.line.txScore < 200
      ∧ FrameFault.check ≠ .otherMark ∧ stationOk 60 = false ∧ 60 ≠ base.self) :=
  ⟨hears_of (by decide), by decide⟩

theorem test_meets_OtherFrames :
    base.hears other.sender ∧ (takenBy base.self other = none ∧ other.destination ≠ base.self
      ∧ takenBy base.self { other with destination := 5 } = some (.relayRequest 1 1)
      ∧ ({ other with precedence := 1 } : LineFrame).precedence ≠ precedenceOf other.kind
      ∧ broadcastKind 4 = true ∧ broadcastKind other.kind = false ∧ 11 < 12) :=
  ⟨hears_of (by decide), by decide⟩

theorem test_meets_PeersComeAndGo :
    base.running = true ∧ base.line.state.live = true ∧ base.line.txScore < 200 ∧ stationOk 48 = true ∧ 48 ≠ base.self
      ∧ Tab.get base.line.peers 48 = none ∧ Tab.get base.line.peers 9 = some ⟨1, [], 10⟩ ∧ (1 : Nat) ≠ 0
      ∧ takenBy base.self { other with source := 48 } = none ∧ takenBy base.self { other with source := 9 } = none
      ∧ 10 < 7000
      ∧ Tab.get { base with line.peers := [(9, ⟨1, [], 7000⟩)] }.line.peers 9 = some ⟨1, [], 7000⟩ := by decide

/-- The station near OFF-LINE with one frame waiting. -/
def failing : State :=
  { queued [⟨3, .relayRequest 1 1, none, 15⟩] with line.txScore := 192 }

theorem test_meets_OwnFrames :
    (queued [frame (.presence [])]).running = true ∧ (queued [frame (.presence [])]).line.state.live = true
      ∧ (queued [frame (.presence [])]).line.txScore < 200 ∧ (queued [frame (.presence [])]).frameOut = none
      ∧ headFrame (queued [frame (.presence [])]).line.queue = some (frame (.presence [])) ∧ base.line.queue = []
      ∧ (startFrame (queued [frame (.presence [])])).frameOut.isSome = true
      ∧ (startFrame failing).frameOut = some ⟨3, .relayRequest 1 1, some 0, 15⟩ ∧ 200 ≤ failing.line.txScore + 8
      ∧ 16 ≤ 15 + 1 ∧ (Payload.relayRequest 1 1).key = none ∧ base.line.txScore + 8 < 200
      ∧ (startFrame (queued [⟨3, .relayRequest 1 1, none, 15⟩])).frameOut = some ⟨3, .relayRequest 1 1, some 0, 15⟩
      ∧ (queued [⟨3, .relayRequest 1 1, none, 14⟩]).line.txScore + 8 < 200 ∧ 14 + 1 < 16 := by decide

/-- The station OFF-LINE after a count of sequences. -/
def offLine (n : Nat) : State := { base with line := { base.line with state := .offLine, sequences := n } }

theorem test_meets_LineStates :
    base.running = true ∧ { base with line.state := .joining }.line.state = .joining ∧ base.line.state ≠ .joining
      ∧ (offLine 79).line.state = .offLine ∧ 79 ≤ (offLine 79).line.sequences ∧ (offLine 78).line.sequences < 79
      ∧ base.line.state ≠ .offLine ∧ base.line.presence.isSome = true ∧ State.reset.line.presence = none
      ∧ ({ offLine 79 with planner.channels := [(1, { chan .onAir (some 3) .none with confirmed := false })] }.channel
          1).map (fun ch : Channel => (ch.subcarrier, ch.confirmed, ch.state)) = some (some 3, false, .onAir)
      ∧ Tab.wf [(1, chan .onAir (some 3) .none)] = true
      ∧ { offLine 79 with planner.trunks := [(2, .own .held false (.exported 1) none none)] }.trunk 2
          = some (.own .held false (.exported 1) none none) := by decide

theorem test_meets_OwnClaimTimers :
    base.running = true ∧ base.channel 1 = some (chan .onAir (some 3) .none) ∧ (chan .onAir (some 3) .none).window = none
      ∧ { chan .claiming (some 3) .none with window := some 1 }.window.isSome = true
      ∧ (chan .onAir (some 3) .none).refresh.isSome = true ∧ (chan .onAir (some 3) .none).notice.isSome = true
      ∧ (trunked (.own .window false (.feed 1) (some 1) none)).trunk 1 = some (.own .window false (.feed 1) (some 1) none)
      ∧ (exporting (.own .window false (.exported 1) (some 1) none)).trunk 2
          = some (.own .window false (.exported 1) (some 1) none)
      ∧ Tab.get (exporting (.own .window false (.exported 1) (some 1) none)).relay.exported 1 = some ⟨2, [⟨3, [2]⟩]⟩
      ∧ (exporting (.own .held false (.exported 1) (some 1) (some 1))).trunk 2
          = some (.own .held false (.exported 1) (some 1) (some 1))
      ∧ (feeding .sending .claiming).context 1 = some (feed .sending .claiming)
      ∧ { chan .onAir (some 3) .none with refresh := none, notice := none }.refresh = none
      ∧ (offLine 3).line.state = .offLine ∧ (trunked (.peer 3 5)).trunk 1 = some (.peer 3 5)
      ∧ (trunked (.own .held true (.feed 1) none (some 1))).trunk 1 = some (.own .held true (.feed 1) none (some 1))
      ∧ (trunked (.own .held true (.feed 1) none none)).trunk 1 = some (.own .held true (.feed 1) none none) := by decide

theorem test_meets_FeedWaits :
    base.running = true ∧ (feeding .sending .offered).context 1 = some (feed .sending .offered)
      ∧ (feed .sending .offered).answerWait.isSome = true ∧ (feed .receiving .offered).side = .receiving
      ∧ (feed .receiving .routed).readyWait.isSome = true ∧ (feed .receiving .blocked).blockedWait.isSome = true
      ∧ Tab.wf (contested .blocked).feed.contexts = true
      ∧ (contested .blocked).channel 1 = some (chan .onAir (some 3) (.desk 1 1))
      ∧ ((contested .blocked).boothRec 1).isSome = true := by decide

theorem test_meets_Walls :
    Tab.get base.planner.walls 1 = some ⟨true, true, none⟩ ∧ base.running = true ∧ Tab.has base.cfg.walls 1 = true
      ∧ Tab.get base.cfg.walls 1 = some 3
      ∧ Tab.get { base with planner.walls := [(1, ⟨false, true, some 1⟩), (4, ⟨true, false, none⟩)] }.planner.walls 1
          = some ⟨false, true, some 1⟩
      ∧ Tab.has base.cfg.walls 4 = false := by decide

/-- The station with slot 1 charging since a minute. -/
def charging (m : Nat) (low : Bool) : State :=
  { base with
    dock.slots := [(1, { slotIn .charging with chargeStart := some m, low := low, battery := some (if low then 9 else 10) })] }

theorem test_meets_Ticks :
    base.running = true ∧ configured.running = false ∧ { base with clock.second := 59 }.clock.second = 59
      ∧ base.clock.minute < 16777215 ∧ 16777215 ≤ { base with clock.minute := 16777215 }.clock.minute
      ∧ held.channelHeld 1 (chan .onAir (some 3) (.desk 1 1)) = true
      ∧ Tab.get hired.ledger.hires 7 = some hire ∧ hire.overdue = false
      ∧ (hired.tariff hire.tariff).horizon
          < daysTouched hired.cfg.dayBoundary hire.start { hired with clock.minute := 5000 }.clock.minute
      ∧ ((charging 970 true).slot 1).map Slot.chargeStart = some (some 970) ∧ 970 + 30 ≤ base.clock.minute
      ∧ base.clock.minute < 971 + 30 ∧ 760 + 240 ≤ base.clock.minute ∧ base.clock.minute < 761 + 240
      ∧ ((charging 970 true).slot 1).map (fun sl => (sl.low, sl.battery.any (· < 10))) = some (true, true)
      ∧ ((charging 970 false).slot 1).map Slot.low = some false := by decide +kernel

/-- The minute's charging tests, at minute 1,001: a start after the minute, before 30 minutes, a dead cell, past 30, past
240, and a slot that does not charge. -/
theorem test_meets_MinuteCharging :
    ((charging 2000 true).slot 1).map Slot.state = some .charging ∧ min 2000 1001 = 1001 ∧ 1001 < 1001 + 30
      ∧ 1001 < 972 + 30 ∧ 971 + 30 ≤ 1001 ∧ 1001 < 971 + 240 ∧ 761 + 240 ≤ 1001
      ∧ ((charging 971 true).slot 1).map (fun sl => (sl.chargeStart, sl.low, sl.battery.any (· < 10)))
          = some (some 971, true, true)
      ∧ ((charging 761 false).slot 1).map (fun sl => (sl.chargeStart, sl.low)) = some (some 761, false)
      ∧ (stocked.slot 1).map Slot.state = some .ready ∧ base.clock.second ≠ 59 := by decide +kernel

theorem test_meets_MapAndMask :
    base.running = true ∧ base.map.radiator = true ∧ { base with map.radiator := false }.map.radiator = false
      ∧ { base with map.holdCount := 1 }.map.holdCount = 1 ∧ base.map.back.records = base.map.front.records
      ∧ { base with map.sending := some ⟨true, []⟩ }.map.sending = some ⟨true, []⟩
      ∧ { base with map.mask := base.onAirSubcarriers }.maskFollows := by
  refine ⟨?_, ?_, ?_, ?_, ?_, ?_, rfl⟩ <;> decide

theorem test_meets_MapSwitch :
    let s : State :=
      { base with map := { base.map with
          back := { base.map.back with records := [⟨1, fra, .live, false, some 4⟩] }
          front := { base.map.front with records := [⟨1, fra, .live, false, some 3⟩] } } }
    s.map.radiator = true ∧ s.map.back.records ≠ s.map.front.records ∧ ¬0 < s.map.holdCount - 1 ∧ s.cfg.hold = true
      ∧ recordOf s.map.front 1 = some ⟨1, fra, .live, false, some 3⟩ := by decide

theorem test_meets_PanelArbiter :
    base.running = true ∧ base.panel.exchange = none
      ∧ { base with panel.exchange := some (.poll 1) }.panel.exchange.isSome = true
      ∧ nextMessage (waiting base (.route 0) .plain).panel.outbound = some ⟨.route 0, .plain, false⟩
      ∧ nextMessage base.panel.outbound = none ∧ { base with panel.polls := some [1] }.panel.polls = some [1]
      ∧ base.panel.polls = none ∧ base.roundPolls ≠ [] ∧ { base with panel.polls := some [] }.panel.polls = some []
      ∧ { base with panel.round := 1 }.roundPolls ≠ [] := by decide

/-- The station in an overlap of booth 1, from desk 1 to desk 2. -/
def overlapping : State :=
  { held with
    booth :=
      { booths := Tab.modify held.booth.booths 1 fun bo => { bo with partner := some 2, overlap := some 4 }
        desks := Tab.modify (Tab.modify held.booth.desks 1 fun r => { r with state := .overlapOut }) 2
          fun r => { r with state := .overlapIn, cough := true } } }

theorem test_meets_DeskKeys :
    base.running = true ∧ base.desk 1 = some (freshDesk 1) ∧ (base.boothRec 1).isSome = true ∧ base.dropOnline 1 = true
      ∧ base.panel.exchange = none ∧ base.planner.hall = .session ∧ (freshDesk 1).state = .off
      ∧ (base.boothRec 1).map Booth.target = some (some (.channel 1))
      ∧ base.channel 1 = some (chan .onAir (some 3) .none)
      ∧ (base.boothRec 1).map (fun bo => (bo.holding, bo.overlap, bo.selected)) = some (none, none, .a)
      ∧ (hall .recess).planner.hall ≠ .session ∧ (hall .recess).panel.outbound = [] ∧ (hall .recess).panel.deferred = []
      ∧ (hall .recess).gateOf (freshDesk 1) = (freshDesk 1).gate
      ∧ (held.desk 1).map Desk.state = some .live ∧ held.channel 1 = some (chan .onAir (some 3) (.desk 1 1))
      ∧ held.waitingFeed 1 = none
      ∧ (overlapping.boothRec 1).map (fun bo => (bo.overlap.isSome, bo.holding, bo.partner)) = some (true, some 1, some 2)
      ∧ (overlapping.desk 2).isSome = true := by decide

/-- A station whose desk d shows the lamps and the gate its record calls for. -/
def shown (d : Nat) (s : State) : State :=
  { s with
    booth.desks := Tab.modify s.booth.desks d fun r => { r with gate := s.gateOf r, lamps := s.lampsOf d r } }

/-- Nothing is queued for the panel, and desk d shows what its record calls for. -/
def quiet (d : Nat) (s : State) : Bool :=
  s.panel.outbound = [] && s.panel.deferred = []
    && (s.desk d).any fun r => s.gateOf r == r.gate && s.lampsOf d r == r.lamps

/-- Channel 1 held by desk 1 of booth 1, in a handover mode, desk 2 OFF. -/
def moded (m : Handover) : State :=
  shown 2 { held with
    booth.booths := Tab.modify held.booth.booths 1 fun bo => { bo with mode := m }
    panel.routes := [(busOutput 1, .mic 1)] }

/-- Channel 1 held by desk 1 of booth 1, and its output of booth 2 as well, under an interlock. -/
def crossed (k : Interlock) : State :=
  shown 3 { held with
    clock.config := some { settings with interlock := k }
    booth.booths := Tab.modify held.booth.booths 2 fun bo => { bo with outputA := some 1 } }

/-- Channel 1 held by a receiving feed. -/
def fed : State :=
  shown 1 { feeding .receiving .holding with
    planner.channels := Tab.set base.planner.channels 1 (chan .onAir (some 3) (.feed 1)) }

theorem test_meets_DeskKeysOfOneBooth :
    quiet 2 (moded .interlock) = true ∧ ((moded .interlock).desk 2).map Desk.state = some .off
      ∧ ((moded .takeOver).boothRec 1).map (fun bo => (bo.mode, bo.holding, bo.overlap, bo.target))
          = some (.takeOver, some 1, none, some (.channel 1))
      ∧ ((moded .overlap).boothRec 1).map Booth.mode = some .overlap
      ∧ (moded .takeOver).channel 1 = some (chan .onAir (some 3) (.desk 1 1)) ∧ 1 ≠ 2
      ∧ ((moded .takeOver).desk 1).map Desk.state = some .live
      ∧ (moded .takeOver).route (busOutput 1) = .mic 1 := by decide

theorem test_meets_DeskKeysAcross :
    quiet 3 (crossed .refuse) = true ∧ ((crossed .refuse).desk 3).map Desk.state = some .off
      ∧ ((crossed .refuse).boothRec 2).map (fun bo => (bo.target, bo.holding, bo.overlap))
          = some (some (.channel 1), none, none)
      ∧ (crossed .refuse).channel 1 = some (chan .onAir (some 3) (.desk 1 1)) ∧ 1 ≠ 2
      ∧ (crossed .refuse).cfg.interlock = .refuse ∧ (crossed .takeOver).cfg.interlock = .takeOver
      ∧ ((crossed .takeOver).boothRec 1).map (fun bo => decide (3 ∉ bo.desks)) = some true
      ∧ quiet 1 fed = true ∧ fed.channel 1 = some (chan .onAir (some 3) (.feed 1))
      ∧ fed.context 1 = some (feed .receiving .holding) ∧ fed.cfg.interlock = .refuse
      ∧ { fed with clock.config := some { settings with interlock := .takeOver } }.cfg.interlock = .takeOver := by decide

/-- Channel 1 held by desk 1 of booth 1, whose output B names channel 2, open. -/
def twoOutputs : State :=
  { held with planner.channels := held.planner.channels ++ [(2, chan .onAir (some 4) .none)] }

theorem test_meets_DeskOutputs :
    (twoOutputs.desk 1).map Desk.state = some .live
      ∧ (twoOutputs.boothRec 1).map (fun bo => (bo.selected, bo.outputA, bo.outputB)) = some (.a, some 1, some 2)
      ∧ (twoOutputs.boothRec 1).map (fun bo => (bo.feed, bo.overlap, bo.holding)) = some (none, none, some 1)
      ∧ twoOutputs.channel 1 = some (chan .onAir (some 3) (.desk 1 1)) ∧ twoOutputs.waitingFeed 1 = none
      ∧ twoOutputs.channel 2 = some (chan .onAir (some 4) .none)
      ∧ quiet 1 (shown 1 { held with
          booth.booths := Tab.modify held.booth.booths 1 fun bo => { bo with outputB := none } }) = true := by decide

/-- The station in RECESS with desk 1 OFF and its lamps shown. -/
def resting : State :=
  { hall .recess with
    booth.desks := Tab.modify base.booth.desks 1 fun r => { r with lamps := (hall .recess).lampsOf 1 (freshDesk 1) } }

theorem test_meets_DeskKeysElsewhere :
    resting.planner.hall ≠ .session ∧ resting.panel.outbound = [] ∧ resting.panel.deferred = []
      ∧ (resting.desk 1).map (fun r => (r.state, resting.gateOf r == r.gate, resting.lampsOf 1 r == r.lamps))
          = some (.off, true, true)
      ∧ (Tab.get (Tab.modify held.booth.desks 1 fun r => { r with state := .cough }) 1).map Desk.state = some .cough := by
  decide

theorem test_meets_SlotReplies :
    base.running = true ∧ base.slot 2 = some Slot.empty ∧ base.dropOnline (slotAddress 2) = true
      ∧ (docked .reading).slot 1 = some (slotIn .reading) ∧ (docked .charging).slot 1 = some (slotIn .charging)
      ∧ stocked.slot 1 = some (slotIn .ready) ∧ (docked .fault).slot 1 = some (slotIn .fault)
      ∧ (issuing .awaitingRemoval).slot 1 = some (slotIn .issuing)
      ∧ (issuing .awaitingRemoval).issueOf 1 = some (1, order .awaitingRemoval)
      ∧ (issuing .presetting).issueOf 1 = some (1, order .presetting)
      ∧ (Tab.get (issuing .awaitingRemoval).account.accounts 1).isSome = true
      ∧ true ≠ (slotIn .ready).latchOpen ∧ (∀ m ∈ stocked.panel.outbound, m.body.target ≠ .latch 1)
      ∧ (∃ m ∈ (waiting (docked .reading) (.identify 1) .plain).panel.outbound, m.body = .identify 1)
      ∧ (slotIn .reading).hold = none ∧ (docked .reading).dockedElsewhere 1 7 = false
      ∧ { docked .reading with dock.slots := [(1, slotIn .reading), (2, slotIn .charging)] }.dockedElsewhere 1 7 = true
      ∧ Tab.get (docked .reading).ledger.hires 7 = none ∧ (docked .reading).lostEntry 7 = none
      ∧ Tab.get { docked .reading with ledger.hires := [(7, hire)] }.ledger.hires 7 = some hire
      ∧ base.cfg.readyLevel ≤ 80 ∧ 79 < base.cfg.readyLevel ∧ 69 < base.cfg.readyLevel - 10
      ∧ base.cfg.readyLevel - 10 ≤ 70 := by decide

/-- Slot 1 READING, its IDENTIFY waiting. -/
def asked (s : State) : State := waiting { s with dock := (docked .reading).dock } (.identify 1) .plain

theorem test_meets_SlotReturns :
    (asked hired).panel.exchange = none ∧ (asked hired).slot 1 = some (slotIn .reading)
      ∧ (asked hired).dockedElsewhere 1 7 = false ∧ (asked hired).logOpen = true ∧ (asked hired).dropOnline 32 = true
      ∧ Tab.get (asked { hired with account.log := fullLog }).ledger.hires 7 = some hire
      ∧ (asked { hired with account.log := fullLog }).logOpen = false
      ∧ (asked losing).lostEntry 7 = some ⟨7, 1, 900⟩ ∧ Tab.get (asked losing).ledger.hires 7 = none
      ∧ (asked losing).logOpen = true ∧ (asked base).orphan 7 = none ∧ (asked base).ledger.orphans.length < 16
      ∧ Tab.has (asked base).line.peers 9 = true ∧ Tab.has (asked base).line.peers 12 = false ∧ 12 ≠ base.self
      ∧ { slotIn .reading with hold := some ⟨7, ⟨0, eng⟩, true⟩ }.hold = some ⟨7, ⟨0, eng⟩, true⟩ := by decide +kernel

theorem test_meets_AnsweredMessages :
    (issuing .presetting).running = true ∧ (issuing .presetting).panel.exchange = none
      ∧ Tab.get base.panel.drops (Body.preset 1 eng 5).drop = some ⟨.slot, true, 0⟩
      ∧ (waiting (issuing .presetting) (.preset 1 eng 5) (.issue 1)).panel.outbound.find?
          (fun x => x.body.drop = (Body.preset 1 eng 5).drop && x.body.kind = (Body.preset 1 eng 5).kind)
          = some ⟨.preset 1 eng 5, .issue 1, false⟩
      ∧ (order .presetting).phase = .presetting ∧ (issuing .presetting).slot 1 = some (slotIn .issuing)
      ∧ (waiting (issuing .unlatching) (.latch 1 true) (.issue 1)).panel.outbound.find?
          (fun x => x.body.drop = (Body.latch 1 true).drop && x.body.kind = (Body.latch 1 true).kind)
          = some ⟨.latch 1 true, .issue 1, false⟩
      ∧ (order .unlatching).phase = .unlatching
      ∧ (waiting base (.clearMark 1) .plain).panel.outbound.find?
          (fun x => x.body.drop = (Body.clearMark 1).drop && x.body.kind = (Body.clearMark 1).kind)
          = some ⟨.clearMark 1, .plain, false⟩
      ∧ (Body.gate 1 true).kind = .gate
      ∧ Tab.get (Tab.set base.panel.drops 0 ⟨.matrix, false, 3⟩) 0 = some ⟨.matrix, false, 3⟩ := by decide

theorem test_meets_SilentExchanges :
    base.running = true ∧ base.panel.exchange = none ∧ Tab.get base.panel.drops (slotAddress 1) = some ⟨.slot, true, 0⟩
      ∧ Tab.get (Tab.set base.panel.drops 1 ⟨.desk, true, 2⟩) 1 = some ⟨.desk, true, 2⟩
      ∧ Tab.get (Tab.set base.panel.drops 1 ⟨.desk, false, 3⟩) 1 = some ⟨.desk, false, 3⟩
      ∧ (base.desk 1).isSome = true ∧ (base.slot (32 - 31)).isSome = true
      ∧ (waiting (issuing .presetting) (.preset 1 eng 5) (.issue 1)).panel.outbound.find?
          (fun x => x.body.drop = slotAddress 1 && x.body.kind = .preset) = some ⟨.preset 1 eng 5, .issue 1, false⟩
      ∧ Tab.get (issuing .presetting).dock.issues 1 = some (order .presetting) ∧ (order .presetting).slot = 1 := by decide

/-- The clause of SilentExchanges on the messages that are queued again, for each of their kinds. -/
theorem test_meets_SilentMessages :
    let asks (s : State) (a : Nat) (k : MsgKind) (b : Body) : Bool :=
      s.running && s.panel.exchange.isNone && b.kind = k && b.drop = a && (Tab.get s.panel.drops a).isSome
        && s.panel.outbound.find? (fun x => x.body.drop = a && x.body.kind = b.kind) = some ⟨b, .plain, false⟩
    let one (b : Body) : State := waiting (docked .charging) b .plain
    let mark : Slot := { slotIn .fault with clearMark := true }
    asks (one (.route 2)) 0 .route (.route 2) = true
      ∧ asks (one (.gate 1 true)) 1 .gate (.gate 1 true) = true
      ∧ asks (one (.lamps 1 ⟨.dark, .dark, .dark, .dark, .dark, .dark⟩ none)) 1 .lamps
          (.lamps 1 ⟨.dark, .dark, .dark, .dark, .dark, .dark⟩ none) = true
      ∧ asks (one (.identify 1)) 32 .identify (.identify 1) = true
      ∧ (docked .charging).slotOccupied 1 = true
      ∧ asks (one (.latch 1 false)) 32 .latch (.latch 1 false) = true
      ∧ asks (waiting { base with dock.slots := [(1, mark)] } (.clearMark 1) .plain) 32 .clearMark (.clearMark 1) = true
      ∧ mark.clearMark = true ∧ (one (.identify 1)).slot 1 = some (slotIn .charging) := by decide

/-- Desks 1 and 2 in an overlap, the drop of one of them near OFFLINE. -/
theorem test_meets_SilentDesks :
    let s (d : Nat) : State := { overlapping with panel.drops := Tab.set overlapping.panel.drops d ⟨.desk, true, 2⟩ }
    Tab.get (s 1).panel.drops 1 = some ⟨.desk, true, 2⟩ ∧ Tab.get (s 2).panel.drops 2 = some ⟨.desk, true, 2⟩
      ∧ ((s 1).desk 1).map Desk.state = some .overlapOut ∧ ((s 2).desk 2).map Desk.state = some .overlapIn
      ∧ ((s 1).boothRec 1).map (fun bo => (bo.holding, bo.partner)) = some (some 1, some 2)
      ∧ (held.desk 1).map Desk.state = some .live := by decide

theorem test_meets_SupplyAndRestarts :
    base.clock.station ≠ .retain ∧ base.clock.supply = .normal ∧ { base with clock.supply := .low }.clock.supply = .low
      ∧ (inState .retain).clock.station = .retain ∧ (inState .retain).clock.retainedValid = true
      ∧ { inState .retain with clock.retainedValid := false }.clock.retainedValid = false ∧ base.running = true
      ∧ configured.running = false ∧ base.clock.resetHeld = false ∧ { base with clock.resetHeld := true }.clock.resetHeld = true
      ∧ State.reset.clock.station = .unconfigured ∧ base.clock.retentionPresent = true := by decide

/-! ### Steps -/

/-- A check of the state after a command; false where the command does not answer a next state. -/
def after (s : State) (i : Instr) (p : State → Bool) : Bool :=
  match exec i s with
  | .next t => p t
  | _ => false

/-- The result of the answer waiting. -/
def result (s : State) : Option Result := s.port.answer.map Answer.result

theorem test_step_reset : step State.reset = .next (idle State.reset) ∧ idle State.reset = State.reset :=
  ⟨rfl, by decide +kernel⟩

theorem test_step_front : ∃ t, step { base with pending := [.secondTick, .minuteTick] } = .next t
    ∧ t.pending = [.minuteTick] ∧ t.clock.second = 31 := ⟨_, rfl, by decide +kernel, by decide +kernel⟩

/-- Cases 1 to 6 of section 8.2.1. -/
theorem test_time_charge :
    let t : Tariff := ⟨30, 150, 10, 1200, 5000, 2⟩
    timeCharge 240 t 600 3170 = 2700 ∧ timeCharge 240 t 600 605 = 0 ∧ timeCharge 240 t 600 1680 = 1200
      ∧ timeCharge 240 { t with grace := 120 } 1620 1800 = 600 ∧ timeCharge 0 ⟨50, 100, 0, 0, 0, 1⟩ 1000 4000 = 6100
      ∧ timeCharge 0 ⟨1, 65535, 0, 0, 0, 1⟩ 0 3000 = 99999999 ∧ daysTouched 240 600 3170 = 3 := by decide +kernel

/-- The loss of section 8.3.1. -/
theorem test_loss_closing :
    (({ hired with clock.minute := 1700 } : State).closingOf { hire with start := 600 } .loss 1700 none).figures
      = ⟨1350, 5000, 2000, 2000, 0, 4350⟩ := by decide +kernel

theorem test_configure :
    after State.reset (.configure block) (fun t => result t = some .done && t.clock.station = .configured
      && (t.boothRec 1).isSome && (t.slot 2).isSome && (t.slot 3).isNone) = true := by decide +kernel

theorem test_start :
    after configured (.start []) (fun t => t.running && t.line.state = .joining && t.panel.out = .lineBreak) = true := by
  decide +kernel

theorem test_set_clock :
    after base (.setClock [0, 4, 0, 9]) (fun t => t.clock.minute = 1024 && t.clock.second = 9
      && t.port.answer = some ⟨.done, [0, 4, 0, 9]⟩) = true := by decide +kernel

theorem test_set_hall_state :
    after (hall .session) (.setHallState [0]) (fun t => t.planner.channels = [] && !t.map.radiator) = true
      ∧ after (hall .session) (.setHallState [3]) (fun t => result t = some .range) = true := by decide +kernel

theorem test_open_channel :
    after base (.openChannel [9, 19, 16, 1, 1]) (fun t => (t.channel 9).map Channel.state = some .claiming
      && (t.line.queue.take 2).map (fun f => f.payload)
        = [.channelNotice 9 ⟨19, 16, 1⟩ .silent none
            [⟨5, 0, eng⟩, ⟨5, 0, ⟨19, 16, 1⟩⟩], .claim (.subcarrier 5) .claim 9 ⟨19, 16, 1⟩]) = true
      ∧ after crowded (.openChannel [9, 19, 16, 1, 1]) (fun t => (t.channel 9).map Channel.state = some .starved) = true := by
  decide +kernel

theorem test_close_channel :
    after base (.closeChannel [1]) (fun t => (t.channel 1).isNone && t.account.log.length = 1
      && (Tab.get t.account.accounts 1).map Account.channelMinutes = some 2) = true := by decide +kernel

theorem test_assign_output :
    after base (.assignOutput [2, 0, 1]) (fun t => (t.boothRec 2).map Booth.outputA = some (some 1)) = true
      ∧ after held (.assignOutput [1, 0, 2]) (fun t => result t = some .state) = true := by decide +kernel

theorem test_select_relay :
    after listening (.selectRelay [1, 3, 3, 4]) (fun t => (t.boothRec 1).map Booth.relay = some .waiting
      && t.line.queue.any fun f => f.dest = 3 && f.payload = .relayRequest 4 1) = true := by decide +kernel

theorem test_issue :
    after stocked (.issue [1, 0, 6, 18, 1, 0, 7, 208]) (fun t => t.port.answer = some ⟨.done, [1, 1, 0, 0, 7]⟩
      && (t.slot 1).map Slot.state = some .issuing && t.dock.ready = []) = true := by decide +kernel

theorem test_issue_removed :
    after (issuing .awaitingRemoval) (.slotPollReply 1 false false)
      (fun t => Tab.get t.ledger.hires 7 = some ⟨1, 0, eng, 2000, 1000, false, none⟩ && t.dock.issues = []) = true := by
  decide +kernel

theorem test_declare_lost :
    after hired (.declareLost [0, 0, 7]) (fun t => result t = some .done && t.ledger.lost = [⟨7, 1, 1000⟩]
      && t.ledger.hires = []) = true := by decide +kernel

theorem test_read_settlement :
    after (settling (.hire 7)) (.readSettlement []) (fun t => t.account.closing = [] && t.ledger.hires = []
      && t.account.log.map LogRecord.number = [0]) = true := by decide +kernel

theorem test_read_event_overrun :
    after { told 64 with events.overrun := 3 } (.readEvent []) (fun t => t.events.overrun = 0
      && t.events.queue.getLast? = some ⟨.overrun, 1000, 30, [3]⟩) = true := by decide +kernel

theorem test_claim_yield :
    after base (.claim three false 3 1 eng) (fun t => (t.channel 1).map Channel.state = some .shifting
      && t.events.queue.any (fun e => e.kind = .claimYielded && e.fields = [1, 3, 3]) && t.map.mask = [2]) = true := by
  decide +kernel

theorem test_claim_kept :
    after { base with planner.zone := [3, 5, 9] } (.claim ⟨9, 1⟩ false 3 1 eng)
      (fun t => (t.channel 1).map Channel.state = some .onAir
        && t.line.queue.any fun f => f.payload = .claim (.subcarrier 3) .refresh 1 fra) = true := by decide +kernel

theorem test_relay_request :
    after base (.relayRequest three 1 2) (fun t => t.trunk 1 = some (.own .window false (.exported 1) (some 600) none))
      = true ∧ after trunkless (.relayRequest three 1 2)
        (fun t => t.line.queue.any fun f => f.payload = .relayAnswer 1 (.refuse .noTrunk)) = true := by decide +kernel

theorem test_relay_grant :
    after listening (.relayAnswer three 4 (.grant 6)) (fun t => (t.boothRec 2).map Booth.sourceTrunk = some (some 6)
      && t.route (inputOutput 2) = .trunk 6) = true := by decide +kernel

theorem test_feed_offer :
    after base (.feedOffer three 2 fra 1 [⟨3, 2, fra⟩]) (fun t => (t.context 1).map Feed.state = some .offered) = true := by
  decide +kernel

theorem test_feed_live_holds :
    after (feeding .receiving .routed) (.feedStateLive three 1 1 [⟨3, 1, fra⟩])
      (fun t => (t.channel 1).map Channel.holder = some (.feed 1)) = true
      ∧ after (contested .routed) (.feedStateLive three 1 1 [⟨3, 1, fra⟩])
        (fun t => (t.context 1).map Feed.state = some .blocked) = true := by decide +kernel

theorem test_return_query :
    after hired (.returnQuery three 7 900 60) (fun t => t.ledger.hires = []
      && t.line.queue.any fun f => f.dest = 3 && f.payload.code = 9) = true := by decide +kernel

theorem test_peer_epoch :
    after (trunked (.peer 3 5)) (.frameForOtherStation { other with epoch := 1 }) (fun t => t.relay.directory = [] && t.planner.trunks = []
      && (t.boothRec 2).map Booth.relay = some .lost) = true := by decide +kernel

theorem test_frame_unheard :
    after failing (.transmitFailure .noAck) (fun t => t.line.state = .offLine
      && t.events.queue.any fun e => e.kind = .frameUnheard) = true := by decide +kernel

theorem test_rejoin :
    after (offLine 79) .recessiveSequence (fun t => t.line.state = .joined && t.line.epoch = 1) = true := by
  decide +kernel

theorem test_claim_window :
    after { base with planner.channels := [(1, { chan .claiming (some 3) .none with window := some 1 })] }
      (.claimWindowExpiry 1) (fun t => (t.channel 1).map Channel.state = some .onAir && t.map.mask = [3]) = true := by
  decide +kernel

theorem test_wall :
    after { base with planner.walls := [(1, ⟨false, true, some 1⟩)] } (.wallDebounce 1)
      (fun t => t.ownEdges = [(3, false)] && t.planner.zone = t.zoneNow) = true := by decide +kernel

theorem test_second_tick_turns :
    after { base with clock.second := 59 } .secondTick (fun t => t.clock.minute = 1001 && t.clock.second = 0) = true := by
  decide +kernel

theorem test_desk_take :
    after base (.deskPollReply 1 [.take]) (fun t => (t.boothRec 1).map Booth.holding = some (some 1)
      && t.route (busOutput 1) = .mic 1 && (t.desk 1).map Desk.gate = some true) = true := by decide +kernel

theorem test_overlap_ends :
    after overlapping (.overlapTimer 1) (fun t => (t.desk 1).map Desk.state = some .off
      && (t.desk 2).map Desk.state = some .cough) = true := by decide +kernel

theorem test_drop_offline :
    after { base with panel.drops := Tab.set base.panel.drops 32 ⟨.slot, true, 2⟩ } (.exchangeSilent 32 .poll)
      (fun t => (t.slot 1).map Slot.state = some .offline && !t.dropOnline 32) = true := by decide +kernel

theorem test_warm_start :
    after (inState .retain) (.supplyRiseAboveWarn true) (fun t => t.clock.station = .running && t.line.epoch = 1
      && t.events.queue.head?.map Event.kind = some .warmStart) = true := by decide +kernel

theorem test_cold_start :
    after (inState .retain) (.supplyRiseAboveWarn false) (fun t => t.clock.station = .unconfigured
      && t.ledger = ⟨[], [], []⟩) = true := by decide +kernel

/-- A PEER_LOST taken before its 7 s does nothing (R174). -/
theorem test_peer_lost :
    after base (.peerLost 9) (fun t => Tab.has t.line.peers 9) = true
      ∧ after { base with line.peers := [(9, ⟨1, [], 7000⟩)] } (.peerLost 9) (fun t => !Tab.has t.line.peers 9) = true := by
  decide +kernel

/-- A relayed input named again is accepted, whatever its tests would find now (R56). -/
theorem test_select_relay_again :
    after { listening with relay.directory := [⟨3, 4, fra, [⟨5, 2, fra⟩], .closed, none, 5⟩] } (.selectRelay [2, 3, 3, 4])
      (fun t => result t = some .done && (t.boothRec 2).map Booth.relay = some .waiting) = true := by decide +kernel

/-- A silent LATCH close to an EMPTY slot is queued again (R109, R116). -/
theorem test_latch_repeated :
    after { waiting (docked .empty) (.latch 2 false) .plain with panel.outbound := [⟨.latch 2 false, .plain, false⟩] }
      (.exchangeSilent 33 .latch) (fun t => t.panel.outbound.any fun m => m.body = .latch 2 false) = true := by
  decide +kernel

/-- A warm start to CONFIGURED sends the OFF word and sets the start-up flags (R96, R111, R121). -/
theorem test_warm_start_configured :
    after { configured with clock := { configured.clock with station := .retain } } (.supplyRiseAboveWarn true)
      (fun t => t.clock.station = .configured && t.map.sending = some ⟨false, []⟩
        && t.dock.slots.all fun e => e.2.startUp) = true := by decide +kernel

/-- The carrier is high for the high count of a period, then low for the low count (R98). -/
theorem test_carrier_level :
    (List.range 9).map (waveLevel [⟨6, some (2, 1)⟩, ⟨2, none⟩])
      = [true, true, false, true, true, false, false, false, false] := by decide

/-! ### What the wires spell -/

theorem test_transfer :
    transferCommand [4, 0, 1, 2] = some (.setHallState [2]) ∧ transferCommand [4, 0, 1, 2, 9] = some (.setHallState [2])
      ∧ transferCommand [4, 0, 1] = some (.incompleteTransfer [4, 0, 1])
      ∧ transferCommand [0, 0, 0] = some (.answerTransfer 2)
      ∧ transferCommand [24, 0, 0] = some (.unknownCommandCode 24 []) ∧ transferCommand [] = none := by decide

theorem test_replies :
    replyCommand 1 .poll [⟨false, 2⟩, ⟨false, 1⟩, ⟨false, 0⟩, ⟨false, 0⟩, ⟨false, 7⟩, ⟨false, 132⟩, ⟨false, 3⟩]
        = .deskPollReply 1 [.take, .relay (.remote 3 4)]
      ∧ replyCommand 33 .poll [⟨false, 3⟩] = .slotPollReply 2 true true
      ∧ replyCommand 33 .identify [⟨false, 0⟩] = .identifyReply 2 none
      ∧ replyCommand 32 .identify
          [⟨false, 1⟩, ⟨false, 0⟩, ⟨false, 1⟩, ⟨false, 4⟩, ⟨false, 90⟩, ⟨false, 5⟩, ⟨false, 26⟩, ⟨false, 66⟩]
        = .identifyReply 1 (some ⟨260, 90, 5, ⟨3, 9, 1⟩⟩)
      ∧ replyCommand 0 .route [⟨false, 1⟩] = .messageAnswered 0 .route
      ∧ replyCommand 32 .latch [⟨false, 0⟩] = .exchangeSilent 32 .latch
      ∧ replyCommand 1 .gate [] = .exchangeSilent 1 .gate := by decide

/-- A frame read from its bits: to another station, to this one, of this one's own number, and with one bit wrong. -/
theorem test_frame_heard :
    heardCommand 5 (lineBits other) = .frameForOtherStation other
      ∧ heardCommand 7 (lineBits other) = .relayRequest ⟨3, 0⟩ 1 1
      ∧ heardCommand 3 (lineBits other) = .duplicateStation 5 0
      ∧ heardCommand 7 ((lineBits other).modify 20 not) = .receiveFault .check := by decide +kernel

/-- Eight dominant bits in a row are another station's mark, in the span and in the end field; seven, or a run of
recessive bits, break the spacing rule (R162, log 52). -/
theorem test_marks_heard :
    let l := lineBits other
    heardCommand 7 (l.take 10 ++ List.replicate 8 false ++ l.drop 18) = .receiveFault .otherMark
      ∧ heardCommand 7 (l.take 10 ++ [true] ++ List.replicate 7 false ++ [true] ++ l.drop 18) = .receiveFault .spacing
      ∧ heardCommand 7 (l.take 10 ++ List.replicate 8 true ++ l.drop 18) = .receiveFault .spacing
      ∧ heardCommand 7 (l.take (l.length - 8) ++ List.replicate 8 false) = .receiveFault .otherMark
      ∧ heardCommand 7 (l.take (l.length - 2) ++ [false, true]) = .receiveFault .endField := by decide +kernel

/-- A notice of channel 0 follows a change of its language, and not a setting to the language it has (R6, R69). -/
theorem test_floor_notice :
    let notices (t : State) : Bool :=
      t.line.queue.any fun f => match f.payload with | .channelNotice 0 _ _ _ _ => true | _ => false
    let zero : Channel :=
      { chan .onAir (some 2) .none with language := eng, account := 0, pedigree := [⟨5, 0, eng⟩], announced := .live }
    let s : State := { base with planner.channels := [(0, zero)] }
    after s (.setFloorLanguage [5, 14, 7]) (fun t => !notices t) = true
      ∧ after s (.setFloorLanguage [6, 18, 1]) notices = true := by decide +kernel

/-- WALL CHANGED carries 0 for open and 1 for closed (R15, section 10.7.1). -/
theorem test_wall_position :
    after { base with planner.walls := [(1, ⟨false, true, some 1⟩)] } (.wallDebounce 1)
        (fun t => t.events.queue.any fun e => e.kind = .wallChanged && e.fields = [1, 3, 1]) = true
      ∧ after { base with planner.walls := [(1, ⟨true, false, some 1⟩)] } (.wallDebounce 1)
        (fun t => t.events.queue.any fun e => e.kind = .wallChanged && e.fields = [1, 3, 0]) = true := by decide +kernel

/-! ### Witnesses for the clauses on hall states, trunks that pass, overlaps and RELAY keys -/

/-- The clauses of HallStateKeepsChannels: a holding desk, a LIVE sending feed, a holding receiving feed, a waiting one. -/
theorem test_meets_HallLeavesSession :
    let live : State := { held with
      booth.booths := Tab.modify held.booth.booths 1 fun bo => { bo with feed := some 1 }
      feed := ⟨[(1, feed .sending .live)]⟩ }
    let waits : State := { feeding .receiving .routed with
      planner := { base.planner with hall := .recess }
      feed := ⟨[(1, { feed .receiving .routed with senderLive := true, trunk := some 2 })]⟩ }
    held.planner.hall = .session ∧ Tab.wf held.booth.booths = true ∧ Tab.wf held.booth.desks = true
      ∧ Tab.wf held.planner.channels = true ∧ Tab.wf live.feed.contexts = true
      ∧ (held.boothRec 1).map (fun bo => (bo.holding, bo.target, decide (1 ∈ bo.desks)))
          = some (some 1, some (.channel 1), true)
      ∧ (held.desk 1).map (fun r => r.state.holds) = some true
      ∧ held.channel 1 = some (chan .onAir (some 3) (.desk 1 1)) ∧ Holder.desk 1 1 ≠ .none
      ∧ (live.boothRec 1).map (fun bo => (bo.holding.isSome, bo.target)) = some (true, some (.feed 1))
      ∧ live.context 1 = some (feed .sending .live)
      ∧ fed.context 1 = some (feed .receiving .holding) ∧ fed.channel 1 = some (chan .onAir (some 3) (.feed 1))
      ∧ waits.planner.hall = .recess ∧ (waits.context 1).map Feed.senderLive = some true
      ∧ (waits.channel 1).map Channel.holder = some .none
      ∧ (∀ e ∈ waits.feed.contexts, e.2.side = .receiving → e.2.target = 1 → e.1 = 1) := by decide +kernel

/-- The clauses of ReleasedResourcesBecomeFree and TrunkClaimHeard on relays and feeds of a trunk that passes or becomes
free, and on an own claim with no trunk free. -/
theorem test_meets_TrunkPasses :
    let relayed (p : Nat) : State := { trunked (.peer 9 5) with
      booth.booths := Tab.modify (trunked (.peer 9 5)).booth.booths 2 fun bo => { bo with input := .remote p 4 }
      feed := ⟨[(1, { feed .receiving .holding with trunk := some 1, partner := p })]⟩ }
    let full (x : TrunkEntry) : State :=
      { exporting x with
        planner.trunks := Tab.set trunkless.planner.trunks 2 x, feed := ⟨[(1, feed .sending .live)]⟩ }
    let out := TrunkEntry.own .held true (.exported 1) none (some 9)
    let send := TrunkEntry.own .held true (.feed 1) none (some 9)
    (relayed 9).hears three ∧ (full out).hears three ∧ (full send).hears three
      ∧ ((relayed 9).trunk 1 = some (.peer 9 5) ∧ 3 < 9
      ∧ ((relayed 9).boothRec 2).map (fun bo => (bo.sourceTrunk, bo.input)) = some (some 1, .remote 9 4)
      ∧ Tab.wf (relayed 9).booth.booths = true ∧ Tab.wf (relayed 9).feed.contexts = true
      ∧ ((relayed 9).context 1).map (fun x => (x.side, x.trunk, x.partner, x.target)) = some (.receiving, some 1, 9, 1)
      ∧ (full out).trunk 2 = some out ∧ Tab.wf (full out).planner.trunks = true ∧ (full out).freeTrunk = none
      ∧ Tab.get (full out).relay.exported 1 = some ⟨2, [⟨3, [2]⟩]⟩ ∧ 3 < base.self
      ∧ (full send).trunk 2 = some send ∧ Tab.wf (full send).planner.trunks = true ∧ (full send).freeTrunk = none
      ∧ (full send).context 1 = some (feed .sending .live)) :=
  ⟨hears_of (by decide), hears_of (by decide), hears_of (by decide), by decide +kernel⟩

/-- Channel 1 held by desk 1 of booth 1 on output B; output A names channel 2, or nothing. -/
def onB (a : Option Nat) : State :=
  shown 1 (shown 2 { twoOutputs with
    booth.booths := Tab.modify twoOutputs.booth.booths 1 fun bo =>
      { bo with selected := .b, outputA := a, outputB := some 1 } })

/-- Booth 2 holds nothing, output B selected. -/
def idleB : State :=
  shown 3 { base with booth.booths := Tab.modify base.booth.booths 2 fun bo => { bo with selected := .b } }

/-- The clauses of DeskKeys on OUTPUT A with nothing held and another desk's OUTPUT key. -/
theorem test_meets_DeskOutputA :
    (idleB.boothRec 2).map (fun bo => (bo.selected, bo.overlap, bo.holding)) = some (.b, none, none)
      ∧ quiet 2 (moded .overlap) = true
      ∧ ((moded .overlap).boothRec 1).map (fun bo => (bo.selected, bo.overlap, bo.holding))
          = some (.a, none, some 1) := by
  decide +kernel

/-- The clauses of DeskKeys on OUTPUT A from the holding desk. -/
theorem test_meets_DeskMovesToA :
    quiet 2 (onB (some 2)) = true ∧ ((onB (some 2)).desk 1).map Desk.state = some .live
      ∧ ((onB (some 2)).boothRec 1).map (fun bo => (bo.selected, bo.outputA, bo.outputB)) = some (.b, some 2, some 1)
      ∧ ((onB (some 2)).boothRec 1).map (fun bo => (bo.feed, bo.overlap, bo.holding)) = some (none, none, some 1)
      ∧ (onB (some 2)).waitingFeed 1 = none ∧ (onB (some 2)).channel 2 = some (chan .onAir (some 4) .none)
      ∧ quiet 1 (onB none) = true
      ∧ ((onB none).boothRec 1).map (fun bo => (bo.selected, bo.outputA, bo.feed)) = some (.b, none, none) := by
  decide +kernel

/-- The clauses of DeskKeys on the RELAY key. -/
theorem test_meets_DeskRelayKeys :
    quiet 3 idleB = true
      ∧ (idleB.boothRec 2).map (fun bo => idleB.accepts 2 bo (.remote 3 1)) = some false
      ∧ (listening.boothRec 2).map (fun bo => (listening.accepts 2 bo (.own 1), listening.accepts 2 bo (.remote 3 4)))
          = some (true, true)
      ∧ (listening.boothRec 2).map (fun bo => (bo.input, bo.relay)) = some (.remote 3 4, .waiting) := by decide +kernel

/-- The RELAY key's booth speaks into nothing. -/
theorem test_meets_DeskRelay : listening.boothMute 2 :=
  ⟨by decide, by decide⟩

/-- The clauses of DeskKeys on the keys within an overlap. -/
theorem test_meets_DeskKeysInOverlap :
    let third : State := shown 4 { overlapping with
      booth.desks := Tab.set overlapping.booth.desks 4 (freshDesk 1)
      panel.drops := Tab.set overlapping.panel.drops 4 ⟨.desk, true, 0⟩ }
    let onB : State := shown 1 { overlapping with
      booth.booths := Tab.modify overlapping.booth.booths 1 fun bo => { bo with selected := .b } }
    quiet 4 third = true ∧ third.dropOnline 4 = true ∧ third.planner.hall = .session
      ∧ (third.desk 4).map Desk.state = some .off
      ∧ (third.boothRec 1).map (fun bo => third.nothingToHold bo.target) = some false
      ∧ (overlapping.boothRec 1).map (fun bo => (bo.overlap.isSome, bo.holding, bo.partner, bo.selected))
          = some (true, some 1, some 2, .a)
      ∧ (overlapping.desk 1).map Desk.state = some .overlapOut ∧ (overlapping.desk 2).map Desk.state = some .overlapIn
      ∧ quiet 1 (shown 1 overlapping) = true ∧ quiet 1 onB = true
      ∧ (onB.boothRec 1).map Booth.selected = some .b := by decide +kernel

/-- The clauses of SlotReplies on a slot in OFFLINE. -/
theorem test_meets_SlotBack :
    let s := waiting (docked .offline) (.identify 1) .plain
    s.slot 1 = some (slotIn .offline) ∧ s.dropOnline (slotAddress 1) = true ∧ s.panel.exchange = none
      ∧ (∃ m ∈ s.panel.outbound, m.body = .identify 1) := by decide

/-- An END(CLOSED) is for a sending context and an END(DARK) for a receiving one, whichever stands alone (R72, R86). -/
theorem test_end_side :
    let stands (side : Side) (st : FeedState) (r : EndReason) : Bool :=
      after (feeding side st) (.feedStateEnd three 1 1 r) (fun t => (t.context 1).isSome)
    stands .receiving .routed .closed = true ∧ stands .sending .live .dark = true
      ∧ stands .sending .live .noTrunk = true ∧ stands .sending .live .closed = false
      ∧ stands .receiving .routed .noTrunk = false ∧ stands .receiving .routed .host = false := by decide +kernel

/-- A reply to IDENTIFY that reaches a slot in OFFLINE is taken by R116 (R113). -/
theorem test_identify_offline :
    let s := waiting (docked .offline) (.identify 1) .plain
    after s (.identifyReply 1 none) (fun t => t.slot 1 = some Slot.empty) = true
      ∧ after s (.identifyReply 1 (some ⟨7, 90, 0, eng⟩))
          (fun t => t.slot 1 = some { Slot.empty with state := .fault, cause := some .link }) = true := by
  decide +kernel

/-- A map switch to a retune version sets the hold. -/
theorem test_map_switch :
    after { base with
        map.front.records := [⟨0, eng, .live, false, some 9⟩]
        map.back.records := [⟨0, eng, .retuning, false, none⟩] } .mapCycleEnd
      (fun t => t.map.front.records = [⟨0, eng, .retuning, false, none⟩] && t.map.front.version = 1
        && t.map.holdCount = t.cfg.retuneHold) = true := by decide +kernel

/-- The words of a POLL and of a GATE (section 10.7.4). -/
theorem test_panel_words :
    after base .panelExchangeStart (fun t => t.panel.exchange.isSome) = true
      ∧ (Body.gate 1 true).words .none = [⟨true, 1⟩, ⟨false, 2⟩, ⟨false, 1⟩] := by decide +kernel

end Sys2Proof.Tests
end

/-! The two codings of the data carrier (section 5.7): what a valid carrier configuration holds, the stretches of a bit
and of a lead-in in each coding, and from these the statements on R99 and R100. -/

namespace Sys2Proof.Machine

theorem within_iff {lo n hi : Nat} : within lo n hi = true ↔ lo ≤ n ∧ n ≤ hi := by
  simp [within]

theorem runClocks_singleton (c : CarrierConfig) (v : Bool) :
    runClocks c [v] = ((bitStretches c v).map Stretch.clocks).sum := by
  simp [runClocks]

/-! ### PULSE LENGTH (R99) -/

section PulseLength

variable {c : CarrierConfig} (hc : c.coding = .pulseLength)
include hc

theorem carrierOk_pulseLength_iff (hold : Bool) (n : Nat) :
    carrierOk hold n c = true ↔
      (hold = true → 1 ≤ n ∧ n ≤ 8) ∧ (1 ≤ c.high ∧ c.high ≤ 255) ∧ (1 ≤ c.low ∧ c.low ≤ 255)
        ∧ (1 ≤ c.mark0 ∧ c.mark0 ≤ 63) ∧ (1 ≤ c.mark1 ∧ c.mark1 ≤ 63) ∧ (1 ≤ c.space ∧ c.space ≤ 63)
        ∧ c.mark0 ≠ c.mark1 := by
  cases hold <;> simp [carrierOk, hc, within_iff, and_assoc]

theorem bitStretches_pulseLength (v : Bool) :
    bitStretches c v =
      [⟨(if v then c.mark1 else c.mark0) * (c.high + c.low), some (c.high, c.low)⟩,
        ⟨c.space * (c.high + c.low), none⟩] := by
  simp only [bitStretches, hc]

theorem leadIn_pulseLength :
    leadIn c = [⟨64 * (c.high + c.low), some (c.high, c.low)⟩, ⟨c.space * (c.high + c.low), none⟩] := by
  simp only [leadIn, hc]

theorem runClocks_pulseLength (v : Bool) :
    runClocks c [v] = ((if v then c.mark1 else c.mark0) + c.space) * (c.high + c.low) := by
  simp [runClocks_singleton, bitStretches_pulseLength hc, Nat.add_mul]

theorem cycleWave_pulseLength (m : RMap) :
    cycleWave c m =
      [⟨64 * (c.high + c.low), some (c.high, c.low)⟩, ⟨c.space * (c.high + c.low), none⟩]
        ++ (mapBits m).flatMap (bitStretches c) := by
  rw [cycleWave, leadIn_pulseLength hc]

end PulseLength

/-! ### TWO TONE (R100) -/

section TwoTone

variable {c : CarrierConfig} (hc : c.coding = .twoTone)
include hc

theorem carrierOk_twoTone_iff (hold : Bool) (n : Nat) :
    carrierOk hold n c = true ↔
      (hold = true → 1 ≤ n ∧ n ≤ 8) ∧ (1 ≤ c.high ∧ c.high ≤ 255) ∧ (1 ≤ c.low ∧ c.low ≤ 255)
        ∧ (1 ≤ c.high2 ∧ c.high2 ≤ 255) ∧ (1 ≤ c.low2 ∧ c.low2 ≤ 255) ∧ (1 ≤ c.bitLength ∧ c.bitLength ≤ 63)
        ∧ c.high + c.low ≠ c.high2 + c.low2 := by
  cases hold <;> simp [carrierOk, hc, within_iff, and_assoc]

theorem bitStretches_twoTone_false :
    bitStretches c false = [⟨c.bitLength * (c.high + c.low), some (c.high, c.low)⟩] := by
  simp [bitStretches, hc]

theorem bitStretches_twoTone_true :
    bitStretches c true = [⟨c.bitLength * (c.high2 + c.low2), some (c.high2, c.low2)⟩] := by
  simp [bitStretches, hc]

theorem leadIn_twoTone : leadIn c = [⟨64 * (c.high + c.low), none⟩] := by
  simp only [leadIn, hc]

theorem runClocks_twoTone (v : Bool) :
    runClocks c [v] = c.bitLength * (if v then c.high2 + c.low2 else c.high + c.low) := by
  cases v with
  | false => simp [runClocks_singleton, bitStretches_twoTone_false hc]
  | true => simp [runClocks_singleton, bitStretches_twoTone_true hc]

theorem cycleWave_twoTone (m : RMap) :
    cycleWave c m = ⟨64 * (c.high + c.low), none⟩ :: (mapBits m).flatMap (bitStretches c) := by
  rw [cycleWave, leadIn_twoTone hc, List.singleton_append]

/-- Either tone is a running carrier, so no run of bits holds a gap. -/
theorem carrier_ne_none_of_mem_twoTone {l : Bits} {x : Stretch} (hx : x ∈ l.flatMap (bitStretches c)) :
    x.carrier ≠ none := by
  obtain ⟨v, -, hv⟩ := List.mem_flatMap.mp hx
  cases v with
  | false =>
    rw [bitStretches_twoTone_false hc, List.mem_singleton] at hv
    simp [hv]
  | true =>
    rw [bitStretches_twoTone_true hc, List.mem_singleton] at hv
    simp [hv]

end TwoTone

/-! ### The statements -/

/-- Settles O13: the configuration tests bound the lengths, and the stretches are those of the PULSE LENGTH coding. -/
theorem pulseLengthCoding : Obligations.PulseLengthCoding := by
  intro hold n c hok hc
  obtain ⟨-, -, -, ⟨mark0_pos, mark0_le⟩, ⟨mark1_pos, mark1_le⟩, ⟨space_pos, space_le⟩, marks_ne⟩ :=
    (carrierOk_pulseLength_iff hc hold n).mp hok
  refine ⟨bitStretches_pulseLength hc, ⟨mark0_pos, mark0_le, mark1_pos, mark1_le, space_pos, space_le, marks_ne⟩,
    runClocks_pulseLength hc, cycleWave_pulseLength hc, fun v => ?_⟩
  cases v with
  | false => exact Nat.lt_succ_of_le mark0_le
  | true => exact Nat.lt_succ_of_le mark1_le

/-- Settles O14: the configuration tests bound the bit length and part the tones, and each bit is a stretch of a
running tone. -/
theorem twoToneCoding : Obligations.TwoToneCoding := by
  intro hold n c hok hc
  obtain ⟨-, -, -, -, -, hlength, htones⟩ := (carrierOk_twoTone_iff hc hold n).mp hok
  exact ⟨bitStretches_twoTone_false hc, bitStretches_twoTone_true hc, hlength, runClocks_twoTone hc, htones,
    fun m => ⟨cycleWave_twoTone hc m, fun _ hx => carrier_ne_none_of_mem_twoTone hc hx⟩⟩

end Sys2Proof.Machine

/-! The time charge of a hire (section 8.2): the figures of one segment (R143) and the sum over the pieces of a hire
(R142, R144). -/

namespace Sys2Proof.Machine

/-! ### Units and pieces (R143) -/

section Pieces

variable {t : Tariff} (ht : tariffOk t = true)
include ht

theorem tariffOk_bounds : 1 ≤ t.unit ∧ t.price ≤ 65535 := by
  simp only [tariffOk, Bool.and_eq_true, decide_eq_true_eq, within_iff] at ht
  obtain ⟨⟨⟨⟨⟨⟨hunit, -⟩, hprice⟩, -⟩, -⟩, -⟩, -⟩ := ht
  exact ⟨hunit, hprice⟩

/-- Rounding up: so many units are enough exactly where they cover the minutes. -/
theorem unitsOf_le_iff (m u : Nat) : unitsOf t m ≤ u ↔ m ≤ u * t.unit := by
  rw [unitsOf, ← Nat.ceilDiv_eq_add_pred_div, ceilDiv_le_iff_le_mul (tariffOk_bounds ht).1, Nat.mul_comm]

theorem unitsOf_eq {m u : Nat} (hcover : m ≤ u * t.unit) (hleast : u = 0 ∨ (u - 1) * t.unit < m) :
    unitsOf t m = u := by
  refine Nat.le_antisymm ((unitsOf_le_iff ht m u).mpr hcover) ?_
  rcases hleast with rfl | hleast
  · exact Nat.zero_le _
  · have hmore : ¬ unitsOf t m ≤ u - 1 := fun h => absurd ((unitsOf_le_iff ht m (u - 1)).mp h) (by omega)
    omega

/-- A day's units at the highest price stay below the greatest amount of money. -/
theorem satMul_unitsOf {m : Nat} (hm : m ≤ 1440) : satMul (unitsOf t m) t.price = unitsOf t m * t.price := by
  obtain ⟨hunit, hprice⟩ := tariffOk_bounds ht
  have hunits : unitsOf t m ≤ 1440 := (unitsOf_le_iff ht m 1440).mpr (by omega)
  exact Nat.min_eq_left ((Nat.mul_le_mul hunits hprice).trans (by decide))

theorem pieceCharge_eq {m u : Nat} (hm : m ≤ 1440) (hcover : m ≤ u * t.unit)
    (hleast : u = 0 ∨ (u - 1) * t.unit < m) :
    pieceCharge t m = if t.cap = 0 then u * t.price else min (u * t.price) t.cap := by
  rw [pieceCharge, satMul_unitsOf ht hm, unitsOf_eq ht hcover hleast, capped]

end Pieces

theorem pieceCharge_free {t : Tariff} (hp : t.price = 0) (m : Nat) : pieceCharge t m = 0 := by
  simp [pieceCharge, capped, satMul, hp]

/-! ### Day boundaries (R141) -/

theorem lt_nextBoundary (b s : Nat) : s < nextBoundary b s := by
  unfold nextBoundary
  omega

theorem nextBoundary_le (b s : Nat) : nextBoundary b s ≤ s + 1440 := by
  unfold nextBoundary
  omega

theorem nextBoundary_mod {b : Nat} (hb : b < 1440) (s : Nat) : nextBoundary b s % 1440 = b := by
  unfold nextBoundary
  omega

/-- The greatest boundary at or before a minute that is so many full days and a rest after a boundary. -/
theorem lastBoundary_add {b d n r : Nat} (hb : b < 1440) (hd : d % 1440 = b) (hr : r < 1440) :
    lastBoundary b (d + 1440 * n + r) = d + 1440 * n := by
  unfold lastBoundary
  omega

/-! ### The time charge (R142, R144) -/

@[simp] theorem timeCharge_self (b : Nat) (t : Tariff) (s : Nat) : timeCharge b t s s = 0 := by
  simp [timeCharge]

theorem timeCharge_of_le {b s e : Nat} (t : Tariff) (hse : s < e) (he : e ≤ nextBoundary b s) :
    timeCharge b t s e = pieceCharge t (e - s - t.grace) := by
  simp only [timeCharge, hse.ne', he, if_true, if_false]

theorem timeCharge_of_cut {b s n r : Nat} (t : Tariff) (hb : b < 1440) (hr : r < 1440) (hpos : 0 < 1440 * n + r) :
    timeCharge b t s (nextBoundary b s + 1440 * n + r) =
      satAdd (satAdd (pieceCharge t (nextBoundary b s - s - t.grace)) (satMul n (pieceCharge t 1440)))
        (pieceCharge t r) := by
  have hlast := lastBoundary_add (n := n) hb (nextBoundary_mod hb s) hr
  have hstart := lt_nextBoundary b s
  have hne : nextBoundary b s + 1440 * n + r ≠ s := by omega
  have hcut : ¬ nextBoundary b s + 1440 * n + r ≤ nextBoundary b s := by omega
  have hdays : (nextBoundary b s + 1440 * n - nextBoundary b s) / 1440 = n := by omega
  simp only [timeCharge, hne, hcut, if_false, hlast, hdays]
  rw [Nat.add_sub_cancel_left]

theorem timeCharge_free {t : Tariff} (hp : t.price = 0) (b s e : Nat) : timeCharge b t s e = 0 := by
  simp [timeCharge, pieceCharge_free hp, satAdd, satMul]

/-- Settles O15: a piece of at most a day never saturates, and a hire is one piece or is cut at its day boundaries. -/
theorem segmentCharge : Obligations.SegmentCharge := by
  intro t b s e ht hb hse
  refine ⟨fun m u hm => pieceCharge_eq ht hm, timeCharge_of_le t hse, ?_,
    ⟨lt_nextBoundary b s, nextBoundary_le b s, nextBoundary_mod hb s⟩, fun hp => timeCharge_free hp b s e,
    timeCharge_self b t s⟩
  rintro n r rfl hr hpos
  exact timeCharge_of_cut t hb hr hpos

end Sys2Proof.Machine

/-! The account of a hire that closes (section 8.4): what booking, logging and leaving the hire table do to an account
record (R148, R149), and from these the record after a closing (R124). -/

namespace Sys2Proof.Machine

/-! ### A field booked (R149) -/

/-- An account record with an amount booked to one of its saturating fields. -/
def bookedAccount (f : Total) (n : Nat) (r : Account) : Account :=
  { f.put (satAdd (f.get r) n) r with saturated := r.saturated || decide (Config.moneyMax < f.get r + n) }

theorem bookedAccount_depositsHeld (f : Total) (n : Nat) (r : Account) :
    (bookedAccount f n r).depositsHeld = r.depositsHeld := by
  cases f <;> rfl

@[simp] theorem queueEvent_account (kind : EventKind) (fields : List Nat) (s : State) :
    (queueEvent kind fields s).account = s.account :=
  same_account (w := { events := true }) (queueEvent_frame rfl kind fields s) rfl

/-- An account whose flag already tells of the saturation, if there is one, keeps its flag. -/
theorem bookedAccount_of_flag {f : Total} {n : Nat} {r : Account}
    (h : Config.moneyMax < f.get r + n → r.saturated = true) :
    bookedAccount f n r = f.put (satAdd (f.get r) n) r := by
  have hflag : (r.saturated || decide (Config.moneyMax < f.get r + n)) = r.saturated := by
    simpa using h
  rw [bookedAccount, hflag]
  cases f <;> rfl

theorem book_accounts (a : Nat) (f : Total) (n : Nat) (s : State) :
    Tab.get (book a f n s).account.accounts a = (Tab.get s.account.accounts a).map (bookedAccount f n) := by
  unfold book
  split
  next hnone => simp [hnone]
  next r hr =>
    by_cases hsat : Config.moneyMax < f.get r + n ∧ r.saturated = false
    · simp [tab_get_modify_self, hr, bookedAccount, hsat]
    · have hflag : Config.moneyMax < f.get r + n → r.saturated = true := by simpa using hsat
      simp [tab_get_modify_self, hr, bookedAccount_of_flag hflag, hsat]

theorem book_ledger (a : Nat) (f : Total) (n : Nat) (s : State) : (book a f n s).ledger = s.ledger :=
  same_ledger (w := { events := true, account := true }) (book_frame rfl rfl a f n s) rfl rfl rfl

theorem book_log (a : Nat) (f : Total) (n : Nat) (s : State) :
    (book a f n s).account.log = s.account.log := by
  unfold book
  split
  next => rfl
  next => dsimp only; split <;> simp

theorem book_closing (a : Nat) (f : Total) (n : Nat) (s : State) :
    (book a f n s).account.closing = s.account.closing := by
  unfold book
  split
  next => rfl
  next => dsimp only; split <;> simp

theorem book_logOpen (a : Nat) (f : Total) (n : Nat) (s : State) : (book a f n s).logOpen = s.logOpen := by
  rw [State.logOpen, book_log, book_closing, State.logOpen]

/-! ### A hire that leaves the table (R124, R148) -/

@[simp] theorem enterLog_accounts (st : Settlement) (s : State) :
    (enterLog st s).account.accounts = s.account.accounts := by
  simp only [enterLog]
  split <;> simp

@[simp] theorem enterLog_ledger (st : Settlement) (s : State) : (enterLog st s).ledger = s.ledger :=
  same_ledger (w := { events := true, account := true }) (enterLog_frame rfl rfl st s) rfl rfl rfl

@[simp] theorem endHolds_account (serial : Nat) (s : State) : (endHolds serial s).account = s.account :=
  same_account (w := { outbound := true, slots := true }) (endHolds_frame rfl rfl serial s) rfl

theorem hireLeaves_accounts {serial : Nat} {s : State} {h : Hire} (hh : Tab.get s.ledger.hires serial = some h) :
    Tab.get (hireLeaves serial s).account.accounts h.account =
      (Tab.get s.account.accounts h.account).map
        fun r => { r with depositsHeld := r.depositsHeld - h.deposit } := by
  simp [hireLeaves, hh, tab_get_modify_self]

/-! ### A hire that closes (R124, R145, R148) -/

/-- An account record with the figures of a closing booked. -/
def bookedClosing (g : Figures) (r : Account) : Account :=
  bookedAccount .balanceDue g.due (bookedAccount .refunds g.refund
    (bookedAccount .lossRevenue g.lossFee (bookedAccount .hireRevenue g.timeCharge r)))

/-- The bookings of a closing in their order. -/
theorem book_closing_accounts (a : Nat) (g : Figures) (s : State) :
    Tab.get (book a .balanceDue g.due (book a .refunds g.refund
      (book a .lossRevenue g.lossFee (book a .hireRevenue g.timeCharge s)))).account.accounts a =
    (Tab.get s.account.accounts a).map (bookedClosing g) := by
  simp only [book_accounts, Option.map_map]
  rfl

theorem bookedClosing_hireRevenue (g : Figures) (r : Account) :
    (bookedClosing g r).hireRevenue = satAdd r.hireRevenue g.timeCharge := rfl

theorem bookedClosing_lossRevenue (g : Figures) (r : Account) :
    (bookedClosing g r).lossRevenue = satAdd r.lossRevenue g.lossFee := rfl

theorem bookedClosing_depositsHeld (g : Figures) (r : Account) :
    (bookedClosing g r).depositsHeld = r.depositsHeld := by
  simp only [bookedClosing, bookedAccount_depositsHeld]

theorem bookedClosing_with_depositsHeld (g : Figures) (r : Account) :
    { bookedClosing g r with depositsHeld := r.depositsHeld } = bookedClosing g r := by
  rw [← bookedClosing_depositsHeld g r]

/-- The account of a hire that closes: the figures are booked, and its deposits held fall where the record leaves at
once. -/
theorem closeHire_accounts {serial : Nat} {s : State} {h : Hire} (hh : Tab.get s.ledger.hires serial = some h)
    (kind : HireKind) (asked : Nat) (at_ : Option Nat) :
    Tab.get (closeHire serial kind asked at_ s).account.accounts h.account =
      (Tab.get s.account.accounts h.account).map fun r =>
        { bookedClosing (s.closingOf h kind asked at_).figures r with
          depositsHeld := if s.logOpen then r.depositsHeld - h.deposit else r.depositsHeld } := by
  simp only [closeHire, hh, book_logOpen]
  by_cases hopen : s.logOpen = true
  · rw [if_pos hopen, hireLeaves_accounts (by simpa [book_ledger] using hh), enterLog_accounts, book_closing_accounts]
    simp only [Option.map_map, Function.comp_def, bookedClosing_depositsHeld, hopen, if_true]
  · rw [if_neg hopen, book_closing_accounts]
    simp only [hopen, Bool.false_eq_true, if_false, bookedClosing_with_depositsHeld]

theorem figuresOf_applied_add_due (time fee deposit : Nat) :
    (figuresOf time fee deposit).applied + (figuresOf time fee deposit).due = satAdd time fee :=
  Nat.add_sub_of_le (Nat.min_le_left _ _)

/-- Settles O34: the figures are those of R145, and the account is the one the closing books them to. -/
theorem lossAndReturnAreBooked : Obligations.LossAndReturnAreBooked := by
  intro s serial h r kind asked at_ hh _ hr _
  have hclosed := closeHire_accounts hh kind asked at_
  rw [hr, Option.map_some] at hclosed
  exact ⟨rfl, rfl, figuresOf_applied_add_due _ _ _, _, hclosed,
    bookedClosing_hireRevenue (s.closingOf h kind asked at_).figures r,
    bookedClosing_lossRevenue (s.closingOf h kind asked at_).figures r⟩

end Sys2Proof.Machine

/-! What the operations every block shares leave alone. An operation that queues an event, a frame or a message, sets a
route, sends a mask word or queues a notice writes its own fields of the state; every other field is as it was. -/

namespace Sys2Proof.Machine

/-- Queuing an event writes the event queue and the overrun count. -/
theorem queueEvent_eq (k : EventKind) (fields : List Nat) (s : State) : queueEvent k fields s = { s with
    events := (queueEvent k fields s).events } := by
  unfold queueEvent; split <;> rfl

@[simp] theorem queueEvent_pending (k : EventKind) (fields : List Nat) (s : State) : (queueEvent k fields s).pending = s.pending := by
  rw [queueEvent_eq]

@[simp] theorem queueEvent_clock (k : EventKind) (fields : List Nat) (s : State) : (queueEvent k fields s).clock = s.clock := by
  rw [queueEvent_eq]

@[simp] theorem queueEvent_port (k : EventKind) (fields : List Nat) (s : State) : (queueEvent k fields s).port = s.port := by
  rw [queueEvent_eq]

@[simp] theorem queueEvent_planner (k : EventKind) (fields : List Nat) (s : State) : (queueEvent k fields s).planner = s.planner := by
  rw [queueEvent_eq]

@[simp] theorem queueEvent_booth (k : EventKind) (fields : List Nat) (s : State) : (queueEvent k fields s).booth = s.booth := by
  rw [queueEvent_eq]

@[simp] theorem queueEvent_relay (k : EventKind) (fields : List Nat) (s : State) : (queueEvent k fields s).relay = s.relay := by
  rw [queueEvent_eq]

@[simp] theorem queueEvent_feed (k : EventKind) (fields : List Nat) (s : State) : (queueEvent k fields s).feed = s.feed := by
  rw [queueEvent_eq]

@[simp] theorem queueEvent_map (k : EventKind) (fields : List Nat) (s : State) : (queueEvent k fields s).map = s.map := by
  rw [queueEvent_eq]

@[simp] theorem queueEvent_line (k : EventKind) (fields : List Nat) (s : State) : (queueEvent k fields s).line = s.line := by
  rw [queueEvent_eq]

@[simp] theorem queueEvent_panel (k : EventKind) (fields : List Nat) (s : State) : (queueEvent k fields s).panel = s.panel := by
  rw [queueEvent_eq]

@[simp] theorem queueEvent_dock (k : EventKind) (fields : List Nat) (s : State) : (queueEvent k fields s).dock = s.dock := by
  rw [queueEvent_eq]

@[simp] theorem queueEvent_ledger (k : EventKind) (fields : List Nat) (s : State) : (queueEvent k fields s).ledger = s.ledger := by
  rw [queueEvent_eq]

/-- Handing over a frame writes the transmit queue, and may tell of congestion. -/
theorem enqueueFrame_eq (dest : Nat) (p : Payload) (s : State) : enqueueFrame dest p s = { s with
    events := (enqueueFrame dest p s).events
    line.queue := (enqueueFrame dest p s).line.queue } := by
  simp only [enqueueFrame, queueEvent]
  repeat' split
  all_goals rfl

@[simp] theorem enqueueFrame_pending (dest : Nat) (p : Payload) (s : State) : (enqueueFrame dest p s).pending = s.pending := by
  rw [enqueueFrame_eq]

@[simp] theorem enqueueFrame_clock (dest : Nat) (p : Payload) (s : State) : (enqueueFrame dest p s).clock = s.clock := by
  rw [enqueueFrame_eq]

@[simp] theorem enqueueFrame_port (dest : Nat) (p : Payload) (s : State) : (enqueueFrame dest p s).port = s.port := by
  rw [enqueueFrame_eq]

@[simp] theorem enqueueFrame_planner (dest : Nat) (p : Payload) (s : State) : (enqueueFrame dest p s).planner = s.planner := by
  rw [enqueueFrame_eq]

@[simp] theorem enqueueFrame_booth (dest : Nat) (p : Payload) (s : State) : (enqueueFrame dest p s).booth = s.booth := by
  rw [enqueueFrame_eq]

@[simp] theorem enqueueFrame_relay (dest : Nat) (p : Payload) (s : State) : (enqueueFrame dest p s).relay = s.relay := by
  rw [enqueueFrame_eq]

@[simp] theorem enqueueFrame_feed (dest : Nat) (p : Payload) (s : State) : (enqueueFrame dest p s).feed = s.feed := by
  rw [enqueueFrame_eq]

@[simp] theorem enqueueFrame_map (dest : Nat) (p : Payload) (s : State) : (enqueueFrame dest p s).map = s.map := by
  rw [enqueueFrame_eq]

@[simp] theorem enqueueFrame_line_state (dest : Nat) (p : Payload) (s : State) : (enqueueFrame dest p s).line.state = s.line.state := by
  rw [enqueueFrame_eq]

@[simp] theorem enqueueFrame_line_txScore (dest : Nat) (p : Payload) (s : State) : (enqueueFrame dest p s).line.txScore = s.line.txScore := by
  rw [enqueueFrame_eq]

@[simp] theorem enqueueFrame_line_rxScore (dest : Nat) (p : Payload) (s : State) : (enqueueFrame dest p s).line.rxScore = s.line.rxScore := by
  rw [enqueueFrame_eq]

@[simp] theorem enqueueFrame_line_epoch (dest : Nat) (p : Payload) (s : State) : (enqueueFrame dest p s).line.epoch = s.line.epoch := by
  rw [enqueueFrame_eq]

@[simp] theorem enqueueFrame_line_sequences (dest : Nat) (p : Payload) (s : State) : (enqueueFrame dest p s).line.sequences = s.line.sequences := by
  rw [enqueueFrame_eq]

@[simp] theorem enqueueFrame_line_presence (dest : Nat) (p : Payload) (s : State) : (enqueueFrame dest p s).line.presence = s.line.presence := by
  rw [enqueueFrame_eq]

@[simp] theorem enqueueFrame_line_peers (dest : Nat) (p : Payload) (s : State) : (enqueueFrame dest p s).line.peers = s.line.peers := by
  rw [enqueueFrame_eq]

@[simp] theorem enqueueFrame_line_drive (dest : Nat) (p : Payload) (s : State) : (enqueueFrame dest p s).line.drive = s.line.drive := by
  rw [enqueueFrame_eq]

@[simp] theorem enqueueFrame_panel (dest : Nat) (p : Payload) (s : State) : (enqueueFrame dest p s).panel = s.panel := by
  rw [enqueueFrame_eq]

@[simp] theorem enqueueFrame_dock (dest : Nat) (p : Payload) (s : State) : (enqueueFrame dest p s).dock = s.dock := by
  rw [enqueueFrame_eq]

@[simp] theorem enqueueFrame_ledger (dest : Nat) (p : Payload) (s : State) : (enqueueFrame dest p s).ledger = s.ledger := by
  rw [enqueueFrame_eq]

@[simp] theorem enqueueFrame_account (dest : Nat) (p : Payload) (s : State) : (enqueueFrame dest p s).account = s.account := by
  rw [enqueueFrame_eq]

/-- Deferring writes the deferred list. -/
theorem deferTarget_eq (t : Target) (s : State) : deferTarget t s = { s with
    panel.deferred := (deferTarget t s).panel.deferred } := by
  unfold deferTarget; split <;> rfl

@[simp] theorem deferTarget_pending (t : Target) (s : State) : (deferTarget t s).pending = s.pending := by
  rw [deferTarget_eq]

@[simp] theorem deferTarget_clock (t : Target) (s : State) : (deferTarget t s).clock = s.clock := by
  rw [deferTarget_eq]

@[simp] theorem deferTarget_port (t : Target) (s : State) : (deferTarget t s).port = s.port := by
  rw [deferTarget_eq]

@[simp] theorem deferTarget_events (t : Target) (s : State) : (deferTarget t s).events = s.events := by
  rw [deferTarget_eq]

@[simp] theorem deferTarget_planner (t : Target) (s : State) : (deferTarget t s).planner = s.planner := by
  rw [deferTarget_eq]

@[simp] theorem deferTarget_booth (t : Target) (s : State) : (deferTarget t s).booth = s.booth := by
  rw [deferTarget_eq]

@[simp] theorem deferTarget_relay (t : Target) (s : State) : (deferTarget t s).relay = s.relay := by
  rw [deferTarget_eq]

@[simp] theorem deferTarget_feed (t : Target) (s : State) : (deferTarget t s).feed = s.feed := by
  rw [deferTarget_eq]

@[simp] theorem deferTarget_map (t : Target) (s : State) : (deferTarget t s).map = s.map := by
  rw [deferTarget_eq]

@[simp] theorem deferTarget_line (t : Target) (s : State) : (deferTarget t s).line = s.line := by
  rw [deferTarget_eq]

@[simp] theorem deferTarget_panel_outbound (t : Target) (s : State) : (deferTarget t s).panel.outbound = s.panel.outbound := by
  rw [deferTarget_eq]

@[simp] theorem deferTarget_panel_drops (t : Target) (s : State) : (deferTarget t s).panel.drops = s.panel.drops := by
  rw [deferTarget_eq]

@[simp] theorem deferTarget_panel_routes (t : Target) (s : State) : (deferTarget t s).panel.routes = s.panel.routes := by
  rw [deferTarget_eq]

@[simp] theorem deferTarget_panel_exchange (t : Target) (s : State) : (deferTarget t s).panel.exchange = s.panel.exchange := by
  rw [deferTarget_eq]

@[simp] theorem deferTarget_panel_out (t : Target) (s : State) : (deferTarget t s).panel.out = s.panel.out := by
  rw [deferTarget_eq]

@[simp] theorem deferTarget_panel_round (t : Target) (s : State) : (deferTarget t s).panel.round = s.panel.round := by
  rw [deferTarget_eq]

@[simp] theorem deferTarget_panel_rotation (t : Target) (s : State) : (deferTarget t s).panel.rotation = s.panel.rotation := by
  rw [deferTarget_eq]

@[simp] theorem deferTarget_panel_polls (t : Target) (s : State) : (deferTarget t s).panel.polls = s.panel.polls := by
  rw [deferTarget_eq]

@[simp] theorem deferTarget_dock (t : Target) (s : State) : (deferTarget t s).dock = s.dock := by
  rw [deferTarget_eq]

@[simp] theorem deferTarget_ledger (t : Target) (s : State) : (deferTarget t s).ledger = s.ledger := by
  rw [deferTarget_eq]

@[simp] theorem deferTarget_account (t : Target) (s : State) : (deferTarget t s).account = s.account := by
  rw [deferTarget_eq]

/-- Queuing a message writes the outbound queue and the deferred list. -/
theorem queueMessage_eq (b : Body) (o : Origin) (s : State) : queueMessage b o s = { s with
    panel.outbound := (queueMessage b o s).panel.outbound
    panel.deferred := (queueMessage b o s).panel.deferred } := by
  simp only [queueMessage, deferTarget]
  repeat' split
  all_goals rfl

@[simp] theorem queueMessage_pending (b : Body) (o : Origin) (s : State) : (queueMessage b o s).pending = s.pending := by
  rw [queueMessage_eq]

@[simp] theorem queueMessage_clock (b : Body) (o : Origin) (s : State) : (queueMessage b o s).clock = s.clock := by
  rw [queueMessage_eq]

@[simp] theorem queueMessage_port (b : Body) (o : Origin) (s : State) : (queueMessage b o s).port = s.port := by
  rw [queueMessage_eq]

@[simp] theorem queueMessage_events (b : Body) (o : Origin) (s : State) : (queueMessage b o s).events = s.events := by
  rw [queueMessage_eq]

@[simp] theorem queueMessage_planner (b : Body) (o : Origin) (s : State) : (queueMessage b o s).planner = s.planner := by
  rw [queueMessage_eq]

@[simp] theorem queueMessage_booth (b : Body) (o : Origin) (s : State) : (queueMessage b o s).booth = s.booth := by
  rw [queueMessage_eq]

@[simp] theorem queueMessage_relay (b : Body) (o : Origin) (s : State) : (queueMessage b o s).relay = s.relay := by
  rw [queueMessage_eq]

@[simp] theorem queueMessage_feed (b : Body) (o : Origin) (s : State) : (queueMessage b o s).feed = s.feed := by
  rw [queueMessage_eq]

@[simp] theorem queueMessage_map (b : Body) (o : Origin) (s : State) : (queueMessage b o s).map = s.map := by
  rw [queueMessage_eq]

@[simp] theorem queueMessage_line (b : Body) (o : Origin) (s : State) : (queueMessage b o s).line = s.line := by
  rw [queueMessage_eq]

@[simp] theorem queueMessage_panel_drops (b : Body) (o : Origin) (s : State) : (queueMessage b o s).panel.drops = s.panel.drops := by
  rw [queueMessage_eq]

@[simp] theorem queueMessage_panel_routes (b : Body) (o : Origin) (s : State) : (queueMessage b o s).panel.routes = s.panel.routes := by
  rw [queueMessage_eq]

@[simp] theorem queueMessage_panel_exchange (b : Body) (o : Origin) (s : State) : (queueMessage b o s).panel.exchange = s.panel.exchange := by
  rw [queueMessage_eq]

@[simp] theorem queueMessage_panel_out (b : Body) (o : Origin) (s : State) : (queueMessage b o s).panel.out = s.panel.out := by
  rw [queueMessage_eq]

@[simp] theorem queueMessage_panel_round (b : Body) (o : Origin) (s : State) : (queueMessage b o s).panel.round = s.panel.round := by
  rw [queueMessage_eq]

@[simp] theorem queueMessage_panel_rotation (b : Body) (o : Origin) (s : State) : (queueMessage b o s).panel.rotation = s.panel.rotation := by
  rw [queueMessage_eq]

@[simp] theorem queueMessage_panel_polls (b : Body) (o : Origin) (s : State) : (queueMessage b o s).panel.polls = s.panel.polls := by
  rw [queueMessage_eq]

@[simp] theorem queueMessage_dock (b : Body) (o : Origin) (s : State) : (queueMessage b o s).dock = s.dock := by
  rw [queueMessage_eq]

@[simp] theorem queueMessage_ledger (b : Body) (o : Origin) (s : State) : (queueMessage b o s).ledger = s.ledger := by
  rw [queueMessage_eq]

@[simp] theorem queueMessage_account (b : Body) (o : Origin) (s : State) : (queueMessage b o s).account = s.account := by
  rw [queueMessage_eq]

/-- Setting a route writes the route table and the panel's queues. -/
theorem setRoute_eq (o : Nat) (src : Source) (s : State) : setRoute o src s = { s with
    panel.outbound := (setRoute o src s).panel.outbound
    panel.deferred := (setRoute o src s).panel.deferred
    panel.routes := (setRoute o src s).panel.routes } := by
  simp only [setRoute]
  split
  · rfl
  · rw [queueMessage_eq]

@[simp] theorem setRoute_pending (o : Nat) (src : Source) (s : State) : (setRoute o src s).pending = s.pending := by
  rw [setRoute_eq]

@[simp] theorem setRoute_clock (o : Nat) (src : Source) (s : State) : (setRoute o src s).clock = s.clock := by
  rw [setRoute_eq]

@[simp] theorem setRoute_port (o : Nat) (src : Source) (s : State) : (setRoute o src s).port = s.port := by
  rw [setRoute_eq]

@[simp] theorem setRoute_events (o : Nat) (src : Source) (s : State) : (setRoute o src s).events = s.events := by
  rw [setRoute_eq]

@[simp] theorem setRoute_planner (o : Nat) (src : Source) (s : State) : (setRoute o src s).planner = s.planner := by
  rw [setRoute_eq]

@[simp] theorem setRoute_booth (o : Nat) (src : Source) (s : State) : (setRoute o src s).booth = s.booth := by
  rw [setRoute_eq]

@[simp] theorem setRoute_relay (o : Nat) (src : Source) (s : State) : (setRoute o src s).relay = s.relay := by
  rw [setRoute_eq]

@[simp] theorem setRoute_feed (o : Nat) (src : Source) (s : State) : (setRoute o src s).feed = s.feed := by
  rw [setRoute_eq]

@[simp] theorem setRoute_map (o : Nat) (src : Source) (s : State) : (setRoute o src s).map = s.map := by
  rw [setRoute_eq]

@[simp] theorem setRoute_line (o : Nat) (src : Source) (s : State) : (setRoute o src s).line = s.line := by
  rw [setRoute_eq]

@[simp] theorem setRoute_panel_drops (o : Nat) (src : Source) (s : State) : (setRoute o src s).panel.drops = s.panel.drops := by
  rw [setRoute_eq]

@[simp] theorem setRoute_panel_exchange (o : Nat) (src : Source) (s : State) : (setRoute o src s).panel.exchange = s.panel.exchange := by
  rw [setRoute_eq]

@[simp] theorem setRoute_panel_out (o : Nat) (src : Source) (s : State) : (setRoute o src s).panel.out = s.panel.out := by
  rw [setRoute_eq]

@[simp] theorem setRoute_panel_round (o : Nat) (src : Source) (s : State) : (setRoute o src s).panel.round = s.panel.round := by
  rw [setRoute_eq]

@[simp] theorem setRoute_panel_rotation (o : Nat) (src : Source) (s : State) : (setRoute o src s).panel.rotation = s.panel.rotation := by
  rw [setRoute_eq]

@[simp] theorem setRoute_panel_polls (o : Nat) (src : Source) (s : State) : (setRoute o src s).panel.polls = s.panel.polls := by
  rw [setRoute_eq]

@[simp] theorem setRoute_dock (o : Nat) (src : Source) (s : State) : (setRoute o src s).dock = s.dock := by
  rw [setRoute_eq]

@[simp] theorem setRoute_ledger (o : Nat) (src : Source) (s : State) : (setRoute o src s).ledger = s.ledger := by
  rw [setRoute_eq]

@[simp] theorem setRoute_account (o : Nat) (src : Source) (s : State) : (setRoute o src s).account = s.account := by
  rw [setRoute_eq]

/-- Sending a mask word writes the word on the output. -/
theorem sendMaskWord_eq (s : State) : sendMaskWord s = { s with
    map.sending := (sendMaskWord s).map.sending } := by
  unfold sendMaskWord; split <;> rfl

@[simp] theorem sendMaskWord_pending (s : State) : (sendMaskWord s).pending = s.pending := by
  rw [sendMaskWord_eq]

@[simp] theorem sendMaskWord_clock (s : State) : (sendMaskWord s).clock = s.clock := by
  rw [sendMaskWord_eq]

@[simp] theorem sendMaskWord_port (s : State) : (sendMaskWord s).port = s.port := by
  rw [sendMaskWord_eq]

@[simp] theorem sendMaskWord_events (s : State) : (sendMaskWord s).events = s.events := by
  rw [sendMaskWord_eq]

@[simp] theorem sendMaskWord_planner (s : State) : (sendMaskWord s).planner = s.planner := by
  rw [sendMaskWord_eq]

@[simp] theorem sendMaskWord_booth (s : State) : (sendMaskWord s).booth = s.booth := by
  rw [sendMaskWord_eq]

@[simp] theorem sendMaskWord_relay (s : State) : (sendMaskWord s).relay = s.relay := by
  rw [sendMaskWord_eq]

@[simp] theorem sendMaskWord_feed (s : State) : (sendMaskWord s).feed = s.feed := by
  rw [sendMaskWord_eq]

@[simp] theorem sendMaskWord_map_front (s : State) : (sendMaskWord s).map.front = s.map.front := by
  rw [sendMaskWord_eq]

@[simp] theorem sendMaskWord_map_back (s : State) : (sendMaskWord s).map.back = s.map.back := by
  rw [sendMaskWord_eq]

@[simp] theorem sendMaskWord_map_holdCount (s : State) : (sendMaskWord s).map.holdCount = s.map.holdCount := by
  rw [sendMaskWord_eq]

@[simp] theorem sendMaskWord_map_radiator (s : State) : (sendMaskWord s).map.radiator = s.map.radiator := by
  rw [sendMaskWord_eq]

@[simp] theorem sendMaskWord_map_driver (s : State) : (sendMaskWord s).map.driver = s.map.driver := by
  rw [sendMaskWord_eq]

@[simp] theorem sendMaskWord_line (s : State) : (sendMaskWord s).line = s.line := by
  rw [sendMaskWord_eq]

@[simp] theorem sendMaskWord_panel (s : State) : (sendMaskWord s).panel = s.panel := by
  rw [sendMaskWord_eq]

@[simp] theorem sendMaskWord_dock (s : State) : (sendMaskWord s).dock = s.dock := by
  rw [sendMaskWord_eq]

@[simp] theorem sendMaskWord_ledger (s : State) : (sendMaskWord s).ledger = s.ledger := by
  rw [sendMaskWord_eq]

@[simp] theorem sendMaskWord_account (s : State) : (sendMaskWord s).account = s.account := by
  rw [sendMaskWord_eq]

/-- The mask and the word on the output. -/
theorem syncMask_eq (s : State) : syncMask s = { s with
    map.mask := (syncMask s).map.mask
    map.sending := (syncMask s).map.sending } := by
  simp only [syncMask, sendMaskWord]
  repeat' split
  all_goals rfl

@[simp] theorem syncMask_pending (s : State) : (syncMask s).pending = s.pending := by
  rw [syncMask_eq]

@[simp] theorem syncMask_port (s : State) : (syncMask s).port = s.port := by
  rw [syncMask_eq]

@[simp] theorem syncMask_events (s : State) : (syncMask s).events = s.events := by
  rw [syncMask_eq]

@[simp] theorem syncMask_booth (s : State) : (syncMask s).booth = s.booth := by
  rw [syncMask_eq]

@[simp] theorem syncMask_relay (s : State) : (syncMask s).relay = s.relay := by
  rw [syncMask_eq]

@[simp] theorem syncMask_feed (s : State) : (syncMask s).feed = s.feed := by
  rw [syncMask_eq]

@[simp] theorem syncMask_map_front (s : State) : (syncMask s).map.front = s.map.front := by
  rw [syncMask_eq]

@[simp] theorem syncMask_map_back (s : State) : (syncMask s).map.back = s.map.back := by
  rw [syncMask_eq]

@[simp] theorem syncMask_map_holdCount (s : State) : (syncMask s).map.holdCount = s.map.holdCount := by
  rw [syncMask_eq]

@[simp] theorem syncMask_map_radiator (s : State) : (syncMask s).map.radiator = s.map.radiator := by
  rw [syncMask_eq]

@[simp] theorem syncMask_map_driver (s : State) : (syncMask s).map.driver = s.map.driver := by
  rw [syncMask_eq]

@[simp] theorem syncMask_line (s : State) : (syncMask s).line = s.line := by
  rw [syncMask_eq]

@[simp] theorem syncMask_panel (s : State) : (syncMask s).panel = s.panel := by
  rw [syncMask_eq]

@[simp] theorem syncMask_dock (s : State) : (syncMask s).dock = s.dock := by
  rw [syncMask_eq]

@[simp] theorem syncMask_ledger (s : State) : (syncMask s).ledger = s.ledger := by
  rw [syncMask_eq]

@[simp] theorem syncMask_account (s : State) : (syncMask s).account = s.account := by
  rw [syncMask_eq]

/-- A notice writes its channel's entry and the transmit queue, and may tell of congestion. -/
theorem queueNotice_eq (c : Nat) (s : State) : queueNotice c s = { s with
    events := (queueNotice c s).events
    line.queue := (queueNotice c s).line.queue
    planner.channels := (queueNotice c s).planner.channels } := by
  simp only [queueNotice]
  split
  · rfl
  · rw [enqueueFrame_eq]; rfl

@[simp] theorem queueNotice_pending (c : Nat) (s : State) : (queueNotice c s).pending = s.pending := by
  rw [queueNotice_eq]

@[simp] theorem queueNotice_clock (c : Nat) (s : State) : (queueNotice c s).clock = s.clock := by
  rw [queueNotice_eq]

@[simp] theorem queueNotice_port (c : Nat) (s : State) : (queueNotice c s).port = s.port := by
  rw [queueNotice_eq]

@[simp] theorem queueNotice_planner_hall (c : Nat) (s : State) : (queueNotice c s).planner.hall = s.planner.hall := by
  rw [queueNotice_eq]

@[simp] theorem queueNotice_planner_floorTag (c : Nat) (s : State) : (queueNotice c s).planner.floorTag = s.planner.floorTag := by
  rw [queueNotice_eq]

@[simp] theorem queueNotice_planner_zone (c : Nat) (s : State) : (queueNotice c s).planner.zone = s.planner.zone := by
  rw [queueNotice_eq]

@[simp] theorem queueNotice_planner_peerClaims (c : Nat) (s : State) : (queueNotice c s).planner.peerClaims = s.planner.peerClaims := by
  rw [queueNotice_eq]

@[simp] theorem queueNotice_planner_trunks (c : Nat) (s : State) : (queueNotice c s).planner.trunks = s.planner.trunks := by
  rw [queueNotice_eq]

@[simp] theorem queueNotice_planner_walls (c : Nat) (s : State) : (queueNotice c s).planner.walls = s.planner.walls := by
  rw [queueNotice_eq]

@[simp] theorem queueNotice_booth (c : Nat) (s : State) : (queueNotice c s).booth = s.booth := by
  rw [queueNotice_eq]

@[simp] theorem queueNotice_relay (c : Nat) (s : State) : (queueNotice c s).relay = s.relay := by
  rw [queueNotice_eq]

@[simp] theorem queueNotice_feed (c : Nat) (s : State) : (queueNotice c s).feed = s.feed := by
  rw [queueNotice_eq]

@[simp] theorem queueNotice_map (c : Nat) (s : State) : (queueNotice c s).map = s.map := by
  rw [queueNotice_eq]

@[simp] theorem queueNotice_line_state (c : Nat) (s : State) : (queueNotice c s).line.state = s.line.state := by
  rw [queueNotice_eq]

@[simp] theorem queueNotice_line_txScore (c : Nat) (s : State) : (queueNotice c s).line.txScore = s.line.txScore := by
  rw [queueNotice_eq]

@[simp] theorem queueNotice_line_rxScore (c : Nat) (s : State) : (queueNotice c s).line.rxScore = s.line.rxScore := by
  rw [queueNotice_eq]

@[simp] theorem queueNotice_line_epoch (c : Nat) (s : State) : (queueNotice c s).line.epoch = s.line.epoch := by
  rw [queueNotice_eq]

@[simp] theorem queueNotice_line_sequences (c : Nat) (s : State) : (queueNotice c s).line.sequences = s.line.sequences := by
  rw [queueNotice_eq]

@[simp] theorem queueNotice_line_presence (c : Nat) (s : State) : (queueNotice c s).line.presence = s.line.presence := by
  rw [queueNotice_eq]

@[simp] theorem queueNotice_line_peers (c : Nat) (s : State) : (queueNotice c s).line.peers = s.line.peers := by
  rw [queueNotice_eq]

@[simp] theorem queueNotice_line_drive (c : Nat) (s : State) : (queueNotice c s).line.drive = s.line.drive := by
  rw [queueNotice_eq]

@[simp] theorem queueNotice_panel (c : Nat) (s : State) : (queueNotice c s).panel = s.panel := by
  rw [queueNotice_eq]

@[simp] theorem queueNotice_dock (c : Nat) (s : State) : (queueNotice c s).dock = s.dock := by
  rw [queueNotice_eq]

@[simp] theorem queueNotice_ledger (c : Nat) (s : State) : (queueNotice c s).ledger = s.ledger := by
  rw [queueNotice_eq]

@[simp] theorem queueNotice_account (c : Nat) (s : State) : (queueNotice c s).account = s.account := by
  rw [queueNotice_eq]

end Sys2Proof.Machine

/-! The laws of the device (R91, R95, R97): settling restores the map and the mask, and what a step does before it
settles keeps the radiator with the hall and rests the hall in DARK. From these the statement on every step. -/

namespace Sys2Proof.Machine

/-! ### The two laws that settling does not restore -/

/-- The radiator follows the hall, and the hall rests in DARK. -/
def State.hallRests (s : State) : Prop := s.radiatorFollows ∧ s.restsDark

/-- Every part but the hall state and the radiator. -/
def Parts.allButHall : Parts where
  events := true
  notices := true
  channels := true
  openings := true
  zone := true
  claims := true
  trunks := true
  walls := true
  outputs := true
  booths := true
  deskShow := true
  desks := true
  directory := true
  exported := true
  feeds := true
  contexts := true
  mapBack := true
  lineQueue := true
  lineState := true
  presence := true
  epoch := true
  peers := true
  outbound := true
  routes := true
  panelLine := true
  drops := true
  slots := true
  ready := true
  issues := true
  hires := true
  lost := true
  orphans := true
  account := true

/-- The parts an ordinary step writes: it also opens and closes no channel and counts no live second. -/
def Parts.steady : Parts := { Parts.allButHall with openings := false }

theorem State.lawful.hallRests {s : State} (h : s.lawful) : s.hallRests := h.2.2

theorem State.hallRests.of_parts {w : Parts} {s t : State} (hwhall : w.hall = false) (hwfront : w.mapFront = false)
    (hs : s.hallRests) (h : t.blank w = s.blank w) : t.hallRests := by
  have hclock := same_clock h
  have hhall := same_planner_hall h hwhall
  have hradiator := same_map_radiator h hwfront
  obtain ⟨hr, hd⟩ := hs
  simp only [State.hallRests, State.radiatorFollows, State.restsDark, State.running, hclock, hhall,
    hradiator] at hr hd ⊢
  exact ⟨hr, hd⟩

theorem State.hallRests.of_blank {s t : State} (hs : s.hallRests)
    (h : t.blank Parts.allButHall = s.blank Parts.allButHall) : t.hallRests := hs.of_parts rfl rfl h

theorem State.hallRests.of_steady {s t : State} (hs : s.hallRests) (h : SameBut Parts.steady s t) : t.hallRests :=
  hs.of_parts rfl rfl h

theorem hallRests_of_dark {s : State} (hh : s.planner.hall = .dark) (hr : s.map.radiator = false) : s.hallRests := by
  simp [State.hallRests, State.radiatorFollows, State.restsDark, hh, hr]

/-- Outside RUNNING the hall is DARK and the radiator off. -/
theorem State.hallRests.stopped {s : State} (hs : s.hallRests) (hrun : s.running = false) :
    s.planner.hall = .dark ∧ s.map.radiator = false := by
  obtain ⟨hr, hd⟩ := hs
  have hdark := hd hrun
  rw [State.radiatorFollows, hdark] at hr
  exact ⟨hdark, by simpa using hr⟩

theorem settle_lawful {s : State} (hs : s.hallRests) : (settle s).lawful := by
  obtain ⟨hr, hd⟩ := hs
  refine ⟨settle_back s, settle_mask s, ?_, ?_⟩
  · simpa [State.radiatorFollows] using hr
  · simpa [State.restsDark] using hd

/-! ### What a step does -/

theorem event_lawful {f : State → State} {s : State} (hs : s.lawful) (hf : s.hallRests → (f s).hallRests) :
    (event f s).lawful := by
  by_cases hrun : s.running = true
  · rw [event_of_running f hrun]
    exact settle_lawful (hf hs.hallRests)
  · rw [event_of_stopped f (by simpa using hrun)]
    exact hs

/-- An event that leaves hall and radiator alone. -/
theorem event_lawful_of_frame {f : State → State} {s : State}
    (hf : ∀ s, (f s).blank Parts.allButHall = s.blank Parts.allButHall) (hs : s.lawful) : (event f s).lawful :=
  event_lawful hs fun h => h.of_blank (hf s)

/-- A change of the clock, of walls and of the mask words alone: nothing the laws speak of moves. -/
theorem State.lawful.of_same {s t : State} (hs : s.lawful) (hch : t.planner.channels = s.planner.channels)
    (hhall : t.planner.hall = s.planner.hall) (hcfg : t.clock.config = s.clock.config)
    (hfront : t.map.front = s.map.front) (hback : t.map.back = s.map.back) (hmask : t.map.mask = s.map.mask)
    (hrad : t.map.radiator = s.map.radiator) (hdark : t.running = false → s.planner.hall = .dark) : t.lawful := by
  obtain ⟨hm, hk, hr, -⟩ := hs
  refine ⟨?_, ?_, ?_, ?_⟩
  · simp only [State.mapFollows, hback, State.mapNow, State.mapRecords, State.mapRecord, State.mapStatus,
      State.channelHeld, State.self, State.cfg, hch, hhall, hcfg, hfront]
    exact hm
  · simp only [State.maskFollows, hmask, State.onAirSubcarriers, hch]
    exact hk
  · simpa only [State.radiatorFollows, hrad, hhall] using hr
  · intro hrun
    rw [hhall]
    exact hdark hrun

theorem State.lawful.of_running_eq {s t : State} (hs : s.lawful) (hrun : t.running = s.running)
    (hch : t.planner.channels = s.planner.channels)
    (hhall : t.planner.hall = s.planner.hall) (hcfg : t.clock.config = s.clock.config)
    (hmap : t.map = s.map) : t.lawful :=
  hs.of_same hch hhall hcfg (by rw [hmap]) (by rw [hmap]) (by rw [hmap]) (by rw [hmap])
    fun h => hs.hallRests.2 (hrun ▸ h)

theorem shiftOut_lawful {s : State} (hs : s.lawful) (bytes : List Byte) : (shiftOut bytes s).lawful := by
  unfold shiftOut
  repeat' split
  all_goals exact hs

theorem putAnswer_lawful {s : State} (hs : s.lawful) (r : Result) (data : List Byte) : (putAnswer r data s).lawful :=
  hs.of_running_eq rfl rfl rfl rfl rfl

/-- What a complete block does to the laws, by its own verdict where it is taken. -/
theorem command_lawful {len : Nat} {taken : StationState → Bool} {act : List Nat → State → Verdict}
    {params : List Byte} {s : State} (hs : s.lawful)
    (hact : ∀ t : State, t.lawful → t.clock = s.clock → s.portDriven = true → taken s.clock.station = true → ∀ data u,
      (act (numbers params) t = .took data u → u.lawful) ∧ (act (numbers params) t = .accept data u → u.hallRests)) :
    (command len taken act params s).lawful := by
  have ht := shiftOut_lawful hs [s.statusByte]
  have hclock : (shiftOut [s.statusByte] s).clock = s.clock := by
    unfold shiftOut
    repeat' split
    all_goals rfl
  simp only [command]
  generalize shiftOut [s.statusByte] s = t at ht hclock ⊢
  split
  · exact ht
  next hport =>
  split
  · exact putAnswer_lawful ht _ _
  split
  · exact putAnswer_lawful ht _ _
  next htaken =>
    have hact := hact t ht hclock (by simp_all) (by simpa using htaken)
    split
    · exact putAnswer_lawful ht _ _
    · exact putAnswer_lawful ht _ _
    next data u hu => exact putAnswer_lawful ((hact data u).1 hu) _ _
    next data u hu => exact putAnswer_lawful (settle_lawful ((hact data u).2 hu)) _ _

/-- Whatever a verdict leaves behind keeps hall and radiator. -/
def Verdict.hallSafe (v : Verdict) (s : State) : Prop :=
  match v with
  | .refuse _ | .tell _ => True
  | .took _ u => s.lawful → u.lawful
  | .accept _ u => s.hallRests → u.hallRests

theorem hallSafe_require {ok : Bool} {r : Result} {v : Verdict} {s : State} (hv : v.hallSafe s) :
    (require ok r v).hallSafe s := by
  unfold require
  split
  · exact hv
  · trivial

theorem hallSafe_accept {data : List Byte} {s u : State}
    (h : u.blank Parts.allButHall = s.blank Parts.allButHall) : (Verdict.accept data u).hallSafe s :=
  fun hs => hs.of_blank h

theorem command_lawful_of_safe {len : Nat} {taken : StationState → Bool} {act : List Nat → State → Verdict}
    {params : List Byte} {s : State} (hs : s.lawful) (hact : ∀ p t, (act p t).hallSafe t) :
    (command len taken act params s).lawful := by
  refine command_lawful hs fun t ht _ _ _ data u => ⟨fun h => ?_, fun h => ?_⟩
  all_goals
    have hsafe := hact (numbers params) t
    rw [h] at hsafe
  · exact hsafe ht
  · exact hsafe ht.hallRests

/-- What a verdict leaves behind differs in the steady parts alone; what it takes without settling, in the events. -/
def Verdict.steady (v : Verdict) (s : State) : Prop :=
  match v with
  | .refuse _ | .tell _ => True
  | .took _ u => SameBut { events := true } s u
  | .accept _ u => SameBut Parts.steady s u

theorem steady_require {ok : Bool} {r : Result} {v : Verdict} {s : State} (hv : v.steady s) :
    (require ok r v).steady s := by
  unfold require
  split
  · exact hv
  · trivial

theorem steady_accept {data : List Byte} {s u : State} (h : u.blank Parts.steady = s.blank Parts.steady) :
    (Verdict.accept data u).steady s := h

/-- A change of the events alone: nothing the laws speak of moves. -/
theorem State.lawful.of_events {s t : State} (hs : s.lawful) (h : SameBut { events := true } s t) : t.lawful :=
  hs.of_running_eq (by simp only [State.running, same_clock (w := { events := true }) h])
    (same_planner_channels (w := { events := true }) h rfl rfl rfl) (same_planner_hall (w := { events := true }) h rfl)
    (by rw [same_clock (w := { events := true }) h]) (congrArg State.map h :)

theorem Verdict.steady.hallSafe {v : Verdict} {s : State} (h : v.steady s) : v.hallSafe s := by
  cases v with
  | refuse r => trivial
  | tell data => trivial
  | took data u => exact fun hs => hs.of_events h
  | accept data u => exact fun hs => hs.of_steady h

theorem command_lawful_of_steady {len : Nat} {taken : StationState → Bool} {act : List Nat → State → Verdict}
    {params : List Byte} {s : State} (hs : s.lawful) (hact : ∀ p t, (act p t).steady t) :
    (command len taken act params s).lawful :=
  command_lawful_of_safe hs fun p t => (hact p t).hallSafe

/-! ### The host's commands -/

theorem configureStation_hallRests (cfg : StationConfig) (s : State) : (configureStation cfg s).hallRests :=
  hallRests_of_dark rfl rfl

theorem beginPanel_frame {w : Parts} (h1 : w.outbound = true) (h2 : w.routes = true) (h3 : w.panelLine = true)
    (h4 : w.drops = true) (h5 : w.desks = true) (s : State) : (beginPanel s).blank w = s.blank w := by
  simp only [beginPanel]
  rw [forEach_frame _ _ (fun k s => setRoute_frame h1 h2 _ _ s),
    forEach_frame _ _ (fun k s => queueMessage_frame h1 _ _ s),
    forEach_frame _ _ (fun k s => queueMessage_frame h1 _ _ s)]
  simp [State.blank, h1, h2, h3, h4, h5, Tab.mapAll, List.map_map, Function.comp_def, Desk.plan]

theorem beginLine_frame {w : Parts} (h1 : w.lineState = true) (h2 : w.lineQueue = true) (h3 : w.presence = true)
    (h4 : w.peers = true) (s : State) : (beginLine s).blank w = s.blank w := by
  simp [beginLine, State.blank, State.reset, h1, h2, h3, h4]

theorem beginDock_frame {w : Parts} (h1 : w.slots = true) (h2 : w.ready = true) (h3 : w.issues = true) (s : State) :
    (beginDock s).blank w = s.blank w := by
  simp [beginDock, State.blank, h1, h2, h3]

theorem beginWalls_frame {w : Parts} (h : w.walls = true) (s : State) : (beginWalls s).blank w = s.blank w := by
  simp [beginWalls, State.blank, h]

theorem beginRunning_hallRests {s : State} (hr : s.map.radiator = false) : (beginRunning s).hallRests := by
  refine State.hallRests.of_blank (s := { s with
    clock.station := .running
    planner.hall := .dark
    map.sending := some ⟨false, []⟩ }) (hallRests_of_dark rfl hr) ?_
  simp only [beginRunning]
  rw [recomputeZone_frame rfl rfl rfl rfl rfl, beginWalls_frame rfl, beginDock_frame rfl rfl rfl,
    beginPanel_frame rfl rfl rfl rfl rfl, beginLine_frame rfl rfl rfl rfl]

theorem startStation_hallRests {s : State} (hs : s.hallRests) (hrun : s.running = false) :
    (startStation s).hallRests :=
  beginRunning_hallRests (s := { s with clock.runMark := true, dock.warmMinute := none }) (hs.stopped hrun).2

/-! ### The hall states (R1 to R3, R97) -/

@[simp] theorem sendMaskWord_radiator (s : State) : (sendMaskWord s).map.radiator = s.map.radiator := by
  unfold sendMaskWord
  split <;> rfl

@[simp] theorem setRadiator_radiator (on : Bool) (s : State) : (setRadiator on s).map.radiator = on := by
  unfold setRadiator
  split
  next h => exact h
  next => rw [sendMaskWord_radiator]

@[simp] theorem setRadiator_planner (on : Bool) (s : State) : (setRadiator on s).planner = s.planner := by
  unfold setRadiator sendMaskWord
  repeat' split
  all_goals rfl

theorem enterDark_hall (s : State) : (enterDark s).planner.hall = .dark := by
  simp only [enterDark, enterDarkMap, setRadiator_planner]
  refine (same_planner_hall (w := Parts.allButHall) (s := { s with planner.hall := .dark }) ?_ rfl).trans rfl
  rw [SameBut, releaseOwnTrunks_frame rfl rfl rfl rfl rfl,
    forEach_frame _ _ (fun k s => endWith_frame rfl rfl rfl rfl rfl rfl rfl rfl rfl rfl rfl k .dark s),
    closeAll_frame rfl rfl rfl rfl rfl rfl rfl rfl rfl rfl rfl rfl rfl rfl rfl,
    recomputeBooths_frame rfl rfl rfl rfl rfl rfl rfl rfl, floorBooths_frame rfl rfl rfl rfl rfl,
    restFeeds_frame rfl rfl rfl rfl rfl rfl rfl rfl, releaseHall_frame rfl rfl rfl rfl rfl rfl rfl rfl rfl]

theorem enterDark_radiator (s : State) : (enterDark s).map.radiator = false := by
  simp only [enterDark, enterDarkMap, setRadiator_radiator]

theorem enterDark_radiatorFollows (s : State) : (enterDark s).radiatorFollows := by
  simp [State.radiatorFollows, enterDark_hall, enterDark_radiator]

theorem leaveDark_radiatorFollows {h : HallState} (hne : h ≠ .dark) (s : State) :
    (leaveDark h s).radiatorFollows := by
  have hkeep := openAChannel_frame (w := Parts.allButHall) rfl rfl rfl rfl rfl rfl rfl rfl rfl 0 s.planner.floorTag 0
    { s with planner.hall := h }
  have hhall : (openAChannel 0 s.planner.floorTag 0 { s with planner.hall := h }).planner.hall = h :=
    same_planner_hall hkeep rfl
  have hplanner (u : State) : (switchMap 0 (setRadiator true (rebuildMap u))).planner = u.planner :=
    setRadiator_planner _ _
  have hrad (u : State) : (switchMap 0 (setRadiator true (rebuildMap u))).map.radiator = true :=
    setRadiator_radiator _ _
  simp [State.radiatorFollows, leaveDark, leaveDarkMap, hplanner, hrad, hhall, hne]

/-- Between RECESS and SESSION the radiator stays on. -/
theorem radiatorFollows_of_lit {h : HallState} (hne : h ≠ .dark) {s t : State} (hs : s.radiatorFollows)
    (hlit : s.planner.hall ≠ .dark)
    (hkeep : SameBut Parts.allButHall { s with planner.hall := h } t) :
    t.radiatorFollows := by
  have hhall := same_planner_hall hkeep rfl
  have hrad := same_map_radiator hkeep rfl
  simp only [State.radiatorFollows] at hs
  simp [State.radiatorFollows, hhall, hrad, hs, hlit, hne]

theorem changeHall_radiatorFollows (h : HallState) {s : State} (hs : s.radiatorFollows) :
    (changeHall h s).radiatorFollows := by
  unfold changeHall
  split
  · exact hs
  split
  · exact enterDark_radiatorFollows s
  next hne _ => exact leaveDark_radiatorFollows hne s
  next hlit _ =>
    refine radiatorFollows_of_lit (h := .recess) (by decide) hs hlit ?_
    rw [SameBut, enterRecess, restFeeds_frame rfl rfl rfl rfl rfl rfl rfl rfl,
      releaseHall_frame rfl rfl rfl rfl rfl rfl rfl rfl rfl]
  next hlit _ =>
    refine radiatorFollows_of_lit (h := .session) (by decide) hs hlit ?_
    rw [SameBut, wakeFeeds_frame rfl rfl rfl rfl rfl rfl rfl rfl]

theorem changeHall_clock (h : HallState) (s : State) : (changeHall h s).clock = s.clock :=
  same_clock (w := { Parts.allButHall with hall := true, mapFront := true })
    (changeHall_frame rfl rfl rfl rfl rfl rfl rfl rfl rfl rfl rfl rfl rfl rfl rfl rfl rfl h s)

/-- Of a running station only the radiator is to be shown: the hall rests in no state in particular. -/
theorem changeHall_hallRests (h : HallState) {s : State} (hs : s.hallRests) (hrun : s.running = true) :
    (changeHall h s).hallRests := by
  refine ⟨changeHall_radiatorFollows h hs.1, fun hstop => ?_⟩
  rw [State.running, changeHall_clock, ← State.running, hrun] at hstop
  exact absurd hstop (by decide)

/-! ### The supply and the restarts (R187 to R189) -/

theorem stopBlocks_hallRests (s : State) : (stopBlocks s).hallRests := hallRests_of_dark rfl rfl

theorem coldStart_lawful (s : State) : (coldStart s).lawful := ⟨rfl, rfl, rfl, fun _ => rfl⟩

theorem warmBlocks_hallRests (s : State) : (warmBlocks s).hallRests := hallRests_of_dark rfl rfl

theorem warmStart_lawful (cause : WarmCause) (s : State) : (warmStart cause s).lawful := by
  simp only [warmStart]
  refine settle_lawful ?_
  generalize hu : warmBlocks _ = u
  have hrest : u.hallRests := hu ▸ warmBlocks_hallRests _
  have hrad : u.map.radiator = false := by rw [← hu]; rfl
  have hkeep := queueEvent_frame (w := Parts.allButHall) rfl .warmStart [cause.code]
    (clearEvents { u with dock.warmMinute := some u.clock.minute })
  have hrest' : (clearEvents { u with dock.warmMinute := some u.clock.minute }).hallRests := hrest
  split
  · exact beginRunning_hallRests ((same_map_radiator hkeep rfl).trans hrad)
  · exact hrest'.of_blank hkeep

theorem restart_lawful (cause : WarmCause) (m : Bool) (s : State) : (restart cause m s).lawful := by
  unfold restart
  split
  · exact warmStart_lawful cause s
  · exact coldStart_lawful _

/-- Stopping the blocks where they run, and settling, leaves a lawful machine at rest. -/
theorem stopped_lawful {s : State} (hs : s.lawful) :
    (if s.running then settle (stopBlocks s) else s).lawful
      ∧ (if s.running then settle (stopBlocks s) else s).planner.hall = .dark := by
  split
  · exact ⟨settle_lawful (stopBlocks_hallRests s), by rw [settle_planner_hall]; rfl⟩
  next hrun => exact ⟨hs, (hs.hallRests.stopped (by simpa using hrun)).1⟩

theorem enterRetainState_lawful {s : State} (hs : s.lawful) : (enterRetainState s).lawful := by
  unfold enterRetainState
  split
  · exact hs
  · obtain ⟨hlaw, hdark⟩ := stopped_lawful hs
    exact hlaw.of_same rfl rfl rfl rfl rfl rfl rfl fun _ => hdark

theorem assertReset_lawful {s : State} (hs : s.lawful) : (assertReset s).lawful := by
  unfold assertReset
  split
  · exact hs
  split
  · exact coldStart_lawful s
  · obtain ⟨hlaw, hdark⟩ := stopped_lawful hs
    exact hlaw.of_same rfl rfl rfl rfl rfl rfl rfl fun _ => hdark

theorem supplyFalls_lawful {s : State} (hs : s.lawful) : (supplyFalls s).lawful := by
  unfold supplyFalls
  split
  · exact hs
  · have hlow : ({ s with clock.supply := .low } : State).lawful := hs.of_running_eq rfl rfl rfl rfl rfl
    exact hlow.of_running_eq (by simp [State.running]) (by simp) (by simp) (by simp) (by simp)

theorem supplyRises_lawful (m : Bool) {s : State} (hs : s.lawful) : (supplyRises m s).lawful := by
  unfold supplyRises
  split
  · exact restart_lawful _ _ _
  · exact hs.of_running_eq rfl rfl rfl rfl rfl

theorem releaseReset_lawful (m : Bool) {s : State} (hs : s.lawful) : (releaseReset m s).lawful := by
  unfold releaseReset
  split
  · exact restart_lawful _ _ _
  · exact hs

theorem applyPower_lawful (aboveWarn present : Bool) {s : State} (hs : s.lawful) :
    (applyPower aboveWarn present s).lawful := by
  simp only [applyPower]
  split
  · exact hs.of_running_eq rfl rfl rfl rfl rfl
  · exact coldStart_lawful _

theorem failRetention_lawful {s : State} (hs : s.lawful) : (failRetention s).lawful :=
  hs.of_running_eq rfl rfl rfl rfl rfl

/-! ### The clock, the walls, the mask and idling -/

theorem countLive_frame {w : Parts} (h : w.openings = true) (s : State) : (countLive s).blank w = s.blank w := by
  simp [countLive, State.blank, h]

theorem minuteWork_frame {w : Parts} (h1 : w.events = true) (h2 : w.outbound = true) (h3 : w.slots = true)
    (h4 : w.hires = true) (s : State) : (minuteWork s).blank w = s.blank w := by
  rw [minuteWork, testAllOverdue_frame h1 h4, testCharging_frame h1 h3, readSlots_frame h2]

theorem tickSecond_lawful {s : State} (hs : s.lawful) : (tickSecond s).lawful := by
  simp only [tickSecond]
  refine event_lawful_of_frame (fun u => ?_) ?_
  · split
    · rw [minuteWork_frame rfl rfl rfl rfl, countLive_frame rfl]
    · exact countLive_frame rfl u
  · simp only [advanceClock]
    split
    · exact hs.of_running_eq rfl rfl rfl rfl rfl
    · exact hs.of_running_eq rfl rfl rfl rfl rfl

theorem tickMinute_lawful {s : State} (hs : s.lawful) : (tickMinute s).lawful := by
  unfold tickMinute
  split
  · exact event_lawful_of_frame (minuteWork_frame rfl rfl rfl rfl) (hs.of_running_eq rfl rfl rfl rfl rfl)
  · exact hs

theorem moveWall_lawful (n : Nat) (isOpen : Bool) {s : State} (hs : s.lawful) : (moveWall n isOpen s).lawful :=
  hs.of_running_eq rfl rfl rfl rfl rfl

theorem endMaskWord_hallRests {s : State} (hs : s.hallRests) : (endMaskWord s).hallRests := by
  unfold endMaskWord
  split <;> exact hs

theorem endMaskWord_lawful {s : State} (hs : s.lawful) : (endMaskWord s).lawful := by
  unfold endMaskWord
  split
  · exact hs
  · exact hs.of_same rfl rfl rfl rfl rfl rfl rfl hs.hallRests.2

theorem endCycle_hallRests {s : State} (hs : s.hallRests) : (endCycle s).hallRests := by
  simp only [endCycle]
  split <;> exact hs

theorem onAirSubcarriers_tick (s : State) : (passMillisecond s).onAirSubcarriers = s.onAirSubcarriers := by
  simp [State.onAirSubcarriers, passMillisecond, Tab.mapAll, List.any_map, Function.comp_def, tickChannel]

theorem mapNow_tick (s : State) : (passMillisecond s).mapNow = s.mapNow := by
  simp only [State.mapNow, State.mapRecords, passMillisecond, Tab.mapAll, List.filter_map, List.map_map]
  rfl

theorem idle_lawful {s : State} (hs : s.lawful) : (idle s).lawful := by
  unfold idle
  split
  · exact hs
  · obtain ⟨hm, hk, hr⟩ := hs
    exact ⟨hm.trans (mapNow_tick s).symm, hk.trans (onAirSubcarriers_tick s).symm, hr⟩

end Sys2Proof.Machine

namespace Sys2Proof.Machine

/-! ### The commands, one by one -/

theorem actConfigure_safe (p : List Nat) (s : State) : (actConfigure p s).hallSafe s :=
  hallSafe_require fun _ => configureStation_hallRests _ _

theorem actSetClock_safe (p : List Nat) (s : State) : (actSetClock p s).hallSafe s := by
  refine hallSafe_require (hallSafe_require fun hs => ?_)
  have hclock : ({ s with clock.minute := field p 0 3, clock.second := field p 3 1 } : State).hallRests := hs
  exact hclock.of_blank (testAllOverdue_frame rfl rfl _)

/-- The floor language moves the floor tag, but not the hall state. -/
theorem changeFloor_blank (l : Tag) (s : State) :
    (changeFloor l s).blank Parts.allButHall = ({ s with planner.floorTag := l } : State).blank Parts.allButHall := by
  have tag (c : Nat) (u : State) :
      (modChannel c (fun ch => { ch with language := l }) u).blank Parts.allButHall = u.blank Parts.allButHall := by
    simp [State.blank, modChannel, Parts.allButHall]
  simp only [changeFloor]
  rw [recompute_frame rfl rfl rfl rfl rfl rfl rfl rfl]
  split
  · rfl
  split
  · rw [refreshClaim_frame rfl rfl rfl, tag]
  · rw [queueNotice_frame rfl rfl rfl, refreshClaim_frame rfl rfl rfl, tag]

theorem actSetFloorLanguage_safe (p : List Nat) (s : State) : (actSetFloorLanguage p s).hallSafe s :=
  hallSafe_require fun hs =>
    State.hallRests.of_blank (s := { s with planner.floorTag := tagAt p 0 }) hs (changeFloor_blank _ s)

theorem actOpenChannel_safe (p : List Nat) (s : State) : (actOpenChannel p s).hallSafe s :=
  hallSafe_require (hallSafe_require (hallSafe_require (hallSafe_accept (by apply openAChannel_frame <;> rfl))))

theorem actCloseChannel_safe (p : List Nat) (s : State) : (actCloseChannel p s).hallSafe s :=
  hallSafe_require (hallSafe_require (hallSafe_accept (by apply closeAChannel_frame <;> rfl)))

theorem actAssignOutput_steady (p : List Nat) (s : State) : (actAssignOutput p s).steady s := by
  simp only [actAssignOutput]
  split
  · trivial
  · exact steady_require (steady_require (steady_accept (by apply assign_frame <;> rfl)))

theorem actSelectRelay_steady (p : List Nat) (s : State) : (actSelectRelay p s).steady s := by
  simp only [actSelectRelay]
  split
  · exact steady_require (steady_accept (by apply applySelection_frame <;> rfl))
  · trivial

theorem actOfferFeed_steady (p : List Nat) (s : State) : (actOfferFeed p s).steady s := by
  simp only [actOfferFeed]
  refine steady_require ?_
  split
  · trivial
  refine steady_require (steady_require ?_)
  split
  · trivial
  refine steady_require ?_
  split
  · trivial
  · exact steady_accept (by apply offer_frame <;> rfl)

theorem actAnswerFeed_steady (p : List Nat) (s : State) : (actAnswerFeed p s).steady s := by
  simp only [actAnswerFeed]
  refine steady_require ?_
  split
  · trivial
  refine steady_require (steady_accept ?_)
  split
  · apply acceptByHost_frame <;> rfl
  · apply declineOffer_frame <;> rfl

theorem actEndFeed_steady (p : List Nat) (s : State) : (actEndFeed p s).steady s :=
  steady_require (steady_require (steady_accept (by apply endWith_frame <;> rfl)))

theorem actIssue_steady (p : List Nat) (s : State) : (actIssue p s).steady s := by
  simp only [actIssue]
  refine steady_require ?_
  split
  · trivial
  split
  · trivial
  · exact steady_require (steady_accept (by apply beginIssue_frame <;> rfl))

theorem actCancelIssue_steady (p : List Nat) (s : State) : (actCancelIssue p s).steady s :=
  steady_require (steady_require (steady_accept (by apply cancelIssue_frame <;> rfl)))

theorem actDeclareLost_steady (p : List Nat) (s : State) : (actDeclareLost p s).steady s := by
  simp only [actDeclareLost]
  refine steady_require ?_
  split
  · trivial
  · exact steady_require (steady_accept (by apply declare_frame <;> rfl))

theorem actReadHire_steady (p : List Nat) (s : State) : (actReadHire p s).steady s := by
  simp only [actReadHire]
  split
  · exact steady_require (steady_require trivial)
  · split <;> trivial
  · trivial

theorem actReadAccount_steady (p : List Nat) (s : State) : (actReadAccount p s).steady s := by
  simp only [actReadAccount]
  split <;> trivial

theorem actReadSettlement_steady (p : List Nat) (s : State) : (actReadSettlement p s).steady s := by
  simp only [actReadSettlement]
  split
  · trivial
  next rest _ =>
    refine steady_accept ?_
    rw [moveClosing_frame rfl rfl rfl rfl rfl]
    rfl

theorem actReadBooth_steady (p : List Nat) (s : State) : (actReadBooth p s).steady s := by
  simp only [actReadBooth]
  split <;> trivial

theorem actReadEvent_steady (p : List Nat) (s : State) : (actReadEvent p s).steady s := by
  simp only [actReadEvent]
  split
  · trivial
  · exact dropOldestEvent_frame rfl s

theorem setHallState_lawful (p : List Byte) {s : State} (hs : s.lawful) :
    (command 1 inR actSetHallState p s).lawful := by
  refine command_lawful hs fun t ht hclock hport htaken data u => ⟨fun h => ?_, fun h => ?_⟩
  all_goals
    simp only [actSetHallState] at h
    split at h
    · cases h
  · cases h
  · cases h
    have hrun : t.running = true := by
      simp only [State.portDriven, Bool.and_eq_true] at hport
      simpa [State.running, hclock] using ⟨by simpa [inR] using htaken, by simpa using hport.2⟩
    exact changeHall_hallRests _ ht.hallRests hrun

theorem start_lawful (p : List Byte) {s : State} (hs : s.lawful) : (command 0 inC actStart p s).lawful := by
  refine command_lawful hs fun t ht hclock _ htaken data u => ⟨fun h => ?_, fun h => ?_⟩
  · cases h
  · cases h
    have hconfigured : t.clock.station = .configured := by simpa [inC, hclock] using htaken
    exact startStation_hallRests ht.hallRests (by simp [State.running, hconfigured])

theorem answerTransfer_lawful (n : Nat) {s : State} (hs : s.lawful) : (answerTransfer n s).lawful := by
  simp only [answerTransfer]
  split
  · exact (shiftOut_lawful hs _).of_running_eq rfl rfl rfl rfl rfl
  · exact shiftOut_lawful hs _

theorem mapCycle_lawful (c : State → Bool) {s : State} (hs : s.lawful) :
    (event (fun s => if c s then endCycle s else s) s).lawful :=
  event_lawful hs fun h => by
    split
    · exact endCycle_hallRests h
    · exact h

end Sys2Proof.Machine

namespace Sys2Proof.Machine

/-! ### Deliveries and replies: their frames -/

theorem hearClaim_steady (q sc c : Nat) (l : Tag) (s : State) :
    (hearClaim q sc c l s).blank Parts.steady = s.blank Parts.steady := by
  simp only [hearClaim]
  split
  · rw [testClaim_frame rfl rfl rfl rfl, storeClaim_frame rfl rfl]
  · exact storeClaim_frame rfl rfl _ _ _ _ _

/-- The searches after a release of a zone station. -/
theorem searchInZone_steady {q : Nat} {u s : State} (hu : u.blank Parts.steady = s.blank Parts.steady) :
    (if u.inZone q then searchWaiting [] u else u).blank Parts.steady = s.blank Parts.steady := by
  split
  · rw [searchWaiting_frame rfl rfl rfl, hu]
  · exact hu

theorem hearRelease_steady (q : Nat) (r : Resource) (s : State) :
    (hearRelease q r s).blank Parts.steady = s.blank Parts.steady := by
  cases r with
  | subcarrier sc => exact removeClaim_frame rfl rfl rfl rfl _ _ _
  | trunk t =>
    refine searchInZone_steady ?_
    repeat' split
    · apply freePeerTrunk_frame <;> rfl
    all_goals rfl

theorem hearRelayAnswer_steady (q c : Nat) (o : RelayOutcome) (s : State) :
    (hearRelayAnswer q c o s).blank Parts.steady = s.blank Parts.steady := by
  cases o with
  | grant t => apply takeGrant_frame <;> rfl
  | refuse r => apply dropRelays_frame <;> rfl

theorem hearFeedAnswer_steady (q b c : Nat) (accept : Bool) (s : State) :
    (hearFeedAnswer q b c accept s).blank Parts.steady = s.blank Parts.steady := by
  unfold hearFeedAnswer
  repeat' split
  · exact enqueueFrame_frame rfl rfl _ _ _
  · rfl
  · apply acceptOffer_frame <;> rfl
  · apply endFeedContext_frame <;> rfl
  · rfl

theorem hearFeedState_steady {q b c : Nat} {take : Nat → State → State}
    (ht : ∀ k s, (take k s).blank Parts.steady = s.blank Parts.steady) (s : State) :
    (hearFeedState q b c take s).blank Parts.steady = s.blank Parts.steady := by
  unfold hearFeedState
  split
  · exact ht _ s
  · exact enqueueFrame_frame rfl rfl _ _ _

theorem hearEnd_steady (q b c : Nat) (r : EndReason) (s : State) :
    (hearEnd q b c r s).blank Parts.steady = s.blank Parts.steady := by
  unfold hearEnd
  split
  · apply endFeedContext_frame <;> rfl
  · rfl

theorem hearPayload_steady (q : Nat) (p : Payload) (s : State) :
    (hearPayload q p s).blank Parts.steady = s.blank Parts.steady := by
  unfold hearPayload
  split
  · apply hearOffer_frame <;> rfl
  · exact hearFeedAnswer_steady _ _ _ _ s
  · exact hearFeedState_steady (fun k s => by apply takeReady_frame <;> rfl) s
  · exact hearFeedState_steady (fun k s => by apply takeLive_frame <;> rfl) s
  · exact hearFeedState_steady (fun k s => by apply takeSilent_frame <;> rfl) s
  · exact hearEnd_steady _ _ _ _ s
  · exact hearRelease_steady _ _ s
  · exact hearClaim_steady _ _ _ _ s
  · apply hearTrunkClaim_frame <;> rfl
  · apply requestRelay_frame <;> rfl
  · exact hearRelayAnswer_steady _ _ _ s
  · apply leaveExport_frame <;> rfl
  · apply hearReturnQuery_frame <;> rfl
  · apply hearReturnAnswer_frame <;> rfl
  · apply enterNotice_frame <;> rfl
  · apply takeEdges_frame <;> rfl

theorem deliverFrame_steady (self : Nat) (f : LineFrame) (s : State) :
    (deliverFrame self f s).blank Parts.steady = s.blank Parts.steady := by
  unfold deliverFrame
  cases takenBy self f with
  | some p => exact hearPayload_steady _ p s
  | none => rfl

theorem receive_steady {f : Sender} {kind : Nat} {deliver : State → State}
    (hd : ∀ s, (deliver s).blank Parts.steady = s.blank Parts.steady) (s : State) :
    (receive f kind deliver s).blank Parts.steady = s.blank Parts.steady :=
  receive_frame rfl rfl rfl rfl rfl rfl rfl rfl rfl rfl rfl rfl rfl rfl rfl rfl rfl rfl rfl f kind deliver hd s

/-- An operation under a test. -/
theorem ite_steady {f : State → State} {c : State → Bool}
    (hf : ∀ s, (f s).blank Parts.steady = s.blank Parts.steady) (s : State) :
    (if c s then f s else s).blank Parts.steady = s.blank Parts.steady := by
  split
  · exact hf s
  · rfl

/-- A frame heard. -/
theorem receivePayload_steady (f : Sender) (p : Payload) {deliver : State → State}
    (hd : ∀ s, (deliver s).blank Parts.steady = s.blank Parts.steady) (s : State) :
    (receivePayload f p deliver s).blank Parts.steady = s.blank Parts.steady := by
  unfold receivePayload
  refine receive_steady (fun u => ?_) s
  split
  · exact hd u
  · rfl

theorem peerTrunkExpiry_steady (t : Nat) (s : State) :
    (match s.trunk t with
      | some (.peer _ _) => freePeerTrunk t s
      | _ => s).blank Parts.steady = s.blank Parts.steady := by
  split
  · apply freePeerTrunk_frame <;> rfl
  · rfl

theorem answered_steady (a : Nat) (kind : MsgKind) {act : Ended → State → State}
    (ha : ∀ e s, (act e s).blank Parts.steady = s.blank Parts.steady) (s : State) :
    (answered a kind act s).blank Parts.steady = s.blank Parts.steady :=
  answered_frame rfl rfl rfl rfl rfl a kind act ha s

theorem onMessage_steady {f : Message → State → State}
    (hf : ∀ m s, (f m s).blank Parts.steady = s.blank Parts.steady) (e : Ended) (s : State) :
    (onMessage f e s).blank Parts.steady = s.blank Parts.steady := by
  cases e with
  | poll => rfl
  | message m => exact hf m s

theorem identifyReply_steady (k : Nat) (r : Option Receiver) (s : State) :
    ((if r.any impossible then silent (slotAddress k) .identify
      else answered (slotAddress k) .identify fun _ => hearIdentify k r) s).blank Parts.steady =
      s.blank Parts.steady := by
  split
  · apply silent_frame <;> rfl
  · exact answered_steady _ _ (fun _ s => by apply hearIdentify_frame <;> rfl) s

/-! ### Every instruction -/

/-- The instructions that move the hall, the channels, the clock, the walls, the front map or the port alone, or restart
the station. -/
def special : Instr → Bool
  | .configure _ | .setClock _ | .setFloorLanguage _ | .openChannel _ | .closeChannel _ | .start _ |
    .setHallState _ | .answerTransfer _ | .incompleteTransfer _ | .unknownCommandCode _ _ | .wallInputChange _ _ |
    .secondTick | .minuteTick | .mapCycleEnd | .retuneHoldExpiry | .maskWordSent | .supplyLow |
    .supplyRiseAboveWarn _ | .enterRetain | .resetAsserted | .resetReleased _ | .mainPowerApplied _ _ |
    .retentionSupplyFails => true
  | _ => false

/-- What an instruction that is not special does: an event within the steady parts, or a host's command whose verdict
is within them. -/
inductive SteadyStep (s : State) : State → Prop
  | event {f : State → State} (hf : ∀ u, (f u).blank Parts.steady = u.blank Parts.steady) : SteadyStep s (event f s)
  | command {len : Nat} {taken : StationState → Bool} {act : List Nat → State → Verdict} {params : List Byte}
      (hact : ∀ p u, (act p u).steady u) : SteadyStep s (command len taken act params s)

theorem exec_steady {i : Instr} {s t : State} (hi : special i = false) (h : exec i s = .next t) : SteadyStep s t := by
  cases i with
  | assignOutput p =>
    cases h
    exact .command actAssignOutput_steady
  | selectRelay p =>
    cases h
    exact .command actSelectRelay_steady
  | offerFeed p =>
    cases h
    exact .command actOfferFeed_steady
  | answerFeed p =>
    cases h
    exact .command actAnswerFeed_steady
  | endFeed p =>
    cases h
    exact .command actEndFeed_steady
  | issue p =>
    cases h
    exact .command actIssue_steady
  | cancelIssue p =>
    cases h
    exact .command actCancelIssue_steady
  | declareLost p =>
    cases h
    exact .command actDeclareLost_steady
  | readHire p =>
    cases h
    exact .command actReadHire_steady
  | readAccount p =>
    cases h
    exact .command actReadAccount_steady
  | readSettlement p =>
    cases h
    exact .command actReadSettlement_steady
  | readBooth p =>
    cases h
    exact .command actReadBooth_steady
  | readEvent p =>
    cases h
    exact .command actReadEvent_steady
  | readChannel p =>
    cases h
    exact .command fun _ _ => steady_require trivial
  | readPeer p =>
    cases h
    exact .command fun _ _ => steady_require trivial
  | readStatus p =>
    cases h
    exact .command fun _ _ => steady_require (steady_require trivial)
  | claim f _ _ _ _ =>
    cases h
    exact .event (receivePayload_steady f _ (hearClaim_steady _ _ _ _))
  | claimRelease f _ _ _ =>
    cases h
    exact .event (receivePayload_steady f _ (hearRelease_steady _ _))
  | trunkClaim f _ _ _ _ =>
    cases h
    exact .event (receivePayload_steady f _ (fun s => by apply hearTrunkClaim_frame <;> rfl))
  | relayRequest f _ _ =>
    cases h
    exact .event (receivePayload_steady f _ (fun s => by apply requestRelay_frame <;> rfl))
  | relayAnswer f _ _ =>
    cases h
    exact .event (receivePayload_steady f _ (hearRelayAnswer_steady _ _ _))
  | relayRelease f _ _ =>
    cases h
    exact .event (receivePayload_steady f _ (fun s => by apply leaveExport_frame <;> rfl))
  | channelNotice f _ _ _ _ _ =>
    cases h
    exact .event (receivePayload_steady f _ (fun s => by apply enterNotice_frame <;> rfl))
  | feedOffer f _ _ _ _ =>
    cases h
    exact .event (receivePayload_steady f _ (fun s => by apply hearOffer_frame <;> rfl))
  | feedAnswer f _ _ _ =>
    cases h
    exact .event (receivePayload_steady f _ (hearFeedAnswer_steady _ _ _ _))
  | feedStateReady f _ _ _ =>
    cases h
    exact .event (receivePayload_steady f _ (hearFeedState_steady fun k s => by apply takeReady_frame <;> rfl))
  | feedStateLive f _ _ _ =>
    cases h
    exact .event (receivePayload_steady f _ (hearFeedState_steady fun k s => by apply takeLive_frame <;> rfl))
  | feedStateSilent f _ _ =>
    cases h
    exact .event (receivePayload_steady f _ (hearFeedState_steady fun k s => by apply takeSilent_frame <;> rfl))
  | feedStateEnd f _ _ _ =>
    cases h
    exact .event (receivePayload_steady f _ (hearEnd_steady _ _ _ _))
  | returnQuery f _ _ _ =>
    cases h
    exact .event (receivePayload_steady f _ (fun s => by apply hearReturnQuery_frame <;> rfl))
  | returnAnswer f _ _ =>
    cases h
    exact .event (receivePayload_steady f _ (fun s => by apply hearReturnAnswer_frame <;> rfl))
  | presence f _ =>
    cases h
    exact .event (receivePayload_steady f _ (fun s => by apply takeEdges_frame <;> rfl))
  | duplicateStation _ _ =>
    cases h
    exact .event (fun s => receive_steady (deliver := id) (fun _ => rfl) s)
  | frameForOtherStation f =>
    cases h
    exact .event (fun s => receive_steady (deliverFrame_steady s.self f) s)
  | receiveFault _ =>
    cases h
    exact .event (fun s => by apply receiveFaulty_frame <;> rfl)
  | frameTransmitStart =>
    cases h
    exact .event (fun s => by apply startFrame_frame <;> rfl)
  | lostArbitration =>
    cases h
    exact .event (fun s => by apply loseArbitration_frame <;> rfl)
  | transmitSuccess =>
    cases h
    exact .event (fun s => by apply succeed_frame <;> rfl)
  | transmitFailure _ =>
    cases h
    exact .event (fun s => by apply fail_frame <;> rfl)
  | lineJoined =>
    cases h
    exact .event (fun s => by apply joinLine_frame <;> rfl)
  | rejoin =>
    cases h
    exact .event (fun s => by apply rejoinLine_frame <;> rfl)
  | presenceTimer =>
    cases h
    exact .event (fun s => by apply expirePresence_frame <;> rfl)
  | peerLost _ =>
    cases h
    exact .event (fun s => by apply losePeer_frame <;> rfl)
  | claimWindowExpiry _ =>
    cases h
    exact .event (fun s => by apply winChannel_frame; rfl)
  | trunkWindowExpiry _ =>
    cases h
    exact .event (fun s => by apply winTrunk_frame <;> rfl)
  | claimRefresh _ =>
    cases h
    exact .event (fun s => by apply refreshChannel_frame <;> rfl)
  | trunkRefresh _ =>
    cases h
    exact .event (fun s => by apply refreshOwnTrunk_frame <;> rfl)
  | directoryExpiry _ _ =>
    cases h
    exact .event (fun s => by apply expireEntry_frame <;> rfl)
  | overlapTimer _ =>
    cases h
    exact .event (fun s => by apply expireOverlap_frame <;> rfl)
  | orphanAnswerWait _ =>
    cases h
    exact .event (fun s => by apply expireOrphan_frame <;> rfl)
  | wallDebounce _ =>
    cases h
    exact .event (fun s => by apply settleWall_frame <;> rfl)
  | overdue _ =>
    cases h
    exact .event (fun s => by apply testOverdue_frame <;> rfl)
  | panelExchangeStart =>
    cases h
    exact .event (fun s => by apply startExchange_frame <;> rfl)
  | deskPollReply _ _ =>
    cases h
    exact .event (fun s => by apply hearDesk_frame <;> rfl)
  | exchangeSilent _ _ =>
    cases h
    exact .event (fun s => by apply silent_frame <;> rfl)
  | recessiveSequence =>
    cases h
    exact .event (fun s => by apply countSequence_frame <;> rfl)
  | peerClaimExpiry _ _ =>
    cases h
    exact .event (ite_steady fun s => by apply removeClaim_frame <;> rfl)
  | noticeTimer _ =>
    cases h
    exact .event (ite_steady fun s => by apply queueNotice_frame <;> rfl)
  | relayAnswerWait _ =>
    cases h
    exact .event (ite_steady fun s => by apply dropRelays_frame <;> rfl)
  | feedAnswerWait _ =>
    cases h
    exact .event (ite_steady fun s => by apply endWith_frame <;> rfl)
  | hostAnswerWait _ =>
    cases h
    exact .event (ite_steady fun s => by apply declineOffer_frame <;> rfl)
  | readyWait _ =>
    cases h
    exact .event (ite_steady fun s => by apply endWith_frame <;> rfl)
  | blockedWait _ =>
    cases h
    exact .event (ite_steady fun s => by apply endBlocked_frame <;> rfl)
  | removalTimer _ =>
    cases h
    exact .event (ite_steady fun s => by apply cancelIssue_frame <;> rfl)
  | peerTrunkExpiry t =>
    cases h
    exact .event (peerTrunkExpiry_steady t)
  | deadCell k =>
    cases h
    exact .event (fun s => by rw [testDeadCell_frame rfl rfl, correctCharge_frame rfl])
  | chargeTimeout k =>
    cases h
    exact .event (fun s => by rw [testChargeTimeout_frame rfl rfl, correctCharge_frame rfl])
  | slotPollReply _ _ _ =>
    cases h
    exact .event (answered_steady _ _ fun _ s => by apply hearSlotPoll_frame <;> rfl)
  | identifyReply k r =>
    cases h
    exact .event (identifyReply_steady k r)
  | presetAnswered _ =>
    cases h
    exact .event (answered_steady _ _ (onMessage_steady fun _ s => by apply hearPreset_frame <;> rfl))
  | latchAnswered _ =>
    cases h
    exact .event (answered_steady _ _ (onMessage_steady fun _ s => by apply hearLatch_frame; rfl))
  | clearMarkAnswered _ =>
    cases h
    exact .event (answered_steady _ _ (onMessage_steady fun _ s => by apply hearClearMark_frame; rfl))
  | messageAnswered _ _ =>
    cases h
    exact .event (ite_steady (answered_steady _ _ fun _ _ => rfl))
  | _ => nomatch hi

/-! ### Every step -/

theorem maskWordSent_lawful {s : State} (hs : s.lawful) :
    (if s.portDriven && !s.running then endMaskWord s else event endMaskWord s).lawful := by
  split
  · exact endMaskWord_lawful hs
  · exact event_lawful hs endMaskWord_hallRests

theorem unknownCode_lawful {s : State} (hs : s.lawful) :
    (if !s.portDriven || s.port.answer.isSome then shiftOut [s.statusByte] s
      else putAnswer .unknown [] (shiftOut [s.statusByte] s)).lawful := by
  split
  · exact shiftOut_lawful hs _
  · exact putAnswer_lawful (shiftOut_lawful hs _) _ _

theorem SteadyStep.lawful {s t : State} (h : SteadyStep s t) (hs : s.lawful) : t.lawful := by
  cases h with
  | event hf => exact event_lawful hs fun h => h.of_steady (hf s)
  | command hact => exact command_lawful_of_steady hs hact

/-- Every command leaves the machine lawful: a settled one by what it leaves of hall and radiator, the others by what
they leave alone. -/
theorem exec_lawful {i : Instr} {s t : State} (hs : s.lawful) (h : exec i s = .next t) : t.lawful := by
  cases hi : special i with
  | false => exact (exec_steady hi h).lawful hs
  | true =>
    cases i with
    | configure p =>
      cases h
      exact command_lawful_of_safe hs actConfigure_safe
    | setClock p =>
      cases h
      exact command_lawful_of_safe hs actSetClock_safe
    | setFloorLanguage p =>
      cases h
      exact command_lawful_of_safe hs actSetFloorLanguage_safe
    | openChannel p =>
      cases h
      exact command_lawful_of_safe hs actOpenChannel_safe
    | closeChannel p =>
      cases h
      exact command_lawful_of_safe hs actCloseChannel_safe
    | start p =>
      cases h
      exact start_lawful p hs
    | setHallState p =>
      cases h
      exact setHallState_lawful p hs
    | answerTransfer n =>
      cases h
      exact answerTransfer_lawful n hs
    | incompleteTransfer _ =>
      cases h
      exact shiftOut_lawful hs _
    | unknownCommandCode _ _ =>
      cases h
      exact unknownCode_lawful hs
    | wallInputChange n o =>
      cases h
      exact moveWall_lawful n o hs
    | secondTick =>
      cases h
      exact tickSecond_lawful hs
    | minuteTick =>
      cases h
      exact tickMinute_lawful hs
    | mapCycleEnd =>
      cases h
      exact mapCycle_lawful (fun s => s.map.radiator) hs
    | retuneHoldExpiry =>
      cases h
      exact mapCycle_lawful (fun s => s.map.radiator && s.map.holdCount = 1) hs
    | maskWordSent =>
      cases h
      exact maskWordSent_lawful hs
    | supplyLow =>
      cases h
      exact supplyFalls_lawful hs
    | supplyRiseAboveWarn m =>
      cases h
      exact supplyRises_lawful m hs
    | enterRetain =>
      cases h
      exact enterRetainState_lawful hs
    | resetAsserted =>
      cases h
      exact assertReset_lawful hs
    | resetReleased m =>
      cases h
      exact releaseReset_lawful m hs
    | mainPowerApplied a r =>
      cases h
      exact applyPower_lawful a r hs
    | retentionSupplyFails =>
      cases h
      exact failRetention_lawful hs
    | _ => nomatch hi

/-- Settles O5: a command leaves the machine lawful, and so does a millisecond of idling. -/
theorem lawsKeptByEveryStep : Obligations.LawsKeptByEveryStep := by
  intro s t hs h
  unfold step at h
  split at h
  · cases h
    exact idle_lawful hs
  next c rest _ =>
    have hrest : ({ s with pending := rest } : State).lawful := hs.of_running_eq rfl rfl rfl rfl rfl
    exact exec_lawful hrest h

/-- Settles O4. -/
theorem lawsHoldAtReset : Obligations.LawsHoldAtReset := ⟨rfl, rfl, rfl, fun _ => rfl⟩

end Sys2Proof.Machine

/-! The machine's steps, the command port and its flags (sections 10.1 to 10.3). -/

namespace Sys2Proof.Machine

/-! ### The machine -/

/-- Settles O1: a step is by definition the command at the front, run on the rest. -/
theorem stepRunsFrontCommand : Obligations.StepRunsFrontCommand := fun _ _ _ => rfl

theorem step_of_idle {s : State} (h : s.pending = []) : step s = .next (idle s) := by
  simp [step, h]

/-- Settles O2: idling is a millisecond where the part runs, and nothing otherwise. -/
theorem emptyQueuePassesMillisecond : Obligations.EmptyQueuePassesMillisecond := by
  intro s hp
  rw [step_of_idle hp]
  refine ⟨fun hstop => ?_, fun hst hreset => ?_⟩
  · rw [idle, if_pos (by simpa using hstop)]
  · rw [idle, if_neg (by simp [hst, hreset])]
    refine ⟨_, rfl, ?_, rfl, rfl, rfl, rfl, rfl, rfl, rfl, rfl, rfl, rfl, rfl, rfl, rfl⟩
    simp only [passMillisecond, PlannerBlock.mk.injEq, true_and]
    exact ⟨rfl, congrArg _ (funext fun e => by cases e <;> rfl), rfl⟩

/-- Settles O3: each value is one of the reset state's literals. -/
theorem coldStartIsEmpty : Obligations.ColdStartIsEmpty := by
  refine ⟨rfl, rfl, rfl, rfl, rfl, rfl, rfl, rfl, rfl, rfl, rfl, rfl, rfl, rfl, rfl, rfl, rfl, rfl, rfl, rfl, rfl, rfl,
    rfl, rfl, rfl, rfl, rfl, rfl, rfl, rfl⟩

/-! ### Transfers of the port (R178, R179) -/

/-- While RESET is held the port shifts nothing out. -/
theorem shiftOut_of_reset {s : State} (h : s.clock.resetHeld = true) (bytes : List Byte) : shiftOut bytes s = s := by
  simp [shiftOut, h]

/-- In RETAIN the port shifts out a byte of 0. -/
theorem shiftOut_of_retain {s : State} (h : s.clock.resetHeld = false) (hr : s.clock.station = .retain)
    (bytes : List Byte) : shiftOut bytes s = { s with port.shifted := [0] } := by
  simp [shiftOut, h, hr]

theorem portDriven_of_reset {s : State} (h : s.clock.resetHeld = true) : s.portDriven = false := by
  simp [State.portDriven, h]

theorem portDriven_of_retain {s : State} (h : s.clock.station = .retain) : s.portDriven = false := by
  simp [State.portDriven, h]

section Command

variable {len : Nat} {taken : StationState → Bool} {act : List Nat → State → Verdict} {params : List Byte} {s : State}

/-- A block that the port does not drive is a transfer alone. -/
theorem command_of_undriven (h : s.portDriven = false) :
    command len taken act params s = shiftOut [s.statusByte] s := by
  simp [command, h]

/-- A block that finds an unread answer is discarded. -/
theorem command_of_unread (hd : s.portDriven = true) (ha : s.port.answer.isSome = true) :
    command len taken act params s = { s with port.shifted := [s.statusByte] } := by
  simp [command, ha, shiftOut_of_driven hd]

/-- A block of the wrong length. -/
theorem command_of_length (hd : s.portDriven = true) (ha : s.port.answer = none) (hl : params.length ≠ len) :
    command len taken act params s = s.answers .range [] := by
  simp [command, hd, ha, hl, shiftOut_of_driven hd, putAnswer, State.answers]

/-- A block in a station state that does not take it. -/
theorem command_of_station (hd : s.portDriven = true) (ha : s.port.answer = none) (hl : params.length = len)
    (ht : taken s.clock.station = false) : command len taken act params s = s.answers .state [] := by
  simp [command, hd, ha, hl, ht, shiftOut_of_driven hd, putAnswer, State.answers]

end Command

/-- What a host command is: a block of its length, taken in its states. -/
structure IsBlock (i : Instr) (h : HostBlock) (len : Nat) (taken : StationState → Bool)
    (act : List Nat → State → Verdict) : Prop where
  exec : ∀ s, exec i s = .next (command len taken act h.params s)
  length : h.length = len
  states : ∀ st, st ∉ h.states → st ≠ .retain → taken st = false

/-- Every host block is one (section 10.2). -/
theorem isBlock_of_hostBlock {i : Instr} {h : HostBlock} (hi : hostBlock i = some h) :
    ∃ len taken act, IsBlock i h len taken act := by
  cases i <;> simp only [hostBlock, reduceCtorEq, Option.some.injEq] at hi <;> subst hi <;>
    exact ⟨_, _, _, fun _ => rfl, rfl, fun st => by
      cases st <;> simp [inU, inC, inR, inCR, inUCR]⟩

theorem exec_answerTransfer (n : Nat) (s : State) : exec (.answerTransfer n) s = .next (answerTransfer n s) := rfl

theorem exec_unknownCommandCode (code : Byte) (params : List Byte) (s : State) :
    exec (.unknownCommandCode code params) s = .next (if !s.portDriven || s.port.answer.isSome then
      shiftOut [s.statusByte] s else putAnswer .unknown [] (shiftOut [s.statusByte] s)) := rfl

/-- A transfer that reaches an undriven port only shifts out. -/
theorem exec_of_undriven {i : Instr} {s : State} (hd : s.portDriven = false)
    (hi : (hostBlock i).isSome = true ∨ (∃ n, i = .answerTransfer n) ∨ (∃ l, i = .incompleteTransfer l)
      ∨ (∃ c l, i = .unknownCommandCode c l)) : ∃ bytes, exec i s = .next (shiftOut bytes s) := by
  rcases hi with hi | ⟨n, rfl⟩ | ⟨l, rfl⟩ | ⟨c, l, rfl⟩
  · obtain ⟨h, hh⟩ := Option.isSome_iff_exists.mp hi
    obtain ⟨len, taken, act, hb⟩ := isBlock_of_hostBlock hh
    exact ⟨_, by rw [hb.exec, command_of_undriven hd]⟩
  · exact ⟨_, by rw [exec_answerTransfer]; simp only [answerTransfer, hd, Bool.false_and]; rfl⟩
  · exact ⟨_, rfl⟩
  · exact ⟨_, by rw [exec_unknownCommandCode, hd]; rfl⟩

/-- Settles O7: the port's own tests come before a command's. -/
theorem refusedTransfersChangeOnlyThePort : Obligations.RefusedTransfersChangeOnlyThePort := by
  intro i s
  refine ⟨fun h hh hd => ?_, fun hi => ⟨fun hreset => ?_, fun hreset hretain => ?_⟩⟩
  · obtain ⟨len, taken, act, hb⟩ := isBlock_of_hostBlock hh
    have hnotRetain : s.clock.station ≠ .retain := fun hr => by simp [portDriven_of_retain hr] at hd
    rw [hb.exec]
    exact ⟨fun ha => congrArg _ (command_of_unread hd ha),
      fun ha hl => congrArg _ (command_of_length hd ha (hb.length ▸ hl)),
      fun ha hl hst => congrArg _ (command_of_station hd ha (hb.length ▸ hl) (hb.states _ hst hnotRetain))⟩
  · obtain ⟨bytes, hexec⟩ := exec_of_undriven (portDriven_of_reset hreset) hi
    rw [hexec, shiftOut_of_reset hreset]
  · obtain ⟨bytes, hexec⟩ := exec_of_undriven (portDriven_of_retain hretain) hi
    rw [hexec, shiftOut_of_retain hreset hretain]

/-- An answer transfer of a driven port: the status byte and the answer's first bytes. -/
theorem answerTransfer_of_driven {s : State} (hd : s.portDriven = true) (n : Nat) (bytes : List Byte)
    (hb : (s.port.answer.map Answer.bytes).getD (Answer.bytes ⟨.none, []⟩) = bytes) :
    answerTransfer n s =
      { s with port := ⟨if bytes.length ≤ n then none else s.port.answer, s.statusByte :: bytes.take n⟩ } := by
  subst hb
  simp only [answerTransfer, hd, Bool.true_and, shiftOut_of_driven hd, decide_eq_true_eq]
  split <;> rfl

/-- Settles O8: the port drives, so each transfer is what it shifts out and what it answers. -/
theorem otherTransfers : Obligations.OtherTransfers := by
  intro s hd
  refine ⟨fun n a ha => ?_, fun n ha => ?_, fun sent => ?_, fun code params ha => ?_, fun code params ha => ?_⟩
  · refine congrArg _ ((answerTransfer_of_driven hd n a.bytes (by rw [ha]; rfl)).trans ?_)
    rw [ha]
  · refine congrArg _ ((answerTransfer_of_driven hd n [0, 0, 0] (by rw [ha]; rfl)).trans ?_)
    rw [ha, ite_self]
  · exact congrArg _ (shiftOut_of_driven hd _)
  · rw [exec_unknownCommandCode]
    simp [hd, ha, shiftOut_of_driven hd, putAnswer, State.answers]
  · rw [exec_unknownCommandCode]
    simp [ha, shiftOut_of_driven hd]

/-! ### The status byte (R178, R181) -/

/-- The bits of a sum of the three flags' weights. -/
theorem flagByte_bits (answer event overrun : Bool) :
    let w : Byte := BitVec.ofNat 8
      ((if answer then 128 else 0) + (if event then 64 else 0) + (if overrun then 32 else 0))
    w.getLsbD 7 = answer ∧ w.getLsbD 6 = event ∧ w.getLsbD 5 = overrun ∧ ∀ i, i < 5 → w.getLsbD i = false := by
  revert answer event overrun
  decide

/-- Settles O9: the byte is the sum of its three flags' weights. -/
theorem statusByteShowsThreeFlags : Obligations.StatusByteShowsThreeFlags := by
  intro s
  refine ⟨fun hst => ?_, fun hst => ⟨by simp [State.interruptLine, hst], by simp [State.statusByte, hst]⟩⟩
  have hbyte : s.statusByte = BitVec.ofNat 8 ((if s.port.answer.isSome then 128 else 0)
      + (if s.interruptLine then 64 else 0) + (if decide (0 < s.events.overrun) then 32 else 0)) := by
    simp [State.statusByte, hst]
  obtain ⟨hanswer, hevent, hoverrun, hrest⟩ :=
    flagByte_bits s.port.answer.isSome s.interruptLine (decide (0 < s.events.overrun))
  rw [← hbyte] at hanswer hevent hoverrun hrest
  exact ⟨hanswer, hevent, hoverrun, hrest, by simp [State.interruptLine, hst]⟩

end Sys2Proof.Machine

/-! The event queue and READ EVENT (R181), and the booking of accounts (R145 to R149). -/

namespace Sys2Proof.Machine

/-! ### The event queue (R181) -/

theorem queueEvent_of_room {s : State} (h : s.events.queue.length < 64) (k : EventKind) (fields : List Nat) :
    queueEvent k fields s =
      { s with events.queue := s.events.queue ++ [⟨k, s.clock.minute, s.clock.second, fields⟩] } := by
  simp [queueEvent, h]

theorem queueEvent_of_full {s : State} (h : 64 ≤ s.events.queue.length) (k : EventKind) (fields : List Nat) :
    queueEvent k fields s = { s with events.overrun := min (s.events.overrun + 1) 65535 } := by
  simp [queueEvent, Nat.not_lt.mpr h]

/-- What an event does to the event queue depends on the queue and the clock alone. -/
theorem queueEvent_events_congr {s t : State} (he : s.events = t.events) (hc : s.clock = t.clock) (k : EventKind)
    (fields : List Nat) : (queueEvent k fields s).events = (queueEvent k fields t).events := by
  simp only [queueEvent, he, hc]
  split <;> simp

/-- The oldest event leaves; a count above 0 takes its place (R181). -/
theorem dropOldestEvent_eq {s : State} {e : Event} {rest : List Event} (h : s.events.queue = e :: rest)
    (hroom : rest.length < 64) :
    dropOldestEvent s = { s with events := ⟨rest ++ (if 0 < s.events.overrun then
      [⟨.overrun, s.clock.minute, s.clock.second, [s.events.overrun]⟩] else []), 0⟩ } := by
  simp only [dropOldestEvent, h, List.tail_cons]
  by_cases ho : 0 < s.events.overrun
  · rw [if_pos ho, if_pos ho, queueEvent_of_room (by exact hroom)]
  · rw [if_neg ho, if_neg ho, List.append_nil, ← Nat.eq_zero_of_not_pos ho]

/-- READ EVENT's block comes to its own test. -/
theorem readEvent_tested {s : State} (h : s.portFree) :
    exec (.readEvent []) s = .next
      (match actReadEvent [] { s with port.shifted := [s.statusByte] } with
      | .refuse r => putAnswer r [] { s with port.shifted := [s.statusByte] }
      | .tell data => putAnswer .done data { s with port.shifted := [s.statusByte] }
      | .took data u => putAnswer .done data u
      | .accept data u => putAnswer .done data (settle u)) := by
  have hst : inUCR s.clock.station = true := by
    have := h.1
    simp_all [State.portDriven, inUCR]
  exact congrArg Host.Outcome.next ((command_tested h.1 h.2 rfl hst).trans rfl)

/-- Settles O10. -/
theorem eventQueue : Obligations.EventQueue := by
  intro s
  refine ⟨fun k fields => ⟨fun h => queueEvent_of_room h k fields, fun h => queueEvent_of_full h k fields⟩,
    fun hp he => ?_, fun e rest hp he hroom => ?_⟩
  · rw [readEvent_tested hp]
    simp [actReadEvent, he, putAnswer, State.answers]
  · rw [readEvent_tested hp]
    simp only [actReadEvent, he]
    rw [dropOldestEvent_eq (by exact he) hroom]
    rfl

/-! ### Accounts (R145 to R149) -/

theorem bookedAccount_get_self (f : Total) (n : Nat) (r : Account) :
    f.get (bookedAccount f n r) = min (f.get r + n) 99999999 := by
  cases f <;> rfl

theorem bookedAccount_get_ne {f g : Total} (h : g ≠ f) (n : Nat) (r : Account) :
    g.get (bookedAccount f n r) = g.get r := by
  cases f <;> cases g <;> first | rfl | exact absurd rfl h

theorem bookedAccount_rate (f : Total) (n : Nat) (r : Account) : (bookedAccount f n r).rate = r.rate := by
  cases f <;> rfl

theorem book_accounts_ne {a j : Nat} (h : j ≠ a) (f : Total) (n : Nat) (s : State) :
    Tab.get (book a f n s).account.accounts j = Tab.get s.account.accounts j := by
  unfold book
  split
  · rfl
  · dsimp only
    split <;> simp [tab_get_modify_ne _ _ _ _ h]

/-- The first saturation of an account tells of it; every other booking tells nothing (R149). -/
theorem book_events {a : Nat} {f : Total} {n : Nat} {s : State} {r : Account}
    (hr : Tab.get s.account.accounts a = some r) :
    (book a f n s).events =
      if 99999999 < f.get r + n ∧ r.saturated = false then (queueEvent .accountSaturated [a, f.code] s).events
      else s.events := by
  simp only [book, hr, Bool.and_eq_true, decide_eq_true_eq, Bool.not_eq_true']
  split
  · exact queueEvent_events_congr (by rfl) (by rfl) _ _
  · rfl

/-- Settles O18. -/
theorem accountFieldsSaturate : Obligations.AccountFieldsSaturate := by
  intro a f n s r hr
  refine ⟨bookedAccount f n r, by rw [book_accounts, hr, Option.map_some], bookedAccount_get_self f n r,
    fun g hg => bookedAccount_get_ne hg n r, bookedAccount_depositsHeld f n r, bookedAccount_rate f n r, rfl,
    fun hs hn => ?_, fun h => ?_, fun j hj => book_accounts_ne hj f n s, book_frame rfl rfl a f n s,
    book_log a f n s, book_closing a f n s⟩
  · rw [book_events hr, if_pos ⟨hn, hs⟩]
  · rw [book_events hr, if_neg]
    rintro ⟨hn, hs⟩
    rcases h with h | h
    · simp [hs] at h
    · omega

/-- The figures of a closing (R145, R146). -/
theorem figuresOf_eq (time fee deposit : Nat) :
    figuresOf time fee deposit =
      { timeCharge := time, lossFee := fee, deposit
        applied := min (min (time + fee) 99999999) deposit
        refund := deposit - min (min (time + fee) 99999999) deposit
        due := min (time + fee) 99999999 - min (min (time + fee) 99999999) deposit } := rfl

/-- The account's fields that a closing books nothing but its refund and its balance due to. -/
theorem bookedClosing_fields (g : Figures) (r : Account) :
    (bookedClosing g r).refunds = min (r.refunds + g.refund) 99999999
      ∧ (bookedClosing g r).balanceDue = min (r.balanceDue + g.due) 99999999
      ∧ (bookedClosing g r).channelMinutes = r.channelMinutes ∧ (bookedClosing g r).channelRevenue = r.channelRevenue
      ∧ (bookedClosing g r).rate = r.rate := by
  simp [bookedClosing, bookedAccount, Total.get, Total.put, satAdd]

/-- Settles O17: the figures are those of R145 and R146, and the account is the one the closing books them to. -/
theorem closingSettledAgainstDeposit : Obligations.ClosingSettledAgainstDeposit := by
  intro s h kind asked at_
  have hfig : (s.closingOf h kind asked at_).figures =
      figuresOf (s.hireCharge h asked) (if kind = .loss then (s.tariff h.tariff).lossFee else 0) h.deposit := rfl
  dsimp only
  rw [hfig, figuresOf_eq]
  refine ⟨rfl, rfl, rfl, rfl, rfl, rfl, by dsimp only; omega, rfl, by rw [Closing.answer, hfig, figuresOf_eq]; rfl,
    fun serial r hh _ hr => ?_⟩
  have hclosed := closeHire_accounts hh kind asked at_
  rw [hr, Option.map_some, hfig, figuresOf_eq] at hclosed
  obtain ⟨hrefunds, hdue, hminutes, hrevenue, hrate⟩ := bookedClosing_fields
    (figuresOf (s.hireCharge h asked) (if kind = .loss then (s.tariff h.tariff).lossFee else 0) h.deposit) r
  rw [figuresOf_eq] at hrefunds hdue hminutes hrevenue hrate
  exact ⟨_, hclosed, hrefunds, hdue, by dsimp only, hminutes, hrevenue, hrate⟩

end Sys2Proof.Machine

/-! The hire days a hire touches (R135), and the cap of a hire's time charge (R142 to R144). -/

namespace Sys2Proof.Machine

/-! ### Hire days (R135) -/

/-- The day boundaries after s are those a whole number of days after the next one. -/
theorem boundary_iff {b : Nat} (hb : b < 1440) (s m : Nat) :
    (s < m ∧ m % 1440 = b) ↔ nextBoundary b s ≤ m ∧ (m - nextBoundary b s) % 1440 = 0 := by
  have hlt := lt_nextBoundary b s
  have hle := nextBoundary_le b s
  have hmod := nextBoundary_mod hb s
  omega

/-- How many day boundaries stand strictly between s and t. -/
theorem boundaries_between {b : Nat} (hb : b < 1440) (s t : Nat) :
    ((List.range t).filter fun m => s < m && m % 1440 = b).length =
      if nextBoundary b s < t then 1 + (t - 1 - nextBoundary b s) / 1440 else 0 := by
  induction t with
  | zero => simp
  | succ t ih =>
    have hnew : ((List.range (t + 1)).filter fun m => s < m && m % 1440 = b).length =
        (if nextBoundary b s < t then 1 + (t - 1 - nextBoundary b s) / 1440 else 0)
          + if nextBoundary b s ≤ t ∧ (t - nextBoundary b s) % 1440 = 0 then 1 else 0 := by
      rw [List.range_succ, List.filter_append, List.length_append, ih]
      by_cases h : s < t ∧ t % 1440 = b
      · rw [if_pos ((boundary_iff hb s t).mp h), List.filter_cons_of_pos (by simpa using h)]
        rfl
      · rw [if_neg (h ∘ (boundary_iff hb s t).mpr), List.filter_cons_of_neg (by simpa using h)]
        rfl
    rw [hnew]
    generalize nextBoundary b s = d
    split <;> split <;> split <;> omega

/-! ### The cap (R143, R144) -/

theorem pieceCharge_le_cap {t : Tariff} (hc : t.cap ≠ 0) (m : Nat) : pieceCharge t m ≤ t.cap := by
  rw [pieceCharge, capped, if_neg hc]
  exact Nat.min_le_right _ _

theorem pieceCharge_zero {t : Tariff} (ht : tariffOk t = true) : pieceCharge t 0 = 0 := by
  have hunits : unitsOf t 0 = 0 := unitsOf_eq ht (Nat.zero_le _) (Or.inl rfl)
  simp [pieceCharge, capped, satMul, hunits]

theorem satAdd_le_add (a b : Nat) : satAdd a b ≤ a + b := Nat.min_le_left _ _

theorem satMul_le_mul (a b : Nat) : satMul a b ≤ a * b := Nat.min_le_left _ _

theorem satAdd_le_max (a b : Nat) : satAdd a b ≤ 99999999 := Nat.min_le_right _ _

theorem pieceCharge_le_max (t : Tariff) (m : Nat) : pieceCharge t m ≤ 99999999 := by
  have hraw : satMul (unitsOf t m) t.price ≤ 99999999 := Nat.min_le_right _ _
  rw [pieceCharge, capped]
  split
  · exact hraw
  · exact (Nat.min_le_left _ _).trans hraw

theorem timeCharge_le_max (b : Nat) (t : Tariff) (s e : Nat) : timeCharge b t s e ≤ 99999999 := by
  simp only [timeCharge]
  repeat' split
  · exact Nat.zero_le _
  · exact pieceCharge_le_max t _
  · exact satAdd_le_max _ _

/-- A hire that ends past its first day boundary ends so many whole days and a rest after it. -/
theorem exists_days_after {d e : Nat} (h : d < e) :
    ∃ n r, e = d + 1440 * n + r ∧ r < 1440 ∧ 0 < 1440 * n + r :=
  ⟨(e - d) / 1440, (e - d) % 1440, by omega, Nat.mod_lt _ (by decide), by omega⟩

/-- A hire cut at its day boundaries charges at most the cap for each of its pieces that is not empty. -/
theorem timeCharge_cut_le {b s n r : Nat} {t : Tariff} (ht : tariffOk t = true) (hb : b < 1440) (hc : t.cap ≠ 0)
    (hr : r < 1440) (hpos : 0 < 1440 * n + r) :
    timeCharge b t s (nextBoundary b s + 1440 * n + r) ≤ t.cap * (1 + n + if r = 0 then 0 else 1) := by
  have hlast : pieceCharge t r ≤ t.cap * if r = 0 then 0 else 1 := by
    split
    next h => rw [h, pieceCharge_zero ht]; exact Nat.zero_le _
    next => rw [Nat.mul_one]; exact pieceCharge_le_cap hc r
  have hdays : satMul n (pieceCharge t 1440) ≤ t.cap * n := by
    rw [Nat.mul_comm t.cap]
    exact (satMul_le_mul _ _).trans (Nat.mul_le_mul_left n (pieceCharge_le_cap hc 1440))
  have hfirst := pieceCharge_le_cap hc (nextBoundary b s - s - t.grace)
  rw [timeCharge_of_cut t hb hr hpos, Nat.mul_add, Nat.mul_add, Nat.mul_one]
  exact (satAdd_le_add _ _).trans
    (Nat.add_le_add ((satAdd_le_add _ _).trans (Nat.add_le_add hfirst hdays)) hlast)

theorem timeCharge_le_cap {b s e : Nat} {t : Tariff} (ht : tariffOk t = true) (hb : b < 1440) (hse : s ≤ e)
    (hc : t.cap ≠ 0) : timeCharge b t s e ≤ t.cap * daysTouched b s e := by
  rcases Nat.eq_or_lt_of_le hse with rfl | hlt
  · rw [timeCharge_self]
    exact Nat.zero_le _
  by_cases he : e ≤ nextBoundary b s
  · rw [timeCharge_of_le t hlt he, daysTouched, if_neg (by omega), Nat.mul_one]
    exact pieceCharge_le_cap hc _
  · obtain ⟨n, r, rfl, hr, hpos⟩ := exists_days_after (Nat.lt_of_not_le he)
    have hdays : daysTouched b s (nextBoundary b s + 1440 * n + r) = 1 + n + if r = 0 then 0 else 1 := by
      rw [daysTouched, if_pos (by omega)]
      split <;> omega
    rw [hdays]
    exact timeCharge_cut_le ht hb hc hr hpos

/-- Settles O16. -/
theorem timeChargeWithinCapPerDay : Obligations.TimeChargeWithinCapPerDay := by
  refine ⟨fun b s t hb => ?_, fun t b s e ht hb hse =>
    ⟨timeCharge_le_cap ht hb hse, timeCharge_le_max b t s e⟩⟩
  rw [boundaries_between hb, daysTouched]
  split <;> omega

end Sys2Proof.Machine

/-! Bits on the Centre Line (R159, R175, section 10.7.2): what the readers make of the bits a payload is sent as, the
spacing bits, and the order of header values. -/

namespace Sys2Proof.Machine

/-! ### Readers read back what was written -/

theorem readBits_bits {w n : Nat} (hn : n < 2 ^ w) (l : Bits) : readBits w (bits w n ++ l) = some (n, l) := by
  have htake : (bits w n ++ l).take w = bits w n := List.take_left' (length_bits w n)
  have hdrop : (bits w n ++ l).drop w = l := List.drop_left' (length_bits w n)
  simp [readBits, htake, hdrop, bitsValue_bits, Nat.mod_eq_of_lt hn]

theorem readFlag_flagBit (b : Bool) (l : Bits) : readFlag (flagBit b ++ l) = some (b, l) := by
  cases b <;> simp [readFlag, flagBit, readBits, bitsValue, andThen, ret]

theorem Tag.ok_iff (t : Tag) :
    t.ok = true ↔ (1 ≤ t.l1 ∧ t.l1 ≤ 26) ∧ (1 ≤ t.l2 ∧ t.l2 ≤ 26) ∧ 1 ≤ t.l3 ∧ t.l3 ≤ 26 := by
  simp [Tag.ok, and_assoc]

theorem readTag_tagBits {t : Tag} (ht : t.ok = true) (l : Bits) : readTag (tagBits t ++ l) = some (t, l) := by
  obtain ⟨⟨-, h1⟩, ⟨-, h2⟩, -, h3⟩ := (Tag.ok_iff t).mp ht
  simp only [readTag, tagBits, List.append_assoc, readBits_bits (show t.l1 < 2 ^ 5 by omega),
    readBits_bits (show t.l2 < 2 ^ 5 by omega), readBits_bits (show t.l3 < 2 ^ 5 by omega), andThen, ret]

theorem PedEntry.ok_bounds {e : PedEntry} (he : e.ok = true) : e.station ≤ 48 ∧ e.booth ≤ 8 ∧ e.tag.ok = true := by
  simp only [PedEntry.ok, stationOk, Bool.and_eq_true, decide_eq_true_eq] at he
  exact ⟨he.1.1.2, he.1.2, he.2⟩

theorem readEntries_flatMap {p : Pedigree} (hp : ∀ e ∈ p, e.ok = true) (l : Bits) :
    readEntries p.length ((p.flatMap fun e => bits 6 e.station ++ bits 4 e.booth ++ tagBits e.tag) ++ l) =
      some (p, l) := by
  induction p with
  | nil => rfl
  | cons e rest ih =>
    obtain ⟨hq, hb, ht⟩ := PedEntry.ok_bounds (hp e List.mem_cons_self)
    simp only [List.length_cons, List.flatMap_cons, List.append_assoc, readEntries,
      readBits_bits (show e.station < 2 ^ 6 by omega), readBits_bits (show e.booth < 2 ^ 4 by omega),
      readTag_tagBits ht, andThen, ret]
    have hrest := ih fun x hx => hp x (List.mem_cons_of_mem e hx)
    simp only [List.append_assoc] at hrest
    rw [hrest]

theorem pedigreeOk_iff (p : Pedigree) :
    pedigreeOk p = true ↔ (1 ≤ p.length ∧ p.length ≤ 3) ∧ ∀ e ∈ p, e.ok = true := by
  simp [pedigreeOk, and_assoc]

theorem readPedigree_pedigreeBits {p : Pedigree} (hp : pedigreeOk p = true) (l : Bits) :
    readPedigree (pedigreeBits p ++ l) = some (p, l) := by
  obtain ⟨⟨-, hlen⟩, hall⟩ := (pedigreeOk_iff p).mp hp
  rw [readPedigree, pedigreeBits, List.append_assoc, readBits_bits (show p.length < 2 ^ 2 by omega)]
  exact readEntries_flatMap hall l

theorem readEdges_flatMap {edges : List (Nat × Bool)} (he : ∀ e ∈ edges, e.1 < 64) (l : Bits) :
    readEdges edges.length ((edges.flatMap fun e => bits 6 e.1 ++ flagBit e.2) ++ l) = some (edges, l) := by
  induction edges with
  | nil => rfl
  | cons e rest ih =>
    have hrest := ih fun x hx => he x (List.mem_cons_of_mem e hx)
    have hq : e.1 < 2 ^ 6 := he e List.mem_cons_self
    simp only [List.length_cons, List.flatMap_cons, List.append_assoc, readEdges, readBits_bits hq,
      readFlag_flagBit, andThen, ret, hrest]

theorem readReason_bits (r : EndReason) (l : Bits) : readReason (bits 3 (endReasonCode r) ++ l) = some (r, l) := by
  rw [readReason, readBits_bits (by cases r <;> decide)]
  cases r <;> rfl

theorem readAction_bits (a : ClaimAction) (l : Bits) : readAction (bits 2 (claimActionCode a) ++ l) = some (a, l) := by
  rw [readAction, readBits_bits (by cases a <;> decide)]
  cases a <;> rfl

theorem readNoticeState_bits (s : NoticeState) (l : Bits) : readNoticeState (bits 2 s.code ++ l) = some (s, l) := by
  rw [readNoticeState, readBits_bits (by cases s <;> decide)]
  cases s <;> rfl

theorem trunkOk_iff (n : Nat) : trunkOk n = true ↔ 1 ≤ n ∧ n ≤ 12 := by simp [trunkOk]

theorem readSignal_signalBits {x : FeedSignal}
    (hx : (match x with
      | .ready t => trunkOk t
      | .live p => pedigreeOk p
      | _ => true) = true) (l : Bits) : readSignal (signalBits x ++ l) = some (x, l) := by
  cases x with
  | ready t =>
    have ht := (trunkOk_iff t).mp hx
    simp only [readSignal, signalBits, List.append_assoc, readBits_bits (show 0 < 2 ^ 2 by decide),
      readBits_bits (show t < 2 ^ 4 by omega), andThen, ret]
  | live p =>
    simp only [readSignal, signalBits, List.append_assoc, readBits_bits (show 1 < 2 ^ 2 by decide),
      readPedigree_pedigreeBits hx, andThen, ret]
  | silent => simp only [readSignal, signalBits, readBits_bits (show 2 < 2 ^ 2 by decide), andThen, ret]
  | ended r =>
    simp only [readSignal, signalBits, List.append_assoc, readBits_bits (show 3 < 2 ^ 2 by decide),
      readReason_bits, andThen, ret]

theorem readResource_resourceBits {r : Resource} (hr : r.ok = true) (l : Bits) :
    readResource (resourceBits r ++ l) = some (r, l) := by
  cases r with
  | subcarrier n =>
    have hn : n < 2 ^ 5 := by simp only [Resource.ok, decide_eq_true_eq] at hr; omega
    simp only [readResource, resourceBits, List.append_assoc, readBits_bits (show 0 < 2 ^ 1 by decide),
      readBits_bits hn, andThen, ret, if_true]
  | trunk n =>
    have hn : n < 2 ^ 5 := by simp only [Resource.ok, trunkOk_iff] at hr; omega
    simp only [readResource, resourceBits, List.append_assoc, readBits_bits (show 1 < 2 ^ 1 by decide),
      readBits_bits hn, andThen, ret, if_neg Nat.one_ne_zero]

theorem readRelayOutcome_bits {o : RelayOutcome} (ho : o.ok = true) (l : Bits) :
    readRelayOutcome (relayOutcomeBits o ++ l) = some (o, l) := by
  cases o with
  | grant t =>
    have ht := (trunkOk_iff t).mp ho
    simp only [readRelayOutcome, relayOutcomeBits, List.append_assoc, readBits_bits (show 0 < 2 ^ 1 by decide),
      readBits_bits (show t < 2 ^ 4 by omega), andThen, ret, if_true]
  | refuse r =>
    simp only [readRelayOutcome, relayOutcomeBits, List.append_assoc, readBits_bits (show 1 < 2 ^ 1 by decide),
      readBits_bits (show refuseReasonCode r < 2 ^ 4 by cases r <;> decide), andThen]
    cases r <;> rfl

theorem readReturnOutcome_returnBits {o : ReturnOutcome} (ho : o.ok = true) (l : Bits) :
    readReturnOutcome (returnBits o ++ l) = some (o, l) := by
  cases o with
  | closed k e t f d =>
    simp only [ReturnOutcome.ok, Bool.and_eq_true, decide_eq_true_eq] at ho
    obtain ⟨⟨⟨he, ht⟩, hf⟩, hd⟩ := ho
    simp only [readReturnOutcome, returnBits, List.append_assoc, readBits_bits (show 0 < 2 ^ 2 by decide),
      readBits_bits (show k.code < 2 ^ 1 by cases k <;> decide), readBits_bits he, readBits_bits ht,
      readBits_bits hf, readBits_bits hd, andThen, ret]
    cases k <;> rfl
  | recovered m =>
    simp only [ReturnOutcome.ok, decide_eq_true_eq] at ho
    simp only [readReturnOutcome, returnBits, List.append_assoc, readBits_bits (show 1 < 2 ^ 2 by decide),
      readBits_bits ho, andThen, ret]
  | notOpen => simp only [readReturnOutcome, returnBits, readBits_bits (show 2 < 2 ^ 2 by decide), andThen, ret]

/-- A payload's fields read back, whatever follows them. -/
theorem readPayload_fields {p : Payload} (hp : p.ok = true) (l : Bits) :
    readPayload p.code (p.fields ++ l) = some (p, l) := by
  cases p with
  | feedOffer b t c p =>
    simp only [Payload.ok, Bool.and_eq_true, decide_eq_true_eq] at hp
    obtain ⟨⟨⟨hb, ht⟩, hc⟩, hped⟩ := hp
    simp only [readPayload, Payload.code, Payload.fields, List.append_assoc, readBits_bits (show b < 2 ^ 4 by omega),
      readTag_tagBits ht, readBits_bits (show c < 2 ^ 5 by omega), readPedigree_pedigreeBits hped, andThen, ret]
  | feedAnswer b c a =>
    simp only [Payload.ok, Bool.and_eq_true, decide_eq_true_eq] at hp
    obtain ⟨hb, hc⟩ := hp
    simp only [readPayload, Payload.code, Payload.fields, List.append_assoc, readBits_bits (show b < 2 ^ 4 by omega),
      readBits_bits (show c < 2 ^ 5 by omega), readFlag_flagBit, andThen, ret]
  | feedState b c x =>
    simp only [Payload.ok, Bool.and_eq_true, decide_eq_true_eq] at hp
    obtain ⟨⟨hb, hc⟩, hx⟩ := hp
    simp only [readPayload, Payload.code, Payload.fields, List.append_assoc, readBits_bits (show b < 2 ^ 4 by omega),
      readBits_bits (show c < 2 ^ 5 by omega), readSignal_signalBits hx, andThen, ret]
  | claim r a c t =>
    simp only [Payload.ok, Bool.and_eq_true, decide_eq_true_eq] at hp
    obtain ⟨⟨hr, hc⟩, ht⟩ := hp
    simp only [readPayload, Payload.code, Payload.fields, List.append_assoc, readResource_resourceBits hr,
      readAction_bits, readBits_bits (show c < 2 ^ 5 by omega), readTag_tagBits ht, andThen, ret]
  | relayRequest c b =>
    simp only [Payload.ok, Bool.and_eq_true, decide_eq_true_eq] at hp
    obtain ⟨hc, hb⟩ := hp
    simp only [readPayload, Payload.code, Payload.fields, List.append_assoc, readBits_bits (show c < 2 ^ 5 by omega),
      readBits_bits (show b < 2 ^ 4 by omega), andThen, ret]
  | relayAnswer c o =>
    simp only [Payload.ok, Bool.and_eq_true, decide_eq_true_eq] at hp
    obtain ⟨hc, ho⟩ := hp
    simp only [readPayload, Payload.code, Payload.fields, List.append_assoc, readBits_bits (show c < 2 ^ 5 by omega),
      readRelayOutcome_bits ho, andThen, ret]
  | relayRelease c b =>
    simp only [Payload.ok, Bool.and_eq_true, decide_eq_true_eq] at hp
    obtain ⟨hc, hb⟩ := hp
    simp only [readPayload, Payload.code, Payload.fields, List.append_assoc, readBits_bits (show c < 2 ^ 5 by omega),
      readBits_bits (show b < 2 ^ 4 by omega), andThen, ret]
  | returnQuery s m b =>
    simp only [Payload.ok, Bool.and_eq_true, decide_eq_true_eq] at hp
    obtain ⟨⟨hs, hm⟩, hb⟩ := hp
    simp only [readPayload, Payload.code, Payload.fields, List.append_assoc, readBits_bits hs, readBits_bits hm,
      readBits_bits (show b < 2 ^ 7 by omega), andThen, ret]
  | returnAnswer s o =>
    simp only [Payload.ok, Bool.and_eq_true, decide_eq_true_eq] at hp
    obtain ⟨hs, ho⟩ := hp
    simp only [readPayload, Payload.code, Payload.fields, List.append_assoc, readBits_bits hs,
      readReturnOutcome_returnBits ho, andThen, ret]
  | channelNotice c t st k p =>
    simp only [Payload.ok, Bool.and_eq_true, decide_eq_true_eq] at hp
    obtain ⟨⟨⟨hc, ht⟩, hk⟩, hped⟩ := hp
    have htrunk : k.getD 0 < 2 ^ 4 ∧ (if k.getD 0 = 0 then none else some (k.getD 0)) = k := by
      cases k with
      | none => exact ⟨by decide, rfl⟩
      | some n =>
        have hn := (trunkOk_iff n).mp hk
        exact ⟨show n < 2 ^ 4 by omega, if_neg (show n ≠ 0 by omega)⟩
    simp only [readPayload, Payload.code, Payload.fields, List.append_assoc, readBits_bits (show c < 2 ^ 5 by omega),
      readTag_tagBits ht, readNoticeState_bits, readBits_bits htrunk.1, readPedigree_pedigreeBits hped, andThen, ret,
      htrunk.2]
  | presence edges =>
    simp only [Payload.ok, Bool.and_eq_true, decide_eq_true_eq, List.all_eq_true, stationOk] at hp
    obtain ⟨hlen, hall⟩ := hp
    have hedges : ∀ e ∈ edges, e.1 < 64 := fun e he => by have := (hall e he).2; omega
    have hread := readEdges_flatMap hedges l
    simp only [readPayload, Payload.code, Payload.fields, List.append_assoc,
      readBits_bits (show edges.length < 2 ^ 3 by omega), andThen, ret]
    rw [hread]

/-! ### Whole bytes, at most 16 -/

@[simp] theorem length_tagBits (t : Tag) : (tagBits t).length = 15 := by simp [tagBits]

@[simp] theorem length_pedigreeBits (p : Pedigree) : (pedigreeBits p).length = 2 + 25 * p.length := by
  have hentries : (p.flatMap fun e => bits 6 e.station ++ bits 4 e.booth ++ tagBits e.tag).length = 25 * p.length := by
    induction p with
    | nil => rfl
    | cons e rest ih => simp only [List.flatMap_cons, List.length_append, ih, length_bits, length_tagBits,
        List.length_cons]; omega
  rw [pedigreeBits, List.length_append, hentries, length_bits]

theorem length_edgeBits (edges : List (Nat × Bool)) :
    (edges.flatMap fun e => bits 6 e.1 ++ flagBit e.2).length = 7 * edges.length := by
  have hflag (b : Bool) : (flagBit b).length = 1 := rfl
  induction edges with
  | nil => rfl
  | cons e rest ih =>
    rw [List.flatMap_cons, List.length_append, ih, List.length_append, length_bits, hflag, List.length_cons]
    omega

/-- The fields of a payload within R175's ranges take at most 16 bytes. -/
theorem length_fields_le {p : Payload} (hp : p.ok = true) : p.fields.length ≤ 128 := by
  have pedigree {p : Pedigree} (h : pedigreeOk p = true) : p.length ≤ 3 := ((pedigreeOk_iff p).mp h).1.2
  cases p with
  | feedOffer b t c p =>
    simp only [Payload.ok, Bool.and_eq_true] at hp
    have := pedigree hp.2
    simp [Payload.fields]
    omega
  | feedState b c x =>
    simp only [Payload.ok, Bool.and_eq_true] at hp
    cases x with
    | live p =>
      have := pedigree hp.2
      simp [Payload.fields, signalBits]
      omega
    | _ => simp [Payload.fields, signalBits]
  | claim r a c t => cases r <;> simp [Payload.fields, resourceBits]
  | relayAnswer c o => cases o <;> simp [Payload.fields, relayOutcomeBits]
  | returnAnswer s o => cases o <;> simp [Payload.fields, returnBits]
  | channelNotice c t st k p =>
    simp only [Payload.ok, Bool.and_eq_true] at hp
    have := pedigree hp.2
    simp [Payload.fields]
    omega
  | presence edges =>
    simp only [Payload.ok, Bool.and_eq_true, decide_eq_true_eq] at hp
    rw [Payload.fields, List.length_append, length_edgeBits, length_bits]
    omega
  | _ => simp [Payload.fields, flagBit]

theorem length_padByte (l : Bits) : (padByte l).length = l.length + (8 - l.length % 8) % 8 := by simp [padByte]

/-- Settles O11: the fields read back before their padding, which is less than a byte. -/
theorem payloadsReadBack : Obligations.PayloadsReadBack := by
  intro p hp
  have hlen := length_padByte p.fields
  have hfields := length_fields_le hp
  refine ⟨?_, by rw [Payload.bits]; omega, by rw [Payload.bits]; omega⟩
  have hpad : (8 - p.fields.length % 8) % 8 < 8 := Nat.mod_lt _ (by decide)
  simp [payloadOf, Payload.bits, padByte, readPayload_fields hp, hp, hpad]

/-! ### Spacing bits (R159) -/

/-- No run on the line, the one before it counted in, is longer than six bits. -/
def shortRuns (last : Bool) (run : Nat) : Bits → Prop
  | [] => True
  | b :: rest => (if b = last then run + 1 else 1) ≤ 6 ∧ shortRuns b (if b = last then run + 1 else 1) rest

theorem shortRuns_space (l : Bits) : ∀ (last : Bool) (run : Nat), run ≤ 5 → shortRuns last run (space last run l) := by
  induction l with
  | nil => exact fun _ _ _ => trivial
  | cons b rest ih =>
    intro last run hrun
    have hn : (if b = last then run + 1 else 1) ≤ 6 := by split <;> omega
    simp only [space]
    by_cases h : (if b = last then run + 1 else 1) = 6 ∧ rest.isEmpty = false
    · rw [if_pos (by simp [h])]
      refine ⟨hn, ?_, ?_⟩
      · simp
      · rw [if_neg (by simp)]
        exact ih (!b) 1 (by decide)
    · rw [if_neg (by simpa using h)]
      refine ⟨hn, ?_⟩
      cases rest with
      | nil => trivial
      | cons c rest => exact ih b _ (by simp at h; omega)

theorem shortRuns_append (x y : Bits) :
    ∀ (last : Bool) (run : Nat), shortRuns last run (x ++ y) → ∃ last' run', shortRuns last' run' y := by
  induction x with
  | nil => exact fun last run h => ⟨last, run, h⟩
  | cons b rest ih => exact fun last run h => ih _ _ h.2

theorem not_shortRuns_replicate (b : Bool) (y : Bits) (last : Bool) (run : Nat) :
    ¬ shortRuns last run (List.replicate 7 b ++ y) := by
  simp only [List.replicate, List.cons_append, shortRuns, if_true]
  by_cases h : b = last
  · simp only [if_pos h]
    omega
  · simp only [if_neg h]
    omega

/-! ### The header (R159) -/

theorem bitsValue_append (a : Bits) (w n : Nat) : bitsValue (a ++ bits w n) = bitsValue a * 2 ^ w + n % 2 ^ w := by
  have hfold (l : Bits) (acc : Nat) :
      l.foldl (fun acc b => acc * 2 + cond b 1 0) acc = acc * 2 ^ l.length + bitsValue l := by
    induction l generalizing acc with
    | nil => simp [bitsValue]
    | cons b rest ih =>
      rw [bitsValue, List.foldl_cons, List.foldl_cons, ih, ih (0 * 2 + _), List.length_cons, Nat.pow_succ]
      ring
  rw [bitsValue, List.foldl_append, hfold (bits w n), length_bits, bitsValue_bits]
  rfl

theorem headerValue_eq (k q : Nat) : headerValue k q = (precedenceOf k % 8 * 16 + k % 16) * 64 + q % 64 := by
  rw [headerValue, headerBits, bitsValue_append, bitsValue_append, bitsValue_bits]
  norm_num

theorem precedenceOf_le (k : Nat) : precedenceOf k ≤ 7 := by
  unfold precedenceOf
  repeat' split
  all_goals omega

/-- Settles O12: no run grows past six, and the header is a number of precedence, kind and source in that order. -/
theorem spacingAndHeader : Obligations.SpacingAndHeader := by
  refine ⟨fun l before after b h => ?_, fun k1 k2 q1 q2 _ hk1 _ hk2 hq1 hq2 => ?_⟩
  · have hshort := shortRuns_space l true 0 (by decide)
    rw [h, List.append_assoc] at hshort
    obtain ⟨last, run, hruns⟩ := shortRuns_append before _ _ _ hshort
    exact not_shortRuns_replicate b after last run hruns
  · simp only [stationOk, Bool.and_eq_true, decide_eq_true_eq] at hq1 hq2
    have hp1 := precedenceOf_le k1
    have hp2 := precedenceOf_le k2
    rw [headerValue_eq, headerValue_eq]
    exact ⟨fun h => by omega, fun h => by omega⟩

end Sys2Proof.Machine

/-! What a complete block of the host comes to once it is taken: a refusal or an answer that changes the port alone, or
an effect that settles, with what it tells and sends (R178, R179). -/

namespace Sys2Proof.Machine

/-- A state whose port has shifted out its status byte: what a taken block's own tests find. -/
def State.sent (s : State) : State := { s with port.shifted := [s.statusByte] }

/-- A single parameter byte as a number. -/
@[simp] theorem field_byte (b : Byte) : field (numbers [b]) 0 1 = b.toNat := by simp [field, numbers]

@[simp] theorem field_first (b a : Byte) : field (numbers [b, a]) 0 1 = b.toNat := by simp [field, numbers]

@[simp] theorem field_second (b a : Byte) : field (numbers [b, a]) 1 1 = a.toNat := by simp [field, numbers]

theorem require_of {ok : Bool} (h : ok = true) (r : Result) (v : Verdict) : require ok r v = v := by simp [require, h]

theorem require_of_not {ok : Bool} (h : ok = false) (r : Result) (v : Verdict) : require ok r v = .refuse r := by
  simp [require, h]

section Taken

variable {len : Nat} {taken : StationState → Bool} {act : List Nat → State → Verdict} {params : List Byte} {s : State}
  (hp : s.portFree) (hl : params.length = len) (ht : taken s.clock.station = true)
include hp hl ht

/-- A block its own tests refuse. -/
theorem command_refuses {r : Result} (h : act (numbers params) s.sent = .refuse r) :
    command len taken act params s = s.answers r [] := by
  rw [command_tested hp.1 hp.2 hl ht]
  change (match act (numbers params) s.sent with
    | .refuse r => _ | .tell data => _ | .took data u => _ | .accept data u => _) = _
  rw [h]
  rfl

/-- A read. -/
theorem command_tells {data : List Byte} (h : act (numbers params) s.sent = .tell data) :
    command len taken act params s = { s with port := s.donePort data } := by
  rw [command_tested hp.1 hp.2 hl ht]
  change (match act (numbers params) s.sent with
    | .refuse r => _ | .tell data => _ | .took data u => _ | .accept data u => _) = _
  rw [h]
  rfl

/-- A block that is accepted: its effect settles, and the port answers DONE. -/
theorem command_accepts {data : List Byte} {u : State} (h : act (numbers params) s.sent = .accept data u)
    (hport : u.port = s.sent.port) :
    command len taken act params s = { settle u with port := s.donePort data } := by
  rw [command_tested hp.1 hp.2 hl ht]
  change (match act (numbers params) s.sent with
    | .refuse r => _ | .tell data => _ | .took data u => _ | .accept data u => _) = _
  rw [h]
  simp only [putAnswer, settle_port, hport]
  rfl

end Taken

theorem blank_port (w : Parts) (s : State) (port : PortBlock) :
    ({ s with port := port } : State).blank w = { s.blank w with port := port } := rfl

theorem SameBut.with_port {w : Parts} {s t : State} (h : SameBut w s t) (port : PortBlock) :
    SameBut w { s with port := port } { t with port := port } := by
  have h' : ({ t.blank w with port := port } : State) = { s.blank w with port := port } := by
    rw [show t.blank w = s.blank w from h]
  exact (blank_port w t port).trans (h'.trans (blank_port w s port).symm)

/-- What settling and the port's answer leave of the frame of an effect. -/
theorem done_frame_of {w : Parts} {s u : State} {port : PortBlock} (hu : SameBut w s u) (h1 : w.events = true)
    (h2 : w.notices = true) (h3 : w.deskShow = true) (h4 : w.mapBack = true) (h5 : w.lineQueue = true)
    (h6 : w.outbound = true) (h7 : w.routes = true) :
    SameBut w { s with port := port } { settle u with port := port } := by
  have h : SameBut w s (settle u) := (settle_frame h1 h2 h3 h4 h5 h6 h7 u).trans hu
  exact h.with_port port

/-- The frame of an accepted block: that of its effect, with what settling writes and with the port as it is left. -/
theorem done_frame {w : Parts} {s u : State} {port : PortBlock} (hu : SameBut w s.sent u) (h1 : w.events = true)
    (h2 : w.notices = true) (h3 : w.deskShow = true) (h4 : w.mapBack = true) (h5 : w.lineQueue = true)
    (h6 : w.outbound = true) (h7 : w.routes = true) :
    SameBut w { s with port := port } { settle u with port := port } :=
  done_frame_of (s := s.sent) hu h1 h2 h3 h4 h5 h6 h7

/-! ### What a step tells and sends, through its parts -/

/-- Nothing but notices is taken back by settling: the frames of a step that are no notices stay. -/
def Keep.steady : Keep := { notices := false }

theorem settle_steady (s : State) : Grows .steady s (settle s) := settle_grows rfl s

theorem sent_grows {κ : Keep} (s : State) : Grows κ s s.sent := Grows.of_same rfl rfl rfl rfl

/-- What an operation tells in the midst of a step, the step tells. -/
theorem Grows.told {κ κ' : Keep} {s u v t : State} (h : Grows κ s u) {k : EventKind} {fields : List Nat}
    (ht : u.tells v k fields) (h' : Grows κ' v t) : s.tells t k fields :=
  h'.tells (h.tells_from ht)

/-- What an operation sends in the midst of a step, the step sends. -/
theorem Grows.sent {κ κ' : Keep} {s u v t : State} (h : Grows κ s u) {dest : Nat} {p : Payload}
    (hs : u.sends v dest p) (huv : Grows κ' u v) (h' : Grows κ' v t) (hk : κ'.has p.key = true) : s.sends t dest p :=
  h.sends_from (h'.sends huv hk hs)

/-! ### The reads -/

/-- READ HIRE by its form: 0 asks for a serial, 1 for the next one. -/
theorem actReadHire_exact {p : List Nat} (h : field p 3 1 = 0) (hs : field p 0 3 ≠ 0) (s : State) :
    actReadHire p s =
      require (Tab.has s.ledger.hires (field p 0 3) || (s.lostEntry (field p 0 3)).isSome
        || (s.orphan (field p 0 3)).isSome) .unknown (.tell (bExact s (field p 0 3))) := by
  simp only [actReadHire, h, require_of (show decide (field p 0 3 ≠ 0) = true by simpa using hs)]

/-- Settles O36: each read's own test passes, and its answer is taken from a state that differs in the port alone. -/
theorem readsChangeNothing : Obligations.ReadsChangeNothing := by
  intro s b hp
  have one (b : Byte) : ([b] : List Byte).length = 1 := rfl
  have driven : inUCR s.clock.station = true := by
    have := hp.1
    simp_all [State.portDriven, inUCR]
  refine ⟨fun hst => ⟨fun hb => ?_, fun bo hbo => ?_, fun hbo => ?_, fun r hr => ?_, fun hq hself => ?_,
    fun p hl hform hserial => ?_, fun p hl hform => ⟨fun n h hnext => ?_, fun hnext => ?_⟩⟩,
    fun hst h1 h8 => ?_, fun hst hb => ?_, fun hst h2 h8 => ?_⟩
  · refine congrArg Host.Outcome.next (command_tells hp (one b) hst ?_)
    simp only [actReadChannel, field_byte, require_of (decide_eq_true hb)]
    rfl
  · refine congrArg Host.Outcome.next (command_tells hp (one b) hst ?_)
    simp only [actReadBooth, field_byte, show s.sent.boothRec b.toNat = some bo from hbo]
    rfl
  · refine congrArg Host.Outcome.next (command_refuses hp (one b) hst ?_)
    simp only [actReadBooth, field_byte, show s.sent.boothRec b.toNat = none from hbo]
  · refine congrArg Host.Outcome.next (command_tells hp (one b) hst ?_)
    simp only [actReadAccount, field_byte, show Tab.get s.sent.account.accounts b.toNat = some r from hr]
    rfl
  · refine congrArg Host.Outcome.next (command_tells hp (one b) hst ?_)
    have htest : (stationOk b.toNat && decide (b.toNat ≠ s.sent.self)) = true := by
      have hother : b.toNat ≠ s.sent.self := hself
      simpa [hq] using hother
    simp only [actReadPeer, field_byte, require_of htest]
    rfl
  · have hact := actReadHire_exact hform hserial s.sent
    split
    next hknown =>
      refine congrArg Host.Outcome.next (command_tells hp hl hst (hact.trans ?_))
      rw [require_of (by exact hknown)]
      rfl
    next hknown =>
      refine congrArg Host.Outcome.next (command_refuses hp hl hst (hact.trans ?_))
      rw [require_of_not (by exact Bool.eq_false_iff.mpr hknown)]
  · refine congrArg Host.Outcome.next (command_tells hp hl hst ?_)
    simp only [actReadHire, hform, show s.sent.nextHire (field (numbers p) 0 3) = some (n, h) from hnext]
    rfl
  · refine congrArg Host.Outcome.next (command_refuses hp hl hst ?_)
    simp only [actReadHire, hform, show s.sent.nextHire (field (numbers p) 0 3) = none from hnext]
  · refine congrArg Host.Outcome.next (command_tells hp (one b) driven ?_)
    simp only [actReadStatus, field_byte, require_of (within_iff.mpr ⟨h1, h8⟩),
      show s.sent.clock.station = s.clock.station from rfl, require_of (by simp [hst] :
        (decide (s.clock.station ≠ .unconfigured) || decide (b.toNat = 1)) = true)]
    rfl
  · refine congrArg Host.Outcome.next (command_tells hp (one b) driven ?_)
    simp only [actReadStatus, field_byte, hb]
    simp [require, within]
    rfl
  · refine congrArg Host.Outcome.next (command_refuses hp (one b) driven ?_)
    have hne : b.toNat ≠ 1 := by omega
    simp only [actReadStatus, field_byte, require_of (within_iff.mpr ⟨show 1 ≤ b.toNat by omega, h8⟩),
      show s.sent.clock.station = s.clock.station from rfl, require_of_not (by simp [hst, hne] :
        (decide (s.clock.station ≠ .unconfigured) || decide (b.toNat = 1)) = false)]

end Sys2Proof.Machine

/-! The ledger's commands: READ SETTLEMENT (R156), DECLARE LOST (R136) and SET CLOCK with its overdue test (R135, R186). -/

namespace Sys2Proof.Machine

/-! ### One entry under an operation applied for each number of a list -/

/-- An operation that, for its own number, changes what is read at it by an idempotent change, and for every other
number leaves it alone, changes it once where the list has the number. -/
theorem forEach_at {α : Type} {P : State → Prop} {view : State → Option α} {g : α → α} {f : Nat → State → State}
    {j : Nat} (hkeep : ∀ k s, P s → P (f k s)) (hother : ∀ k s, P s → k ≠ j → view (f k s) = view s)
    (hown : ∀ s, P s → view (f j s) = (view s).map g) (hg : ∀ a, g (g a) = g a) (l : List Nat) :
    ∀ s, P s → view (forEach l f s) = if j ∈ l then (view s).map g else view s := by
  induction l with
  | nil => exact fun s _ => by simp [forEach]
  | cons k rest ih =>
    intro s hs
    have hstep := ih (f k s) (hkeep k s hs)
    rw [show forEach (k :: rest) f s = forEach rest f (f k s) from rfl, hstep]
    by_cases hk : k = j
    · subst hk
      rw [hown s hs, if_pos List.mem_cons_self, Option.map_map, show g ∘ g = g from funext hg, ite_self]
    · rw [hother k s hs hk]
      simp [Ne.symm hk]

theorem mem_keys_of_get {α : Type} {t : Table α} {k : Nat} {v : α} (h : Tab.get t k = some v) : k ∈ Tab.keys t := by
  induction t with
  | nil => simp [Tab.get] at h
  | cons e rest ih =>
    obtain ⟨j, w⟩ := e
    simp only [Tab.get] at h
    split at h
    next hj => simp [Tab.keys, hj]
    next => exact List.mem_cons_of_mem _ (ih h)

/-! ### The settlement log (R152, R156) -/

@[simp] theorem enterLog_log (st : Settlement) (s : State) :
    (enterLog st s).account.log = s.account.log ++ [⟨s.account.nextNumber, st⟩] := by
  simp only [enterLog]
  split <;> simp

@[simp] theorem enterLog_nextNumber (st : Settlement) (s : State) :
    (enterLog st s).account.nextNumber = (s.account.nextNumber + 1) % 65536 := by
  simp only [enterLog]
  split <;> simp

@[simp] theorem enterLog_closing (st : Settlement) (s : State) :
    (enterLog st s).account.closing = s.account.closing := by
  simp only [enterLog]
  split <;> simp

theorem endHolds_ledger (serial : Nat) (s : State) : (endHolds serial s).ledger = s.ledger :=
  same_ledger (w := { outbound := true, slots := true }) (endHolds_frame rfl rfl serial s) rfl rfl rfl

@[simp] theorem hireLeaves_log (serial : Nat) (s : State) :
    (hireLeaves serial s).account.log = s.account.log := by
  unfold hireLeaves
  split <;> simp

@[simp] theorem hireLeaves_closing (serial : Nat) (s : State) :
    (hireLeaves serial s).account.closing = s.account.closing := by
  unfold hireLeaves
  split <;> simp

theorem key_ne_of_get_none {α : Type} {t : Table α} {k : Nat} (h : Tab.get t k = none) : ∀ e ∈ t, e.1 ≠ k := by
  induction t with
  | nil => simp
  | cons x rest ih =>
    simp only [Tab.get] at h
    split at h
    · cases h
    next hx =>
      intro e he
      rcases List.mem_cons.mp he with rfl | he
      · exact hx
      · exact ih h e he

theorem tab_erase_of_get_none {α : Type} {t : Table α} {k : Nat} (h : Tab.get t k = none) : Tab.erase t k = t :=
  List.filter_eq_self.mpr fun e he => by simpa using key_ne_of_get_none h e he

theorem hireLeaves_hires (serial : Nat) (s : State) :
    (hireLeaves serial s).ledger.hires = Tab.erase s.ledger.hires serial := by
  unfold hireLeaves
  split
  next h => exact (tab_erase_of_get_none h).symm
  next => rw [endHolds_ledger]; simp

/-- What enters the log as the oldest item of the closing queue leaves it (R156). -/
def ClosingItem.enters (s : State) : ClosingItem → Settlement → Prop
  | .channel b, st => st = .channel b
  | .recovery n a m, st => st = .recovery n a m
  | .hire n, st => ∃ h c, Tab.get s.ledger.hires n = some h ∧ h.closing = some c
      ∧ st = .hire n h.account h.tariff h.start c

theorem moveClosing_closing {s : State} {item : ClosingItem} {tail : List ClosingItem}
    (h : s.account.closing = item :: tail) : (moveClosing s).account.closing = tail := by
  simp only [moveClosing, h]
  cases item with
  | channel b => simp
  | recovery n a m => simp
  | hire n =>
    dsimp only
    split
    · rfl
    · split
      · rfl
      · simp

theorem moveClosing_log {s : State} {item : ClosingItem} {tail : List ClosingItem} {st : Settlement}
    (h : s.account.closing = item :: tail) (hst : item.enters s st) :
    (moveClosing s).account.log = s.account.log ++ [⟨s.account.nextNumber, st⟩] := by
  simp only [moveClosing, h]
  cases item with
  | channel b => obtain rfl := hst; simp
  | recovery n a m => obtain rfl := hst; simp
  | hire n =>
    obtain ⟨r, c, hr, hc, rfl⟩ := hst
    simp [hr, hc]

theorem moveClosing_hires {s : State} {n : Nat} {tail : List ClosingItem} {r : Hire} {c : Closing}
    (h : s.account.closing = .hire n :: tail) (hr : Tab.get s.ledger.hires n = some r) (hc : r.closing = some c) :
    Tab.get (moveClosing s).ledger.hires n = none := by
  simp [moveClosing, h, hr, hc, hireLeaves_hires, tab_get_erase_self]

/-- READ SETTLEMENT's effect: the oldest record leaves the log, and the oldest waiting closing enters it. -/
def State.settlementRead (s : State) (rest : List LogRecord) : State :=
  moveClosing { s.sent with account.log := rest }

theorem settlementRead_frame {w : Parts} (h1 : w.events = true) (h2 : w.outbound = true) (h3 : w.slots = true)
    (h4 : w.hires = true) (h5 : w.account = true) (s : State) (rest : List LogRecord) :
    SameBut w s.sent (s.settlementRead rest) := by
  rw [SameBut, State.settlementRead, moveClosing_frame h1 h2 h3 h4 h5]
  simp [State.blank, h5]

/-- Settles O37. -/
theorem readSettlement : Obligations.ReadSettlement := by
  intro s hp hst
  refine ⟨fun hlog => congrArg Host.Outcome.next (command_refuses hp rfl hst ?_), fun r rest hlog => ?_⟩
  · simp only [actReadSettlement, show s.sent.account.log = [] from hlog]
  have hframe := settlementRead_frame (w := { Parts.settled with slots := true, hires := true, account := true })
    rfl rfl rfl rfl rfl s rest
  have hact : actReadSettlement (numbers []) s.sent = .accept (bSettlement r
      ++ b1 (s.settlementRead rest).account.log.length ++ be 2 (s.settlementRead rest).account.closing.length)
      (s.settlementRead rest) := by
    simp only [actReadSettlement, show s.sent.account.log = r :: rest from hlog]
    rfl
  refine ⟨_, congrArg Host.Outcome.next (command_accepts hp rfl hst hact (same_port hframe)), ?_, fun hc => ?_,
    fun item tail hc => ⟨?_, fun bill hi => ?_, fun n a m hi => ?_, fun n h c hi hh hcl => ⟨?_, ?_⟩⟩,
    done_frame hframe rfl rfl rfl rfl rfl rfl rfl⟩
  · simp only [settle_account]
  · simp [State.settlementRead, moveClosing, State.sent, hc]
  · simp only [settle_account]
    exact moveClosing_closing (by exact hc)
  · simp only [settle_account]
    exact moveClosing_log (item := .channel bill) (by rw [← hi]; exact hc) rfl
  · simp only [settle_account]
    exact moveClosing_log (item := .recovery n a m) (by rw [← hi]; exact hc) rfl
  · simp only [settle_account]
    exact moveClosing_log (item := .hire n) (by rw [← hi]; exact hc) ⟨h, c, hh, hcl, rfl⟩
  · simp only [settle_ledger]
    exact moveClosing_hires (n := n) (by rw [← hi]; exact hc) hh hcl

end Sys2Proof.Machine

/-! DECLARE LOST (R136, R137) and SET CLOCK with its overdue test (R135, R186). -/

namespace Sys2Proof.Machine

/-! ### A hire that closes: its record and the log (R124) -/

@[simp] theorem book_nextNumber (a : Nat) (f : Total) (n : Nat) (s : State) :
    (book a f n s).account.nextNumber = s.account.nextNumber := by
  unfold book
  split
  next => rfl
  next => dsimp only; split <;> simp

section Close

variable {serial : Nat} {s : State} {h : Hire} (hh : Tab.get s.ledger.hires serial = some h) (kind : HireKind)
  (asked : Nat) (at_ : Option Nat)
include hh

theorem closeHire_hires :
    (closeHire serial kind asked at_ s).ledger.hires =
      if s.logOpen then Tab.erase s.ledger.hires serial
      else Tab.set s.ledger.hires serial { h with closing := some (s.closingOf h kind asked at_) } := by
  simp only [closeHire, hh, book_logOpen]
  split
  · rw [hireLeaves_hires, enterLog_ledger]
    simp only [book_ledger]
  · simp only [book_ledger]

theorem closeHire_log :
    (closeHire serial kind asked at_ s).account.log =
      if s.logOpen then s.account.log ++ [⟨s.account.nextNumber, .hire serial h.account h.tariff h.start
        (s.closingOf h kind asked at_)⟩] else s.account.log := by
  simp only [closeHire, hh, book_logOpen]
  split <;> simp [book_log]

theorem closeHire_closing :
    (closeHire serial kind asked at_ s).account.closing =
      if s.logOpen then s.account.closing else s.account.closing ++ [.hire serial] := by
  simp only [closeHire, hh, book_logOpen]
  split <;> simp [book_closing]

theorem closeHire_get_ne {j : Nat} (hj : j ≠ serial) :
    Tab.get (closeHire serial kind asked at_ s).ledger.hires j = Tab.get s.ledger.hires j := by
  rw [closeHire_hires hh]
  split
  · exact tab_get_erase_ne _ _ _ hj
  · exact tab_get_set_ne _ _ _ _ hj

theorem closeHire_get_self :
    Tab.get (closeHire serial kind asked at_ s).ledger.hires serial =
      if s.logOpen then none else some { h with closing := some (s.closingOf h kind asked at_) } := by
  rw [closeHire_hires hh]
  split
  · exact tab_get_erase_self _ _
  · exact tab_get_set_self _ _ _

end Close

/-! ### The lost list (R137) -/

/-- What joining the lost list leaves of it: what it held of other serials, but for an oldest entry, and the new entry
last. -/
theorem joinLost_lost (serial account : Nat) (s : State) :
    ∃ kept : List Lost, (joinLost serial account s).ledger.lost = kept ++ [⟨serial, account, s.clock.minute⟩]
      ∧ ∀ e ∈ kept, e.serial ≠ serial := by
  have hothers : ∀ e ∈ (removeLost serial s).ledger.lost, e.serial ≠ serial := fun e he => by
    simpa using (List.mem_filter.mp he).2
  simp only [joinLost]
  cases hl : (removeLost serial s).ledger.lost with
  | nil => exact ⟨[], by simp [hl]; rfl, by simp⟩
  | cons oldest rest =>
    rw [hl] at hothers
    dsimp only
    split
    · exact ⟨rest, by simp [queueEvent_ledger, queueEvent_clock]; rfl, fun e he => hothers e (List.mem_cons_of_mem _ he)⟩
    · exact ⟨oldest :: rest, by rw [hl]; rfl, hothers⟩

@[simp] theorem joinLost_hires (serial account : Nat) (s : State) :
    (joinLost serial account s).ledger.hires = s.ledger.hires :=
  same_ledger_hires (w := { events := true, lost := true }) (joinLost_frame rfl rfl serial account s) rfl

@[simp] theorem joinLost_account (serial account : Nat) (s : State) :
    (joinLost serial account s).account = s.account :=
  same_account (w := { events := true, lost := true }) (joinLost_frame rfl rfl serial account s) rfl

theorem closeHire_clock (serial : Nat) (kind : HireKind) (asked : Nat) (at_ : Option Nat) (s : State) :
    (closeHire serial kind asked at_ s).clock = s.clock :=
  same_clock (w := { Parts.settled with slots := true, hires := true, account := true })
    (by apply closeHire_frame <;> rfl)

/-- Settles O35: the record closes as a LOSS, and its serial joins the lost list last. -/
theorem declareLost : Obligations.DeclareLost := by
  intro s params h hp hst hl serial hserial hh hopen c
  have hsent : Tab.get s.sent.ledger.hires serial = some h := hh
  have hframe : SameBut { Parts.settled with slots := true, hires := true, lost := true, account := true } s.sent
      (declare serial h.account s.sent) := by apply declare_frame <;> rfl
  have hact : actDeclareLost (numbers params) s.sent = .accept
      (bFigures c.figures ++ bBool (!Tab.has (declare serial h.account s.sent).ledger.hires serial))
      (declare serial h.account s.sent) := by
    simp only [actDeclareLost, require_of (decide_eq_true hserial), show field (numbers params) 0 3 = serial from rfl,
      hsent, hopen, Option.isNone_none]
    rfl
  have hself := closeHire_get_self hsent .loss s.sent.clock.minute none
  obtain ⟨kept, hlost, hkept⟩ := joinLost_lost serial h.account (closeHire serial .loss s.clock.minute none s.sent)
  have hlast : (declare serial h.account s.sent).ledger.lost = kept ++ [⟨serial, h.account, s.clock.minute⟩] := by
    rw [closeHire_clock] at hlost
    exact hlost
  refine ⟨_, _, congrArg Host.Outcome.next (command_accepts hp hl (by simp [inR, hst]) hact (same_port hframe)), rfl,
    fun hlog => ?_, fun hlog => ?_, ?_, fun e he heq => ?_, fun j hj => ?_, done_frame hframe rfl rfl rfl rfl rfl rfl rfl⟩
  · rw [if_pos (by exact hlog)] at hself
    refine ⟨?_, ?_, ?_⟩
    · simp [declare, Tab.has, hself]
    · simpa [declare] using hself
    · simp only [settle_account, declare, joinLost_account]
      rw [closeHire_log hsent, if_pos (by exact hlog)]
      rfl
  · rw [if_neg (by simpa using (show s.sent.logOpen = false from hlog))] at hself
    refine ⟨?_, ?_, ?_⟩
    · simp [declare, Tab.has, hself]
    · simp only [settle_ledger, declare, joinLost_hires]
      exact hself
    · simp only [settle_account, declare, joinLost_account]
      rw [closeHire_closing hsent, if_neg (by simpa using (show s.sent.logOpen = false from hlog))]
      rfl
  · simp [hlast]
  · simp only [settle_ledger, hlast, List.mem_append, List.mem_singleton] at he
    rcases he with he | he
    · exact absurd heq (hkept e he)
    · exact he
  · simp only [settle_ledger, declare, joinLost_hires]
    exact closeHire_get_ne hsent _ _ _ hj

/-! ### The overdue test (R135) -/

/-- Is an OPEN hire past its horizon? -/
def State.pastHorizon (s : State) (h : Hire) : Bool :=
  h.closing.isNone && (s.tariff h.tariff).horizon < daysTouched s.cfg.dayBoundary h.start s.clock.minute

/-- A hire record after its overdue test. -/
def State.overdueTested (s : State) (h : Hire) : Hire := { h with overdue := h.overdue || s.pastHorizon h }

theorem overdueTested_twice (s : State) (h : Hire) : s.overdueTested (s.overdueTested h) = s.overdueTested h := by
  change ({ h with overdue := h.overdue || s.pastHorizon h || s.pastHorizon h } : Hire) = s.overdueTested h
  rw [Bool.or_assoc, Bool.or_self]
  rfl

theorem testOverdue_get_self (serial : Nat) (s : State) :
    Tab.get (testOverdue serial s).ledger.hires serial = (Tab.get s.ledger.hires serial).map s.overdueTested := by
  unfold testOverdue
  cases hh : Tab.get s.ledger.hires serial with
  | none => simp [hh]
  | some h =>
    dsimp only
    split
    next htest =>
      simp only [Bool.and_eq_true, decide_eq_true_eq] at htest
      simp [tab_get_modify_self, hh, State.overdueTested, State.pastHorizon, htest]
    next htest =>
      have hflag : (h.overdue || s.pastHorizon h) = h.overdue := by
        cases ho : h.overdue with
        | true => rfl
        | false => simpa [State.pastHorizon, ho] using htest
      rw [hh, Option.map_some, State.overdueTested, hflag]

theorem testOverdue_get_ne {serial j : Nat} (hj : serial ≠ j) (s : State) :
    Tab.get (testOverdue serial s).ledger.hires j = Tab.get s.ledger.hires j := by
  simp only [testOverdue]
  split
  · rfl
  · split
    · simp [tab_get_modify_ne _ _ _ _ hj.symm]
    · rfl

theorem testOverdue_clock (serial : Nat) (s : State) : (testOverdue serial s).clock = s.clock :=
  same_clock (w := { events := true, hires := true }) (testOverdue_frame rfl rfl serial s)

/-- The overdue test of every hire flags each once (R135). -/
theorem testAllOverdue_get (serial : Nat) (s : State) :
    Tab.get (testAllOverdue s).ledger.hires serial = (Tab.get s.ledger.hires serial).map s.overdueTested := by
  have htested {t : State} (ht : t.clock = s.clock) : t.overdueTested = s.overdueTested := by
    funext h
    simp only [State.overdueTested, State.pastHorizon, State.tariff, State.cfg, ht]
    rfl
  have hall := forEach_at (P := fun t => t.clock = s.clock) (view := fun t => Tab.get t.ledger.hires serial)
    (g := s.overdueTested) (f := testOverdue) (j := serial)
    (fun k t ht => (testOverdue_clock k t).trans ht) (fun k t _ hk => testOverdue_get_ne hk t)
    (fun t ht => by rw [testOverdue_get_self, htested ht])
    (overdueTested_twice s) (Tab.keys s.ledger.hires) s rfl
  rw [testAllOverdue, hall]
  split
  · rfl
  next hnot =>
    cases hh : Tab.get s.ledger.hires serial with
    | none => rfl
    | some h => exact absurd (mem_keys_of_get hh) hnot

/-- The frame of an accepted block whose effect sets the clock before all else. -/
theorem done_frame_clock {w : Parts} {s u : State} {c : ClockBlock}
    (hu : SameBut w { s with clock := c } u) (hc : u.clock = c) (port : PortBlock) (h1 : w.events = true)
    (h2 : w.notices = true) (h3 : w.deskShow = true) (h4 : w.mapBack = true) (h5 : w.lineQueue = true)
    (h6 : w.outbound = true) (h7 : w.routes = true) :
    SameBut w { s with clock := (settle u).clock, port := port } { settle u with port := port } := by
  rw [settle_clock, hc]
  exact done_frame_of hu h1 h2 h3 h4 h5 h6 h7

/-- Settles O21. -/
theorem setClockSetsBothCounts : Obligations.SetClockSetsBothCounts := by
  intro s params hp hst hl minute second
  have hminute : field (numbers params) 0 3 = minute := rfl
  have hsecond : field (numbers params) 3 1 = second := rfl
  refine ⟨fun h59 => ?_, fun h59 hback hhires => ?_, fun h59 hforth => ?_⟩
  · refine congrArg Host.Outcome.next (command_refuses hp hl hst ?_)
    simp only [actSetClock, hsecond, require_of_not (show decide (second ≤ 59) = false by simpa using h59)]
  · refine congrArg Host.Outcome.next (command_refuses hp hl hst ?_)
    have htest : (!(decide (minute < s.sent.clock.minute) && !s.sent.ledger.hires.isEmpty)) = false := by
      have h1 : minute < s.sent.clock.minute := hback
      have h2 : s.sent.ledger.hires ≠ [] := hhires
      simp [h1, h2]
    simp only [actSetClock, hsecond, hminute, require_of (decide_eq_true h59), require_of_not htest]
  · have htest : (!(decide (minute < s.sent.clock.minute) && !s.sent.ledger.hires.isEmpty)) = true := by
      rcases hforth with h | h
      · have h1 : ¬ minute < s.sent.clock.minute := Nat.not_lt.mpr h
        simp [h1]
      · have h2 : s.sent.ledger.hires = [] := h
        simp [h2]
    have hact : actSetClock (numbers params) s.sent = .accept (be 3 minute ++ b1 second)
        (setClockTo minute second s.sent) := by
      simp only [actSetClock, hsecond, hminute, require_of (decide_eq_true h59), require_of htest]
    have hframe : SameBut { Parts.settled with hires := true }
        { s.sent with clock.minute := minute, clock.second := second } (setClockTo minute second s.sent) :=
      testAllOverdue_frame rfl rfl _
    have hclock : (settle (setClockTo minute second s.sent)).clock = { s.clock with minute := minute, second := second } :=
      (settle_clock _).trans (same_clock hframe)
    refine ⟨_, congrArg Host.Outcome.next (command_accepts hp hl hst hact (by rw [same_port hframe])), hclock, rfl,
      fun serial h hh => ?_, ?_⟩
    · simp only [settle_ledger, setClockTo]
      rw [testAllOverdue_get]
      simp only [show Tab.get s.sent.ledger.hires serial = some h from hh, Option.map_some]
      rfl
    · exact done_frame_clock (s := s.sent) hframe (same_clock hframe) _ rfl rfl rfl rfl rfl rfl rfl

end Sys2Proof.Machine

/-! SET HALL STATE between SESSION and RECESS (R45, R110): where the statement about bus routes fails. -/

namespace Sys2Proof.Machine

/-- A running station in SESSION with one booth, which holds a channel of number 44 and relays it as its own source:
the bus of channel 44 and the input of booth 1 are one matrix output, number 44. -/
def busMeetsInput : State :=
  { State.reset with
    clock := { State.reset.clock with station := .running }
    planner := { State.reset.planner with
      hall := .session
      channels := [(44,
        { state := .onAir, language := ⟨6, 18, 1⟩, subcarrier := some 3, confirmed := true, account := 0
          holder := .desk 1 1, liveSeconds := 0, opening := 0, pedigree := [⟨0, 2, ⟨6, 18, 1⟩⟩], everOnAir := true
          window := none, refresh := none, firstBooth := 1, everHeld := false, notice := none, announced := .live })] }
    booth.booths := [(1,
      { desks := [1], outputA := some 44, outputB := none, feed := none, selected := .a, input := .own 44
        relay := .relayed, sourceTrunk := none, answerWait := none, mode := .interlock, overlapMs := 100
        holding := some 1, partner := none, overlap := none })] }

/-- What SET HALL STATE to RECESS leaves on matrix output 44: the relay that the channel's changed pedigree drops puts
the floor there, after the bus has been cleared. -/
theorem route_busMeetsInput :
    exec (.setHallState [1]) busMeetsInput = .next (command 1 inR actSetHallState [1] busMeetsInput) ∧
    (command 1 inR actSetHallState [1] busMeetsInput).route (busOutput 44) = .floor := by
  refine ⟨rfl, ?_⟩
  decide +kernel

/-- Refutes O24: a channel number above the 32 of a station is not excluded, and the bus of channel 44 is the input of
booth 1; the relay dropped with the hold puts the floor on it. -/
theorem not_hallStateKeepsChannels : ¬ Obligations.HallStateKeepsChannels := by
  intro h
  obtain ⟨-, -, -, htoRecess, -⟩ := h busMeetsInput 1 ⟨rfl, rfl⟩ rfl
  obtain ⟨t, ht, hbooths, -⟩ := htoRecess rfl rfl rfl rfl rfl rfl
  obtain ⟨-, -, hchannels, -⟩ := hbooths 1 _ rfl rfl
  obtain ⟨-, hroute⟩ := hchannels 44 _ rfl rfl (by decide)
  rw [route_busMeetsInput.1] at ht
  injection ht with ht
  rw [← ht, route_busMeetsInput.2] at hroute
  exact absurd hroute (by decide)

end Sys2Proof.Machine

/-! The map and mask outputs (R92, R93, R96): the end of a map cycle and of a mask word. -/

namespace Sys2Proof.Machine

/-- A frame of an effect is a frame of the settled effect. -/
theorem SameBut.settled {w : Parts} {s u : State} (h : SameBut w s u) (h1 : w.events = true)
    (h2 : w.notices = true) (h3 : w.deskShow = true) (h4 : w.mapBack = true) (h5 : w.lineQueue = true)
    (h6 : w.outbound = true) (h7 : w.routes = true) : SameBut w s (settle u) :=
  (settle_frame h1 h2 h3 h4 h5 h6 h7 u).trans h

/-- Settling alone. -/
theorem settle_sameBut (s : State) : SameBut Parts.settled s (settle s) :=
  SameBut.settled (show SameBut Parts.settled s s from rfl) rfl rfl rfl rfl rfl rfl rfl

/-! ### The mask through settling -/

/-- The ON AIR subcarriers depend on what notices leave alone. -/
theorem onAirSubcarriers_of_core {s t : State}
    (h : Tab.mapAll t.planner.channels Channel.core = Tab.mapAll s.planner.channels Channel.core) :
    t.onAirSubcarriers = s.onAirSubcarriers := by
  have hany (u : State) (sc : Nat) :
      (u.planner.channels.any fun e => e.2.state = .onAir && e.2.subcarrier = some sc)
        = (Tab.mapAll u.planner.channels Channel.core).any fun e => e.2.state = .onAir && e.2.subcarrier = some sc := by
    simp [Tab.mapAll, List.any_map, Function.comp_def]
  simp only [State.onAirSubcarriers, hany, h]

theorem syncMask_of_follows {s : State} (h : s.map.mask = s.onAirSubcarriers) : syncMask s = s := by
  simp [syncMask, h]

/-- What settling writes before it rebuilds the map. -/
def Parts.shown : Parts :=
  { events := true, notices := true, deskShow := true, lineQueue := true, outbound := true, routes := true }

/-- Where the mask follows the channels already, settling starts no mask word. -/
theorem settle_sending_of_maskFollows {s : State} (h : s.maskFollows) : (settle s).map.sending = s.map.sending := by
  have hshown : SameBut Parts.shown s (announce (refreshDesks (routeFloor s))) :=
    (announce_frame rfl rfl rfl _).trans ((refreshDesks_frame rfl rfl _).trans (routeFloor_frame rfl rfl _))
  generalize hu : announce (refreshDesks (routeFloor s)) = u at hshown
  have hfollows : (rebuildMap u).map.mask = (rebuildMap u).onAirSubcarriers :=
    (same_map_mask (w := Parts.shown) hshown rfl).trans (h.trans (onAirSubcarriers_of_core (same_channels_core (w := Parts.shown) hshown rfl rfl)).symm)
  rw [settle, hu, syncMask_of_follows hfollows]
  exact show u.map.sending = s.map.sending from same_map_sending (w := Parts.shown) hshown rfl

/-- Where the mask follows the channels already, settling keeps it. -/
theorem settle_mask_of_maskFollows {s : State} (h : s.maskFollows) : (settle s).map.mask = s.map.mask := by
  rw [settle_mask, h]
  exact onAirSubcarriers_of_core (settle_channels_core s)

/-! ### The end of a map cycle -/

theorem isRetune_iff {old new : RMap} :
    isRetune old new = true ↔ ∃ r ∈ new.records, ∃ o, recordOf old r.channel = some o ∧ o.subcarrier ≠ r.subcarrier := by
  simp [isRetune, Option.any_eq_true]

/-- A front map that equals the back map, or a hold that has not run out, stays. -/
theorem endCycle_keeps {s : State} (h : s.map.back.records = s.map.front.records ∨ 0 < s.map.holdCount - 1) :
    endCycle s = { s with map.holdCount := s.map.holdCount - 1 } := by
  have htest : (s.map.back.records = s.map.front.records || decide (0 < s.map.holdCount - 1)) = true := by
    simpa using h
  simp only [endCycle, htest, if_true]

/-- Otherwise the back map becomes the front. -/
theorem endCycle_switches {s : State} (h : ¬(s.map.back.records = s.map.front.records ∨ 0 < s.map.holdCount - 1)) :
    endCycle s =
      switchMap (if s.cfg.hold && isRetune s.map.front s.map.back then s.cfg.retuneHold else 0) s := by
  have htest : (decide (s.map.back.records = s.map.front.records) || decide (0 < s.map.holdCount - 1)) = false := by
    simpa using h
  simp only [endCycle, htest, Bool.false_eq_true, if_false]

theorem endCycle_radiator (s : State) : (endCycle s).map.radiator = s.map.radiator := by
  simp only [endCycle, switchMap]
  split <;> rfl

/-- Settles O54. -/
theorem mapAndMask : Obligations.MapAndMask := by
  intro s hrun hold keeps retune
  refine ⟨⟨_, congrArg Host.Outcome.next (event_of_running _ hrun), fun hoff => ?_, fun hon hkeeps => ?_,
    fun hon hkeeps => ?_, ?_, ?_⟩, fun hon h1 => ?_, fun hoff => ⟨_, congrArg Host.Outcome.next (event_of_running _ hrun),
    ?_⟩, ⟨settle (endMaskWord s), congrArg Host.Outcome.next ?_, fun hnone => ?_, fun w hw hfollows => ?_, ?_⟩⟩
  · simpa [hoff] using settle_sameBut s
  · simp [hon, endCycle_keeps hkeeps, hold]
  · simp only [hon, if_true, endCycle_switches hkeeps, settle_map_front, settle_map_holdCount, switchMap]
    refine ⟨trivial, fun hmode hretune => ?_, fun hnot => ?_⟩
    · simp [hmode, isRetune_iff.mpr hretune]
    · have htest : (s.cfg.hold && isRetune s.map.front s.map.back) = false := by
        rcases hnot with h | h
        · simp [h]
        · have : isRetune s.map.front s.map.back = false := Bool.eq_false_iff.mpr fun hr => h (isRetune_iff.mp hr)
          simp [this]
      simp [htest]
  · split <;> simp [endCycle_radiator]
  · refine SameBut.settled ?_ rfl rfl rfl rfl rfl rfl rfl
    split
    · exact endCycle_frame rfl s
    · rfl
  · simp [exec, execRetuneHoldExpiry, execMapCycleEnd, event, hon, h1]
  · have htest : (s.map.radiator && decide (s.map.holdCount = 1)) = false := by
      rcases hoff with h | h <;> simp [h]
    simpa [htest] using settle_sameBut s
  · rw [if_neg (by simp [hrun]), event_of_running _ hrun]
  · simpa [endMaskWord, hnone] using settle_sameBut s
  · have hmask : (endMaskWord s).maskFollows := by
      simpa [endMaskWord, hw, State.maskFollows, State.onAirSubcarriers] using hfollows
    rw [settle_map_driver, settle_sending_of_maskFollows hmask, settle_mask_of_maskFollows hmask]
    simp only [endMaskWord, hw, true_and, and_true]
    exact if_congr eq_comm rfl rfl
  · exact SameBut.settled (endMaskWord_frame rfl rfl s) rfl rfl rfl rfl rfl rfl rfl

end Sys2Proof.Machine

/-! OFFER FEED (R73). -/

namespace Sys2Proof.Machine

/-- A frame handed over after an update of other parts is sent. -/
theorem enqueueFrame_sends_of_same {s u : State} (hc : u.clock = s.clock) (he : u.events = s.events)
    (hq : u.line.queue = s.line.queue) (hs : u.line.state = s.line.state) (dest : Nat) (p : Payload) :
    s.sends (enqueueFrame dest p u) dest p :=
  (Grows.of_same (κ := {}) hc he hq hs).sends_from (enqueueFrame_sends dest p u)

/-- What a taken block's effect sends, the block sends, but for notices. -/
theorem sends_done {s u : State} {port : PortBlock} {dest : Nat} {p : Payload} (h : s.sent.sends u dest p)
    (hu : Grows .steady s.sent u) (hk : Keep.steady.has p.key = true) :
    s.sends { settle u with port := port } dest p :=
  Grows.sent (sent_grows (κ := .steady) s) h hu
    ((settle_steady u).trans (Grows.of_same rfl rfl rfl rfl)) hk

/-- What a taken block's effect tells, the block tells. -/
theorem tells_done {s u : State} {port : PortBlock} {k : EventKind} {fields : List Nat} (h : s.sent.tells u k fields) :
    s.tells { settle u with port := port } k fields :=
  Grows.told (sent_grows (κ := .steady) s) h ((settle_steady u).trans (Grows.of_same rfl rfl rfl rfl))

/-- OFFER FEED past its tests: a free context takes the offer. -/
theorem actOfferFeed_passed {p : List Nat} {s : State} {bo : Booth} {e : DirEntry} {b a c : Nat}
    (hpb : field p 0 1 = b) (hpa : field p 1 1 = a) (hpc : field p 2 1 = c) (hhall : s.planner.hall ≠ .dark)
    (hbo : s.boothRec b = some bo) (hok : stationOk a = true) (hself : a ≠ s.self) (h1 : 1 ≤ c) (h31 : c ≤ 31)
    (hhold : bo.holding = none) (hnone : ∀ x ∈ s.feed.contexts, ¬(x.2.side = .sending ∧ x.2.booth = b))
    (hremote : s.remote a c = some e) (hopen : e.state ≠ .closed) :
    actOfferFeed p s =
      match Tab.firstFree s.feed.contexts 1 4 with
      | none => .refuse .full
      | some k => .accept (b1 k) (offer k a b c e.language s) := by
  have hrange : (stationOk a && decide (a ≠ s.self) && within 1 c 31) = true := by
    simp [hok, hself, within_iff.mpr ⟨h1, h31⟩]
  have hunused : (s.feed.contexts.any fun x => x.2.side = .sending && x.2.booth = b) = false := by
    simpa using fun k x hx => hnone (k, x) hx
  simp only [actOfferFeed, hpb, hpa, hpc, require_of (decide_eq_true hhall), hbo, require_of hrange, hhold,
    Option.isNone_none, hunused, Bool.not_false, Bool.and_self, require_of, hremote, decide_eq_true hopen] <;>
    cases Tab.firstFree s.feed.contexts 1 4 <;> rfl

theorem offer_sends (k a b c : Nat) (l : Tag) (s : State) :
    s.sends (offer k a b c l s) a (.feedOffer b l c (s.spokenPedigree b l)) := by
  unfold offer
  refine enqueueFrame_sends_of_same ?_ ?_ ?_ ?_ _ _ <;> rfl

/-- Settles O30. -/
theorem offerFeed : Obligations.OfferFeed := by
  intro s params bo e k hp hst hl b a c hhall hbo hok hself h1 h31 hhold hnone hremote hopen
  have hst' : inR s.clock.station = true := by simp [inR, hst]
  have hact := actOfferFeed_passed (p := numbers params) (s := s.sent) rfl rfl rfl hhall hbo hok hself h1 h31 hhold hnone
    hremote hopen
  refine ⟨fun hfull => ?_, fun hk => ?_⟩
  · rw [show Tab.firstFree s.sent.feed.contexts 1 4 = none from hfull] at hact
    exact congrArg Host.Outcome.next (command_refuses hp hl hst' hact)
  rw [show Tab.firstFree s.sent.feed.contexts 1 4 = some k from hk] at hact
  have hframe : SameBut { Parts.settled with contexts := true } s.sent (offer k a b c e.language s.sent) := by
    apply offer_frame <;> rfl
  refine ⟨_, congrArg Host.Outcome.next (command_accepts hp hl hst' hact (same_port hframe)), ?_, fun j hj => ?_,
    sends_done (offer_sends _ _ _ _ _ _) (offer_grows _ _ _ _ _ _) rfl, rfl,
    done_frame hframe rfl rfl rfl rfl rfl rfl rfl⟩
  · simp only [State.context, settle_feed, offer, enqueueFrame_feed, tab_get_set_self]
    rfl
  · simp only [State.context, settle_feed, offer, enqueueFrame_feed]
    exact tab_get_set_ne _ _ _ _ hj

end Sys2Proof.Machine

/-! What the outbound queue and the deferred list keep of a message wanted (R106, R107). -/

namespace Sys2Proof.Machine

/-- A message with this body is queued, or its target is deferred. -/
def State.wants (s : State) (b : Body) : Prop := (∃ m ∈ s.panel.outbound, m.body = b) ∨ b.target ∈ s.panel.deferred

theorem orders_of_wants {s t : State} {b : Body} (h : t.wants b) : s.orders t b := fun _ => h

theorem wants_congr {s t : State} {b : Body} (hq : t.panel.outbound = s.panel.outbound)
    (hd : t.panel.deferred = s.panel.deferred) : t.wants b ↔ s.wants b := by
  simp only [State.wants, hq, hd]

theorem mem_deferTarget_self (t : Target) (s : State) : t ∈ (deferTarget t s).panel.deferred := by
  unfold deferTarget
  split
  next h => simpa using h
  next => simp

theorem mem_deferTarget_of_mem {t u : Target} {s : State} (h : t ∈ s.panel.deferred) :
    t ∈ (deferTarget u s).panel.deferred := by
  unfold deferTarget
  split
  · exact h
  · exact List.mem_append_left _ h

theorem wants_deferTarget {b : Body} {s : State} (t : Target) (h : s.wants b) : (deferTarget t s).wants b := by
  rcases h with h | h
  · exact Or.inl (by simpa using h)
  · exact Or.inr (mem_deferTarget_of_mem h)

/-- A ROUTE or IDENTIFY is known by its target. -/
theorem body_of_single_target {b b' : Body} (hs : b.target.single = true) (h : b'.target = b.target) : b' = b := by
  cases b <;> simp [Body.target, Target.single] at hs <;> cases b' <;> simp_all [Body.target]

/-- Queuing a message for an ONLINE drop leaves it queued, or its target deferred. -/
theorem queueMessage_wants {b : Body} {s : State} (hr : s.clock.station = .running) (hd : s.dropOnline b.drop = true)
    (o : Origin) : (queueMessage b o s).wants b := by
  unfold queueMessage
  simp only [hr, hd, ne_eq, not_true_eq_false, decide_false, Bool.not_true, Bool.or_self, Bool.false_eq_true, if_false]
  split
  next h =>
    simp only [Bool.and_eq_true, List.any_eq_true] at h
    obtain ⟨-, n, hn, hsame⟩ := h
    exact Or.inl ⟨_, List.mem_map.mpr ⟨n, hn, if_pos hsame⟩, rfl⟩
  split
  next h =>
    simp only [Bool.and_eq_true, List.any_eq_true, sameQueued, decide_eq_true_eq] at h
    obtain ⟨hsingle, n, hn, htarget, -⟩ := h
    exact Or.inl ⟨n, hn, body_of_single_target hsingle htarget⟩
  split
  · exact Or.inl ⟨_, List.mem_append_right _ (List.mem_singleton.mpr rfl), rfl⟩
  split
  next h => exact Or.inr (by simpa using h)
  split
  · exact wants_deferTarget _ (Or.inl ⟨_, List.mem_append_right _ (List.mem_singleton.mpr rfl), rfl⟩)
  · exact Or.inr (mem_deferTarget_self _ _)

/-- Queuing a message keeps every other one wanted, but one of the same target that it replaces. -/
theorem wants_queueMessage {b b' : Body} {s : State} (h : s.wants b) (o : Origin)
    (hb : b'.target = b.target → b'.target.replaced = true → b' = b) : (queueMessage b' o s).wants b := by
  unfold queueMessage
  dsimp only
  split
  · exact h
  split
  next hrep =>
    simp only [Bool.and_eq_true] at hrep
    rcases h with ⟨m, hm, rfl⟩ | h
    · by_cases hsame : sameQueued b'.target m = true
      · have htarget : b'.target = m.body.target := by
          simp only [sameQueued, Bool.and_eq_true, decide_eq_true_eq] at hsame
          exact hsame.1.symm
        exact Or.inl ⟨_, List.mem_map.mpr ⟨m, hm, if_pos hsame⟩, hb htarget hrep.1⟩
      · exact Or.inl ⟨m, List.mem_map.mpr ⟨m, hm, if_neg hsame⟩, rfl⟩
    · exact Or.inr h
  split
  · exact h
  split
  · rcases h with ⟨m, hm, hmb⟩ | h
    · exact Or.inl ⟨m, List.mem_append_left _ hm, hmb⟩
    · exact Or.inr h
  split
  · exact h
  split
  next n hlast =>
    rcases h with ⟨m, hm, hmb⟩ | h
    · rcases mem_dropLastMatch hlast hm with h1 | h1
      · exact wants_deferTarget _ (Or.inl ⟨m, List.mem_append_left _ h1, hmb⟩)
      · subst h1 hmb
        exact Or.inr (mem_deferTarget_self _ _)
    · exact wants_deferTarget _ (Or.inr h)
  · exact wants_deferTarget _ h

/-! ### Settling -/

/-- GATE and LAMPS, which settling replaces as a desk changes. -/
def Body.shown : Body → Bool
  | .gate .. | .lamps .. => true
  | _ => false

theorem ne_target_of_shown {b b' : Body} (hb : b.shown = false) (hb' : b'.shown = true) : b'.target ≠ b.target := by
  cases b <;> cases b' <;> simp_all [Body.shown, Body.target]

theorem wants_setRoute {b : Body} {s : State} (h : s.wants b) (o : Nat) (src : Source) : (setRoute o src s).wants b := by
  unfold setRoute
  split
  · exact h
  · refine wants_queueMessage (b' := .route o) ?_ _ fun _ hrep => by simp [Body.target, Target.replaced] at hrep
    exact h

theorem wants_refreshDesk {b : Body} {s : State} (h : s.wants b) (hb : b.shown = false) (d : Nat) :
    (refreshDesk d s).wants b := by
  have hshow {b' : Body} (hb' : b'.shown = true) {u : State} (hu : u.wants b) (f : Desk → Desk) :
      (queueMessage b' .plain (modDesk d f u)).wants b :=
    wants_queueMessage (s := modDesk d f u) hu _ fun hne => absurd hne (ne_target_of_shown hb hb')
  unfold refreshDesk
  split
  · exact h
  · dsimp only
    split <;> split
    · exact h
    · exact hshow rfl h _
    · exact hshow rfl h _
    · exact hshow rfl (hshow rfl h _) _

theorem wants_forEach {b : Body} {f : Nat → State → State} (hf : ∀ k u, u.wants b → (f k u).wants b) (l : List Nat)
    {s : State} (h : s.wants b) : (forEach l f s).wants b := by
  unfold forEach
  induction l generalizing s with
  | nil => exact h
  | cons k rest ih => exact ih (hf k s h)

theorem announce_panel (s : State) : (announce s).panel = s.panel := by
  unfold announce forEach
  generalize Tab.keys _ = l
  induction l generalizing s with
  | nil => rfl
  | cons k rest ih => exact (ih (queueNotice k s)).trans (queueNotice_panel k s)

theorem wants_settle {b : Body} {s : State} (h : s.wants b) (hb : b.shown = false) : (settle s).wants b := by
  have hdesks : (refreshDesks (routeFloor s)).wants b :=
    wants_forEach (fun d u hu => wants_refreshDesk hu hb d) _ (wants_setRoute h _ _)
  have hpanel : (settle s).panel = (refreshDesks (routeFloor s)).panel := by
    rw [settle, syncMask_panel, rebuildMap, announce_panel]
  exact (wants_congr (by rw [hpanel]) (by rw [hpanel])).mpr hdesks

theorem wants_with_port (s : State) (port : PortBlock) (b : Body) :
    ({ s with port := port } : State).wants b ↔ s.wants b := Iff.rfl

/-- What a taken block's effect wants of an ONLINE drop, the block orders. -/
theorem orders_done {s u : State} {port : PortBlock} {b : Body} (h : s.dropOnline b.drop = true → u.wants b)
    (hb : b.shown = false) : s.orders { settle u with port := port } b :=
  fun hd => (wants_with_port (settle u) port b).mpr (wants_settle (h hd) hb)

/-! ### Filling the room from the deferred list (R107) -/

/-- What an owner's state makes of a target depends on desks, slots, issues and the station number. -/
theorem messageFor_congr {s t : State} (hb : t.booth = s.booth) (hd : t.dock = s.dock) (hc : t.clock = s.clock)
    (x : Target) : messageFor t x = messageFor s x := by
  cases x <;> simp only [messageFor, State.slotOccupied, State.issueOf, State.self, State.cfg, hb, hd, hc]
  rfl

theorem messageFor_target {s : State} {x : Target} {b : Body} {o : Origin} (h : messageFor s x = some (b, o)) :
    b.target = x := by
  cases x with
  | route o => cases h; rfl
  | gate d =>
    simp only [messageFor, Option.map_eq_some_iff, Prod.mk.injEq] at h
    obtain ⟨r, -, rfl, -⟩ := h
    rfl
  | lamps d =>
    simp only [messageFor, Option.map_eq_some_iff, Prod.mk.injEq] at h
    obtain ⟨r, -, rfl, -⟩ := h
    rfl
  | identify k =>
    simp only [messageFor, Option.ite_none_right_eq_some, Option.some.injEq, Prod.mk.injEq] at h
    obtain ⟨-, rfl, -⟩ := h
    rfl
  | latch k =>
    simp only [messageFor] at h
    repeat' split at h
    all_goals first | contradiction | (cases h; rfl)
  | preset k =>
    simp only [messageFor] at h
    repeat' split at h
    all_goals first | contradiction | (cases h; rfl)
  | clearMark k =>
    simp only [messageFor] at h
    repeat' split at h
    all_goals first | contradiction | (cases h; rfl)

theorem wants_refill {b : Body} {o : Origin} (n : Nat) {s : State} (h : s.wants b) (hr : s.clock.station = .running)
    (hd : s.dropOnline b.drop = true) (hsrc : messageFor s b.target = some (b, o)) : (refill n s).wants b := by
  induction n generalizing s with
  | zero => exact h
  | succ n ih =>
    unfold refill
    split
    next =>
      split
      · exact h
      next t ht =>
        set u : State := { s with panel.deferred := s.panel.deferred.erase t } with hu
        have hmsg : messageFor u = messageFor s := rfl
        have hkept (ho : b.target ≠ t) : u.wants b := by
          rcases h with h | h
          · exact Or.inl h
          · exact Or.inr ((List.mem_erase_of_ne ho).mpr h)
        dsimp only
        split
        next b' o' hb' =>
          refine ih ?_ (by simpa using hr) ?_ ?_
          · by_cases hbt : b.target = t
            · subst hbt
              rw [hmsg, hsrc] at hb'
              cases hb'
              exact queueMessage_wants (s := u) hr hd _
            · refine wants_queueMessage (hkept hbt) _ fun h1 => ?_
              exact absurd (h1.symm.trans (messageFor_target hb')) hbt
          · simpa [State.dropOnline] using hd
          · rw [messageFor_congr (s := s) (by simp [hu]) (by simp [hu]) (by simp [hu]), hsrc]
        next hb' =>
          have hbt : b.target ≠ t := by
            rintro rfl
            rw [hmsg, hsrc] at hb'
            cases hb'
          exact ih (hkept hbt) hr hd hsrc
    · exact h

end Sys2Proof.Machine

/-! What filling the deferred list's room and discarding messages leave alone: all but the outbound queue and the deferred
list. -/

namespace Sys2Proof.Machine

/-- A step that writes the outbound queue and the deferred list alone. -/
theorem eq_of_sameBut_outbound {s t : State} (h : SameBut { outbound := true } s t) :
    t = { s with
      panel := { s.panel with outbound := t.panel.outbound, deferred := t.panel.deferred } } := by
  have h' : t.blank { outbound := true } = s.blank { outbound := true } := h
  obtain ⟨_, _, _, _, ⟨⟩, ⟨⟩, ⟨⟩, ⟨⟩, ⟨⟩, ⟨⟩, ⟨⟩, ⟨⟩, ⟨⟩, _⟩ := s
  obtain ⟨_, _, _, _, ⟨⟩, ⟨⟩, ⟨⟩, ⟨⟩, ⟨⟩, ⟨⟩, ⟨⟩, ⟨⟩, ⟨⟩, _⟩ := t
  simpa [State.blank] using h'

theorem discardMessages_eq (t : Target) (s : State) : discardMessages t s = { s with
    panel := { s.panel with outbound := (discardMessages t s).panel.outbound, deferred := (discardMessages t s).panel.deferred } } :=
  eq_of_sameBut_outbound (discardMessages_frame rfl t s)

@[simp] theorem discardMessages_clock (t : Target) (s : State) : (discardMessages t s).clock = s.clock := by
  rw [discardMessages_eq]

@[simp] theorem discardMessages_events (t : Target) (s : State) : (discardMessages t s).events = s.events := by
  rw [discardMessages_eq]

@[simp] theorem discardMessages_planner (t : Target) (s : State) : (discardMessages t s).planner = s.planner := by
  rw [discardMessages_eq]

@[simp] theorem discardMessages_booth (t : Target) (s : State) : (discardMessages t s).booth = s.booth := by
  rw [discardMessages_eq]

@[simp] theorem discardMessages_relay (t : Target) (s : State) : (discardMessages t s).relay = s.relay := by
  rw [discardMessages_eq]

@[simp] theorem discardMessages_feed (t : Target) (s : State) : (discardMessages t s).feed = s.feed := by
  rw [discardMessages_eq]

@[simp] theorem discardMessages_map (t : Target) (s : State) : (discardMessages t s).map = s.map := by
  rw [discardMessages_eq]

@[simp] theorem discardMessages_line (t : Target) (s : State) : (discardMessages t s).line = s.line := by
  rw [discardMessages_eq]

@[simp] theorem discardMessages_panel_drops (t : Target) (s : State) : (discardMessages t s).panel.drops = s.panel.drops := by
  rw [discardMessages_eq]

@[simp] theorem discardMessages_panel_routes (t : Target) (s : State) : (discardMessages t s).panel.routes = s.panel.routes := by
  rw [discardMessages_eq]

@[simp] theorem discardMessages_panel_exchange (t : Target) (s : State) : (discardMessages t s).panel.exchange = s.panel.exchange := by
  rw [discardMessages_eq]

@[simp] theorem discardMessages_panel_out (t : Target) (s : State) : (discardMessages t s).panel.out = s.panel.out := by
  rw [discardMessages_eq]

@[simp] theorem discardMessages_dock (t : Target) (s : State) : (discardMessages t s).dock = s.dock := by
  rw [discardMessages_eq]

@[simp] theorem discardMessages_ledger (t : Target) (s : State) : (discardMessages t s).ledger = s.ledger := by
  rw [discardMessages_eq]

@[simp] theorem discardMessages_account (t : Target) (s : State) : (discardMessages t s).account = s.account := by
  rw [discardMessages_eq]

theorem fillRoom_eq (s : State) : fillRoom s = { s with
    panel := { s.panel with outbound := (fillRoom s).panel.outbound, deferred := (fillRoom s).panel.deferred } } :=
  eq_of_sameBut_outbound (fillRoom_frame rfl s)

@[simp] theorem fillRoom_clock (s : State) : (fillRoom s).clock = s.clock := by
  rw [fillRoom_eq]

@[simp] theorem fillRoom_events (s : State) : (fillRoom s).events = s.events := by
  rw [fillRoom_eq]

@[simp] theorem fillRoom_planner (s : State) : (fillRoom s).planner = s.planner := by
  rw [fillRoom_eq]

@[simp] theorem fillRoom_booth (s : State) : (fillRoom s).booth = s.booth := by
  rw [fillRoom_eq]

@[simp] theorem fillRoom_relay (s : State) : (fillRoom s).relay = s.relay := by
  rw [fillRoom_eq]

@[simp] theorem fillRoom_feed (s : State) : (fillRoom s).feed = s.feed := by
  rw [fillRoom_eq]

@[simp] theorem fillRoom_map (s : State) : (fillRoom s).map = s.map := by
  rw [fillRoom_eq]

@[simp] theorem fillRoom_line (s : State) : (fillRoom s).line = s.line := by
  rw [fillRoom_eq]

@[simp] theorem fillRoom_panel_drops (s : State) : (fillRoom s).panel.drops = s.panel.drops := by
  rw [fillRoom_eq]

@[simp] theorem fillRoom_panel_routes (s : State) : (fillRoom s).panel.routes = s.panel.routes := by
  rw [fillRoom_eq]

@[simp] theorem fillRoom_panel_exchange (s : State) : (fillRoom s).panel.exchange = s.panel.exchange := by
  rw [fillRoom_eq]

@[simp] theorem fillRoom_panel_out (s : State) : (fillRoom s).panel.out = s.panel.out := by
  rw [fillRoom_eq]

@[simp] theorem fillRoom_dock (s : State) : (fillRoom s).dock = s.dock := by
  rw [fillRoom_eq]

@[simp] theorem fillRoom_ledger (s : State) : (fillRoom s).ledger = s.ledger := by
  rw [fillRoom_eq]

@[simp] theorem fillRoom_account (s : State) : (fillRoom s).account = s.account := by
  rw [fillRoom_eq]

theorem disownMessages_eq (n : Nat) (s : State) : disownMessages n s = { s with
    panel := { s.panel with outbound := (disownMessages n s).panel.outbound, deferred := (disownMessages n s).panel.deferred } } :=
  eq_of_sameBut_outbound (disownMessages_frame rfl n s)

@[simp] theorem disownMessages_clock (n : Nat) (s : State) : (disownMessages n s).clock = s.clock := by
  rw [disownMessages_eq]

@[simp] theorem disownMessages_events (n : Nat) (s : State) : (disownMessages n s).events = s.events := by
  rw [disownMessages_eq]

@[simp] theorem disownMessages_planner (n : Nat) (s : State) : (disownMessages n s).planner = s.planner := by
  rw [disownMessages_eq]

@[simp] theorem disownMessages_booth (n : Nat) (s : State) : (disownMessages n s).booth = s.booth := by
  rw [disownMessages_eq]

@[simp] theorem disownMessages_relay (n : Nat) (s : State) : (disownMessages n s).relay = s.relay := by
  rw [disownMessages_eq]

@[simp] theorem disownMessages_feed (n : Nat) (s : State) : (disownMessages n s).feed = s.feed := by
  rw [disownMessages_eq]

@[simp] theorem disownMessages_map (n : Nat) (s : State) : (disownMessages n s).map = s.map := by
  rw [disownMessages_eq]

@[simp] theorem disownMessages_line (n : Nat) (s : State) : (disownMessages n s).line = s.line := by
  rw [disownMessages_eq]

@[simp] theorem disownMessages_panel_drops (n : Nat) (s : State) : (disownMessages n s).panel.drops = s.panel.drops := by
  rw [disownMessages_eq]

@[simp] theorem disownMessages_panel_routes (n : Nat) (s : State) : (disownMessages n s).panel.routes = s.panel.routes := by
  rw [disownMessages_eq]

@[simp] theorem disownMessages_panel_exchange (n : Nat) (s : State) : (disownMessages n s).panel.exchange = s.panel.exchange := by
  rw [disownMessages_eq]

@[simp] theorem disownMessages_panel_out (n : Nat) (s : State) : (disownMessages n s).panel.out = s.panel.out := by
  rw [disownMessages_eq]

@[simp] theorem disownMessages_dock (n : Nat) (s : State) : (disownMessages n s).dock = s.dock := by
  rw [disownMessages_eq]

@[simp] theorem disownMessages_ledger (n : Nat) (s : State) : (disownMessages n s).ledger = s.ledger := by
  rw [disownMessages_eq]

@[simp] theorem disownMessages_account (n : Nat) (s : State) : (disownMessages n s).account = s.account := by
  rw [disownMessages_eq]

@[simp] theorem joinReady_issues (k : Nat) (startUp : Bool) (s : State) :
    (joinReady k startUp s).dock.issues = s.dock.issues := rfl

end Sys2Proof.Machine

/-! ISSUE and CANCEL ISSUE (R117, R118, R120). -/

namespace Sys2Proof.Machine

/-! ### Slots -/

theorem slot_modSlot_self (k : Nat) (f : Slot → Slot) (s : State) : (modSlot k f s).slot k = (s.slot k).map f := by
  simp [State.slot, tab_get_modify_self]

theorem slot_modSlot_ne {k j : Nat} (h : j ≠ k) (f : Slot → Slot) (s : State) : (modSlot k f s).slot j = s.slot j := by
  simp [State.slot, tab_get_modify_ne _ _ _ _ h]

theorem slot_congr {s t : State} (h : t.dock.slots = s.dock.slots) (k : Nat) : t.slot k = s.slot k := by
  simp only [State.slot, h]

theorem slot_done (u : State) (port : PortBlock) (k : Nat) :
    ({ settle u with port := port } : State).slot k = u.slot k := by simp [State.slot]

/-! ### ISSUE -/

/-- The clearing of a slot's CLEAR MARK as an issue takes it. -/
theorem dropClearMark_dock (k : Nat) (s : State) :
    (dropClearMark k s).dock = (modSlot k (fun sl => { sl with clearMark := false }) s).dock := by
  simp [dropClearMark, modSlot]

/-- The tag an issue gives its receiver. -/
def State.issueTag (s : State) (asked : Option Tag) : Tag :=
  match asked with
  | some l => if s.carried l then l else s.planner.floorTag
  | none => s.planner.floorTag

/-- The issue context as ISSUE makes it. -/
def State.newIssue (s : State) (k account tariff deposit : Nat) (asked : Option Tag) : Issue :=
  { slot := k, serial := ((s.slot k).bind Slot.serial).getD 0, account, tariff, deposit, tag := s.issueTag asked
    phase := .presetting, removal := none }

/-- The state as the slot at the head of the ready queue goes ISSUING. -/
def issueSlot (n k account tariff : Nat) (asked : Option Tag) (deposit : Nat) (s : State) : State :=
  { modSlot k (fun sl => { sl with state := .issuing }) { s with dock.ready := s.dock.ready.tail } with
    dock.issues := Tab.set s.dock.issues n (s.newIssue k account tariff deposit asked) }

/-- Whether a floor tag stands in for the asked one. -/
def tellDegraded (n : Nat) (asked : Option Tag) (s : State) : State :=
  match asked with
  | some l => if s.carried l then s else queueEvent .presetDegraded [n, l.code, s.planner.floorTag.code] s
  | none => s

/-- A slot's owed CLEAR MARK dropped. -/
def markDropped (k : Nat) (s : State) : State := if (s.slot k).any Slot.clearMark then dropClearMark k s else s

/-- An issue up to its PRESET. -/
def issueBegun (n k account tariff : Nat) (asked : Option Tag) (deposit : Nat) (s : State) : State :=
  markDropped k (tellDegraded n asked (issueSlot n k account tariff asked deposit s))

/-- An issue, in its order: the slot and its context, the report, the CLEAR MARK dropped, the PRESET queued. -/
theorem beginIssue_eq (n k account tariff : Nat) (asked : Option Tag) (deposit : Nat) (s : State) :
    beginIssue n k account tariff asked deposit s =
      queueMessage (.preset k (s.issueTag asked) (issueBegun n k account tariff asked deposit s).self) (.issue n)
        (issueBegun n k account tariff asked deposit s) := by
  cases asked <;> rfl

@[simp] theorem tellDegraded_dock (n : Nat) (asked : Option Tag) (s : State) : (tellDegraded n asked s).dock = s.dock := by
  unfold tellDegraded
  repeat' split
  all_goals simp

theorem markDropped_slot_self {k : Nat} {s : State} {sl : Slot} (h : s.slot k = some sl) :
    (markDropped k s).slot k = some { sl with clearMark := false } := by
  unfold markDropped
  split
  · rw [slot_congr (congrArg DockBlock.slots (dropClearMark_dock k s)), slot_modSlot_self, h]
    rfl
  next hnot =>
    have hclear : sl.clearMark = false := by simpa [h] using hnot
    rw [h, ← hclear]

theorem markDropped_slot_ne {k j : Nat} (h : j ≠ k) (s : State) : (markDropped k s).slot j = s.slot j := by
  unfold markDropped
  split
  · rw [slot_congr (congrArg DockBlock.slots (dropClearMark_dock k s)), slot_modSlot_ne h]
  · rfl

@[simp] theorem markDropped_ready (k : Nat) (s : State) : (markDropped k s).dock.ready = s.dock.ready := by
  unfold markDropped
  split
  · rw [dropClearMark_dock]; rfl
  · rfl

@[simp] theorem markDropped_issues (k : Nat) (s : State) : (markDropped k s).dock.issues = s.dock.issues := by
  unfold markDropped
  split
  · rw [dropClearMark_dock]; rfl
  · rfl

theorem markDropped_frame {w : Parts} (h1 : w.outbound = true) (h2 : w.slots = true) (k : Nat) (s : State) :
    (markDropped k s).blank w = s.blank w := by
  unfold markDropped
  split
  · exact dropClearMark_frame h1 h2 k s
  · rfl

theorem tellDegraded_frame {w : Parts} (h1 : w.events = true) (n : Nat) (asked : Option Tag) (s : State) :
    (tellDegraded n asked s).blank w = s.blank w := by
  unfold tellDegraded
  repeat' split
  · rfl
  · exact queueEvent_frame h1 _ _ _
  · rfl

section Begin

variable (n k account tariff : Nat) (asked : Option Tag) (deposit : Nat) (s : State)

theorem beginIssue_ready : (beginIssue n k account tariff asked deposit s).dock.ready = s.dock.ready.tail := by
  simp [beginIssue_eq, issueBegun, issueSlot]

theorem beginIssue_issues : (beginIssue n k account tariff asked deposit s).dock.issues =
    Tab.set s.dock.issues n (s.newIssue k account tariff deposit asked) := by
  simp [beginIssue_eq, issueBegun, issueSlot]

theorem issueSlot_slot_self : (issueSlot n k account tariff asked deposit s).slot k =
    (s.slot k).map fun sl => { sl with state := .issuing } := by
  simp [issueSlot, State.slot, tab_get_modify_self]

theorem issueSlot_slot_ne {j : Nat} (h : j ≠ k) : (issueSlot n k account tariff asked deposit s).slot j = s.slot j := by
  simp [issueSlot, State.slot, tab_get_modify_ne _ _ _ _ h]

theorem tellDegraded_slot (s : State) (j : Nat) : (tellDegraded n asked s).slot j = s.slot j := by
  simp only [State.slot, tellDegraded_dock]

theorem beginIssue_slot_self {sl : Slot} (h : s.slot k = some sl) :
    (beginIssue n k account tariff asked deposit s).slot k = some { sl with state := .issuing, clearMark := false } := by
  have hu : (tellDegraded n asked (issueSlot n k account tariff asked deposit s)).slot k
      = some { sl with state := .issuing } := by
    rw [tellDegraded_slot, issueSlot_slot_self, h]
    rfl
  rw [beginIssue_eq, slot_congr (congrArg DockBlock.slots (queueMessage_dock _ _ _)), issueBegun,
    markDropped_slot_self hu]

theorem beginIssue_slot_ne {j : Nat} (h : j ≠ k) :
    (beginIssue n k account tariff asked deposit s).slot j = s.slot j := by
  rw [beginIssue_eq, slot_congr (congrArg DockBlock.slots (queueMessage_dock _ _ _)), issueBegun,
    markDropped_slot_ne h, tellDegraded_slot, issueSlot_slot_ne _ _ _ _ _ _ _ h]

/-- What an issue writes before its PRESET is queued. -/
def Parts.begun : Parts := { events := true, outbound := true, slots := true, ready := true, issues := true }

theorem issueSlot_frame : SameBut Parts.begun s (issueSlot n k account tariff asked deposit s) := rfl

theorem issueBegun_frame : SameBut Parts.begun s (issueBegun n k account tariff asked deposit s) :=
  (markDropped_frame rfl rfl _ _).trans ((tellDegraded_frame rfl _ _ _).trans
    (issueSlot_frame n k account tariff asked deposit s))

/-- The PRESET is wanted. -/
theorem beginIssue_wants (hr : s.clock.station = .running) (hd : s.dropOnline (slotAddress k) = true) :
    (beginIssue n k account tariff asked deposit s).wants (.preset k (s.issueTag asked) s.self) := by
  have hframe := issueBegun_frame n k account tariff asked deposit s
  have hclock := same_clock (w := Parts.begun) hframe
  have hself : (issueBegun n k account tariff asked deposit s).self = s.self := by
    simp only [State.self, State.cfg, hclock]
  rw [beginIssue_eq, hself]
  refine queueMessage_wants (by rw [hclock]; exact hr) ?_ _
  simp only [State.dropOnline] at hd ⊢
  rw [same_panel_drops (w := Parts.begun) hframe rfl]
  exact hd

/-- A floor tag in place of the asked one is told. -/
theorem beginIssue_tells {l : Tag} (h : s.carried l = false) :
    s.tells (beginIssue n k account tariff (some l) deposit s) .presetDegraded [n, l.code, s.planner.floorTag.code] := by
  have htold : (issueSlot n k account tariff (some l) deposit s).tells
      (tellDegraded n (some l) (issueSlot n k account tariff (some l) deposit s)) .presetDegraded
      [n, l.code, s.planner.floorTag.code] := by
    have hcarried : (issueSlot n k account tariff (some l) deposit s).carried l = false := h
    simp only [tellDegraded, hcarried, Bool.false_eq_true, if_false]
    exact queueEvent_tells _ _ _
  have hmark (u : State) : Grows .steady u (markDropped k u) := by
    unfold markDropped
    split
    · exact dropClearMark_grows _ _
    · exact Grows.refl _
  rw [beginIssue_eq]
  exact Grows.told (κ := .steady) (Grows.of_same rfl rfl rfl rfl) htold
    ((hmark _).trans (queueMessage_grows _ _ _))

end Begin

/-- The tag a block asks for, none for an empty one. -/
def askedTag (l : Tag) : Option Tag := if l = ⟨0, 0, 0⟩ then none else some l

/-- ISSUE past its tests. -/
theorem actIssue_passed {p : List Nat} {s : State} (ha : field p 0 1 ≤ 31) (ht : field p 1 1 ≤ 7)
    (hl : tagAt p 2 = ⟨0, 0, 0⟩ ∨ (tagAt p 2).ok = true) (hd : field p 5 3 ≤ 999999) :
    actIssue p s =
      match s.dock.ready with
      | [] => .refuse .empty
      | e :: _ =>
        match Tab.firstFree s.dock.issues 1 4 with
        | none => .refuse .busy
        | some n =>
          require (s.ledger.hires.length + s.dock.issues.length < Config.hireCapacity) .full
            (.accept (b1 n ++ b1 e.slot ++ be 3 (((s.slot e.slot).bind Slot.serial).getD 0))
              (beginIssue n e.slot (field p 0 1) (field p 1 1) (askedTag (tagAt p 2)) (field p 5 3) s)) := by
  have hask : (askedTag (tagAt p 2)).all Tag.ok = true := by
    unfold askedTag
    split
    · rfl
    next h => simpa using hl.resolve_left h
  have htest : (decide (field p 0 1 ≤ 31) && decide (field p 1 1 ≤ 7) && (askedTag (tagAt p 2)).all Tag.ok
      && decide (field p 5 3 ≤ Config.depositMax)) = true := by
    simp [ha, ht, hask, hd, Config.depositMax]
  exact require_of htest _ _

/-- Settles O32. -/
theorem issueTakesReadyHead : Obligations.IssueTakesReadyHead := by
  intro s params r rest n sl serial hp hst hl account tariff asked deposit tag ha ht hask hd
  have hst' : inR s.clock.station = true := by simp [inR, hst]
  have hact := actIssue_passed (p := numbers params) (s := s.sent) ha ht hask hd
  refine ⟨fun hempty => ?_, fun hready hn hslot hserial hroom => ?_⟩
  · rw [show s.sent.dock.ready = [] from hempty] at hact
    exact congrArg Host.Outcome.next (command_refuses hp hl hst' hact)
  have hhead : ((s.sent.slot r.slot).bind Slot.serial).getD 0 = serial := by
    rw [show s.sent.slot r.slot = some sl from hslot, Option.bind_some, hserial]
    rfl
  have htag : s.sent.issueTag (askedTag asked) = tag := by
    simp only [State.issueTag, askedTag, tag]
    by_cases h0 : asked = ⟨0, 0, 0⟩
    · simp [h0]
      rfl
    · simp only [h0, if_false, ne_eq, not_false_eq_true, and_true]
      rfl
  rw [show s.sent.dock.ready = r :: rest from hready] at hact
  simp only [show Tab.firstFree s.sent.dock.issues 1 4 = some n from hn, hhead,
    require_of (show decide (s.sent.ledger.hires.length + s.sent.dock.issues.length < Config.hireCapacity) = true from
      decide_eq_true hroom)] at hact
  change actIssue (numbers params) s.sent = .accept (b1 n ++ b1 r.slot ++ be 3 serial)
    (beginIssue n r.slot account tariff (askedTag asked) deposit s.sent) at hact
  clear_value account tariff asked deposit tag
  have hframe : SameBut { Parts.settled with slots := true, ready := true, issues := true } s.sent
      (beginIssue n r.slot account tariff (askedTag asked) deposit s.sent) := by
    apply beginIssue_frame <;> rfl
  refine ⟨_, congrArg Host.Outcome.next (command_accepts hp hl hst' hact (same_port hframe)), ?_, ?_, fun j hj => ?_, ?_,
    fun j hj => ?_, orders_done (fun hon => ?_) rfl, fun h0 hcarried => ?_, rfl, done_frame hframe rfl rfl rfl rfl rfl rfl rfl⟩
  · simp only [settle_dock]
    rw [beginIssue_ready, show s.sent.dock.ready = r :: rest from hready]
    rfl
  · simp only [settle_dock]
    rw [beginIssue_issues, tab_get_set_self, State.newIssue, hhead, htag]
  · simp only [settle_dock]
    rw [beginIssue_issues, tab_get_set_ne _ _ _ _ hj]
    rfl
  · exact (slot_done _ _ _).trans (beginIssue_slot_self _ _ _ _ _ _ _ hslot)
  · exact (slot_done _ _ _).trans (beginIssue_slot_ne _ _ _ _ _ _ _ hj)
  · have hwants := beginIssue_wants n r.slot account tariff (askedTag asked) deposit s.sent hst hon
    rw [htag] at hwants
    exact hwants
  · have hask : askedTag asked = some asked := if_neg h0
    rw [hask]
    exact tells_done (beginIssue_tells n r.slot account tariff deposit s.sent hcarried)

end Sys2Proof.Machine

/-! CANCEL ISSUE and the removal timer (R120). -/

namespace Sys2Proof.Machine

section Cancel

variable {n : Nat} {cause : CancelCause} {s : State} {i : Issue} (hi : Tab.get s.dock.issues n = some i)
include hi

/-- A cancelled issue's slot: the latch to be closed, the mark to be cleared, READY. -/
theorem cancelIssue_slots : (cancelIssue n cause s).dock.slots =
    Tab.modify (Tab.modify (Tab.modify s.dock.slots i.slot fun sl => { sl with latchOpen := false }) i.slot
      fun sl => { sl with clearMark := true }) i.slot fun sl => { sl with state := .ready } := by
  simp [cancelIssue, hi, oweClearMark]

theorem cancelIssue_issues : (cancelIssue n cause s).dock.issues = Tab.erase s.dock.issues n := by
  simp [cancelIssue, hi, oweClearMark]

theorem cancelIssue_ready : (cancelIssue n cause s).dock.ready = ⟨i.slot, false⟩ :: s.dock.ready := by
  simp [cancelIssue, hi, oweClearMark]

theorem cancelIssue_slot_self {sl : Slot} (hsl : s.slot i.slot = some sl) : (cancelIssue n cause s).slot i.slot =
    some { sl with state := .ready, latchOpen := false, clearMark := true } := by
  have hsl' : Tab.get s.dock.slots i.slot = some sl := hsl
  simp [State.slot, cancelIssue_slots hi, tab_get_modify_self, hsl']

theorem cancelIssue_slot_ne {j : Nat} (hj : j ≠ i.slot) : (cancelIssue n cause s).slot j = s.slot j := by
  simp [State.slot, cancelIssue_slots hi, tab_get_modify_ne _ _ _ _ hj]

theorem cancelIssue_tells : s.tells (cancelIssue n cause s) .issueCancelled [n, i.slot, i.serial, cause.code] := by
  simp only [cancelIssue, hi]
  refine Grows.tells_from (κ := .steady) (Grows.of_same ?_ ?_ ?_ ?_) (queueEvent_tells _ _ _) <;> simp [oweClearMark]

/-- A cancelled issue leaves what the statement says: no context, the slot READY at the head of the ready queue, its
latch to be closed and its mark to be cleared. -/
theorem cancelIssue_ended {sl : Slot} (hsl : s.slot i.slot = some sl) :
    Tab.get (cancelIssue n cause s).dock.issues n = none
      ∧ (∀ j, j ≠ n → Tab.get (cancelIssue n cause s).dock.issues j = Tab.get s.dock.issues j)
      ∧ (cancelIssue n cause s).slot i.slot = some { sl with state := .ready, latchOpen := false, clearMark := true }
      ∧ (∀ j, j ≠ i.slot → (cancelIssue n cause s).slot j = s.slot j)
      ∧ (cancelIssue n cause s).dock.ready = ⟨i.slot, false⟩ :: s.dock.ready
      ∧ s.tells (cancelIssue n cause s) .issueCancelled [n, i.slot, i.serial, cause.code] := by
  refine ⟨?_, fun j hj => ?_, cancelIssue_slot_self hi hsl, fun j hj => cancelIssue_slot_ne hi hj,
    cancelIssue_ready hi, cancelIssue_tells hi⟩
  · rw [cancelIssue_issues hi, tab_get_erase_self]
  · rw [cancelIssue_issues hi, tab_get_erase_ne _ _ _ hj]

end Cancel

theorem actCancelIssue_passed {p : List Nat} {s : State} {i : Issue} (h1 : 1 ≤ field p 0 1) (h4 : field p 0 1 ≤ 4)
    (hi : Tab.get s.dock.issues (field p 0 1) = some i) :
    actCancelIssue p s = .accept [] (cancelIssue (field p 0 1) .host s) := by
  simp only [actCancelIssue, require_of (within_iff.mpr ⟨h1, h4⟩), Tab.has, hi, Option.isSome_some, require_of]

/-- Settles O33. -/
theorem cancelledIssueReturnsItsSlot : Obligations.CancelledIssueReturnsItsSlot := by
  intro s n i sl hst hreset hi hsl ended
  have hrun : s.running = true := by simp [State.running, hst, hreset]
  have hframe (cause : CancelCause) (u : State) :
      SameBut { Parts.settled with slots := true, ready := true, issues := true } u (cancelIssue n cause u) := by
    apply cancelIssue_frame <;> rfl
  have hended (cause : CancelCause) (u t : State) (hu : u.dock = s.dock)
      (ht : t.dock = (cancelIssue n cause u).dock)
      (htells : s.tells t .issueCancelled [n, i.slot, i.serial, cause.code]) : ended t cause := by
    have hslots (k : Nat) : u.slot k = s.slot k := by simp only [State.slot, hu]
    have hslot (k : Nat) : t.slot k = (cancelIssue n cause u).slot k := by simp only [State.slot, ht]
    obtain ⟨h1, h2, h3, h4, h5, -⟩ := cancelIssue_ended (n := n) (cause := cause) (s := u) (i := i) (by rw [hu]; exact hi)
      ((hslots _).trans hsl)
    refine ⟨by rw [ht]; exact h1, fun j hj => ?_, (hslot _).trans h3, fun j hj => ?_, ?_, htells⟩
    · rw [ht, h2 j hj, hu]
    · rw [hslot, h4 j hj, hslots]
    · rw [ht, h5, hu]
  refine ⟨fun hrem => ⟨_, congrArg Host.Outcome.next (event_of_running _ hrun), ?_⟩, fun hrem =>
    ⟨_, congrArg Host.Outcome.next (event_of_running _ hrun), ?_⟩, fun b hb h1 h4 ha => ?_⟩
  · simp only [hi, Option.any_some, hrem, if_true]
    exact ⟨hended _ s _ rfl (settle_dock _) ((settle_steady _).tells (cancelIssue_tells hi)),
      SameBut.settled (hframe _ s) rfl rfl rfl rfl rfl rfl rfl⟩
  · simp only [hi, Option.any_some, hrem, Option.isSome_none, Bool.false_eq_true, if_false]
    exact settle_sameBut s
  · subst hb
    have hp : s.portFree := ⟨by simp [State.portDriven, hst, hreset], ha⟩
    have hact : actCancelIssue (numbers [b]) s.sent = .accept [] (cancelIssue b.toNat .host s.sent) := by
      have := actCancelIssue_passed (p := numbers [b]) (s := s.sent) (i := i) (by simpa using h1) (by simpa using h4)
        ((congrArg (Tab.get s.dock.issues) (field_byte b)).trans hi)
      rwa [field_byte] at this
    exact ⟨_, congrArg Host.Outcome.next (command_accepts hp rfl (by simp [inR, hst]) hact (same_port (hframe _ s.sent))),
      hended _ s.sent _ rfl (settle_dock _) (tells_done (cancelIssue_tells (s := s.sent) hi)), rfl,
      done_frame (hframe _ s.sent) rfl rfl rfl rfl rfl rfl rfl⟩

end Sys2Proof.Machine

/-! Walls (R15, R17, R171). -/

namespace Sys2Proof.Machine

/-! ### The merged zone -/

/-- The zone depends on the configuration, the wall positions and the peers' edges. -/
theorem zoneNow_congr {s t : State} (hc : t.clock = s.clock) (hw : t.planner.walls = s.planner.walls)
    (hp : t.line.peers = s.line.peers) : t.zoneNow = s.zoneNow := by
  simp only [State.zoneNow, State.links, State.ownEdges, State.self, State.cfg, hc, hw, hp]

theorem ownEdges_congr {s t : State} (hc : t.clock = s.clock) (hw : t.planner.walls = s.planner.walls) :
    t.ownEdges = s.ownEdges := by
  simp only [State.ownEdges, State.cfg, hc, hw]

/-- What a zone recomputed writes. -/
def Parts.rezoned : Parts := { events := true, channels := true, zone := true, mapBack := true, lineQueue := true }

theorem recomputeZone_rezoned (s : State) : SameBut Parts.rezoned s (recomputeZone s) :=
  recomputeZone_frame rfl rfl rfl rfl rfl s

theorem searchWaiting_zone (fresh : List Nat) (s : State) :
    (searchWaiting fresh s).planner.zone = s.planner.zone :=
  same_planner_zone (w := { events := true, channels := true, lineQueue := true })
    (searchWaiting_frame rfl rfl rfl fresh s) rfl

/-- Recomputing the zone leaves it at the stations reachable now (R17). -/
theorem recomputeZone_zone (s : State) : (recomputeZone s).planner.zone = s.zoneNow := by
  have hloop (new joined : List Nat) : (forEach (List.range 32) (fun sc t =>
      match t.lowestClaimant joined sc with
      | some q => testClaim q sc t
      | none => t) { s with planner.zone := new }).planner.zone = new := by
    refine same_planner_zone (s := { s with planner.zone := new })
      (w := { events := true, channels := true, mapBack := true, lineQueue := true }) ?_ rfl
    refine forEach_frame _ _ (fun sc t => ?_) _
    split
    · exact testClaim_frame rfl rfl rfl rfl _ _ _
    · rfl
  unfold recomputeZone
  dsimp only
  split
  next h => exact h.symm
  · split
    · rw [searchWaiting_zone]
      exact hloop _ _
    · exact hloop _ _

theorem recomputeZone_zoneNow (s : State) : (recomputeZone s).zoneNow = s.zoneNow := by
  have h := recomputeZone_rezoned s
  exact zoneNow_congr (same_clock (w := Parts.rezoned) h) (same_planner_walls (w := Parts.rezoned) h rfl)
    (same_line_peers (w := Parts.rezoned) h rfl)

/-! ### A wall's pin and its debounce -/

/-- A wall input as its pin changes level (R15). -/
def State.wallMoved (s : State) (w : Nat) (isOpen : Bool) (x : Wall) : Wall :=
  { x with
    level := isOpen
    debounce :=
      if !(s.running && Tab.has s.cfg.walls w) || isOpen = x.position then none
      else if isOpen = x.level then x.debounce
      else some Config.debounceMs }

theorem moveWall_walls (w : Nat) (isOpen : Bool) (s : State) :
    (moveWall w isOpen s).planner.walls = Tab.modify s.planner.walls w (s.wallMoved w isOpen) := rfl

/-- The position follows the level. -/
def wallSettled (w : Nat) (s : State) : State :=
  { s with planner.walls := Tab.modify s.planner.walls w fun x => { x with position := x.level, debounce := none } }

/-- The event of a wall, a PRESENCE and the zone, from the state whose wall has settled. -/
def announceWall (fields : List Nat) (v : State) : State :=
  recomputeZone (queuePresence (queueEvent .wallChanged fields v))

theorem settleWall_of_waiting {w neighbour : Nat} {s : State} {x : Wall} (hx : Tab.get s.planner.walls w = some x)
    (hn : Tab.get s.cfg.walls w = some neighbour) (hd : x.debounce.isSome = true) : settleWall w s =
      announceWall [w, neighbour, positionCode x.level] (wallSettled w s) := by
  simp only [settleWall, hx, hn, Option.isNone_eq_false_iff.mpr hd, Bool.false_eq_true, if_false]
  rfl

theorem settleWall_of_still {w : Nat} {s : State} {x : Wall} (hx : Tab.get s.planner.walls w = some x)
    (h : x.debounce = none ∨ Tab.get s.cfg.walls w = none) : settleWall w s = s := by
  rcases h with h | h
  · cases hn : Tab.get s.cfg.walls w <;> simp [settleWall, hx, hn, h]
  · simp [settleWall, hx, h]

theorem queuePresence_walls (s : State) : (queuePresence s).planner.walls = s.planner.walls := by
  simp [queuePresence]

/-- A PRESENCE carries the own edges. -/
theorem queuePresence_sends (s : State) : s.sends (queuePresence s) 0 (.presence s.ownEdges) :=
  enqueueFrame_sends 0 (.presence s.ownEdges) s

/-- What an operation sends in the midst of a step, the step sends, when what follows it keeps its frame. -/
theorem Grows.sent_by {κ κ' κ'' : Keep} {s u v t : State} (h : Grows κ s u) (huv : Grows κ' u v)
    (h' : Grows κ'' v t) {dest : Nat} {p : Payload} (hs : u.sends v dest p) (hk : κ''.has p.key = true) :
    s.sends t dest p := by
  refine h.sends_from fun hd => ?_
  rcases hs hd with hmem | ⟨x, htold⟩
  · rcases h'.frames _ hmem rfl hk with hmem' | ⟨x, htold⟩
    · exact Or.inl hmem'
    · exact Or.inr ⟨x, huv.tells_from htold⟩
  · exact Or.inr ⟨x, h'.tells htold⟩

theorem wallSettled_grows {κ : Keep} (w : Nat) (s : State) : Grows κ s (wallSettled w s) :=
  Grows.of_same rfl rfl rfl rfl

/-- What follows the event of a moved wall. -/
theorem announceWall_grows {κ : Keep} (hp : κ.presence = false) (hc : κ.claims = false) (hn : κ.notices = false)
    (u : State) : Grows κ u (settle (recomputeZone (queuePresence u))) :=
  (queuePresence_grows hp u).trans ((recomputeZone_grows hc _).trans (settle_grows hn _))

/-- A wall whose debounce ends: its event, a PRESENCE and the zone (R15, R17). -/
theorem announceWall_shows (fields : List Nat) {s v : State} (hgv : Grows {} s v) :
    (settle (announceWall fields v)).planner.walls = v.planner.walls
      ∧ s.tells (settle (announceWall fields v)) .wallChanged fields
      ∧ s.sends (settle (announceWall fields v)) 0 (.presence (settle (announceWall fields v)).ownEdges)
      ∧ (settle (announceWall fields v)).planner.zone = (settle (announceWall fields v)).zoneNow := by
  unfold announceWall
  have htold : v.tells (queueEvent .wallChanged fields v) .wallChanged fields := queueEvent_tells _ _ _
  have hgu : Grows {} s (queueEvent .wallChanged fields v) := hgv.trans (queueEvent_grows _ _ _)
  have huv : (queueEvent .wallChanged fields v).planner.walls = v.planner.walls :=
    congrArg PlannerBlock.walls (queueEvent_planner _ _ _)
  generalize queueEvent .wallChanged fields v = u at htold hgu huv
  have hrezoned := recomputeZone_rezoned (queuePresence u)
  have hwalls : (settle (recomputeZone (queuePresence u))).planner.walls = u.planner.walls := by
    rw [settle_planner_walls, same_planner_walls (w := Parts.rezoned) hrezoned rfl, queuePresence_walls]
  have hclock : (settle (recomputeZone (queuePresence u))).clock = u.clock := by
    rw [settle_clock, same_clock (w := Parts.rezoned) hrezoned]
    simp [queuePresence]
  refine ⟨hwalls.trans huv, ?_, ?_, ?_⟩
  · exact hgv.told htold (announceWall_grows (κ := { claims := false, notices := false, presence := false }) rfl rfl rfl u)
  · rw [ownEdges_congr hclock hwalls]
    exact hgu.sent_by (κ' := { presence := false }) (κ'' := { claims := false, notices := false })
      (queuePresence_grows rfl _) ((recomputeZone_grows rfl _).trans (settle_grows rfl _)) (queuePresence_sends u) rfl
  · rw [settle_planner_zone, zoneNow_congr (settle_clock _) (settle_planner_walls _) (settle_line_peers _),
      recomputeZone_zone, recomputeZone_zoneNow]

/-- Settles O52: the pin's level moves one record, and the end of the debounce runs `announceWall`. -/
theorem walls : Obligations.Walls := by
  intro s w x hx
  refine ⟨fun isOpen => ⟨_, s.wallMoved w isOpen x, rfl, ?_, rfl, rfl, fun h => ?_, fun hpos hrun hbound => ?_,
    fun j hj => ?_, rfl, moveWall_frame rfl w isOpen s⟩, fun hrun => ⟨_, congrArg Host.Outcome.next
      (event_of_running _ hrun), fun neighbour hn hd => ?_, fun h => ?_, ?_⟩⟩
  · rw [moveWall_walls, tab_get_modify_self, hx]
    rfl
  · refine if_pos ?_
    rcases h with h | h | h <;> simp [h]
  · simp [State.wallMoved, hpos, hrun, hbound, Config.debounceMs]
  · rw [moveWall_walls, tab_get_modify_ne _ _ _ _ hj]
  · obtain ⟨hwalls, htold, hsent, hzone⟩ := announceWall_shows [w, neighbour, positionCode x.level] (wallSettled_grows w s)
    rw [settleWall_of_waiting hx hn hd]
    refine ⟨?_, htold, hsent, hzone⟩
    rw [hwalls, wallSettled, tab_get_modify_self, hx]
    rfl
  · rw [settleWall_of_still hx h]
    exact settle_sameBut s
  · exact SameBut.settled (settleWall_frame rfl rfl rfl rfl rfl rfl rfl w s) rfl rfl rfl rfl rfl rfl rfl

end Sys2Proof.Machine

/-! Second and minute ticks, and the tests they make (R113, R114, R135, R150, R185). -/

namespace Sys2Proof.Machine

/-! ### Tables -/

theorem tab_get_map_key {α β : Type} (t : Table α) (f : Nat → α → β) (k : Nat) :
    Tab.get (t.map fun e => (e.1, f e.1 e.2)) k = (Tab.get t k).map (f k) := by
  induction t with
  | nil => rfl
  | cons e rest ih =>
    obtain ⟨j, w⟩ := e
    by_cases h : j = k
    · subst h
      simp [Tab.get]
    · simp [Tab.get, h, ih]

theorem mem_of_tab_get {α : Type} {t : Table α} {k : Nat} {v : α} (h : Tab.get t k = some v) : (k, v) ∈ t := by
  induction t with
  | nil => simp [Tab.get] at h
  | cons e rest ih =>
    obtain ⟨j, w⟩ := e
    simp only [Tab.get] at h
    split at h
    next hj => simp_all
    next => exact List.mem_cons_of_mem _ (ih h)

/-! ### The charge tests of a slot (R114) -/

/-- A slot whose charge start is not later than the present minute. -/
def State.chargeCorrected (s : State) (sl : Slot) : Slot :=
  if sl.state = .charging then { sl with chargeStart := some (s.chargeStart sl) } else sl

/-- A slot after its DEAD CELL test. -/
def State.deadCellTested (s : State) (sl : Slot) : Slot :=
  if sl.state = .charging ∧ 30 ≤ s.clock.minute - s.chargeStart sl then
    if sl.low = true ∧ sl.battery.any (· < 10) = true then
      { sl with low := false, state := .fault, cause := some .deadCell, chargeStart := none }
    else { sl with low := false }
  else sl

/-- A slot after its CHARGE TIMEOUT test. -/
def State.timeoutTested (s : State) (sl : Slot) : Slot :=
  if sl.state = .charging ∧ 240 ≤ s.clock.minute - s.chargeStart sl then
    { sl with state := .fault, cause := some .chargeTimeout, chargeStart := none }
  else sl

theorem faultSlot_slot_self (k : Nat) (cause : SlotCause) (s : State) : (faultSlot k cause s).slot k =
    (s.slot k).map fun sl => { sl with state := .fault, cause := some cause, chargeStart := none } := by
  rw [faultSlot, slot_congr (congrArg DockBlock.slots (queueEvent_dock _ _ _)), slot_modSlot_self]

theorem faultSlot_slot_ne {k j : Nat} (h : j ≠ k) (cause : SlotCause) (s : State) :
    (faultSlot k cause s).slot j = s.slot j := by
  rw [faultSlot, slot_congr (congrArg DockBlock.slots (queueEvent_dock _ _ _)), slot_modSlot_ne h]

theorem faultSlot_tells {k : Nat} {s : State} {sl : Slot} (h : s.slot k = some sl) (cause : SlotCause) :
    s.tells (faultSlot k cause s) .slotFault [k, cause.code, sl.serial.getD 0] := by
  have hserial : ((s.slot k).bind Slot.serial).getD 0 = sl.serial.getD 0 := by rw [h]; rfl
  rw [faultSlot, hserial]
  exact (modSlot_grows (κ := {}) k _ s).tells_from (queueEvent_tells _ _ _)

theorem correctCharge_slot_self (k : Nat) (s : State) : (correctCharge k s).slot k = (s.slot k).map s.chargeCorrected :=
  slot_modSlot_self k _ s

theorem correctCharge_slot_ne {k j : Nat} (h : j ≠ k) (s : State) : (correctCharge k s).slot j = s.slot j :=
  slot_modSlot_ne h _ s

theorem testDeadCell_slot_self (k : Nat) (s : State) : (testDeadCell k s).slot k = (s.slot k).map s.deadCellTested := by
  cases h : s.slot k with
  | none => simp [testDeadCell, h]
  | some sl =>
    simp only [testDeadCell, h, State.deadCellTested, Option.map_some]
    by_cases h1 : sl.state = .charging ∧ 30 ≤ s.clock.minute - s.chargeStart sl
    · by_cases h2 : sl.low = true ∧ sl.battery.any (· < 10) = true
      · simp [h1, h2, faultSlot_slot_self, slot_modSlot_self, h]
      · simp [h1, h2, slot_modSlot_self, h]
    · simp [h1, h]

theorem testDeadCell_slot_ne {k j : Nat} (hj : j ≠ k) (s : State) : (testDeadCell k s).slot j = s.slot j := by
  unfold testDeadCell
  dsimp only
  repeat' split
  · rfl
  · rw [faultSlot_slot_ne hj, slot_modSlot_ne hj]
  · rw [slot_modSlot_ne hj]
  · rfl

theorem testDeadCell_tells {k : Nat} {s : State} {sl : Slot} (h : s.slot k = some sl)
    (h1 : sl.state = .charging ∧ 30 ≤ s.clock.minute - s.chargeStart sl)
    (h2 : sl.low = true ∧ sl.battery.any (· < 10) = true) :
    s.tells (testDeadCell k s) .slotFault [k, SlotCause.deadCell.code, sl.serial.getD 0] := by
  have hslot : (modSlot k (fun sl => { sl with low := false }) s).slot k = some { sl with low := false } := by
    rw [slot_modSlot_self, h]
    rfl
  simp only [testDeadCell, h, h1, h2, decide_true, Bool.and_self, if_true]
  exact (modSlot_grows (κ := {}) k _ s).tells_from (faultSlot_tells hslot .deadCell)

theorem testChargeTimeout_slot_self (k : Nat) (s : State) :
    (testChargeTimeout k s).slot k = (s.slot k).map s.timeoutTested := by
  cases h : s.slot k with
  | none => simp [testChargeTimeout, h]
  | some sl =>
    simp only [testChargeTimeout, h, State.timeoutTested, Option.map_some]
    by_cases h1 : sl.state = .charging ∧ 240 ≤ s.clock.minute - s.chargeStart sl
    · simp [h1, faultSlot_slot_self, h]
    · simp [h1, h]

theorem testChargeTimeout_slot_ne {k j : Nat} (hj : j ≠ k) (s : State) :
    (testChargeTimeout k s).slot j = s.slot j := by
  unfold testChargeTimeout
  repeat' split
  · rfl
  · exact faultSlot_slot_ne hj _ s
  · rfl

theorem testChargeTimeout_tells {k : Nat} {s : State} {sl : Slot} (h : s.slot k = some sl)
    (h1 : sl.state = .charging ∧ 240 ≤ s.clock.minute - s.chargeStart sl) :
    s.tells (testChargeTimeout k s) .slotFault [k, SlotCause.chargeTimeout.code, sl.serial.getD 0] := by
  simp only [testChargeTimeout, h, h1, decide_true, Bool.and_self, if_true]
  exact faultSlot_tells h .chargeTimeout

/-! ### The charge tests of every slot -/

/-- The charge tests of one slot, in their order. -/
def testCharge (k : Nat) (s : State) : State := testChargeTimeout k (testDeadCell k (correctCharge k s))

theorem testCharging_eq (s : State) : testCharging s = forEach (Tab.keys s.dock.slots) testCharge s := rfl

/-- A slot after its charge tests. -/
def State.chargeTested (s : State) (sl : Slot) : Slot := s.timeoutTested (s.deadCellTested (s.chargeCorrected sl))

theorem testCharge_clock (k : Nat) (s : State) : (testCharge k s).clock = s.clock := by
  refine same_clock (w := { events := true, slots := true }) ?_
  exact (testChargeTimeout_frame rfl rfl _ _).trans ((testDeadCell_frame rfl rfl _ _).trans (correctCharge_frame rfl _ _))

theorem testCharge_grows {κ : Keep} (k : Nat) (s : State) : Grows κ s (testCharge k s) :=
  (correctCharge_grows _ _).trans ((testDeadCell_grows _ _).trans (testChargeTimeout_grows _ _))

theorem chargeTested_congr {s t : State} (h : t.clock.minute = s.clock.minute) : t.chargeTested = s.chargeTested := by
  have hstart : t.chargeStart = s.chargeStart := by
    funext sl
    simp only [State.chargeStart, h]
  funext sl
  simp only [State.chargeTested, State.timeoutTested, State.deadCellTested, State.chargeCorrected, hstart, h]
  rfl

theorem testDeadCell_clock (k : Nat) (s : State) : (testDeadCell k s).clock = s.clock :=
  same_clock (w := { events := true, slots := true }) (testDeadCell_frame rfl rfl _ _)

theorem testCharge_slot_self (k : Nat) (s : State) : (testCharge k s).slot k = (s.slot k).map s.chargeTested := by
  have h1 : (testDeadCell k (correctCharge k s)).timeoutTested = s.timeoutTested := by
    funext sl
    simp only [State.timeoutTested, State.chargeStart, testDeadCell_clock]
    rfl
  rw [testCharge, testChargeTimeout_slot_self, testDeadCell_slot_self, correctCharge_slot_self, h1, Option.map_map,
    Option.map_map]
  rfl

theorem testCharge_slot_ne {k j : Nat} (hj : j ≠ k) (s : State) : (testCharge k s).slot j = s.slot j := by
  rw [testCharge, testChargeTimeout_slot_ne hj, testDeadCell_slot_ne hj, correctCharge_slot_ne hj]

/-- What the tests come to for a slot whose charge has lasted too short for them. -/
theorem chargeTested_early {s : State} {sl : Slot} (hs : sl.state = .charging)
    (h : s.clock.minute < s.chargeStart sl + 30) :
    s.chargeTested sl = { sl with chargeStart := some (s.chargeStart sl) } := by
  have hstart : min (s.chargeStart sl) s.clock.minute = s.chargeStart sl := min_eq_left (min_le_right _ _)
  have h1 : ¬ 30 ≤ s.clock.minute - s.chargeStart sl := by omega
  have h2 : ¬ 240 ≤ s.clock.minute - s.chargeStart sl := by omega
  simp only [State.chargeTested, State.chargeCorrected, hs, if_true, State.deadCellTested, State.timeoutTested]
  simp only [State.chargeStart, Option.getD_some] at h1 h2 ⊢
  simp [h1, h2]

theorem chargeTested_dead {s : State} {sl : Slot} (hs : sl.state = .charging)
    (h : s.chargeStart sl + 30 ≤ s.clock.minute) (hd : sl.low = true ∧ sl.battery.any (· < 10) = true) :
    s.chargeTested sl = { sl with low := false, state := .fault, cause := some .deadCell, chargeStart := none } := by
  have h1 : 30 ≤ s.clock.minute - s.chargeStart sl := by omega
  simp only [State.chargeTested, State.chargeCorrected, hs, if_true, State.deadCellTested, State.timeoutTested, hd]
  simp only [State.chargeStart, Option.getD_some] at h1 ⊢
  simp [h1]

theorem chargeTested_charged {s : State} {sl : Slot} (hs : sl.state = .charging)
    (h : s.chargeStart sl + 30 ≤ s.clock.minute) (hd : ¬(sl.low = true ∧ sl.battery.any (· < 10) = true))
    (h240 : s.clock.minute < s.chargeStart sl + 240) :
    s.chargeTested sl = { sl with low := false, chargeStart := some (s.chargeStart sl) } := by
  have h1 : 30 ≤ s.clock.minute - s.chargeStart sl := by omega
  have h2 : ¬ 240 ≤ s.clock.minute - s.chargeStart sl := by omega
  simp only [State.chargeTested, State.chargeCorrected, hs, if_true, State.deadCellTested, State.timeoutTested, hd]
  simp only [State.chargeStart, Option.getD_some] at h1 h2 ⊢
  simp [h1, h2]

theorem chargeTested_timeout {s : State} {sl : Slot} (hs : sl.state = .charging)
    (h : s.chargeStart sl + 240 ≤ s.clock.minute) (hd : ¬(sl.low = true ∧ sl.battery.any (· < 10) = true)) :
    s.chargeTested sl = { sl with low := false, state := .fault, cause := some .chargeTimeout, chargeStart := none } := by
  have h1 : 30 ≤ s.clock.minute - s.chargeStart sl := by omega
  have h2 : 240 ≤ s.clock.minute - s.chargeStart sl := by omega
  simp only [State.chargeTested, State.chargeCorrected, hs, if_true, State.deadCellTested, State.timeoutTested, hd]
  simp only [State.chargeStart, Option.getD_some] at h1 h2 ⊢
  simp [h1, h2]

theorem chargeTested_idle {s : State} {sl : Slot} (hs : sl.state ≠ .charging) : s.chargeTested sl = sl := by
  simp [State.chargeTested, State.chargeCorrected, State.deadCellTested, State.timeoutTested, hs]

theorem chargeTested_twice (s : State) (sl : Slot) : s.chargeTested (s.chargeTested sl) = s.chargeTested sl := by
  have hstart : s.chargeStart { sl with chargeStart := some (s.chargeStart sl) } = s.chargeStart sl :=
    min_eq_left (min_le_right _ _)
  by_cases hs : sl.state = .charging
  · by_cases h30 : s.clock.minute < s.chargeStart sl + 30
    · rw [chargeTested_early hs h30, chargeTested_early (by exact hs) (by rw [hstart]; exact h30), hstart]
    · by_cases hd : sl.low = true ∧ sl.battery.any (· < 10) = true
      · rw [chargeTested_dead hs (by omega) hd, chargeTested_idle (by simp)]
      · by_cases h240 : s.clock.minute < s.chargeStart sl + 240
        · rw [chargeTested_charged hs (by omega) hd h240]
          have hstart' : s.chargeStart { sl with low := false, chargeStart := some (s.chargeStart sl) }
              = s.chargeStart sl := hstart
          rw [chargeTested_charged (by exact hs) (by rw [hstart']; omega) (by simp) (by rw [hstart']; exact h240), hstart']
        · rw [chargeTested_timeout hs (by omega) hd, chargeTested_idle (by simp)]
  · rw [chargeTested_idle hs, chargeTested_idle hs]

theorem testCharging_slot (k : Nat) (s : State) : (testCharging s).slot k = (s.slot k).map s.chargeTested := by
  have hall := forEach_at (P := fun t => t.clock = s.clock) (view := fun t => t.slot k) (g := s.chargeTested)
    (f := testCharge) (j := k) (fun j t ht => (testCharge_clock j t).trans ht)
    (fun j t _ hj => testCharge_slot_ne hj.symm t)
    (fun t ht => by rw [testCharge_slot_self, chargeTested_congr (congrArg ClockBlock.minute ht)])
    (chargeTested_twice s) (Tab.keys s.dock.slots) s rfl
  rw [testCharging_eq, hall]
  split
  · rfl
  next hnot =>
    cases hk : s.slot k with
    | none => rfl
    | some sl => exact absurd (mem_keys_of_get hk) hnot

/-- What a test tells as its slot's turn comes, all the tests tell. -/
theorem testCharging_tells {k : Nat} {s : State} {sl : Slot} (hk : s.slot k = some sl) {kind : EventKind}
    {fields : List Nat} (h : ∀ t : State, t.clock = s.clock → t.slot k = some sl → t.tells (testCharge k t) kind fields) :
    s.tells (testCharging s) kind fields := by
  obtain ⟨before, after, hsplit, hnew⟩ := List.eq_append_cons_of_mem (mem_keys_of_get hk)
  rw [testCharging_eq, hsplit]
  have hall : forEach (before ++ k :: after) testCharge s =
      forEach after testCharge (testCharge k (forEach before testCharge s)) := by
    simp [forEach]
  have hbefore := forEach_at (P := fun t => t.clock = s.clock) (view := fun t => t.slot k) (g := s.chargeTested)
    (f := testCharge) (j := k) (fun j t ht => (testCharge_clock j t).trans ht)
    (fun j t _ hj => testCharge_slot_ne hj.symm t)
    (fun t ht => by rw [testCharge_slot_self, chargeTested_congr (congrArg ClockBlock.minute ht)])
    (chargeTested_twice s) before s rfl
  rw [if_neg hnew, hk] at hbefore
  have hgrows (l : List Nat) (t : State) : Grows {} t (forEach l testCharge t) := forEach_grows l testCharge_grows t
  rw [hall]
  exact (hgrows before s).told (h _ (hgrows before s).clock hbefore) (hgrows after _)

/-- A slot in FAULT through its charge, told. -/
theorem testCharge_tells_dead {k : Nat} {s : State} {sl : Slot} (hk : s.slot k = some sl) (hs : sl.state = .charging)
    (h : s.chargeStart sl + 30 ≤ s.clock.minute) (hd : sl.low = true ∧ sl.battery.any (· < 10) = true) :
    s.tells (testCharge k s) .slotFault [k, SlotCause.deadCell.code, sl.serial.getD 0] := by
  have hslot : (correctCharge k s).slot k = some (s.chargeCorrected sl) := by
    rw [correctCharge_slot_self, hk]
    rfl
  have hcorrected : s.chargeCorrected sl = { sl with chargeStart := some (s.chargeStart sl) } := if_pos hs
  have hstart : (correctCharge k s).chargeStart (s.chargeCorrected sl) = s.chargeStart sl := by
    rw [hcorrected]
    exact min_eq_left (min_le_right _ _)
  have h1 : (s.chargeCorrected sl).state = .charging ∧
      30 ≤ (correctCharge k s).clock.minute - (correctCharge k s).chargeStart (s.chargeCorrected sl) := by
    rw [hstart, hcorrected]
    exact ⟨hs, show 30 ≤ s.clock.minute - s.chargeStart sl by omega⟩
  have htold := testDeadCell_tells hslot h1 (by rw [hcorrected]; exact hd)
  rw [hcorrected] at htold
  exact Grows.told (κ := {}) (κ' := {}) (correctCharge_grows k s) htold (testChargeTimeout_grows k _)

theorem testCharge_tells_timeout {k : Nat} {s : State} {sl : Slot} (hk : s.slot k = some sl) (hs : sl.state = .charging)
    (h : s.chargeStart sl + 240 ≤ s.clock.minute) (hd : ¬(sl.low = true ∧ sl.battery.any (· < 10) = true)) :
    s.tells (testCharge k s) .slotFault [k, SlotCause.chargeTimeout.code, sl.serial.getD 0] := by
  have h1 : 30 ≤ s.clock.minute - s.chargeStart sl := by omega
  have hslot : (testDeadCell k (correctCharge k s)).slot k =
      some { sl with low := false, chargeStart := some (s.chargeStart sl) } := by
    have htested : s.deadCellTested (s.chargeCorrected sl) =
        { sl with low := false, chargeStart := some (s.chargeStart sl) } := by
      simp only [State.chargeCorrected, hs, if_true, State.deadCellTested, hd]
      simp only [State.chargeStart, Option.getD_some] at h1 ⊢
      simp [h1]
    rw [testDeadCell_slot_self, correctCharge_slot_self, hk, ← htested]
    rfl
  refine ((correctCharge_grows (κ := {}) k s).trans (testDeadCell_grows k _)).tells_from
    (testChargeTimeout_tells (sl := { sl with low := false, chargeStart := some (s.chargeStart sl) }) hslot ⟨hs, ?_⟩)
  have hclock : (testDeadCell k (correctCharge k s)).clock.minute = s.clock.minute := by
    rw [testDeadCell_clock]
    rfl
  have hstart : min (s.chargeStart sl) s.clock.minute = s.chargeStart sl := min_eq_left (min_le_right _ _)
  simp only [State.chargeStart, Option.getD_some, hclock] at hstart ⊢
  rw [hstart]
  simp only [State.chargeStart] at h
  omega

/-! ### A minute -/

theorem readSlots_wants {k : Nat} {s : State} {sl : Slot} (hk : s.slot k = some sl)
    (hs : sl.state = .charging ∨ sl.state = .ready) (hr : s.clock.station = .running)
    (hd : s.dropOnline (Body.identify k).drop = true) : (readSlots s).wants (.identify k) := by
  have hmem : k ∈ Tab.keys (s.dock.slots.filter fun e => e.2.state = .charging || e.2.state = .ready) := by
    refine List.mem_map.mpr ⟨(k, sl), List.mem_filter.mpr ⟨mem_of_tab_get hk, ?_⟩, rfl⟩
    rcases hs with h | h <;> simp [h]
  obtain ⟨before, after, hsplit⟩ := List.append_of_mem hmem
  have hlater (j : Nat) (u : State) (hu : u.wants (.identify k)) : (queueMessage (.identify j) .plain u).wants (.identify k) :=
    wants_queueMessage hu _ fun htarget _ => by simpa [Body.target] using htarget
  have hframe := forEach_frame (w := { outbound := true }) before
    (f := fun k => queueMessage (.identify k) .plain) (fun j t => queueMessage_frame rfl _ _ t) s
  rw [readSlots, hsplit]
  simp only [forEach, List.foldl_append, List.foldl_cons]
  refine wants_forEach hlater after (queueMessage_wants ?_ ?_ _)
  · exact (congrArg ClockBlock.station (same_clock (w := { outbound := true }) hframe)).trans hr
  · have hdrops := same_panel_drops (w := { outbound := true }) hframe rfl
    simp only [State.dropOnline, forEach] at hdrops hd ⊢
    rw [hdrops]
    exact hd

theorem readSlots_slot (s : State) (k : Nat) : (readSlots s).slot k = s.slot k :=
  slot_congr (same_dock_slots (w := { outbound := true }) (readSlots_frame rfl s) rfl) k

theorem testCharging_clock (s : State) : (testCharging s).clock = s.clock :=
  same_clock (w := { events := true, slots := true }) (testCharging_frame rfl rfl s)

theorem readSlots_clock (s : State) : (readSlots s).clock = s.clock :=
  same_clock (w := { outbound := true }) (readSlots_frame rfl s)

theorem minuteWork_slot (k : Nat) (s : State) : (minuteWork s).slot k = (s.slot k).map s.chargeTested := by
  have hslots := same_dock_slots (w := { events := true, hires := true })
    (testAllOverdue_frame rfl rfl (testCharging (readSlots s))) rfl
  rw [minuteWork, slot_congr hslots, testCharging_slot, readSlots_slot,
    chargeTested_congr (congrArg ClockBlock.minute (readSlots_clock s))]

/-- The hires a minute flags. -/
theorem minuteWork_hires (n : Nat) (s : State) :
    Tab.get (minuteWork s).ledger.hires n = (Tab.get s.ledger.hires n).map s.overdueTested := by
  have hclock : (testCharging (readSlots s)).clock = s.clock := (testCharging_clock _).trans (readSlots_clock s)
  have htested : (testCharging (readSlots s)).overdueTested = s.overdueTested := by
    funext h
    simp only [State.overdueTested, State.pastHorizon, State.tariff, State.cfg, hclock]
    rfl
  have hledger := same_ledger_hires (w := { events := true, outbound := true, slots := true })
    ((testCharging_frame rfl rfl (readSlots s)).trans (readSlots_frame rfl s)) rfl
  rw [minuteWork, testAllOverdue_get, htested, hledger]

/-- What the minute tick tells of a slot. -/
theorem minuteWork_tells {k : Nat} {s : State} {sl : Slot} (hk : s.slot k = some sl) {kind : EventKind}
    {fields : List Nat} (h : ∀ t : State, t.clock = s.clock → t.slot k = some sl → t.tells (testCharge k t) kind fields) :
    s.tells (settle (minuteWork s)) kind fields := by
  have htold : (readSlots s).tells (testCharging (readSlots s)) kind fields :=
    testCharging_tells ((readSlots_slot s k).trans hk) fun t ht hslot => h t (ht.trans (readSlots_clock s)) hslot
  exact Grows.told (κ := {}) (κ' := .steady) (readSlots_grows s) htold
    ((testAllOverdue_grows _).trans (settle_steady _))

theorem minuteWork_wants {k : Nat} {s : State} {sl : Slot} (hk : s.slot k = some sl)
    (hs : sl.state = .charging ∨ sl.state = .ready) (hr : s.clock.station = .running)
    (hd : s.dropOnline (Body.identify k).drop = true) : (settle (minuteWork s)).wants (.identify k) := by
  refine wants_settle ?_ rfl
  have hframe : SameBut { events := true, slots := true, hires := true } (readSlots s) (minuteWork s) :=
    (testAllOverdue_frame rfl rfl _).trans (testCharging_frame rfl rfl _)
  exact (wants_congr (same_panel_outbound (w := { events := true, slots := true, hires := true }) hframe rfl)
    (same_panel_deferred (w := { events := true, slots := true, hires := true }) hframe rfl)).mpr
    (readSlots_wants hk hs hr hd)

end Sys2Proof.Machine

/-! The ticks settled (R113, R114, R135, R150, R185). -/

namespace Sys2Proof.Machine

/-- What a minute brings every slot: its IDENTIFY, and the tests of a charge. -/
def State.chargesTo (s t : State) : Prop :=
  ∀ k sl, s.slot k = some sl →
    let start := s.chargeStart sl
    let dead := sl.low = true ∧ sl.battery.any (· < 10) = true
    let faulted := fun cause => t.slot k
        = some { sl with low := false, state := .fault, cause := some cause, chargeStart := none }
      ∧ s.tells t .slotFault [k, cause.code, sl.serial.getD 0]
    (sl.state = .charging ∨ sl.state = .ready → s.orders t (.identify k))
    ∧ (sl.state ≠ .charging → t.slot k = some sl)
    ∧ (sl.state = .charging → s.clock.minute < start + 30 → t.slot k = some { sl with chargeStart := some start })
    ∧ (sl.state = .charging → start + 30 ≤ s.clock.minute → dead → faulted .deadCell)
    ∧ (sl.state = .charging → start + 30 ≤ s.clock.minute → ¬dead → s.clock.minute < start + 240 →
        t.slot k = some { sl with low := false, chargeStart := some start })
    ∧ (sl.state = .charging → start + 240 ≤ s.clock.minute → ¬dead → faulted .chargeTimeout)

theorem chargeStart_congr {s t : State} (h : t.clock.minute = s.clock.minute) : t.chargeStart = s.chargeStart := by
  funext sl
  simp only [State.chargeStart, h]

theorem slot_settle (s : State) (k : Nat) : (settle s).slot k = s.slot k := by simp [State.slot]

theorem minuteWork_chargesTo {s : State} (hr : s.clock.station = .running) : s.chargesTo (settle (minuteWork s)) := by
  intro k sl hk
  have hslot : (settle (minuteWork s)).slot k = some (s.chargeTested sl) := by
    rw [slot_settle, minuteWork_slot, hk]
    rfl
  refine ⟨fun hs hd => minuteWork_wants hk hs hr hd, fun hs => ?_, fun hs h30 => ?_, fun hs h30 hd => ⟨?_, ?_⟩,
    fun hs h30 hd h240 => ?_, fun hs h240 hd => ⟨?_, ?_⟩⟩
  · rw [hslot, chargeTested_idle hs]
  · rw [hslot, chargeTested_early hs h30]
  · rw [hslot, chargeTested_dead hs h30 hd]
  · refine minuteWork_tells hk fun t ht hslot' => testCharge_tells_dead hslot' hs ?_ hd
    rw [chargeStart_congr (congrArg ClockBlock.minute ht), ht]
    exact h30
  · rw [hslot, chargeTested_charged hs h30 hd h240]
  · rw [hslot, chargeTested_timeout hs h240 hd]
  · refine minuteWork_tells hk fun t ht hslot' => testCharge_tells_timeout hslot' hs ?_ hd
    rw [chargeStart_congr (congrArg ClockBlock.minute ht), ht]
    exact h240

theorem minuteWork_flags {s : State} {n : Nat} {h : Hire} (hn : Tab.get s.ledger.hires n = some h) :
    Tab.get (settle (minuteWork s)).ledger.hires n = some (s.overdueTested h) := by
  rw [settle_ledger, minuteWork_hires, hn]
  rfl

/-- The live seconds of a channel after a second tick (R150). -/
theorem countLive_channel (c : Nat) (s : State) : (countLive s).channel c = (s.channel c).map (liveSecond s c) :=
  tab_get_map_key s.planner.channels (liveSecond s) c

theorem liveSecond_core (s : State) (c : Nat) (ch : Channel) : (liveSecond s c ch).core = { ch.core with
    liveSeconds := if s.channelHeld c ch = true ∧ ch.state = .onAir then min (ch.liveSeconds + 1) 99999999
      else ch.liveSeconds } := by
  unfold liveSecond
  by_cases h : s.channelHeld c ch = true ∧ ch.state = .onAir
  · rw [if_pos h, if_pos (by simp [h])]
    rfl
  · rw [if_neg h, if_neg (by simpa using h)]

theorem channel_core_of_same {s t : State}
    (h : Tab.mapAll t.planner.channels Channel.core = Tab.mapAll s.planner.channels Channel.core) (c : Nat) :
    (t.channel c).map Channel.core = (s.channel c).map Channel.core := by
  have hget := congrArg (Tab.get · c) h
  simp only [tab_get_mapAll] at hget
  exact hget

/-- What a minute writes leaves the channels alone. -/
theorem minuteWork_channels (s : State) : (minuteWork s).planner.channels = s.planner.channels :=
  same_planner_channels (w := { events := true, outbound := true, slots := true, hires := true })
    (minuteWork_frame rfl rfl rfl rfl s) rfl rfl rfl

theorem settle_countLive_core {s u : State} (h : u.planner.channels = (countLive s).planner.channels) (c : Nat) :
    ((settle u).channel c).map Channel.core = (s.channel c).map fun ch => { ch.core with
      liveSeconds := if s.channelHeld c ch = true ∧ ch.state = .onAir then min (ch.liveSeconds + 1) 99999999
        else ch.liveSeconds } := by
  rw [channel_core_of_same (settle_channels_core u), State.channel, h, ← State.channel, countLive_channel,
    Option.map_map]
  exact congrArg (Option.map · (s.channel c)) (funext fun ch => liveSecond_core s c ch)

/-! ### The ticks -/

/-- The second tick that turns the minute. -/
theorem tickSecond_of_turn {s : State} (h1 : s.clock.second = 59) (h2 : s.clock.minute < 16777215) :
    tickSecond s = event (fun u => minuteWork (countLive u))
      { s with clock.second := (s.clock.second + 1) % 60, clock.minute := s.clock.minute + 1 } := by
  simp only [tickSecond, advanceClock, Config.minuteMax, h1, h2, decide_true, Bool.and_self, if_true]

theorem tickSecond_of_plain {s : State} (h : ¬(s.clock.second = 59 ∧ s.clock.minute < 16777215)) :
    tickSecond s = event countLive { s with clock.second := (s.clock.second + 1) % 60 } := by
  have hrose : (decide (s.clock.second = 59) && decide (s.clock.minute < 16777215)) = false := by simpa using h
  simp only [tickSecond, advanceClock, Config.minuteMax, hrose, Bool.false_eq_true, if_false]

/-- What a second tick may write, but for the clock. -/
def Parts.ticked : Parts := { Parts.settled with openings := true, slots := true, hires := true }

theorem turn_frame (u : State) : SameBut Parts.ticked u (settle (minuteWork (countLive u))) :=
  SameBut.settled ((minuteWork_frame rfl rfl rfl rfl (countLive u)).trans (countLive_frame rfl u)) rfl rfl rfl rfl rfl rfl
    rfl

theorem plain_frame (u : State) : SameBut { Parts.settled with openings := true } u (settle (countLive u)) :=
  SameBut.settled (countLive_frame rfl u) rfl rfl rfl rfl rfl rfl rfl

/-- Parts unchanged stay unchanged when more may change. -/
theorem plain_frame_ticked (u : State) : SameBut Parts.ticked u (settle (countLive u)) :=
  SameBut.settled (countLive_frame rfl u) rfl rfl rfl rfl rfl rfl rfl

theorem minute_frame (u : State) : SameBut { Parts.settled with slots := true, hires := true } u (settle (minuteWork u)) :=
  SameBut.settled (minuteWork_frame rfl rfl rfl rfl u) rfl rfl rfl rfl rfl rfl rfl

/-- The clock a state keeps, put into another state. -/
theorem with_clock_eq {s t : State} {c : ClockBlock} (h : t.clock = c) :
    ({ s with clock := t.clock } : State) = { s with clock := c } := by rw [h]

theorem tickSecond_shows (s : State) :
    (tickSecond s).clock.second = (s.clock.second + 1) % 60
      ∧ (tickSecond s).clock.minute
          = (if s.clock.second = 59 ∧ s.clock.minute < 16777215 then s.clock.minute + 1 else s.clock.minute)
      ∧ (s.running = true → ∀ c, ((tickSecond s).channel c).map Channel.core = (s.channel c).map fun ch => { ch.core with
          liveSeconds := if s.channelHeld c ch = true ∧ ch.state = .onAir then min (ch.liveSeconds + 1) 99999999
            else ch.liveSeconds })
      ∧ (s.running = true → s.clock.second = 59 ∧ s.clock.minute < 16777215 →
          (∀ n h, Tab.get s.ledger.hires n = some h → Tab.get (tickSecond s).ledger.hires n
            = some (({ s with clock.minute := s.clock.minute + 1 } : State).overdueTested h))
          ∧ ({ s with clock := (tickSecond s).clock } : State).chargesTo (tickSecond s))
      ∧ (s.running = true → ¬(s.clock.second = 59 ∧ s.clock.minute < 16777215) →
          SameBut { Parts.settled with openings := true } { s with clock := (tickSecond s).clock } (tickSecond s))
      ∧ SameBut Parts.ticked { s with clock := (tickSecond s).clock } (tickSecond s)
      ∧ (s.running = false → tickSecond s = { s with clock := (tickSecond s).clock }) := by
  by_cases hturn : s.clock.second = 59 ∧ s.clock.minute < 16777215
  · rw [tickSecond_of_turn hturn.1 hturn.2, if_pos hturn]
    cases hrun : s.running with
    | false =>
      rw [event_of_stopped _ (by exact hrun)]
      exact ⟨rfl, rfl, nofun, nofun, nofun, rfl, fun _ => rfl⟩
    | true =>
      rw [event_of_running _ (by exact hrun)]
      generalize hu : ({ s with clock.second := (s.clock.second + 1) % 60, clock.minute := s.clock.minute + 1 } : State) = u
      have hclock : (settle (minuteWork (countLive u))).clock = u.clock := same_clock (turn_frame u)
      have hsu : ({ s with clock := u.clock } : State) = u := by subst hu; rfl
      have hstation : (countLive u).clock.station = .running := by
        subst hu
        simp only [State.running, Bool.and_eq_true, decide_eq_true_eq] at hrun
        exact hrun.1
      rw [hclock, hsu]
      refine ⟨by subst hu; rfl, by subst hu; rfl, fun _ c => ?_, fun _ _ => ⟨fun n h hn => ?_, ?_⟩,
        fun _ hnot => absurd hturn hnot, turn_frame u, nofun⟩
      · subst hu
        exact settle_countLive_core (minuteWork_channels _) c
      · subst hu
        exact minuteWork_flags hn
      · exact minuteWork_chargesTo (s := countLive u) hstation
  · rw [tickSecond_of_plain hturn, if_neg hturn]
    cases hrun : s.running with
    | false =>
      rw [event_of_stopped _ (by exact hrun)]
      exact ⟨rfl, rfl, nofun, nofun, nofun, rfl, fun _ => rfl⟩
    | true =>
      rw [event_of_running _ (by exact hrun)]
      generalize hu : ({ s with clock.second := (s.clock.second + 1) % 60 } : State) = u
      have hclock : (settle (countLive u)).clock = u.clock := same_clock (plain_frame u)
      have hsu : ({ s with clock := u.clock } : State) = u := by subst hu; rfl
      rw [hclock, hsu]
      refine ⟨by subst hu; rfl, by subst hu; rfl, fun _ c => ?_, fun _ h => absurd h hturn, fun _ _ => plain_frame u,
        plain_frame_ticked u, nofun⟩
      subst hu
      exact settle_countLive_core rfl c

theorem tickMinute_shows (s : State) :
    (16777215 ≤ s.clock.minute → tickMinute s = s)
      ∧ (s.clock.minute < 16777215 →
          (tickMinute s).clock = { s.clock with minute := s.clock.minute + 1, second := 0 }
          ∧ (s.running = true →
            (∀ n h, Tab.get s.ledger.hires n = some h → Tab.get (tickMinute s).ledger.hires n
              = some (({ s with clock.minute := s.clock.minute + 1 } : State).overdueTested h))
            ∧ ({ s with clock := (tickMinute s).clock } : State).chargesTo (tickMinute s))
          ∧ (s.running = false → tickMinute s = { s with clock := (tickMinute s).clock }))
      ∧ SameBut { Parts.settled with slots := true, hires := true } { s with clock := (tickMinute s).clock }
          (tickMinute s) := by
  by_cases hlimit : s.clock.minute < 16777215
  · rw [show tickMinute s = event minuteWork { s with clock.minute := s.clock.minute + 1, clock.second := 0 } from
      if_pos hlimit]
    cases hrun : s.running with
    | false =>
      rw [event_of_stopped _ (by exact hrun)]
      exact ⟨fun h => absurd hlimit (Nat.not_lt.mpr h), fun _ => ⟨rfl, nofun, fun _ => rfl⟩, rfl⟩
    | true =>
      rw [event_of_running _ (by exact hrun)]
      generalize hu : ({ s with clock.minute := s.clock.minute + 1, clock.second := 0 } : State) = u
      have hclock : (settle (minuteWork u)).clock = u.clock := same_clock (minute_frame u)
      have hsu : ({ s with clock := u.clock } : State) = u := by subst hu; rfl
      have hstation : u.clock.station = .running := by
        subst hu
        simp only [State.running, Bool.and_eq_true, decide_eq_true_eq] at hrun
        exact hrun.1
      rw [hclock, hsu]
      refine ⟨fun h => absurd hlimit (Nat.not_lt.mpr h), fun _ => ⟨by subst hu; rfl, fun _ => ⟨fun n h hn => ?_, ?_⟩,
        nofun⟩, minute_frame u⟩
      · subst hu
        exact minuteWork_flags hn
      · exact minuteWork_chargesTo hstation
  · rw [show tickMinute s = s from if_neg hlimit]
    exact ⟨fun _ => rfl, fun h => absurd h hlimit, rfl⟩

/-! ### The test rows -/

theorem testOverdue_tells {n : Nat} {s : State} {h : Hire} (hn : Tab.get s.ledger.hires n = some h)
    (hopen : h.closing = none) (hflag : h.overdue = false)
    (hlate : (s.tariff h.tariff).horizon < daysTouched s.cfg.dayBoundary h.start s.clock.minute) :
    s.tells (testOverdue n s) .overdue [n, h.account, h.start, daysTouched s.cfg.dayBoundary h.start s.clock.minute] := by
  simp only [testOverdue, hn, hopen, hflag, hlate, Option.isNone_none, Bool.not_false, decide_true, Bool.and_self, if_true]
  refine Grows.tells_from (κ := {}) ?_ (queueEvent_tells _ _ _)
  exact Grows.of_same rfl rfl rfl rfl

theorem chargeCorrected_of_started {s : State} {sl : Slot} {m : Nat} (hm : sl.chargeStart = some m)
    (hle : m ≤ s.clock.minute) : s.chargeStart sl = m ∧ s.chargeCorrected sl = sl := by
  have hstart : s.chargeStart sl = m := by
    rw [State.chargeStart, hm]
    exact min_eq_left hle
  refine ⟨hstart, ?_⟩
  unfold State.chargeCorrected
  split
  · rw [hstart, ← hm]
  · rfl

/-- A test row runs one slot's test, which leaves a charge that has begun as it is. -/
theorem slotTest_at {s : State} {k m : Nat} {sl : Slot} {f : Nat → State → State} {g : State → Slot → Slot}
    (hself : ∀ u, (f k u).slot k = (u.slot k).map (g u)) (hg : g (correctCharge k s) = g s) (hk : s.slot k = some sl)
    (hm : sl.chargeStart = some m) (hle : m ≤ s.clock.minute) :
    (settle (f k (correctCharge k s))).slot k = some (g s sl) := by
  rw [slot_settle, hself, hg, correctCharge_slot_self, hk, Option.map_some, Option.map_some,
    (chargeCorrected_of_started hm hle).2]

theorem slotTest_tells {s : State} {k m : Nat} {sl : Slot} {f : Nat → State → State} {fields : List Nat}
    (htold : ∀ u : State, u.clock = s.clock → u.slot k = some sl → u.tells (f k u) .slotFault fields)
    (hk : s.slot k = some sl) (hm : sl.chargeStart = some m) (hle : m ≤ s.clock.minute) :
    s.tells (settle (f k (correctCharge k s))) .slotFault fields := by
  have hslot : (correctCharge k s).slot k = some sl := by
    rw [correctCharge_slot_self, hk, Option.map_some, (chargeCorrected_of_started hm hle).2]
  exact Grows.told (κ := {}) (correctCharge_grows k s) (htold _ rfl hslot) (settle_steady _)

theorem slotTest_ne {s : State} {j k : Nat} {f : Nat → State → State} (hj : j ≠ k)
    (hne : ∀ u, (f k u).slot j = u.slot j) : (settle (f k (correctCharge k s))).slot j = s.slot j := by
  rw [slot_settle, hne, correctCharge_slot_ne hj]

/-- Settles O53: a minute's work and the live seconds by their own lemmas, the test rows by each test's own. -/
theorem ticks : Obligations.Ticks := by
  intro s days flagged charged
  obtain ⟨hsecond, hminute, hlive, hturn, hplain, hframe, hstopped⟩ := tickSecond_shows s
  obtain ⟨hlimit, hmin, hminframe⟩ := tickMinute_shows s
  have hone {t : State} {m : Nat} (hm : t.clock.minute = m) (h : ({ s with clock := t.clock } : State).chargesTo t) :
      charged t m := by
    subst hm
    exact h
  refine ⟨⟨_, rfl, hsecond, hminute, hlive, fun hrun h59 hlt => ?_, fun hrun hnot => hplain hrun (by omega), hframe,
    hstopped⟩, ⟨_, rfl, hlimit, fun hlt => ?_, hminframe⟩, fun hrun => ⟨fun n h hn => ⟨_, congrArg Host.Outcome.next
      (event_of_running _ hrun), ?_, fun hopen hover hlate => ?_, fun j hj => ?_, ?_⟩, fun k sl m hk hs hm hle =>
      ⟨⟨_, congrArg Host.Outcome.next (event_of_running _ hrun), fun hlt => ?_, fun hge hlow hbat => ⟨?_, ?_⟩,
        fun hge hnot => ?_, fun j hj => slotTest_ne hj (testDeadCell_slot_ne hj), ?_⟩,
      ⟨_, congrArg Host.Outcome.next (event_of_running _ hrun), fun hlt => ?_, fun hge => ⟨?_, ?_⟩,
        fun j hj => slotTest_ne hj (testChargeTimeout_slot_ne hj), ?_⟩⟩⟩⟩
  · obtain ⟨hflags, hcharges⟩ := hturn hrun ⟨h59, hlt⟩
    exact ⟨hflags, hone (hminute.trans (if_pos ⟨h59, hlt⟩)) hcharges⟩
  · obtain ⟨hclock, hrunning, hstill⟩ := hmin hlt
    refine ⟨hclock, fun hrun => ?_, hstill⟩
    obtain ⟨hflags, hcharges⟩ := hrunning hrun
    exact ⟨hflags, hone (congrArg ClockBlock.minute hclock) hcharges⟩
  · rw [settle_ledger, testOverdue_get_self, hn]
    rfl
  · exact (settle_steady _).tells (testOverdue_tells hn hopen hover hlate)
  · rw [settle_ledger, testOverdue_get_ne hj.symm]
  · exact SameBut.settled (testOverdue_frame rfl rfl n s) rfl rfl rfl rfl rfl rfl rfl
  · rw [slotTest_at (testDeadCell_slot_self k) rfl hk hm hle, State.deadCellTested, if_neg]
    rw [(chargeCorrected_of_started hm hle).1]
    omega
  · rw [slotTest_at (testDeadCell_slot_self k) rfl hk hm hle, State.deadCellTested, if_pos, if_pos ⟨hlow, hbat⟩]
    rw [(chargeCorrected_of_started hm hle).1]
    exact ⟨hs, by omega⟩
  · refine slotTest_tells (fun u hu hslot => testDeadCell_tells hslot ⟨hs, ?_⟩ ⟨hlow, hbat⟩) hk hm hle
    rw [chargeStart_congr (congrArg ClockBlock.minute hu), (chargeCorrected_of_started hm hle).1, hu]
    omega
  · rw [slotTest_at (testDeadCell_slot_self k) rfl hk hm hle, State.deadCellTested, if_pos, if_neg]
    · rcases hnot with h | h <;> simp [h]
    · rw [(chargeCorrected_of_started hm hle).1]
      exact ⟨hs, by omega⟩
  · exact SameBut.settled ((testDeadCell_frame rfl rfl _ _).trans (correctCharge_frame rfl _ _)) rfl rfl rfl rfl rfl rfl rfl
  · rw [slotTest_at (testChargeTimeout_slot_self k) rfl hk hm hle, State.timeoutTested, if_neg]
    rw [(chargeCorrected_of_started hm hle).1]
    omega
  · rw [slotTest_at (testChargeTimeout_slot_self k) rfl hk hm hle, State.timeoutTested, if_pos]
    rw [(chargeCorrected_of_started hm hle).1]
    exact ⟨hs, by omega⟩
  · refine slotTest_tells (fun u hu hslot => testChargeTimeout_tells hslot ⟨hs, ?_⟩) hk hm hle
    rw [chargeStart_congr (congrArg ClockBlock.minute hu), (chargeCorrected_of_started hm hle).1, hu]
    omega
  · exact SameBut.settled ((testChargeTimeout_frame rfl rfl _ _).trans (correctCharge_frame rfl _ _)) rfl rfl rfl rfl rfl
      rfl rfl

end Sys2Proof.Machine

/-! What the pedigree rules and a step's settling leave of the records (R53, R59 to R61, R69, R110). -/

namespace Sys2Proof.Machine

/-! ### Routes -/

/-- Queuing a message leaves the route table alone. -/
theorem queueMessage_route (b : Body) (o : Origin) (n : Nat) (s : State) : (queueMessage b o s).route n = s.route n := by
  simp [State.route]

theorem setRoute_route_self (o : Nat) (src : Source) (s : State) : (setRoute o src s).route o = src := by
  unfold setRoute
  split
  next h => exact h
  · rw [queueMessage_route]
    split
    next hnone => simp [State.route, tab_get_erase_self, hnone]
    · simp [State.route, tab_get_set_self]

theorem setRoute_route_ne {o n : Nat} (h : n ≠ o) (src : Source) (s : State) : (setRoute o src s).route n = s.route n := by
  unfold setRoute
  split
  · rfl
  · rw [queueMessage_route]
    split
    · simp [State.route, tab_get_erase_ne _ _ _ h]
    · simp [State.route, tab_get_set_ne _ _ _ _ h]

theorem route_congr {s t : State} (h : t.panel.routes = s.panel.routes) (o : Nat) : t.route o = s.route o := by
  simp only [State.route, h]

/-! ### What stays of a record -/

/-- A channel without its pedigree and what its last notice said. -/
abbrev Channel.quiet (ch : Channel) : Channel := { ch with pedigree := [], announced := .closed, notice := none }

/-- A booth without its relay. -/
abbrev Booth.quiet (bo : Booth) : Booth :=
  { bo with input := .floor, relay := .none, sourceTrunk := none, answerWait := none }

/-- A booth's relay. -/
structure BoothRelay where
  input : Selection
  status : RelayStatus
  trunk : Option Nat
  wait : Option Nat

/-- The relay of a booth record. -/
def Booth.relayPart (bo : Booth) : BoothRelay := ⟨bo.input, bo.relay, bo.sourceTrunk, bo.answerWait⟩

/-- A relay dropped (R60). -/
def BoothRelay.dropped : BoothRelay := ⟨.floor, .lost, none, none⟩

/-- A feed context without its pedigree. -/
abbrev Feed.quiet (f : Feed) : Feed := { f with pedigree := [] }

/-- Pedigrees, notices, lamps, gates and routes may move, relays may be dropped, and nothing else of the records
moves. -/
structure Calm (s t : State) : Prop where
  channel : ∀ c, (t.channel c).map Channel.quiet = (s.channel c).map Channel.quiet
  booth : ∀ b, (t.boothRec b).map Booth.quiet = (s.boothRec b).map Booth.quiet
  relay : ∀ b bo, s.boothRec b = some bo → ∃ bo', t.boothRec b = some bo'
    ∧ (bo'.relayPart = bo.relayPart ∨ bo.input ≠ .floor ∧ bo'.relayPart = .dropped)
  desk : ∀ d, (t.desk d).map Desk.core = (s.desk d).map Desk.core
  context : ∀ k, (t.context k).map Feed.quiet = (s.context k).map Feed.quiet
  wf : Tab.wf s.feed.contexts = true → Tab.wf t.feed.contexts = true
  receiving : Tab.wf s.feed.contexts = true → ∀ k x, s.context k = some x → x.side = .receiving → t.context k = some x

/-- A calm change that moves no route but the floor's and those of booth inputs. -/
structure Quiet (s t : State) : Prop extends Calm s t where
  route : ∀ o, o ≠ busOutput 0 → (∀ b, o ≠ inputOutput b) → t.route o = s.route o

theorem Calm.refl (s : State) : Calm s s :=
  ⟨fun _ => rfl, fun _ => rfl, fun _ bo h => ⟨bo, h, Or.inl rfl⟩, fun _ => rfl, fun _ => rfl, id, fun _ _ _ h _ => h⟩

theorem Quiet.refl (s : State) : Quiet s s := ⟨.refl s, fun _ _ _ => rfl⟩

theorem Calm.trans {r s t : State} (h : Calm r s) (h' : Calm s t) : Calm r t where
  channel c := (h'.channel c).trans (h.channel c)
  booth b := (h'.booth b).trans (h.booth b)
  relay b bo hb := by
    obtain ⟨bo', hb', h1⟩ := h.relay b bo hb
    obtain ⟨bo'', hb'', h2⟩ := h'.relay b bo' hb'
    refine ⟨bo'', hb'', ?_⟩
    rcases h1 with h1 | ⟨hin, h1⟩
    · rcases h2 with h2 | ⟨hin, h2⟩
      · exact Or.inl (h2.trans h1)
      · exact Or.inr ⟨fun hfloor => hin ((congrArg BoothRelay.input h1).trans hfloor), h2⟩
    · rcases h2 with h2 | ⟨-, h2⟩
      · exact Or.inr ⟨hin, h2.trans h1⟩
      · exact Or.inr ⟨hin, h2⟩
  desk d := (h'.desk d).trans (h.desk d)
  context k := (h'.context k).trans (h.context k)
  wf hw := h'.wf (h.wf hw)
  receiving hw k x hk hx := h'.receiving (h.wf hw) k x (h.receiving hw k x hk hx) hx

theorem Quiet.trans {r s t : State} (h : Quiet r s) (h' : Quiet s t) : Quiet r t :=
  ⟨h.toCalm.trans h'.toCalm, fun o h0 hb => (h'.route o h0 hb).trans (h.route o h0 hb)⟩

/-- What leaves the record tables alone. -/
theorem Calm.of_tables {s t : State} (hc : t.planner.channels = s.planner.channels) (hb : t.booth = s.booth)
    (hf : t.feed = s.feed) : Calm s t where
  channel c := by simp only [State.channel, hc]
  booth b := by simp only [State.boothRec, hb]
  relay b bo h := ⟨bo, by simp only [State.boothRec, hb]; exact h, Or.inl rfl⟩
  desk d := by simp only [State.desk, hb]
  context k := by simp only [State.context, hf]
  wf hw := by rw [hf]; exact hw
  receiving _ k x hk _ := by simp only [State.context, hf]; exact hk

theorem Quiet.of_tables {s t : State} (hc : t.planner.channels = s.planner.channels) (hb : t.booth = s.booth)
    (hf : t.feed = s.feed) (hr : ∀ o, o ≠ busOutput 0 → (∀ b, o ≠ inputOutput b) → t.route o = s.route o) :
    Quiet s t := ⟨.of_tables hc hb hf, hr⟩

theorem Quiet.of_same {s t : State} (hc : t.planner.channels = s.planner.channels) (hb : t.booth = s.booth)
    (hf : t.feed = s.feed) (hr : t.panel.routes = s.panel.routes) : Quiet s t :=
  .of_tables hc hb hf fun o _ _ => route_congr hr o

/-- Every route may move in a calm change. -/
theorem setRoute_calm (o : Nat) (src : Source) (s : State) : Calm s (setRoute o src s) :=
  .of_tables (by simp) (by simp) (by simp)

theorem forEach_calm {f : Nat → State → State} (h : ∀ k s, Calm s (f k s)) (l : List Nat) (s : State) :
    Calm s (forEach l f s) := by
  unfold forEach
  induction l generalizing s with
  | nil => exact .refl s
  | cons k rest ih => exact (h k s).trans (ih (f k s))

theorem forEach_quiet {f : Nat → State → State} (h : ∀ k s, Quiet s (f k s)) (l : List Nat) (s : State) :
    Quiet s (forEach l f s) := by
  unfold forEach
  induction l generalizing s with
  | nil => exact .refl s
  | cons k rest ih => exact (h k s).trans (ih (f k s))

/-! ### The queues, the map and the mask -/

theorem queueEvent_quiet (k : EventKind) (fields : List Nat) (s : State) : Quiet s (queueEvent k fields s) :=
  .of_same (by simp) (by simp) (by simp) (by simp)

theorem enqueueFrame_quiet (dest : Nat) (p : Payload) (s : State) : Quiet s (enqueueFrame dest p s) :=
  .of_same (by simp) (by simp) (by simp) (by simp)

theorem queueMessage_quiet (b : Body) (o : Origin) (s : State) : Quiet s (queueMessage b o s) :=
  .of_same (by simp) (by simp) (by simp) (by simp)

theorem sendClaim_quiet (r : Resource) (a : ClaimAction) (c : Nat) (l : Tag) (s : State) :
    Quiet s (sendClaim r a c l s) := enqueueFrame_quiet _ _ _

theorem sendRelayRelease_quiet (b : Nat) (src : Selection) (s : State) : Quiet s (sendRelayRelease b src s) := by
  unfold sendRelayRelease
  split
  · exact enqueueFrame_quiet _ _ _
  · exact .refl s

theorem syncMask_quiet (s : State) : Quiet s (syncMask s) :=
  .of_same (by rw [syncMask_planner]) (by simp) (by simp) (by simp)

theorem rebuildMap_quiet (s : State) : Quiet s (rebuildMap s) := .of_same rfl rfl rfl rfl

/-- The routes of booth inputs and of the floor may move. -/
theorem setRoute_quiet {o : Nat} (h : o = busOutput 0 ∨ ∃ b, o = inputOutput b) (src : Source) (s : State) :
    Quiet s (setRoute o src s) := by
  refine .of_tables (by simp) (by simp) (by simp) fun n h0 hb => setRoute_route_ne ?_ src s
  rintro rfl
  rcases h with h | ⟨b, h⟩
  · exact h0 h
  · exact hb b h

/-! ### Changes of one record -/

theorem modChannel_channel_self (c : Nat) (f : Channel → Channel) (s : State) :
    (modChannel c f s).channel c = (s.channel c).map f := tab_get_modify_self _ _ _

theorem modChannel_channel_ne {c j : Nat} (h : j ≠ c) (f : Channel → Channel) (s : State) :
    (modChannel c f s).channel j = s.channel j := tab_get_modify_ne _ _ _ _ h

theorem modBooth_boothRec_self (b : Nat) (f : Booth → Booth) (s : State) :
    (modBooth b f s).boothRec b = (s.boothRec b).map f := tab_get_modify_self _ _ _

theorem modBooth_boothRec_ne {b j : Nat} (h : j ≠ b) (f : Booth → Booth) (s : State) :
    (modBooth b f s).boothRec j = s.boothRec j := tab_get_modify_ne _ _ _ _ h

theorem modDesk_desk_self (d : Nat) (f : Desk → Desk) (s : State) : (modDesk d f s).desk d = (s.desk d).map f :=
  tab_get_modify_self _ _ _

theorem modDesk_desk_ne {d j : Nat} (h : j ≠ d) (f : Desk → Desk) (s : State) : (modDesk d f s).desk j = s.desk j :=
  tab_get_modify_ne _ _ _ _ h

theorem modFeed_context_self (k : Nat) (f : Feed → Feed) (s : State) :
    (modFeed k f s).context k = (s.context k).map f := tab_get_modify_self _ _ _

theorem modFeed_context_ne {k j : Nat} (h : j ≠ k) (f : Feed → Feed) (s : State) :
    (modFeed k f s).context j = s.context j := tab_get_modify_ne _ _ _ _ h

theorem modChannel_quiet {c : Nat} {f : Channel → Channel} (hf : ∀ ch, (f ch).quiet = ch.quiet) (s : State) :
    Quiet s (modChannel c f s) := by
  refine { Quiet.of_same rfl rfl rfl rfl with channel := fun j => ?_ }
  by_cases h : j = c
  · subst h
    rw [modChannel_channel_self, Option.map_map]
    exact congrArg (Option.map · _) (funext hf)
  · rw [modChannel_channel_ne h]

theorem modDesk_quiet {d : Nat} {f : Desk → Desk} (hf : ∀ r, (f r).core = r.core) (s : State) :
    Quiet s (modDesk d f s) := by
  refine { channel := fun _ => rfl, booth := fun _ => rfl, relay := fun _ bo h => ⟨bo, h, Or.inl rfl⟩,
           context := fun _ => rfl, wf := id, receiving := fun _ _ _ h _ => h, route := fun _ _ _ => rfl,
           desk := fun j => ?_ }
  by_cases h : j = d
  · subst h
    rw [modDesk_desk_self, Option.map_map]
    exact congrArg (Option.map · _) (funext hf)
  · rw [modDesk_desk_ne h]

/-- A sending context may take another pedigree. -/
theorem modFeed_quiet {k : Nat} {s : State} (hs : Tab.wf s.feed.contexts = true → ∀ x, s.context k = some x →
    x.side = .sending) {f : Feed → Feed} (hf : ∀ x, (f x).quiet = x.quiet) : Quiet s (modFeed k f s) := by
  refine { channel := fun _ => rfl, booth := fun _ => rfl, relay := fun _ bo h => ⟨bo, h, Or.inl rfl⟩,
           desk := fun _ => rfl, route := fun _ _ _ => rfl, context := fun j => ?_,
           wf := fun hw => tab_wf_modify _ _ _ hw, receiving := fun hw j x hj hx => ?_ }
  · by_cases h : j = k
    · subst h
      rw [modFeed_context_self, Option.map_map]
      exact congrArg (Option.map · _) (funext hf)
    · rw [modFeed_context_ne h]
  · by_cases h : j = k
    · subst h
      rw [hs hw x hj] at hx
      exact absurd hx (by simp)
    · rw [modFeed_context_ne h]
      exact hj

/-- A relay dropped in the table. -/
theorem modBooth_dropped_quiet {b : Nat} {s : State} (hin : ∀ bo, s.boothRec b = some bo → bo.input ≠ .floor) :
    Quiet s (modBooth b
      (fun bo => { bo with input := .floor, relay := .lost, sourceTrunk := none, answerWait := none }) s) := by
  refine { channel := fun _ => rfl, context := fun _ => rfl, wf := id, receiving := fun _ _ _ h _ => h,
           desk := fun _ => rfl, route := fun _ _ _ => rfl, booth := fun j => ?_, relay := fun j bo hj => ?_ }
  · by_cases h : j = b
    · subst h
      rw [modBooth_boothRec_self, Option.map_map]
      rfl
    · rw [modBooth_boothRec_ne h]
  · by_cases h : j = b
    · subst h
      exact ⟨_, by rw [modBooth_boothRec_self, hj]; rfl, Or.inr ⟨hin bo hj, rfl⟩⟩
    · exact ⟨bo, by rw [modBooth_boothRec_ne h]; exact hj, Or.inl rfl⟩

/-! ### Notices, relays and pedigrees -/

theorem queueNotice_quiet (c : Nat) (s : State) : Quiet s (queueNotice c s) := by
  unfold queueNotice
  split
  · exact .refl s
  · refine Quiet.trans ?_ (enqueueFrame_quiet _ _ _)
    exact modChannel_quiet (by intro _; rfl) s

theorem dropRelay_quiet (cause : LostCause) (b : Nat) (s : State) : Quiet s (dropRelay cause b s) := by
  have hdropped (h : ∀ bo, s.boothRec b = some bo → bo.input ≠ .floor) : Quiet s (setRoute (inputOutput b) .floor
      (modBooth b (fun bo => { bo with input := .floor, relay := .lost, sourceTrunk := none, answerWait := none }) s)) :=
    (modBooth_dropped_quiet h).trans (setRoute_quiet (Or.inr ⟨b, rfl⟩) _ _)
  unfold dropRelay
  dsimp only
  split
  · exact .refl s
  next bo hb =>
    split
    · exact .refl s
    next q c hkey =>
      have hdropped := hdropped fun x hx hfloor => by
        obtain rfl := Option.some.inj (hb.symm.trans hx)
        simp [hfloor, State.sourceKey] at hkey
      split
      · exact (hdropped.trans (queueEvent_quiet _ _ _)).trans (sendRelayRelease_quiet _ _ _)
      · exact hdropped.trans (queueEvent_quiet _ _ _)

theorem storePedigree_quiet (c : Nat) (s : State) : Quiet s (storePedigree c s) := by
  unfold storePedigree
  split
  · exact .refl s
  · refine Quiet.trans ?_ (queueNotice_quiet _ _)
    exact modChannel_quiet (by intro _; rfl) s

theorem recheckBooth_quiet (src : Selection) (b : Nat) (s : State) : Quiet s (recheckBooth src b s) := by
  unfold recheckBooth
  dsimp only
  repeat' split
  · exact dropRelay_quiet _ _ _
  · exact dropRelay_quiet _ _ _
  · exact .refl s

/-! ### The output pedigrees of feeds -/

theorem storeFeedPedigree_quiet {k : Nat} {s : State}
    (hs : Tab.wf s.feed.contexts = true → ∀ x, s.context k = some x → x.side = .sending) :
    Quiet s (storeFeedPedigree k s) := by
  unfold storeFeedPedigree
  split
  · exact .refl s
  · dsimp only
    split
    · exact .refl s
    · split
      · exact Quiet.trans (modFeed_quiet hs (by intro _; rfl)) (enqueueFrame_quiet _ _ _)
      · exact modFeed_quiet hs (by intro _; rfl)

/-- A record that has kept all but its pedigree has kept its side. -/
theorem Calm.side {s t : State} (h : Calm s t) {k : Nat} {x : Feed} (hk : t.context k = some x) :
    ∃ y, s.context k = some y ∧ y.side = x.side := by
  have hq := h.context k
  rw [hk, Option.map_some] at hq
  cases hy : s.context k with
  | none => simp [hy] at hq
  | some y =>
    rw [hy, Option.map_some, Option.some.injEq] at hq
    exact ⟨y, rfl, (congrArg Feed.side hq).symm⟩

theorem get_of_mem_of_wf {α : Type} {t : Table α} (hw : Tab.wf t = true) {k : Nat} {v : α} (h : (k, v) ∈ t) :
    Tab.get t k = some v := by
  rw [tab_wf_iff] at hw
  induction t with
  | nil => simp at h
  | cons e rest ih =>
    obtain ⟨j, w⟩ := e
    simp only [Tab.keys, List.map_cons, List.pairwise_cons] at hw
    rcases List.mem_cons.mp h with heq | hmem
    · cases heq
      simp [Tab.get]
    · have hlt : j < k := hw.1 k (List.mem_map.mpr ⟨(k, v), hmem, rfl⟩)
      have hne : ¬j = k := Nat.ne_of_lt hlt
      simp only [Tab.get, if_neg hne]
      exact ih hw.2 hmem

/-- The feed outputs of booths are sending contexts. -/
theorem sending_of_mem_feedsOf {s : State} (hw : Tab.wf s.feed.contexts = true) {booths : List Nat} {k : Nat}
    (hk : k ∈ s.feedsOf booths) {x : Feed} (hx : s.context k = some x) : x.side = .sending := by
  obtain ⟨e, hmem, rfl⟩ := List.mem_map.mp hk
  obtain ⟨he, htest⟩ := List.mem_filter.mp hmem
  have hget : s.context e.1 = some e.2 := get_of_mem_of_wf hw he
  rw [hget, Option.some.injEq] at hx
  subst hx
  simp only [State.replaces, Bool.and_eq_true, decide_eq_true_eq] at htest
  exact htest.2.1

theorem storeFeeds_quiet (l : List Nat) (s : State)
    (hs : Tab.wf s.feed.contexts = true → ∀ k ∈ l, ∀ x, s.context k = some x → x.side = .sending) :
    Quiet s (forEach l storeFeedPedigree s) := by
  unfold forEach
  induction l generalizing s with
  | nil => exact .refl s
  | cons k rest ih =>
    have hfirst : Quiet s (storeFeedPedigree k s) := storeFeedPedigree_quiet fun hw => hs hw k List.mem_cons_self
    refine hfirst.trans (ih _ fun hw' j hj x hx => ?_)
    obtain ⟨y, hy, hside⟩ := hfirst.side hx
    rw [← hside]
    refine hs ?_ j (List.mem_cons_of_mem _ hj) y hy
    have hkeys : Tab.keys (storeFeedPedigree k s).feed.contexts = Tab.keys s.feed.contexts := by
      unfold storeFeedPedigree
      dsimp only
      repeat' split
      all_goals simp
    rw [tab_wf_iff] at hw' ⊢
    rw [← hkeys]
    exact hw'

/-- The pedigrees of channels and of feed outputs stored, the feed outputs taken from the state before. -/
theorem storeAll_quiet (changed booths : List Nat) (s : State) :
    Quiet s (forEach (s.feedsOf booths) storeFeedPedigree (forEach changed storePedigree s)) := by
  have hchannels : Quiet s (forEach changed storePedigree s) := forEach_quiet storePedigree_quiet _ _
  have hfeed : (forEach changed storePedigree s).feed = s.feed :=
    same_feed (w := { events := true, channels := true, notices := true, lineQueue := true })
      (forEach_frame _ _ (fun c u => storePedigree_frame rfl rfl rfl rfl c u) s) rfl rfl
  refine hchannels.trans (storeFeeds_quiet _ _ fun hw k hk x hx => ?_)
  rw [hfeed] at hw
  exact sending_of_mem_feedsOf hw hk (by simp only [State.context, hfeed] at hx; exact hx)

theorem followChanges_quiet (n : Nat) (l : List Selection) (s : State) : Quiet s (followChanges n l s) := by
  induction n generalizing l s with
  | zero => exact .refl s
  | succ n ih =>
    cases l with
    | nil => exact .refl s
    | cons src rest =>
      have hrecheck : Quiet s (forEach (s.listeners src) (recheckBooth src) s) :=
        forEach_quiet (recheckBooth_quiet src) _ _
      exact hrecheck.trans ((storeAll_quiet _ _ _).trans (ih _ _))

theorem recompute_quiet (which : Nat → Channel → Bool) (booths : List Nat) (s : State) :
    Quiet s (recompute which booths s) := (storeAll_quiet _ _ _).trans (followChanges_quiet _ _ _)

theorem recomputeBooths_quiet (booths : List Nat) (s : State) : Quiet s (recomputeBooths booths s) :=
  recompute_quiet _ _ _

theorem recomputeChannel_quiet (c : Nat) (s : State) : Quiet s (recomputeChannel c s) := recompute_quiet _ _ _

theorem dropRelays_quiet (cause : LostCause) (booths : List Nat) (s : State) : Quiet s (dropRelays cause booths s) :=
  (forEach_quiet (dropRelay_quiet cause) _ _).trans (recomputeBooths_quiet _ _)

theorem recheckOutputs_quiet (b : Nat) (s : State) : Quiet s (recheckOutputs b s) := by
  unfold recheckOutputs
  repeat' split
  · exact .refl s
  · exact dropRelays_quiet _ _ _
  · exact .refl s

/-! ### What is read after a calm change -/

theorem Calm.channel_some {s t : State} (h : Calm s t) {c : Nat} {ch : Channel} (hc : s.channel c = some ch) :
    ∃ ch', t.channel c = some ch' ∧ ch'.quiet = ch.quiet := by
  have hq := h.channel c
  rw [hc, Option.map_some, Option.map_eq_some_iff] at hq
  exact hq

theorem Calm.channel_none {s t : State} (h : Calm s t) {c : Nat} (hc : s.channel c = none) : t.channel c = none := by
  have hq := h.channel c
  rwa [hc, Option.map_none, Option.map_eq_none_iff] at hq

theorem Calm.booth_some {s t : State} (h : Calm s t) {b : Nat} {bo : Booth} (hb : s.boothRec b = some bo) :
    ∃ bo', t.boothRec b = some bo' ∧ bo'.quiet = bo.quiet := by
  have hq := h.booth b
  rw [hb, Option.map_some, Option.map_eq_some_iff] at hq
  exact hq

theorem Calm.desk_some {s t : State} (h : Calm s t) {d : Nat} {r : Desk} (hd : s.desk d = some r) :
    ∃ r', t.desk d = some r' ∧ r'.core = r.core := by
  have hq := h.desk d
  rw [hd, Option.map_some, Option.map_eq_some_iff] at hq
  exact hq

theorem Calm.context_some {s t : State} (h : Calm s t) {k : Nat} {x : Feed} (hk : s.context k = some x) :
    ∃ x', t.context k = some x' ∧ x'.quiet = x.quiet := by
  have hq := h.context k
  rw [hk, Option.map_some, Option.map_eq_some_iff] at hq
  exact hq

theorem Calm.context_none {s t : State} (h : Calm s t) {k : Nat} (hk : s.context k = none) : t.context k = none := by
  have hq := h.context k
  rwa [hk, Option.map_none, Option.map_eq_none_iff] at hq

/-! ### Settling -/

/-- A desk shows something else, and is told. -/
theorem showDesk_quiet (d : Nat) (f : Desk → Desk) (b : Body) (hf : ∀ r, (f r).core = r.core) (s : State) :
    Quiet s (queueMessage b .plain (modDesk d f s)) := (modDesk_quiet hf s).trans (queueMessage_quiet _ _ _)

theorem refreshDesk_quiet (d : Nat) (s : State) : Quiet s (refreshDesk d s) := by
  unfold refreshDesk
  split
  · exact .refl s
  · dsimp only
    split
    · split
      · exact .refl s
      · exact showDesk_quiet d _ _ (by intro _; rfl) s
    · split
      · exact showDesk_quiet d _ _ (by intro _; rfl) s
      · refine Quiet.trans ?_ (showDesk_quiet d _ _ (by intro _; rfl) _)
        exact showDesk_quiet d _ _ (by intro _; rfl) s

theorem settle_quiet (s : State) : Quiet s (settle s) := by
  have hfloor : Quiet s (routeFloor s) := setRoute_quiet (Or.inl rfl) _ _
  have hdesks : Quiet s (refreshDesks (routeFloor s)) := hfloor.trans (forEach_quiet refreshDesk_quiet _ _)
  have hnotices : Quiet s (announce (refreshDesks (routeFloor s))) := hdesks.trans (forEach_quiet queueNotice_quiet _ _)
  exact (hnotices.trans (rebuildMap_quiet _)).trans (syncMask_quiet _)

end Sys2Proof.Machine

/-! Relays dropped (R60). -/

namespace Sys2Proof.Machine

theorem relayDropped_iff {t : State} {b : Nat} :
    t.relayDropped b ↔ ∃ bo, t.boothRec b = some bo ∧ bo.relayPart = .dropped := by
  simp only [State.relayDropped, Booth.relayPart, BoothRelay.dropped, BoothRelay.mk.injEq]

/-- A relay dropped stays dropped in a calm change. -/
theorem Calm.relayDropped {s t : State} (h : Calm s t) {b : Nat} (hb : s.relayDropped b) : t.relayDropped b := by
  obtain ⟨bo, hbo, hpart⟩ := relayDropped_iff.mp hb
  obtain ⟨bo', hbo', hpart'⟩ := h.relay b bo hbo
  refine relayDropped_iff.mpr ⟨bo', hbo', ?_⟩
  rcases hpart' with h' | h'
  · exact h'.trans hpart
  · exact h'.2

theorem dropRelay_drops {b : Nat} {s : State} {bo : Booth} (hb : s.boothRec b = some bo) {key : Nat × Nat}
    (hkey : s.sourceKey bo.input = some key) (cause : LostCause) : (dropRelay cause b s).relayDropped b := by
  obtain ⟨q, c⟩ := key
  have hset : (setRoute (inputOutput b) .floor (modBooth b
      (fun bo => { bo with input := .floor, relay := .lost, sourceTrunk := none, answerWait := none }) s)).relayDropped
        b := by
    refine (setRoute_calm _ _ _).relayDropped ⟨_, by rw [modBooth_boothRec_self, hb]; rfl, rfl, rfl, rfl, rfl⟩
  simp only [dropRelay, hb, hkey]
  split
  · exact (sendRelayRelease_quiet _ _ _).toCalm.relayDropped ((queueEvent_quiet _ _ _).toCalm.relayDropped hset)
  · exact (queueEvent_quiet _ _ _).toCalm.relayDropped hset

/-- Each of the booths named has its relay dropped. -/
theorem forEach_dropRelay_drops {b q c : Nat} {l : List Nat} (hl : b ∈ l) (cause : LostCause) {s : State} {bo : Booth}
    (hb : s.boothRec b = some bo) (hin : bo.input = .remote q c) : (forEach l (dropRelay cause) s).relayDropped b := by
  induction l generalizing s bo with
  | nil => simp at hl
  | cons k rest ih =>
    have hrest (u : State) : Calm u (forEach rest (dropRelay cause) u) :=
      forEach_calm (fun j v => (dropRelay_quiet cause j v).toCalm) rest u
    have hstep : forEach (k :: rest) (dropRelay cause) s = forEach rest (dropRelay cause) (dropRelay cause k s) := rfl
    rw [hstep]
    by_cases hk : k = b
    · subst hk
      exact (hrest _).relayDropped (dropRelay_drops hb (by rw [hin]; rfl) cause)
    · obtain ⟨bo', hb', hpart⟩ := (dropRelay_quiet cause k s).relay b bo hb
      rcases hpart with hpart | hpart
      · have hin' : bo'.input = .remote q c := (congrArg BoothRelay.input hpart).trans hin
        exact ih ((List.mem_cons.mp hl).resolve_left (Ne.symm hk)) hb' hin'
      · exact (hrest _).relayDropped (relayDropped_iff.mpr ⟨bo', hb', hpart.2⟩)

theorem dropRelays_drops {b q c : Nat} {l : List Nat} (hl : b ∈ l) (cause : LostCause) {s : State} {bo : Booth}
    (hb : s.boothRec b = some bo) (hin : bo.input = .remote q c) : (dropRelays cause l s).relayDropped b :=
  (recomputeBooths_quiet _ _).toCalm.relayDropped (forEach_dropRelay_drops hl cause hb hin)

/-- The booths a test picks by their record. -/
theorem mem_keys_filter {α : Type} {t : Table α} {k : Nat} {v : α} (h : Tab.get t k = some v) {p : Nat × α → Bool}
    (hp : p (k, v) = true) : k ∈ Tab.keys (t.filter p) :=
  List.mem_map.mpr ⟨(k, v), List.mem_filter.mpr ⟨mem_of_tab_get h, hp⟩, rfl⟩

theorem mem_listeners {b : Nat} {s : State} {bo : Booth} (hb : s.boothRec b = some bo) :
    b ∈ s.listeners bo.input := mem_keys_filter hb (by simp)

/-- Every booth that names a remote source has its relay dropped. -/
theorem dropListeners_drops {b q c : Nat} {s : State} {bo : Booth} (hb : s.boothRec b = some bo)
    (hin : bo.input = .remote q c) (cause : LostCause) :
    (dropRelays cause (s.listeners (.remote q c)) s).relayDropped b :=
  dropRelays_drops (hin ▸ mem_listeners hb) cause hb hin

end Sys2Proof.Machine

/-! A frame heard from a known peer (R161, R163, R172). -/

namespace Sys2Proof.Machine

/-! ### The scores below OFF-LINE's -/

/-- The line state the scores give a station on the line (R165). -/
def LineBlock.scored (l : LineBlock) : LineState := if 100 ≤ l.txScore ∨ 100 ≤ l.rxScore then .quiet else .joined

theorem testScores_of_low {s : State} (hlive : s.line.state.live = true) (htx : s.line.txScore < 200) :
    testScores s = { s with events := (testScores s).events, line.state := s.line.scored } := by
  have h200 : ¬200 ≤ s.line.txScore := by omega
  have htell (l : LineState) (hl : s.line.scored = l) : tellLine { s with line.state := l } =
      { s with events := (tellLine { s with line.state := l }).events, line.state := s.line.scored } := by
    rw [hl]
    exact queueEvent_eq _ _ _
  unfold testScores
  simp only [hlive, Bool.not_true, Bool.false_eq_true, if_false, h200]
  split
  next h =>
    simp only [Bool.and_eq_true, Bool.or_eq_true, decide_eq_true_eq] at h
    exact htell .quiet (if_pos h.2)
  · split
    next h =>
      simp only [Bool.and_eq_true, decide_eq_true_eq] at h
      exact htell .joined (if_neg (by omega))
    next h1 h2 =>
      simp only [Bool.and_eq_true, Bool.or_eq_true, decide_eq_true_eq] at h1 h2
      have hscored : s.line.scored = s.line.state := by
        unfold LineBlock.scored
        cases hs : s.line.state <;> simp_all [LineState.live]
      rw [hscored]

theorem scored_live (l : LineBlock) : l.scored.live = true := by
  unfold LineBlock.scored
  split <;> rfl

theorem scored_ne_detached (l : LineBlock) : l.scored ≠ .detached := by
  unfold LineBlock.scored
  split <;> simp

theorem testScores_grows_of_low {κ : Keep} {s : State} (hlive : s.line.state.live = true) (htx : s.line.txScore < 200) :
    Grows κ s (testScores s) := by
  have h200 : ¬200 ≤ s.line.txScore := by omega
  have hstate (l : LineState) (hl : l ≠ .detached) : Grows κ s { s with line.state := l } :=
    ⟨rfl, fun _ => hl, List.prefix_rfl, id, fun f hf _ _ => Or.inl hf⟩
  unfold testScores
  simp only [hlive, Bool.not_true, Bool.false_eq_true, if_false, h200]
  split
  · exact (hstate .quiet (by simp)).trans (queueEvent_grows _ _ _)
  · split
    · exact (hstate .joined (by simp)).trans (queueEvent_grows _ _ _)
    · exact .refl s

/-! ### The station that has heard a frame -/

/-- The peer entry of a known station as its frame arrives. -/
def State.peersHeard (s : State) (f : Sender) : Table Peer :=
  match Tab.get s.line.peers f.station with
  | some p => Tab.set s.line.peers f.station { p with age := 0 }
  | none => s.line.peers

/-- The state in which the payload of a frame is delivered: counted good, its sender's entry fresh. -/
def greeted (f : Sender) (s : State) : State := notePeer f.station f.epoch (countGood s)

/-- The line of a station that has heard a frame. -/
def State.lineHeard (s : State) (f : Sender) : LineBlock :=
  { s.line with
    drive := .acknowledge, rxScore := s.line.rxScore - 1
    state := LineBlock.scored { s.line with drive := .acknowledge, rxScore := s.line.rxScore - 1 }
    peers := s.peersHeard f }

theorem countGood_eq {s : State} (hlive : s.line.state.live = true) (htx : s.line.txScore < 200) :
    countGood s = { s with
      events := (countGood s).events
      line := { s.line with
        drive := .acknowledge, rxScore := s.line.rxScore - 1
        state := LineBlock.scored { s.line with drive := .acknowledge, rxScore := s.line.rxScore - 1 } } } :=
  testScores_of_low (s := { s with line.drive := .acknowledge, line.rxScore := s.line.rxScore - 1 }) hlive htx

theorem countGood_grows_of_low {κ : Keep} {s : State} (hlive : s.line.state.live = true) (htx : s.line.txScore < 200) :
    Grows κ s (countGood s) :=
  Grows.trans (s := { s with line.drive := .acknowledge, line.rxScore := s.line.rxScore - 1 })
    (Grows.of_same rfl rfl rfl rfl) (testScores_grows_of_low hlive htx)

theorem notePeer_known {q epoch : Nat} {s : State} {p : Peer} (hp : Tab.get s.line.peers q = some p)
    (he : p.epoch = epoch) :
    notePeer q epoch s = { s with line.peers := Tab.set s.line.peers q { p with age := 0 } } := by
  simp only [notePeer, hp, he, if_true]

theorem greeted_eq {s : State} {f : Sender} (h : s.hears f) :
    greeted f s = { s with events := (countGood s).events, line := s.lineHeard f } := by
  obtain ⟨-, hlive, htx, -, -, p, hp, he⟩ := h
  have hcount := countGood_eq hlive htx
  have hpeer : Tab.get (countGood s).line.peers f.station = some p := by
    rw [hcount]
    exact hp
  rw [greeted, notePeer_known hpeer he, hcount]
  simp only [State.lineHeard, State.peersHeard, hp]

theorem greeted_grows {κ : Keep} {s : State} {f : Sender} (h : s.hears f) : Grows κ s (greeted f s) := by
  obtain ⟨-, hlive, htx, -, -, p, hp, he⟩ := h
  have hpeer : Tab.get (countGood s).line.peers f.station = some p := by
    rw [countGood_eq hlive htx]
    exact hp
  rw [greeted, notePeer_known hpeer he]
  exact (countGood_grows_of_low hlive htx).trans (Grows.of_same rfl rfl rfl rfl)

/-- A frame heard: its payload is delivered to the greeted station, and the step settles. -/
theorem heard_step {s : State} {f : Sender} (h : s.hears f) {p : Payload} (hp : p.ok = true) (deliver : State → State) :
    event (receivePayload f p deliver) s = settle (deliver (greeted f s)) := by
  have hself : ¬f.station = (countGood s).self := by
    have hcfg : (countGood s).self = s.self := by
      rw [countGood_eq h.2.1 h.2.2.1]
      rfl
    rw [hcfg]
    exact h.2.2.2.2.1
  obtain ⟨hrun, hlive, htx, hok, hother, -⟩ := h
  rw [event_of_running _ hrun]
  simp only [receivePayload, receive, hlive, Bool.not_true, Bool.false_eq_true, if_false, hp, if_true, hself, hok, greeted]

/-- A peer heard just now is fresh, whatever else the step does. -/
theorem freshPeer_of_peers {s t : State} {f : Sender} (h : s.hears f) (ht : t.line.peers = s.peersHeard f) :
    t.freshPeer f := by
  obtain ⟨-, -, -, -, -, p, hp, he⟩ := h
  refine ⟨{ p with age := 0 }, ?_, he, rfl⟩
  rw [ht, State.peersHeard, hp]
  exact tab_get_set_self _ _ _

/-- What the delivery of a payload leaves of a heard frame's step. -/
theorem heard_peers {w : Parts} {s u : State} {f : Sender} (h : s.hears f) (hu : SameBut w (greeted f s) u)
    (hw : w.peers = false) : (settle u).freshPeer f := by
  refine freshPeer_of_peers h ?_
  rw [settle_line_peers, same_line_peers (w := w) hu hw, greeted_eq h]
  rfl

theorem greeted_frame {w : Parts} {s : State} {f : Sender} (h : s.hears f) (h1 : w.events = true) (h2 : w.lineState = true)
    (h3 : w.peers = true) : SameBut w s (greeted f s) := by
  rw [greeted_eq h]
  simp [SameBut, State.blank, State.lineHeard, h1, h2, h3]

/-- The frame of a heard step: that of the delivery, with what hearing and settling write. -/
theorem heard_frame {w : Parts} {s u : State} {f : Sender} (h : s.hears f) (hu : SameBut w (greeted f s) u)
    (h1 : w.events = true) (h2 : w.notices = true) (h3 : w.deskShow = true) (h4 : w.mapBack = true)
    (h5 : w.lineQueue = true) (h6 : w.outbound = true) (h7 : w.routes = true) (h8 : w.lineState = true)
    (h9 : w.peers = true) : SameBut w s (settle u) :=
  (SameBut.settled hu h1 h2 h3 h4 h5 h6 h7).trans (greeted_frame h h1 h8 h9)

theorem greeted_quiet {s : State} {f : Sender} (h : s.hears f) : Quiet s (greeted f s) := by
  rw [greeted_eq h]
  exact .of_same rfl rfl rfl rfl

/-- What is told or sent in the delivery, the step of a heard frame tells or sends. -/
theorem heard_tells {s u : State} {f : Sender} (h : s.hears f) {k : EventKind} {fields : List Nat}
    (ht : (greeted f s).tells u k fields) : s.tells (settle u) k fields :=
  (greeted_grows (κ := {}) h).told ht (settle_steady u)

theorem heard_sends {κ : Keep} {s u : State} {f : Sender} (h : s.hears f) {dest : Nat} {p : Payload}
    (hs : (greeted f s).sends u dest p) (hu : Grows κ (greeted f s) u) (hk : Keep.steady.has p.key = true) :
    s.sends (settle u) dest p :=
  (greeted_grows (κ := {}) h).sent_by hu (settle_steady u) hs hk

end Sys2Proof.Machine

/-! Returns heard of and orphans (R131, R133). -/

namespace Sys2Proof.Machine

/-! ### A frame queued and an event after it -/

theorem told_after_frame (k : EventKind) (fields : List Nat) (dest : Nat) (p : Payload) (s : State)
    (hk : Keep.steady.has p.key = true) : s.tells (queueEvent k fields (enqueueFrame dest p s)) k fields
      ∧ s.sends (queueEvent k fields (enqueueFrame dest p s)) dest p := by
  have hframe : Grows { plain := false, claims := false, notices := false, presence := false } s (enqueueFrame dest p s) :=
    enqueueFrame_grows _ _ (by cases p <;> simp [Payload.key, Keep.has]) _
  refine ⟨hframe.tells_from (queueEvent_tells _ _ _), ?_⟩
  exact (Grows.refl (κ := {}) s).sent_by hframe (queueEvent_grows (κ := .steady) _ _ _) (enqueueFrame_sends _ _ _) hk

/-- An event queued after an update of other parts of the state. -/
theorem told_after_update {s u : State} (hc : u.clock = s.clock) (he : u.events = s.events) (k : EventKind)
    (fields : List Nat) : s.tells (queueEvent k fields u) k fields := by
  have h := queueEvent_tells k fields u
  simp only [State.tells, hc, he] at h
  exact h

/-! ### RETURN QUERY -/

section Query

variable {q serial minute battery : Nat} {s : State}

theorem hearReturnQuery_open {h : Hire} (hh : Tab.get s.ledger.hires serial = some h) (hopen : h.closing = none) :
    hearReturnQuery q serial minute battery s = queueEvent .peerReturn [serial, q, 0, battery]
      (enqueueFrame q (.returnAnswer serial (s.closingOf h .ret minute (some q)).answer)
        (closeHire serial .ret minute (some q) s)) := by
  obtain ⟨account, tariff, tag, deposit, start, overdue, closing⟩ := h
  subst hopen
  simp only [hearReturnQuery, hh]

theorem hearReturnQuery_lost {e : Lost} (he : s.lostEntry serial = some e)
    (hh : (Tab.get s.ledger.hires serial).all (fun h => h.closing.isSome) = true) :
    hearReturnQuery q serial minute battery s = queueEvent .peerReturn [serial, q, 1, battery]
      (enqueueFrame q (.returnAnswer serial (.recovered e.declared)) (recoverLost e s.clock.minute s)) := by
  cases hget : Tab.get s.ledger.hires serial with
  | none => simp only [hearReturnQuery, hget, he]
  | some h =>
    obtain ⟨account, tariff, tag, deposit, start, overdue, closing⟩ := h
    cases closing with
    | none => simp [hget] at hh
    | some c => simp only [hearReturnQuery, hget, he]

theorem hearReturnQuery_closing {h : Hire} {c : Closing} (he : s.lostEntry serial = none)
    (hh : Tab.get s.ledger.hires serial = some h) (hc : h.closing = some c) :
    hearReturnQuery q serial minute battery s = enqueueFrame q (.returnAnswer serial c.answer) s := by
  obtain ⟨account, tariff, tag, deposit, start, overdue, closing⟩ := h
  subst hc
  simp only [hearReturnQuery, hh, he]

theorem hearReturnQuery_unknown (he : s.lostEntry serial = none) (hh : Tab.get s.ledger.hires serial = none) :
    hearReturnQuery q serial minute battery s = enqueueFrame q (.returnAnswer serial .notOpen) s := by
  simp only [hearReturnQuery, hh, he]

/-- A RETURN QUERY touches the record of its own serial alone. -/
theorem hearReturnQuery_get_ne {j : Nat} (hj : j ≠ serial) :
    Tab.get (hearReturnQuery q serial minute battery s).ledger.hires j = Tab.get s.ledger.hires j := by
  have hrecover (e : Lost) (m : Nat) (u : State) : (recoverLost e m u).ledger.hires = u.ledger.hires :=
    same_ledger_hires (w := { events := true, lost := true, account := true }) (recoverLost_frame rfl rfl rfl e m u) rfl
  by_cases hopen : ∃ h, Tab.get s.ledger.hires serial = some h ∧ h.closing = none
  · obtain ⟨h, hh, hopen⟩ := hopen
    rw [hearReturnQuery_open hh hopen]
    simp only [queueEvent_ledger, enqueueFrame_ledger]
    exact closeHire_get_ne hh _ _ _ hj
  · have hall : (Tab.get s.ledger.hires serial).all (fun h => h.closing.isSome) = true := by
      cases hget : Tab.get s.ledger.hires serial with
      | none => rfl
      | some h =>
        cases hc : h.closing with
        | none => exact absurd ⟨h, hget, hc⟩ hopen
        | some c => simp [hc]
    cases he : s.lostEntry serial with
    | some e =>
      rw [hearReturnQuery_lost he hall]
      simp only [queueEvent_ledger, enqueueFrame_ledger, hrecover]
    | none =>
      cases hget : Tab.get s.ledger.hires serial with
      | none =>
        rw [hearReturnQuery_unknown he hget]
        simp only [enqueueFrame_ledger]
      | some h =>
        cases hc : h.closing with
        | none => exact absurd ⟨h, hget, hc⟩ hopen
        | some c =>
          rw [hearReturnQuery_closing he hget hc]
          simp only [enqueueFrame_ledger]

end Query

/-- A receiver recovered leaves the lost list. -/
theorem recoverLost_entry (e : Lost) (minute : Nat) (s : State) : (recoverLost e minute s).lostEntry e.serial = none := by
  have hlost : (recoverLost e minute s).ledger.lost = (removeLost e.serial s).ledger.lost := by
    simp only [recoverLost, settleRecovery]
    split
    · rw [enterLog_ledger]
    · split
      · rfl
      · rw [queueEvent_ledger]
  rw [State.lostEntry, hlost, List.find?_eq_none]
  intro x hx
  simpa using (List.mem_filter.mp hx).2

/-! ### Orphans -/

theorem orphan_mem {s : State} {serial : Nat} {x : Orphan} (h : s.orphan serial = some x) :
    x ∈ s.ledger.orphans ∧ x.serial = serial :=
  ⟨List.mem_of_find?_eq_some h, by simpa using List.find?_some h⟩

theorem modOrphan_orphan {s : State} {serial : Nat} {x : Orphan} (h : s.orphan serial = some x) {f : Orphan → Orphan}
    (hf : (f x).serial = serial) : (modOrphan serial f s).orphan serial = some (f x) := by
  simp only [State.orphan, modOrphan] at h ⊢
  generalize s.ledger.orphans = l at h
  induction l with
  | nil => simp at h
  | cons y rest ih =>
    simp only [List.map_cons, List.find?_cons] at h ⊢
    by_cases hy : y.serial = serial
    · simp only [hy, decide_true, Option.some.injEq] at h
      subst h
      simp [hy, hf]
    · simp only [hy, decide_false] at h
      simp only [hy, if_false, decide_false]
      exact ih h

theorem endOrphanWait_limit {o : Orphan} (h : 12 ≤ o.queries) (s : State) :
    endOrphanWait o s = queueEvent .orphanDiscarded [o.serial, o.owner, DiscardCause.limit.code]
      (removeOrphan o.serial s) := if_pos h

theorem endOrphanWait_below {o : Orphan} (h : o.queries < 12) (s : State) :
    endOrphanWait o s = modOrphan o.serial (fun o => { o with answerWait := none }) s :=
  if_neg (Nat.not_le.mpr h)

theorem settle_orphan (s : State) (serial : Nat) : (settle s).orphan serial = s.orphan serial := by
  simp only [State.orphan, settle_ledger]

/-! ### The statement -/

/-- Settles O45, each case by the equation of its operation. -/
theorem returnsAreAnswered : Obligations.ReturnsAreAnswered := by
  intro s f serial minute battery hs hserial hminute hbattery
  obtain ⟨e, l, hg⟩ : ∃ e l, greeted f s = { s with events := e, line := l } := ⟨_, _, greeted_eq hs⟩
  have hqueryOk : (Payload.returnQuery serial minute battery).ok = true := by
    simp only [Payload.ok, hserial, hminute, hbattery, decide_true, Bool.and_self]
  refine ⟨⟨_, congrArg Host.Outcome.next (heard_step hs hqueryOk _), ?_, fun h hh hopen => ?_, fun x hx hall => ?_,
    fun h c hlost hh hc => ⟨?_, ?_⟩, fun hlost hh => ⟨?_, ?_⟩, fun j hj => ?_, ?_⟩, fun o ho => ⟨_,
      congrArg Host.Outcome.next (heard_step hs (p := .returnAnswer serial o)
        (by simp only [Payload.ok, hserial, ho, decide_true, Bool.and_self]) _), ?_, fun x hx howner => ?_, fun hnot => ?_,
      ?_⟩, ?_⟩
  · exact heard_peers hs (w := { Parts.settled with slots := true, hires := true, lost := true, account := true })
      (by apply hearReturnQuery_frame <;> rfl) rfl
  · have hh' : Tab.get (greeted f s).ledger.hires serial = some h := by rw [hg]; exact hh
    have hc : (greeted f s).closingOf h .ret minute (some f.station) = s.closingOf h .ret minute (some f.station) := by
      rw [hg]
      rfl
    have hlog : (greeted f s).logOpen = s.logOpen := by rw [hg]; rfl
    have hgrow : Grows {} (greeted f s) (closeHire serial .ret minute (some f.station) (greeted f s)) :=
      closeHire_grows _ _ _ _ _
    obtain ⟨htold, hsent⟩ := told_after_frame .peerReturn [serial, f.station, 0, battery] f.station
      (.returnAnswer serial ((greeted f s).closingOf h .ret minute (some f.station)).answer)
      (closeHire serial .ret minute (some f.station) (greeted f s)) rfl
    have hself := closeHire_get_self hh' .ret minute (some f.station)
    have heq := hearReturnQuery_open (q := f.station) (minute := minute) (battery := battery) hh' hopen
    rw [heq]
    refine ⟨?_, heard_tells hs (hgrow.tells_from htold), fun hopen' => ?_, fun hopen' => ?_⟩
    · rw [← hc]
      refine heard_sends hs (hgrow.sends_from hsent) ?_ rfl (κ := {})
      rw [← heq]
      exact hearReturnQuery_grows _ _ _ _ _
    · simp only [settle_ledger, queueEvent_ledger, enqueueFrame_ledger]
      rw [hself, if_pos (by rw [hlog]; exact hopen')]
    · simp only [settle_ledger, queueEvent_ledger, enqueueFrame_ledger]
      rw [hself, if_neg (by rw [hlog, hopen']; simp), hc]
  · have hx' : (greeted f s).lostEntry serial = some x := by rw [hg]; exact hx
    have heq := hearReturnQuery_lost (q := f.station) (minute := minute) (battery := battery) hx'
      (by rw [hg]; exact hall)
    have hserialx : x.serial = serial := by simpa using List.find?_some hx
    have hgrow : Grows {} (greeted f s) (recoverLost x (greeted f s).clock.minute (greeted f s)) :=
      recoverLost_grows _ _ _
    obtain ⟨htold, hsent⟩ := told_after_frame .peerReturn [serial, f.station, 1, battery] f.station
      (.returnAnswer serial (.recovered x.declared)) (recoverLost x (greeted f s).clock.minute (greeted f s)) rfl
    rw [heq]
    refine ⟨?_, heard_tells hs (hgrow.tells_from htold), ?_⟩
    · refine heard_sends hs (hgrow.sends_from hsent) ?_ rfl (κ := {})
      rw [← heq]
      exact hearReturnQuery_grows _ _ _ _ _
    · have hentry := recoverLost_entry x (greeted f s).clock.minute (greeted f s)
      rw [hserialx] at hentry
      simp only [State.lostEntry, settle_ledger, queueEvent_ledger, enqueueFrame_ledger] at hentry ⊢
      exact hentry
  · rw [hearReturnQuery_closing (by rw [hg]; exact hlost) (by rw [hg]; exact hh) hc]
    exact heard_sends hs (enqueueFrame_sends _ _ _) (enqueueFrame_grows (κ := {}) _ _ (by simp [Payload.key]) _) rfl
  · rw [hearReturnQuery_closing (by rw [hg]; exact hlost) (by rw [hg]; exact hh) hc]
    exact heard_frame hs (enqueueFrame_frame rfl rfl _ _ _) rfl rfl rfl rfl rfl rfl rfl rfl rfl
  · rw [hearReturnQuery_unknown (by rw [hg]; exact hlost) (by rw [hg]; exact hh)]
    exact heard_sends hs (enqueueFrame_sends _ _ _) (enqueueFrame_grows (κ := {}) _ _ (by simp [Payload.key]) _) rfl
  · rw [hearReturnQuery_unknown (by rw [hg]; exact hlost) (by rw [hg]; exact hh)]
    exact heard_frame hs (enqueueFrame_frame rfl rfl _ _ _) rfl rfl rfl rfl rfl rfl rfl rfl rfl
  · rw [settle_ledger, hearReturnQuery_get_ne hj, hg]
  · exact heard_frame hs (w := { Parts.heard with slots := true, hires := true, lost := true, account := true })
      (by apply hearReturnQuery_frame <;> rfl) rfl rfl rfl rfl rfl rfl rfl rfl rfl
  · exact heard_peers hs (w := { events := true, orphans := true }) (hearReturnAnswer_frame rfl rfl _ _ _ _) rfl
  · have heq : hearReturnAnswer f.station serial o (greeted f s) =
        queueEvent .returnAnswered (serial :: answeredFields o) (removeOrphan serial (greeted f s)) := by
      have hx' : (greeted f s).orphan serial = some x := by rw [hg]; exact hx
      simp only [hearReturnAnswer, hx', howner, Option.any_some, decide_true, if_true]
    rw [heq]
    refine ⟨?_, heard_tells hs (told_after_update (by rfl) (by rfl) _ _)⟩
    rw [settle_ledger, queueEvent_ledger, hg]
    rfl
  · have heq : hearReturnAnswer f.station serial o (greeted f s) = greeted f s := by
      have hx' : (greeted f s).orphan serial = s.orphan serial := by rw [hg]; rfl
      unfold hearReturnAnswer
      rw [hx', if_neg]
      cases hx : s.orphan serial with
      | none => simp
      | some x => simpa [hx] using hnot
    rw [heq]
    exact heard_frame hs rfl rfl rfl rfl rfl rfl rfl rfl rfl rfl
  · exact heard_frame hs (w := { Parts.heard with orphans := true }) (hearReturnAnswer_frame rfl rfl _ _ _ _) rfl rfl rfl
      rfl rfl rfl rfl rfl rfl
  · refine ⟨_, congrArg Host.Outcome.next (event_of_running _ hs.1), fun x hx hwait => ⟨fun hlimit => ?_, fun hbelow => ?_⟩,
      fun hnone => ?_, ?_⟩
    · have hserialx := (orphan_mem hx).2
      simp only [expireOrphan, hx, hwait, if_true]
      rw [endOrphanWait_limit hlimit]
      refine ⟨?_, ?_⟩
      · rw [settle_ledger, queueEvent_ledger, hserialx]
        rfl
      · rw [hserialx]
        exact Grows.tells (settle_steady _) (told_after_update (by rfl) (by rfl) _ _)
    · have hserialx := (orphan_mem hx).2
      simp only [expireOrphan, hx, hwait, if_true]
      subst hserialx
      rw [endOrphanWait_below hbelow, settle_orphan]
      exact modOrphan_orphan (f := fun o => { o with answerWait := none }) hx rfl
    · have heq : expireOrphan serial s = s := by
        unfold expireOrphan
        cases hx : s.orphan serial with
        | none => rfl
        | some x =>
          have hx' : x.answerWait.isSome = false := by
            rw [hx] at hnone
            simpa using hnone
          simp [hx']
      rw [heq]
      exact settle_sameBut s
    · exact SameBut.settled (expireOrphan_frame rfl rfl serial s) rfl rfl rfl rfl rfl rfl rfl

end Sys2Proof.Machine

/-! PRESENCE, frames that are not delivered, own numbers and faults (R161 to R163, R172, R175, R176). -/

namespace Sys2Proof.Machine

/-! ### What a delivery leaves of the line -/

/-- What the delivery of some payload may write. -/
def Parts.delivered : Parts :=
  { Parts.settled with
    channels := true, zone := true, claims := true, trunks := true, booths := true, desks := true, directory := true
    exported := true, feeds := true, contexts := true, peers := true, slots := true, hires := true, lost := true
    orphans := true, account := true }

theorem hearFeedState_delivered {take : Nat → State → State} (ht : ∀ k s, SameBut Parts.delivered s (take k s))
    (q b c : Nat) (s : State) : SameBut Parts.delivered s (hearFeedState q b c take s) := by
  unfold hearFeedState
  split
  · exact ht _ s
  · exact enqueueFrame_frame rfl rfl _ _ s

theorem hearFeedAnswer_delivered (q b c : Nat) (accept : Bool) (s : State) :
    SameBut Parts.delivered s (hearFeedAnswer q b c accept s) := by
  unfold hearFeedAnswer
  repeat' split
  · exact enqueueFrame_frame rfl rfl _ _ s
  · rfl
  · apply acceptOffer_frame <;> rfl
  · apply endFeedContext_frame <;> rfl
  · rfl

theorem hearEnd_delivered (q b c : Nat) (r : EndReason) (s : State) :
    SameBut Parts.delivered s (hearEnd q b c r s) := by
  unfold hearEnd
  split
  · apply endFeedContext_frame <;> rfl
  · rfl

/-- The searches after a release of a zone station. -/
theorem searchInZone_delivered {q : Nat} {u s : State} (hu : SameBut Parts.delivered s u) :
    SameBut Parts.delivered s (if u.inZone q then searchWaiting [] u else u) := by
  split
  · refine Eq.trans ?_ hu
    apply searchWaiting_frame <;> rfl
  · exact hu

theorem hearRelease_delivered (q : Nat) (r : Resource) (s : State) :
    SameBut Parts.delivered s (hearRelease q r s) := by
  cases r with
  | subcarrier sc => apply removeClaim_frame <;> rfl
  | trunk t =>
    refine searchInZone_delivered ?_
    repeat' split
    · apply freePeerTrunk_frame <;> rfl
    all_goals rfl

theorem hearClaim_delivered (q sc c : Nat) (l : Tag) (s : State) :
    SameBut Parts.delivered s (hearClaim q sc c l s) := by
  have hstore : SameBut Parts.delivered s (storeClaim q sc c l s) := by apply storeClaim_frame <;> rfl
  unfold hearClaim
  dsimp only
  split
  · refine Eq.trans ?_ hstore
    apply testClaim_frame <;> rfl
  · exact hstore

theorem hearRelayAnswer_delivered (q c : Nat) (o : RelayOutcome) (s : State) :
    SameBut Parts.delivered s (hearRelayAnswer q c o s) := by
  cases o with
  | grant t => apply takeGrant_frame <;> rfl
  | refuse r => apply dropRelays_frame <;> rfl

theorem hearPayload_delivered (q : Nat) (p : Payload) (s : State) : SameBut Parts.delivered s (hearPayload q p s) := by
  unfold hearPayload
  split
  · apply hearOffer_frame <;> rfl
  · exact hearFeedAnswer_delivered _ _ _ _ s
  · exact hearFeedState_delivered (fun k s => by apply takeReady_frame <;> rfl) _ _ _ s
  · exact hearFeedState_delivered (fun k s => by apply takeLive_frame <;> rfl) _ _ _ s
  · exact hearFeedState_delivered (fun k s => by apply takeSilent_frame <;> rfl) _ _ _ s
  · exact hearEnd_delivered _ _ _ _ s
  · exact hearRelease_delivered _ _ s
  · exact hearClaim_delivered _ _ _ _ s
  · apply hearTrunkClaim_frame <;> rfl
  · apply requestRelay_frame <;> rfl
  · exact hearRelayAnswer_delivered _ _ _ s
  · apply leaveExport_frame <;> rfl
  · apply hearReturnQuery_frame <;> rfl
  · apply hearReturnAnswer_frame <;> rfl
  · apply enterNotice_frame <;> rfl
  · apply takeEdges_frame <;> rfl

/-! ### Frames received -/

theorem receive_heard {s : State} {f : Sender} (h : s.hears f) (kind : Nat) (deliver : State → State) :
    receive f kind deliver s = deliver (greeted f s) := by
  have hself : ¬f.station = (countGood s).self := by
    have hcfg : (countGood s).self = s.self := by
      rw [countGood_eq h.2.1 h.2.2.1]
      rfl
    rw [hcfg]
    exact h.2.2.2.2.1
  obtain ⟨-, hlive, -, hok, -⟩ := h
  simp only [receive, hlive, Bool.not_true, Bool.false_eq_true, if_false, hself, hok, greeted]

/-- A payload's command is the delivery of the payload. -/
theorem exec_payloadCommand (f : Sender) (p : Payload) (s : State) :
    exec (payloadCommand f p) s = .next (event (receivePayload f p (hearPayload f.station p)) s) := by
  cases p with
  | feedState b c x => cases x <;> rfl
  | claim r a c l => cases r <;> cases a <;> rfl
  | _ => rfl

/-- What every frame received correctly does to the line (R161, R163). -/
def State.goodAfter (s t : State) : Prop :=
  t.line.drive = .acknowledge ∧ t.line.rxScore = s.line.rxScore - 1 ∧ t.line.txScore = s.line.txScore
    ∧ t.line.state = (if 100 ≤ t.line.txScore ∨ 100 ≤ t.line.rxScore then .quiet else .joined)

theorem goodAfter_of_line {w : Parts} {s v u : State} (hv : s.goodAfter v) (hu : SameBut w v u)
    (hw : w.lineState = false) : s.goodAfter (settle u) := by
  obtain ⟨h1, h2, h3, h4⟩ := hv
  refine ⟨?_, ?_, ?_, ?_⟩
  · rw [settle_line_drive, same_line_drive (w := w) hu hw, h1]
  · rw [settle_line_rxScore, same_line_rxScore (w := w) hu hw, h2]
  · rw [settle_line_txScore, same_line_txScore (w := w) hu hw, h3]
  · rw [settle_line_state, settle_line_txScore, settle_line_rxScore, same_line_state (w := w) hu hw,
      same_line_txScore (w := w) hu hw, same_line_rxScore (w := w) hu hw, h4]

theorem greeted_good {s : State} {f : Sender} (h : s.hears f) : s.goodAfter (greeted f s) := by
  rw [greeted_eq h]
  exact ⟨rfl, rfl, rfl, rfl⟩

theorem countGood_good {s : State} (hlive : s.line.state.live = true) (htx : s.line.txScore < 200) :
    s.goodAfter (countGood s) := by
  rw [countGood_eq hlive htx]
  exact ⟨rfl, rfl, rfl, rfl⟩

theorem countGood_line_frame {w : Parts} {s : State} (hlive : s.line.state.live = true) (htx : s.line.txScore < 200)
    (h1 : w.events = true) (h2 : w.lineState = true) : SameBut w s (countGood s) := by
  rw [countGood_eq hlive htx]
  simp [SameBut, State.blank, h1, h2]

/-! ### PRESENCE -/

theorem peersHeard_get {s : State} {f : Sender} (h : s.hears f) : ∃ p, Tab.get s.line.peers f.station = some p
    ∧ p.epoch = f.epoch ∧ Tab.get (s.peersHeard f) f.station = some { p with age := 0 } := by
  obtain ⟨-, -, -, -, -, p, hp, he⟩ := h
  refine ⟨p, hp, he, ?_⟩
  rw [State.peersHeard, hp]
  exact tab_get_set_self _ _ _

/-! ### What R175 does not deliver -/

theorem payloadOf_ok {code : Nat} {l : Bits} {p : Payload} (h : payloadOf code l = some p) : p.ok = true := by
  unfold payloadOf at h
  split at h
  · simp at h
  · split at h
    next hok =>
      simp only [Bool.and_eq_true] at hok
      simp only [Option.some.injEq] at h
      rw [← h]
      exact hok.1
    · simp at h

theorem takenBy_ok {self : Nat} {f : LineFrame} {p : Payload} (h : takenBy self f = some p) : p.ok = true := by
  rw [takenBy, Option.ite_none_right_eq_some] at h
  exact payloadOf_ok h.2

theorem payloadOf_no_kind {code : Nat} (h : code = 0 ∨ 11 < code) (l : Bits) : payloadOf code l = none := by
  have hread : readPayload code l = none := by
    unfold readPayload
    split <;> first | omega | rfl
  simp [payloadOf, hread]

/-! ### The statement -/

theorem takeEdges_same {q : Nat} {edges : List (Nat × Bool)} {s : State} {p : Peer}
    (hp : Tab.get s.line.peers q = some p) (he : p.edges = edges) : takeEdges q edges s = s := by
  simp only [takeEdges, hp, he, if_true]

theorem takeEdges_changed {q : Nat} {edges : List (Nat × Bool)} {s : State} {p : Peer}
    (hp : Tab.get s.line.peers q = some p) (he : p.edges ≠ edges) : takeEdges q edges s =
      recomputeZone { s with line.peers := Tab.set s.line.peers q { p with edges := edges } } := by
  simp only [takeEdges, hp, he, if_false]

theorem takeEdges_get {q : Nat} {edges : List (Nat × Bool)} {s : State} {p : Peer}
    (hp : Tab.get s.line.peers q = some p) :
    Tab.get (takeEdges q edges s).line.peers q = some { p with edges := edges } := by
  by_cases he : p.edges = edges
  · rw [takeEdges_same hp he, hp, ← he]
  · rw [takeEdges_changed hp he, same_line_peers (w := Parts.rezoned) (recomputeZone_rezoned _) rfl]
    exact tab_get_set_self _ _ _

theorem settle_zoneNow (s : State) : (settle s).zoneNow = s.zoneNow :=
  zoneNow_congr (settle_clock _) (settle_planner_walls _) (settle_line_peers _)

/-- The frames taken as they stand. -/
theorem exec_frameForOther (f : LineFrame) (s : State) : exec (.frameForOtherStation f) s =
    .next (event (fun s => receive f.sender f.kind (deliverFrame s.self f) s) s) := rfl

theorem exec_frameForOther_heard {s : State} {f : LineFrame} (h : s.hears f.sender) :
    exec (.frameForOtherStation f) s = .next (settle (deliverFrame s.self f (greeted f.sender s))) := by
  rw [exec_frameForOther, event_of_running _ h.1, receive_heard h]

theorem exec_payloadCommand_heard {s : State} {f : Sender} (h : s.hears f) (p : Payload) :
    exec (payloadCommand f p) s =
      .next (settle ((if p.ok then hearPayload f.station p else id) (greeted f s))) := by
  rw [exec_payloadCommand, event_of_running _ h.1, receivePayload, receive_heard h]

theorem countGood_self (s : State) : (countGood s).self = s.self := by
  have hclock : (countGood s).clock = s.clock := same_clock (w := Parts.allButHall) (by apply countGood_frame <;> rfl)
  simp only [State.self, State.cfg, hclock]

/-- A frame under the own number is reported (R176). -/
theorem receive_own {s : State} {f : Sender} (h : f.station = s.self) (kind : Nat) (deliver : State → State) :
    receive f kind deliver s =
      if s.line.state.live then queueEvent .duplicateStation [kind, f.epoch] (countGood s) else s := by
  unfold receive
  cases hl : s.line.state.live
  · simp
  · simp [h, countGood_self]

/-- A frame of an impossible source is counted and no more (R172). -/
theorem receive_impossible {s : State} {f : Sender} (hlive : s.line.state.live = true) (hbad : stationOk f.station = false)
    (hother : f.station ≠ s.self) (kind : Nat) (deliver : State → State) : receive f kind deliver s = countGood s := by
  simp only [receive, hlive, Bool.not_true, Bool.false_eq_true, if_false, countGood_self, hother, hbad, Bool.not_false,
    if_true]

/-- A fault counted, before the scores are tested. -/
def faulted (s : State) : State :=
  { s with line.drive := s.faultDrive, line.rxScore := min (s.line.rxScore + 1) 255 }

/-- Settles O46: what hearing does to the line is in the greeting, and no delivery touches it. -/
theorem framesWithoutDelivery : Obligations.FramesWithoutDelivery := by
  intro s good
  have hgood {t : State} (h : s.goodAfter t) : good t := h
  refine ⟨fun f p hs => ⟨_, exec_payloadCommand_heard hs p, hgood ?_⟩, fun f edges hs hl hok => ⟨_,
    congrArg Host.Outcome.next (heard_step hs (p := .presence edges) (by simp [Payload.ok, hl, hok]) _), ?_,
    fun p hp hne => ?_, fun p hp he => ?_, ?_⟩, fun f hs => ⟨fun hnone => ⟨_, exec_frameForOther_heard hs, ?_⟩,
    fun p hp => ?_⟩, fun f => ⟨fun h => ?_, fun h h' => ?_, fun h h' => ?_, fun h => ?_, fun h => ?_⟩,
    fun hrun hlive htx => ⟨fun f hbad hother => ⟨_, (exec_frameForOther f s).trans (congrArg Host.Outcome.next
      (event_of_running _ hrun)), ?_⟩, fun kind epoch => ⟨_, congrArg Host.Outcome.next (event_of_running _ hrun), ?_⟩,
      ⟨_, congrArg Host.Outcome.next (event_of_running _ hrun), ?_⟩, fun x hx => ⟨_, congrArg Host.Outcome.next
        (event_of_running _ hrun), ?_⟩⟩⟩
  · split
    · exact goodAfter_of_line (w := Parts.delivered) (greeted_good hs) (hearPayload_delivered _ _ _) rfl
    · exact goodAfter_of_line (w := Parts.delivered) (greeted_good hs) rfl rfl
  · obtain ⟨p, -, he, hget⟩ := peersHeard_get hs
    have hpeer : Tab.get (greeted f s).line.peers f.station = some { p with age := 0 } := by
      rw [greeted_eq hs]
      exact hget
    rw [settle_line_peers, takeEdges_get hpeer, ← he]
  · obtain ⟨p', hp', -, hget⟩ := peersHeard_get hs
    obtain rfl : p' = p := Option.some.inj (hp'.symm.trans hp)
    have hpeer : Tab.get (greeted f s).line.peers f.station = some { p' with age := 0 } := by
      rw [greeted_eq hs]
      exact hget
    rw [takeEdges_changed hpeer hne, settle_planner_zone, recomputeZone_zone, settle_zoneNow, recomputeZone_zoneNow]
  · obtain ⟨p', hp', -, hget⟩ := peersHeard_get hs
    obtain rfl : p' = p := Option.some.inj (hp'.symm.trans hp)
    have hpeer : Tab.get (greeted f s).line.peers f.station = some { p' with age := 0 } := by
      rw [greeted_eq hs]
      exact hget
    rw [takeEdges_same hpeer he]
    exact heard_frame hs rfl rfl rfl rfl rfl rfl rfl rfl rfl rfl
  · exact heard_frame hs (w := { Parts.heard with channels := true, zone := true }) (by apply takeEdges_frame <;> rfl)
      rfl rfl rfl rfl rfl rfl rfl rfl rfl
  · have hid : deliverFrame s.self f = id := by
      unfold deliverFrame
      rw [hnone]
    rw [hid]
    exact ⟨heard_peers hs (w := {}) rfl rfl, hgood (goodAfter_of_line (w := {}) (greeted_good hs) rfl rfl),
      heard_frame hs rfl rfl rfl rfl rfl rfl rfl rfl rfl rfl⟩
  · have hdeliver : deliverFrame s.self f = hearPayload f.source p := by
      unfold deliverFrame
      rw [hp]
    rw [exec_frameForOther_heard hs, exec_payloadCommand_heard hs, hdeliver, takenBy_ok hp]
    rfl
  · simp [takenBy, h]
  · simp [takenBy, h, h']
  · simp [takenBy, h, h']
  · simp [takenBy, payloadOf_no_kind h]
  · rw [exec_frameForOther, show exec (.duplicateStation f.kind f.epoch) s =
      .next (event (fun s => receive ⟨s.self, f.epoch⟩ f.kind id s) s) from rfl]
    refine congrArg Host.Outcome.next ?_
    cases hrun : s.running with
    | false => rw [event_of_stopped _ hrun, event_of_stopped _ hrun]
    | true =>
      rw [event_of_running _ hrun, event_of_running _ hrun, receive_own (f := f.sender) h,
        receive_own (f := ⟨s.self, f.epoch⟩) rfl]
      rfl
  · rw [receive_impossible hlive (by exact hbad) (by exact hother)]
    exact ⟨hgood (goodAfter_of_line (w := {}) (countGood_good hlive htx) rfl rfl),
      SameBut.settled (countGood_line_frame hlive htx rfl rfl) rfl rfl rfl rfl rfl rfl rfl⟩
  · rw [receive_own rfl, if_pos hlive]
    have hgrow : Grows {} s (countGood s) := countGood_grows_of_low hlive htx
    refine ⟨Grows.told hgrow (queueEvent_tells _ _ _) (settle_steady _),
      hgood (goodAfter_of_line (w := { events := true }) (countGood_good hlive htx) (queueEvent_frame rfl _ _ _) rfl), ?_⟩
    exact SameBut.settled ((queueEvent_frame rfl _ _ _).trans (countGood_line_frame hlive htx rfl rfl)) rfl rfl rfl rfl rfl
      rfl rfl
  · have hnothing : receiveFaulty .otherMark s = s := by simp [receiveFaulty]
    rw [hnothing]
    exact settle_sameBut s
  · have hfaulty : receiveFaulty x s = testScores (faulted s) := by simp [receiveFaulty, hlive, hx, faulted]
    have heq := testScores_of_low (s := faulted s) hlive htx
    rw [hfaulty, settle_line_rxScore, settle_line_txScore, settle_line_drive, settle_line_state, heq]
    refine ⟨rfl, rfl, rfl, rfl, SameBut.settled ?_ rfl rfl rfl rfl rfl rfl rfl⟩
    simp [SameBut, State.blank, faulted, Parts.settled]

end Sys2Proof.Machine

/-! Relays and their source (R60, R62 to R64). -/

namespace Sys2Proof.Machine

/-! ### Routes as a step settles -/

theorem refreshDesk_route (d o : Nat) (s : State) : (refreshDesk d s).route o = s.route o := by
  have hshow (f : Desk → Desk) (b : Body) (u : State) : (queueMessage b .plain (modDesk d f u)).route o = u.route o :=
    queueMessage_route _ _ _ _
  unfold refreshDesk
  split
  · rfl
  · dsimp only
    split
    · split
      · rfl
      · exact hshow _ _ _
    · split
      · exact hshow _ _ _
      · exact (hshow _ _ _).trans (hshow _ _ _)

/-- Settling moves the route of channel 0's bus alone (R110). -/
theorem settle_route {o : Nat} (h : o ≠ busOutput 0) (s : State) : (settle s).route o = s.route o := by
  have hdesks (l : List Nat) (u : State) : (forEach l refreshDesk u).route o = u.route o := by
    unfold forEach
    induction l generalizing u with
    | nil => rfl
    | cons d rest ih => exact (ih _).trans (refreshDesk_route d o u)
  have hpanel : (settle s).panel = (refreshDesks (routeFloor s)).panel := by
    rw [settle, syncMask_panel, rebuildMap, announce_panel]
  calc (settle s).route o = (refreshDesks (routeFloor s)).route o := route_congr (by rw [hpanel]) o
    _ = (routeFloor s).route o := hdesks _ _
    _ = s.route o := setRoute_route_ne h _ _

theorem inputOutput_ne_floor (b : Nat) : inputOutput b ≠ busOutput 0 := by simp [inputOutput, busOutput]

theorem inputOutput_inj {b j : Nat} (h : j ≠ b) : inputOutput j ≠ inputOutput b := by
  simp only [inputOutput]
  omega

/-- The booth records and the dropped relays of a state outlast its settling. -/
theorem settle_boothRec (s : State) (b : Nat) : (settle s).boothRec b = s.boothRec b := by
  simp only [State.boothRec, settle_booth_booths]

theorem settle_relayDropped {s : State} {b : Nat} (h : s.relayDropped b) : (settle s).relayDropped b :=
  (settle_quiet s).toCalm.relayDropped h

/-! ### A relay dropped is told, and its source released -/

theorem dropRelay_reports {b q c : Nat} {s : State} {bo : Booth} (hb : s.boothRec b = some bo)
    (hin : bo.input = .remote q c) (cause : LostCause) :
    s.tells (dropRelay cause b s) .relayLost [b, q, c, cause.code]
      ∧ (cause.releases = true → s.sends (dropRelay cause b s) q (.relayRelease c b)) := by
  have hkey : s.sourceKey bo.input = some (q, c) := by rw [hin]; rfl
  simp only [dropRelay, hb, hkey]
  generalize hu : setRoute (inputOutput b) .floor (modBooth b
    (fun bo => { bo with input := .floor, relay := .lost, sourceTrunk := none, answerWait := none }) s) = u
  have hgrow : Grows {} s u := by
    rw [← hu]
    exact (modBooth_grows _ _ _).trans (setRoute_grows _ _ _)
  have htold := hgrow.tells_from (queueEvent_tells .relayLost [b, q, c, cause.code] u)
  have hlost : Grows {} s (queueEvent .relayLost [b, q, c, cause.code] u) := hgrow.trans (queueEvent_grows _ _ _)
  split
  · simp only [sendRelayRelease, hin]
    exact ⟨(enqueueFrame_grows (κ := {}) _ _ (by simp [Payload.key]) _).tells htold,
      fun _ => hlost.sends_from (enqueueFrame_sends _ _ _)⟩
  next hnot => exact ⟨htold, fun h => absurd h hnot⟩

/-! ### GRANT -/

/-- A booth's record as a GRANT reaches it, with the source of its input. -/
def granted (t : Nat) (x : Booth × Source) : Booth × Source :=
  if x.1.relay = .relayed && x.1.sourceTrunk = some t then x
  else ({ x.1 with relay := .relayed, sourceTrunk := some t, answerWait := none }, .trunk t)

theorem granted_twice (t : Nat) (x : Booth × Source) : granted t (granted t x) = granted t x := by
  by_cases h : (x.1.relay = .relayed && x.1.sourceTrunk = some t) = true
  · simp only [granted, h, if_true]
  · rw [granted, if_pos]
    simp [granted, h]

/-- A booth's record with the source of its input. -/
def State.boothRouted (s : State) (b : Nat) : Option (Booth × Source) :=
  (s.boothRec b).map fun bo => (bo, s.route (inputOutput b))

theorem grantBooth_self (t b : Nat) (s : State) : (grantBooth t b s).boothRouted b = (s.boothRouted b).map (granted t) := by
  unfold State.boothRouted
  cases hb : s.boothRec b with
  | none => simp [grantBooth, hb]
  | some bo =>
    simp only [grantBooth, hb]
    split
    next h => simp [hb, granted, h]
    next h =>
      rw [setRoute_route_self]
      simp only [State.boothRec, setRoute_booth]
      rw [show Tab.get (modBooth b _ s).booth.booths b = _ from modBooth_boothRec_self b _ s, hb]
      simp [granted, h]

theorem grantBooth_ne {t b j : Nat} (h : b ≠ j) (s : State) : (grantBooth t b s).boothRouted j = s.boothRouted j := by
  unfold State.boothRouted grantBooth
  repeat' split
  · rfl
  · rfl
  · rw [setRoute_route_ne (inputOutput_inj h.symm)]
    simp only [State.boothRec, setRoute_booth]
    rw [show Tab.get (modBooth b _ s).booth.booths j = _ from modBooth_boothRec_ne h.symm _ s]
    rfl

theorem grantBooths_at (t b : Nat) (l : List Nat) (s : State) : (forEach l (grantBooth t) s).boothRouted b =
    if b ∈ l then (s.boothRouted b).map (granted t) else s.boothRouted b :=
  forEach_at (P := fun _ => True) (view := fun u => u.boothRouted b) (g := granted t) (fun _ _ _ => trivial)
    (fun _ u _ h => grantBooth_ne h u) (fun u _ => grantBooth_self t b u) (granted_twice t) l s trivial

/-- A trunk open to a station is free or that station's. -/
theorem trunkOpenTo_iff {s : State} {q t : Nat} :
    s.trunkOpenTo q t = true ↔ s.trunk t = none ∨ ∃ age, s.trunk t = some (.peer q age) := by
  unfold State.trunkOpenTo
  cases h : s.trunk t with
  | none => simp
  | some e => cases e <;> simp

theorem adoptTrunk_holds {s : State} {q t : Nat} (h : s.trunkOpenTo q t = true) :
    ∃ age, (adoptTrunk q t s).trunk t = some (.peer q age) := by
  unfold adoptTrunk
  rcases trunkOpenTo_iff.mp h with h | ⟨age, h⟩
  · rw [h]
    exact ⟨0, tab_get_set_self _ _ _⟩
  · rw [h]
    exact ⟨age, h⟩

theorem adoptTrunk_rest (q t : Nat) (s : State) : ∃ trunks, adoptTrunk q t s = { s with planner.trunks := trunks } := by
  unfold adoptTrunk
  split
  · exact ⟨_, rfl⟩
  · exact ⟨s.planner.trunks, rfl⟩

theorem takeGrant_closed {q c t : Nat} {s : State} (h : s.trunkOpenTo q t = false) : takeGrant q c t s = s := by
  simp [takeGrant, h]

theorem listeners_adoptTrunk (q t : Nat) (src : Selection) (s : State) :
    (adoptTrunk q t s).listeners src = s.listeners src := by
  obtain ⟨trunks, h⟩ := adoptTrunk_rest q t s
  rw [h]
  rfl

theorem takeGrant_unnamed {q c t : Nat} {s : State} (h : s.trunkOpenTo q t = true)
    (hl : s.listeners (.remote q c) = []) :
    takeGrant q c t s = enqueueFrame q (.relayRelease c 0) (adoptTrunk q t s) := by
  simp only [takeGrant, h, Bool.not_true, Bool.false_eq_true, if_false, listeners_adoptTrunk, hl]

theorem takeGrant_named {q c t : Nat} {s : State} (h : s.trunkOpenTo q t = true)
    (hl : s.listeners (.remote q c) ≠ []) :
    takeGrant q c t s = forEach (s.listeners (.remote q c)) (grantBooth t) (adoptTrunk q t s) := by
  simp only [takeGrant, h, Bool.not_true, Bool.false_eq_true, if_false, listeners_adoptTrunk]

/-- What the booths told of a GRANT may move. -/
def Parts.granting : Parts := { events := true, booths := true, lineQueue := true, outbound := true, routes := true }

theorem takeGrant_trunk {q c t : Nat} {s : State} (h : s.trunkOpenTo q t = true) :
    ∃ age, (takeGrant q c t s).trunk t = some (.peer q age) := by
  obtain ⟨age, hage⟩ := adoptTrunk_holds h
  refine ⟨age, ?_⟩
  have hkept {u : State} (hu : SameBut Parts.granting (adoptTrunk q t s) u) : u.trunk t = some (.peer q age) := by
    rw [← hage, State.trunk, State.trunk, same_planner_trunks (w := Parts.granting) hu rfl]
  by_cases hl : s.listeners (.remote q c) = []
  · rw [takeGrant_unnamed h hl]
    exact hkept (enqueueFrame_frame rfl rfl _ _ _)
  · rw [takeGrant_named h hl]
    exact hkept (forEach_frame _ _ (fun b u => grantBooth_frame rfl rfl rfl t b u) _)

theorem takeGrant_booth {q c t b : Nat} {s : State} {bo : Booth} (h : s.trunkOpenTo q t = true)
    (hb : s.boothRec b = some bo) (hin : bo.input = .remote q c) (hwait : bo.relay = .waiting) :
    (takeGrant q c t s).boothRouted b =
      some ({ bo with relay := .relayed, sourceTrunk := some t, answerWait := none }, .trunk t) := by
  have hmem : b ∈ s.listeners (.remote q c) := hin ▸ mem_listeners hb
  have hadopted : (adoptTrunk q t s).boothRouted b = some (bo, s.route (inputOutput b)) := by
    obtain ⟨trunks, hu⟩ := adoptTrunk_rest q t s
    rw [hu, State.boothRouted, show State.boothRec { s with planner.trunks := trunks } b = some bo from hb]
    rfl
  rw [takeGrant_named h (List.ne_nil_of_mem hmem), grantBooths_at, if_pos hmem, hadopted, Option.map_some]
  simp [granted, hwait]

/-! ### The remote channel directory -/

theorem dropRelays_relay (cause : LostCause) (l : List Nat) (s : State) : (dropRelays cause l s).relay = s.relay :=
  same_relay (w := { Parts.settled with channels := true, booths := true, feeds := true })
    (by apply dropRelays_frame <;> rfl) rfl rfl

theorem followChanges_relay (n : Nat) (l : List Selection) (s : State) : (followChanges n l s).relay = s.relay :=
  same_relay (w := { Parts.settled with channels := true, booths := true, feeds := true })
    (by apply followChanges_frame <;> rfl) rfl rfl

theorem remote_congr {s t : State} (h : t.relay = s.relay) (q c : Nat) : t.remote q c = s.remote q c := by
  simp only [State.remote, h]

/-- The entry of a remote channel replaced. -/
theorem find_replaced {l : List DirEntry} {q c : Nat} {old new : DirEntry} (hnew : new.isFor q c = true)
    (h : l.find? (DirEntry.isFor q c) = some old) :
    (l.map fun e => if e.isFor q c then new else e).find? (DirEntry.isFor q c) = some new := by
  induction l with
  | nil => simp at h
  | cons e rest ih =>
    simp only [List.map_cons, List.find?_cons] at h ⊢
    by_cases he : e.isFor q c = true
    · simp [he, hnew]
    · simp only [he] at h ⊢
      simpa [he] using ih h

theorem remote_eq_find (s : State) (q c : Nat) : s.remote q c = s.relay.directory.find? (DirEntry.isFor q c) := rfl

section Notice

variable {q c : Nat} {l : Tag} {st : NoticeState} {k : Option Nat} {p : Pedigree} {s : State}

/-- The entry a notice makes. -/
def noticeEntry (q c : Nat) (l : Tag) (st : NoticeState) (k : Option Nat) (p : Pedigree) : DirEntry :=
  ⟨q, c, l, p, st, k, 0⟩

/-- The directory with a notice's entry in the place of the old one. -/
def noticeReplaced (q c : Nat) (l : Tag) (st : NoticeState) (k : Option Nat) (p : Pedigree) (s : State) : State :=
  { s with relay.directory := s.relay.directory.map fun e => if e.isFor q c then noticeEntry q c l st k p else e }

/-- A notice of a known channel, up to the drops of a CLOSED one. -/
def noticeFollowed (q c : Nat) (l : Tag) (st : NoticeState) (k : Option Nat) (p : Pedigree) (old : DirEntry)
    (s : State) : State :=
  if old.pedigree = p then noticeReplaced q c l st k p s
  else followChanges changeBound [.remote q c] (noticeReplaced q c l st k p s)

theorem enterNotice_known {old : DirEntry} (h : s.remote q c = some old) : enterNotice q c l st k p s =
    if st = .closed then
      dropRelays .closed ((noticeFollowed q c l st k p old s).listeners (.remote q c)) (noticeFollowed q c l st k p old s)
    else noticeFollowed q c l st k p old s := by
  simp only [enterNotice, h]
  rfl

theorem enterNotice_closed (h : s.remote q c = none) (hst : st = .closed) : enterNotice q c l st k p s = s := by
  simp only [enterNotice, h, hst, if_true]

theorem enterNotice_added (h : s.remote q c = none) (hst : st ≠ .closed) (hroom : s.relay.directory.length < 128) :
    enterNotice q c l st k p s = { s with relay.directory := s.relay.directory ++ [noticeEntry q c l st k p] } := by
  have hcap : s.relay.directory.length < Config.directoryCapacity := hroom
  simp only [enterNotice, h, hst, if_false, hcap, if_true]
  rfl

theorem noticeFollowed_remote {old : DirEntry} (h : s.remote q c = some old) :
    (noticeFollowed q c l st k p old s).remote q c = some (noticeEntry q c l st k p) := by
  have hreplaced : (noticeReplaced q c l st k p s).remote q c = some (noticeEntry q c l st k p) :=
    find_replaced (by simp [noticeEntry, DirEntry.isFor]) h
  unfold noticeFollowed
  split
  · exact hreplaced
  · rw [remote_congr (followChanges_relay _ _ _), hreplaced]

theorem enterNotice_remote (h : (s.remote q c).isSome = true ∨ st ≠ .closed ∧ s.relay.directory.length < 128) :
    (enterNotice q c l st k p s).remote q c = some (noticeEntry q c l st k p) := by
  cases hold : s.remote q c with
  | some old =>
    rw [enterNotice_known hold]
    split
    · rw [remote_congr (dropRelays_relay _ _ _), noticeFollowed_remote hold]
    · exact noticeFollowed_remote hold
  | none =>
    obtain ⟨hst, hroom⟩ : st ≠ .closed ∧ s.relay.directory.length < 128 := by simpa [hold] using h
    rw [enterNotice_added hold hst hroom, remote_eq_find]
    rw [remote_eq_find] at hold
    simp [List.find?_append, hold, noticeEntry, DirEntry.isFor]

theorem noticeFollowed_quiet (old : DirEntry) : Quiet s (noticeFollowed q c l st k p old s) := by
  have hreplaced : Quiet s (noticeReplaced q c l st k p s) := .of_same rfl rfl rfl rfl
  unfold noticeFollowed
  split
  · exact hreplaced
  · exact hreplaced.trans (followChanges_quiet _ _ _)

/-- A relay through a channel that closes is dropped, by the change of pedigree or as CLOSED. -/
theorem enterNotice_drops (h : (s.remote q c).isSome = true) (hst : st = .closed) {b : Nat} {bo : Booth}
    (hb : s.boothRec b = some bo) (hin : bo.input = .remote q c) : (enterNotice q c l st k p s).relayDropped b := by
  obtain ⟨old, hold⟩ := Option.isSome_iff_exists.mp h
  rw [enterNotice_known hold, if_pos hst]
  obtain ⟨bo', hb', hpart⟩ := (noticeFollowed_quiet (l := l) (st := st) (k := k) (p := p) old).relay b bo hb
  rcases hpart with hpart | hpart
  · exact dropListeners_drops hb' ((congrArg BoothRelay.input hpart).trans hin) _
  · exact (dropRelays_quiet _ _ _).toCalm.relayDropped (relayDropped_iff.mpr ⟨bo', hb', hpart.2⟩)

theorem enterNotice_same_pedigree (h : (s.remote q c).map DirEntry.pedigree = some p) (hst : st ≠ .closed) :
    enterNotice q c l st k p s = noticeReplaced q c l st k p s := by
  obtain ⟨old, hold, hp⟩ := Option.map_eq_some_iff.mp h
  rw [enterNotice_known hold, if_neg hst, noticeFollowed, if_pos hp]

end Notice

theorem expireEntry_remote (q c : Nat) (s : State) : (expireEntry q c s).remote q c = none := by
  unfold expireEntry
  split
  next h => simpa using h
  · rw [remote_congr (dropRelays_relay _ _ _), remote_eq_find, List.find?_eq_none]
    intro e he
    simpa using (List.mem_filter.mp he).2

theorem expireEntry_drops {q c b : Nat} {s : State} {bo : Booth} (h : (s.remote q c).isSome = true)
    (hb : s.boothRec b = some bo) (hin : bo.input = .remote q c) : (expireEntry q c s).relayDropped b := by
  unfold expireEntry
  rw [if_neg (by simpa using Option.ne_none_iff_isSome.mpr h)]
  exact dropRelays_drops (hin ▸ mem_listeners hb) _ hb hin

theorem expireEntry_unknown {q c : Nat} {s : State} (h : s.remote q c = none) : expireEntry q c s = s := by
  simp [expireEntry, h]

end Sys2Proof.Machine

/-! Relays follow answers, notices and expiries of their source (R60, R62 to R64). -/

namespace Sys2Proof.Machine

/-- The wait of a booth's relay that runs out. -/
def relayWaited (b : Nat) (s : State) : State :=
  if (s.boothRec b).any fun bo => bo.answerWait.isSome then dropRelays .timeout [b] s else s

theorem dropRelays_one {b q c : Nat} {s : State} {bo : Booth} (hb : s.boothRec b = some bo)
    (hin : bo.input = .remote q c) (cause : LostCause) :
    (dropRelays cause [b] s).relayDropped b
      ∧ s.tells (dropRelays cause [b] s) .relayLost [b, q, c, cause.code]
      ∧ (cause.releases = true → s.sends (dropRelays cause [b] s) q (.relayRelease c b)) := by
  obtain ⟨htold, hsent⟩ := dropRelay_reports hb hin cause
  have hafter : Grows .steady (dropRelay cause b s) (dropRelays cause [b] s) := recomputeBooths_grows rfl _ _
  have hfirst : Grows .steady s (dropRelay cause b s) := dropRelay_grows _ _ _
  exact ⟨dropRelays_drops (List.mem_singleton_self b) cause hb hin, hafter.tells htold,
    fun h => (Grows.refl (κ := {}) s).sent_by hfirst hafter (hsent h) rfl⟩

/-- Settles O42: the greeting names the same booths and directory, and each row runs one operation on it. -/
theorem relaysFollowTheirSource : Obligations.RelaysFollowTheirSource := by
  intro s f c tr hs hc h1 h12 dropped lists
  have htrunk : trunkOk tr = true := (trunkOk_iff tr).mpr ⟨h1, h12⟩
  have hdrop {v u : State} {q : Nat} (hv : v.booth = s.booth) (hu : ∀ b bo, v.boothRec b = some bo →
      bo.input = .remote q c → u.relayDropped b) : dropped (settle u) q := fun b bo hb hin =>
    settle_relayDropped (hu b bo (by rw [State.boothRec, hv]; exact hb) hin)
  have hgb : (greeted f s).booth = s.booth := by rw [greeted_eq hs]
  have hgr : (greeted f s).relay = s.relay := by rw [greeted_eq hs]
  refine ⟨⟨_, congrArg Host.Outcome.next (heard_step hs (p := .relayAnswer c (.grant tr)) ?_ _), ?_, fun hclosed => ?_,
    fun hopen => ⟨?_, fun b bo hb hin hwait => ?_, fun hnone => ?_⟩, ?_⟩,
    fun r => ⟨_, congrArg Host.Outcome.next (heard_step hs (p := .relayAnswer c (.refuse r)) ?_ _), ?_, ?_, ?_⟩,
    fun l st k p hl hp hk => ⟨_, congrArg Host.Outcome.next (heard_step hs (p := .channelNotice c l st k p) ?_ _), ?_,
      fun h => ?_, fun hnone hst => ?_, fun hsome hst => ?_, fun hsame hst => ?_, ?_⟩,
    fun q => ⟨_, congrArg Host.Outcome.next (event_of_running _ hs.1), ?_, fun hsome => ?_, fun hnone => ?_, ?_⟩,
    fun b bo hb => ⟨_, congrArg Host.Outcome.next (event_of_running _ hs.1), fun hnone => ?_, fun q hwait hin => ?_, ?_⟩⟩
  · simp [Payload.ok, RelayOutcome.ok, hc, htrunk]
  · exact heard_peers hs (w := { Parts.granting with trunks := true }) (by apply takeGrant_frame <;> rfl) rfl
  · have hsame : hearRelayAnswer f.station c (.grant tr) (greeted f s) = greeted f s :=
      takeGrant_closed (by rw [greeted_eq hs]; exact hclosed)
    rw [hsame]
    exact heard_frame hs rfl rfl rfl rfl rfl rfl rfl rfl rfl rfl
  · obtain ⟨age, hage⟩ := takeGrant_trunk (c := c) (s := greeted f s) (q := f.station) (t := tr)
      (by rw [greeted_eq hs]; exact hopen)
    refine ⟨age, ?_⟩
    rw [State.trunk, settle_planner_trunks]
    exact hage
  · have hrouted := takeGrant_booth (c := c) (s := greeted f s) (t := tr) (b := b) (by rw [greeted_eq hs]; exact hopen)
      (by rw [State.boothRec, hgb]; exact hb) hin hwait
    obtain ⟨bo', hb', heq⟩ := Option.map_eq_some_iff.mp hrouted
    obtain ⟨rfl, hroute⟩ := Prod.mk.inj heq
    refine ⟨?_, ?_⟩
    · rw [settle_boothRec]
      exact hb'
    · rw [settle_route (inputOutput_ne_floor b)]
      exact hroute
  · have heq : hearRelayAnswer f.station c (.grant tr) (greeted f s) =
        enqueueFrame f.station (.relayRelease c 0) (adoptTrunk f.station tr (greeted f s)) :=
      takeGrant_unnamed (by rw [greeted_eq hs]; exact hopen) (by rw [State.listeners, hgb]; exact hnone)
    have hadopt : Grows {} (greeted f s) (adoptTrunk f.station tr (greeted f s)) := adoptTrunk_grows _ _ _
    rw [heq]
    exact heard_sends hs (hadopt.sends_from (enqueueFrame_sends _ _ _))
      (hadopt.trans (enqueueFrame_grows _ _ (by simp [Payload.key]) _)) rfl
  · exact heard_frame hs (w := { Parts.heard with trunks := true, booths := true }) (by apply takeGrant_frame <;> rfl)
      rfl rfl rfl rfl rfl rfl rfl rfl rfl
  · simp [Payload.ok, RelayOutcome.ok, hc]
  · exact heard_peers hs (w := lists) (by apply dropRelays_frame <;> rfl) rfl
  · exact hdrop hgb fun b bo hb hin => dropListeners_drops hb hin _
  · exact heard_frame hs (w := { Parts.heard with channels := true, booths := true, feeds := true })
      (by apply dropRelays_frame <;> rfl) rfl rfl rfl rfl rfl rfl rfl rfl rfl
  · simp only [Payload.ok, hc, hl, hk, hp, decide_true, Bool.and_self]
  · exact heard_peers hs (w := { lists with directory := true }) (by apply enterNotice_frame <;> rfl) rfl
  · rw [remote_congr (settle_relay _)]
    exact enterNotice_remote (by rw [State.remote, hgr]; exact h)
  · rw [enterNotice_closed (by rw [State.remote, hgr]; exact hnone) hst]
    exact heard_frame hs rfl rfl rfl rfl rfl rfl rfl rfl rfl rfl
  · exact hdrop hgb fun b bo hb hin => enterNotice_drops (by rw [State.remote, hgr]; exact hsome) hst hb hin
  · rw [enterNotice_same_pedigree (by rw [State.remote, hgr]; exact hsame) hst]
    exact heard_frame hs (w := { Parts.heard with directory := true }) rfl rfl rfl rfl rfl rfl rfl rfl rfl rfl
  · exact heard_frame hs
      (w := { Parts.heard with channels := true, booths := true, directory := true, feeds := true })
      (by apply enterNotice_frame <;> rfl) rfl rfl rfl rfl rfl rfl rfl rfl rfl
  · rw [remote_congr (settle_relay _)]
    exact expireEntry_remote q c s
  · exact hdrop rfl fun b bo hb hin => expireEntry_drops hsome hb hin
  · rw [expireEntry_unknown hnone]
    exact settle_sameBut s
  · exact SameBut.settled (w := { lists with directory := true }) (by apply expireEntry_frame <;> rfl) rfl rfl rfl rfl rfl
      rfl rfl
  · have hsame : relayWaited b s = s := by simp [relayWaited, hb, hnone]
    change SameBut Parts.settled s (settle (relayWaited b s))
    rw [hsame]
    exact settle_sameBut s
  · have heq : relayWaited b s = dropRelays .timeout [b] s := by simp [relayWaited, hb, hwait]
    obtain ⟨hdropped, htold, hsent⟩ := dropRelays_one hb hin .timeout
    change (settle (relayWaited b s)).relayDropped b ∧ s.tells (settle (relayWaited b s)) _ _
      ∧ s.sends (settle (relayWaited b s)) q (.relayRelease c b)
    rw [heq]
    refine ⟨settle_relayDropped hdropped, (settle_steady _).tells htold, ?_⟩
    exact (Grows.refl (κ := {}) s).sent_by (κ' := .steady)
      ((forEach_grows _ (dropRelay_grows _) _).trans (recomputeBooths_grows rfl _ _)) (settle_steady _) (hsent rfl) rfl
  · have hframe : SameBut lists s (relayWaited b s) := by
      unfold relayWaited
      split
      · apply dropRelays_frame <;> rfl
      · rfl
    exact SameBut.settled hframe rfl rfl rfl rfl rfl rfl rfl

end Sys2Proof.Machine

/-! Exports follow the requests and releases of peers (R66, R67). -/

namespace Sys2Proof.Machine

/-! ### Trunk claims -/

theorem trunk_congr {s t : State} (h : t.planner.trunks = s.planner.trunks) (n : Nat) : t.trunk n = s.trunk n := by
  simp only [State.trunk, h]

theorem sendTrunkClaim_planner (t : Nat) (a : ClaimAction) (u : TrunkUser) (s : State) :
    (sendTrunkClaim t a u s).planner = s.planner := enqueueFrame_planner _ _ _

theorem sendTrunkClaim_sends (t : Nat) (a : ClaimAction) (u : TrunkUser) (s : State) :
    s.sends (sendTrunkClaim t a u s) 0 (.claim (.trunk t) a (s.trunkLabel u).1 (s.trunkLabel u).2) :=
  enqueueFrame_sends _ _ _

theorem takeTrunk_trunk_self (t : Nat) (u : TrunkUser) (s : State) :
    (takeTrunk t u s).trunk t = some (.own .window false u (some 600) none) := by
  rw [takeTrunk, trunk_congr (congrArg PlannerBlock.trunks (sendTrunkClaim_planner _ _ _ _))]
  exact tab_get_set_self _ _ _

theorem takeTrunk_trunk_ne {t j : Nat} (h : j ≠ t) (u : TrunkUser) (s : State) :
    (takeTrunk t u s).trunk j = s.trunk j := by
  rw [takeTrunk, trunk_congr (congrArg PlannerBlock.trunks (sendTrunkClaim_planner _ _ _ _))]
  exact tab_get_set_ne _ _ _ _ h

/-- The label of a user is in the channels and the feed contexts. -/
theorem trunkLabel_congr {s t : State} (hc : t.planner.channels = s.planner.channels)
    (hf : t.feed.contexts = s.feed.contexts) (u : TrunkUser) : t.trunkLabel u = s.trunkLabel u := by
  cases u <;> simp only [State.trunkLabel, hc, hf]

theorem takeTrunk_sends (t : Nat) (u : TrunkUser) (s : State) :
    s.sends (takeTrunk t u s) 0 (.claim (.trunk t) .claim (s.trunkLabel u).1 (s.trunkLabel u).2) := by
  have h := sendTrunkClaim_sends t .claim u (setTrunk t (.own .window false u (some Config.claimWindowMs) none) s)
  rw [show (setTrunk t (.own .window false u (some Config.claimWindowMs) none) s).trunkLabel u = s.trunkLabel u from
    trunkLabel_congr rfl rfl u] at h
  exact Grows.sends_from (κ := {}) (setTrunk_grows _ _ s) h

theorem giveUpTrunk_trunk_self (t : Nat) (u : TrunkUser) (s : State) : (giveUpTrunk t u s).trunk t = none := by
  rw [giveUpTrunk, trunk_congr (congrArg PlannerBlock.trunks (sendTrunkClaim_planner _ _ _ _))]
  exact tab_get_erase_self _ _

theorem giveUpTrunk_trunk_ne {t j : Nat} (h : j ≠ t) (u : TrunkUser) (s : State) :
    (giveUpTrunk t u s).trunk j = s.trunk j := by
  rw [giveUpTrunk, trunk_congr (congrArg PlannerBlock.trunks (sendTrunkClaim_planner _ _ _ _))]
  refine (tab_get_erase_ne _ _ _ h).trans ?_
  rw [setRoute_planner]
  rfl

/-- A trunk given up, before its RELEASE. -/
def trunkFreed (t : Nat) (s : State) : State :=
  { setRoute (sendOutput t) .none s with planner.trunks := Tab.erase s.planner.trunks t }

theorem giveUpTrunk_eq (t : Nat) (u : TrunkUser) (s : State) :
    giveUpTrunk t u s = sendTrunkClaim t .release u (trunkFreed t s) := by
  simp only [giveUpTrunk, trunkFreed, setRoute_planner]

theorem trunkFreed_grows {κ : Keep} (t : Nat) (s : State) : Grows κ s (trunkFreed t s) :=
  (setRoute_grows (sendOutput t) .none s).trans (Grows.of_same rfl rfl rfl rfl)

theorem giveUpTrunk_sends (t : Nat) (u : TrunkUser) (s : State) :
    s.sends (giveUpTrunk t u s) 0 (.claim (.trunk t) .release (s.trunkLabel u).1 (s.trunkLabel u).2) := by
  have hlabel : (trunkFreed t s).trunkLabel u = s.trunkLabel u :=
    trunkLabel_congr (congrArg PlannerBlock.channels (setRoute_planner _ _ _))
      (congrArg FeedBlock.contexts (setRoute_feed _ _ _)) u
  have h := sendTrunkClaim_sends t .release u (trunkFreed t s)
  rw [hlabel] at h
  rw [giveUpTrunk_eq]
  exact (trunkFreed_grows (κ := {}) t s).sends_from h

/-! ### Requests -/

section Request

variable {q c b : Nat} {s : State}

theorem requestRelay_closed (h : s.channel c = none) :
    requestRelay q c b s = enqueueFrame q (.relayAnswer c (.refuse .closed)) s := by
  simp only [requestRelay, h]

theorem requestRelay_noTrunk {ch : Channel} (h : s.channel c = some ch) (he : Tab.get s.relay.exported c = none)
    (ht : s.freeTrunk = none) : requestRelay q c b s = enqueueFrame q (.relayAnswer c (.refuse .noTrunk)) s := by
  simp only [requestRelay, h, he, ht]

theorem requestRelay_first {ch : Channel} {t : Nat} (h : s.channel c = some ch)
    (he : Tab.get s.relay.exported c = none) (ht : s.freeTrunk = some t) :
    requestRelay q c b s = { takeTrunk t (.exported c) s with
      relay.exported := Tab.set (takeTrunk t (.exported c) s).relay.exported c ⟨t, [⟨q, [b]⟩]⟩ } := by
  simp only [requestRelay, h, he, ht]
  rfl

/-- A later request: its booth joins the listener set. -/
def joined (q c b : Nat) (e : ExportRecord) (s : State) : State :=
  { s with relay.exported := Tab.set s.relay.exported c { e with listeners := addListener q b e.listeners } }

theorem joined_exportTrunk {e : ExportRecord} (he : Tab.get s.relay.exported c = some e) :
    (joined q c b e s).exportTrunk c = s.exportTrunk c := by
  simp only [State.exportTrunk, joined, tab_get_set_self, he]

theorem requestRelay_waiting {ch : Channel} {e : ExportRecord} (h : s.channel c = some ch)
    (he : Tab.get s.relay.exported c = some e) (ht : s.exportTrunk c = none) :
    requestRelay q c b s = joined q c b e s := by
  have ht' := (joined_exportTrunk (q := q) (b := b) he).trans ht
  unfold joined at ht'
  simp only [requestRelay, h, he, ht']
  rfl

theorem requestRelay_granted {ch : Channel} {e : ExportRecord} {t : Nat} (h : s.channel c = some ch)
    (he : Tab.get s.relay.exported c = some e) (ht : s.exportTrunk c = some t) :
    requestRelay q c b s =
      enqueueFrame q (.relayAnswer c (.grant t)) (setRoute (sendOutput t) (.bus c) (joined q c b e s)) := by
  have ht' := (joined_exportTrunk (q := q) (b := b) he).trans ht
  unfold joined at ht'
  simp only [requestRelay, h, he, ht']
  rfl

/-- The booth asked for is in the listener set. -/
theorem mem_addListener (ls : List Listener) : ∃ x ∈ addListener q b ls, x.station = q ∧ b ∈ x.booths := by
  unfold addListener
  split
  next h =>
    obtain ⟨x, hx, hq⟩ := List.any_eq_true.mp h
    have hq : x.station = q := by simpa using hq
    by_cases hb : b ∈ x.booths
    · exact ⟨x, List.mem_map.mpr ⟨x, hx, if_neg (by simp [hb])⟩, hq, hb⟩
    · exact ⟨{ x with booths := x.booths ++ [b] }, List.mem_map.mpr ⟨x, hx, if_pos (by simp [hq, hb])⟩, hq, by simp⟩
  · exact ⟨⟨q, [b]⟩, by simp, rfl, by simp⟩

theorem requestRelay_exported {ch : Channel} {e : ExportRecord} (h : s.channel c = some ch)
    (he : Tab.get s.relay.exported c = some e) :
    (requestRelay q c b s).relay = (joined q c b e s).relay ∧ (requestRelay q c b s).planner = s.planner := by
  cases ht : s.exportTrunk c with
  | none =>
    rw [requestRelay_waiting h he ht]
    exact ⟨rfl, rfl⟩
  | some t =>
    rw [requestRelay_granted h he ht, enqueueFrame_relay, setRoute_relay, enqueueFrame_planner, setRoute_planner]
    exact ⟨rfl, rfl⟩

/-- A request touches the exported trunk of its own channel alone. -/
theorem requestRelay_exported_ne {j : Nat} (hj : j ≠ c) :
    Tab.get (requestRelay q c b s).relay.exported j = Tab.get s.relay.exported j := by
  cases h : s.channel c with
  | none => rw [requestRelay_closed h, enqueueFrame_relay]
  | some ch =>
    cases he : Tab.get s.relay.exported c with
    | some e =>
      rw [(requestRelay_exported h he).1]
      exact tab_get_set_ne _ _ _ _ hj
    | none =>
      cases ht : s.freeTrunk with
      | none => rw [requestRelay_noTrunk h he ht, enqueueFrame_relay]
      | some t =>
        rw [requestRelay_first h he ht]
        have hrelay : (takeTrunk t (.exported c) s).relay = s.relay := enqueueFrame_relay _ _ _
        rw [hrelay]
        exact tab_get_set_ne _ _ _ _ hj

end Request

/-! ### Releases -/

section Release

variable {q c b : Nat} {s : State}

/-- The record of an exported trunk with its listener set after a release. -/
def listenersLeft (q c b : Nat) (e : ExportRecord) (s : State) : State :=
  { s with relay.exported := Tab.set s.relay.exported c { e with listeners := dropListener q b e.listeners } }

theorem leaveExport_none (he : Tab.get s.relay.exported c = none) : leaveExport q c b s = s := by
  simp only [leaveExport, he]

theorem leaveExport_kept {e : ExportRecord} (he : Tab.get s.relay.exported c = some e)
    (hl : dropListener q b e.listeners ≠ []) : leaveExport q c b s = listenersLeft q c b e s := by
  simp only [leaveExport, he, List.isEmpty_iff, hl, if_false]
  rfl

theorem leaveExport_ended {e : ExportRecord} (he : Tab.get s.relay.exported c = some e)
    (hl : dropListener q b e.listeners = []) : leaveExport q c b s = endExport c (listenersLeft q c b e s) := by
  simp only [leaveExport, he, hl, List.isEmpty_nil, if_true, listenersLeft]

/-- The released booth is no listener. -/
theorem dropListener_left (ls : List Listener) {x : Listener} (hx : x ∈ dropListener q b ls) (hq : x.station = q) :
    b ≠ 0 ∧ b ∉ x.booths := by
  obtain ⟨hmem, hne⟩ := List.mem_filter.mp hx
  obtain ⟨y, -, rfl⟩ := List.mem_map.mp hmem
  by_cases hy : y.station = q
  · simp only [hy, if_true] at hne ⊢
    by_cases hb : b = 0
    · simp [hb] at hne
    · simp [hb]
  · simp only [hy, if_false] at hq

theorem endExport_exported_self (c : Nat) (s : State) : Tab.get (endExport c s).relay.exported c = none := by
  have hrelay : (endExport c s).relay = (dropExport c s).relay :=
    same_relay (w := { notices := true, events := true, lineQueue := true }) (by apply queueNotice_frame <;> rfl) rfl rfl
  rw [hrelay]
  exact tab_get_erase_self _ _

theorem endExport_trunks (c : Nat) (s : State) : (endExport c s).planner.trunks = (releaseTrunk (.exported c) s).planner.trunks :=
  same_planner_trunks (w := { notices := true, events := true, lineQueue := true, exported := true })
    ((queueNotice_frame rfl rfl rfl _ _).trans (blank_relay_exported rfl _ _)) rfl

/-- An exported record that ends gives up its trunk. -/
theorem endExport_releases {t : Nat} (h : s.trunkOf (.exported c) = some t) :
    (endExport c s).trunk t = none
      ∧ s.sends (endExport c s) 0 (.claim (.trunk t) .release c (s.trunkLabel (.exported c)).2) := by
  have hrelease : releaseTrunk (.exported c) s = giveUpTrunk t (.exported c) s := by simp only [releaseTrunk, h]
  refine ⟨?_, ?_⟩
  · rw [trunk_congr (endExport_trunks c s), hrelease, giveUpTrunk_trunk_self]
  · have hsent := giveUpTrunk_sends t (.exported c) s
    rw [← hrelease] at hsent
    have hrest : Grows .steady (releaseTrunk (.exported c) s) (endExport c s) :=
      Grows.trans (s := dropExport c s) (Grows.of_same rfl rfl rfl rfl) (queueNotice_grows rfl _ _)
    exact (Grows.refl (κ := {}) s).sent_by (κ' := { claims := false }) (releaseTrunk_grows rfl _ _) hrest hsent rfl

end Release

/-! ### The statement -/

theorem sendOutput_ne_floor (t : Nat) : sendOutput t ≠ busOutput 0 := by simp [sendOutput, busOutput]

theorem settle_trunk (s : State) (t : Nat) : (settle s).trunk t = s.trunk t := by
  simp only [State.trunk, settle_planner_trunks]

/-- Settles O41, each case by the equation of `requestRelay` or `leaveExport`. -/
theorem exportsFollowRequests : Obligations.ExportsFollowRequests := by
  intro s f c b hs hc hb
  obtain ⟨ev, line, hg⟩ : ∃ ev line, greeted f s = { s with events := ev, line := line } := ⟨_, _, greeted_eq hs⟩
  have hrequest : Grows { claims := false } (greeted f s) (requestRelay f.station c b (greeted f s)) :=
    requestRelay_grows rfl _ _ _ _
  have hanswer (o : RelayOutcome) : Grows {} (greeted f s) (enqueueFrame f.station (.relayAnswer c o) (greeted f s)) :=
    enqueueFrame_grows _ _ (by simp [Payload.key]) _
  refine ⟨⟨_, congrArg Host.Outcome.next (heard_step hs (p := .relayRequest c b) (by simp [Payload.ok, hc, hb]) _), ?_,
    fun hclosed => ?_, fun ch hch he => ⟨fun ht => ?_, fun tr ht => ⟨?_, ?_, ?_⟩⟩, fun ch e hch he => ⟨⟨addListener f.station b e.listeners,
      ?_, mem_addListener e.listeners⟩, ?_, fun tr ht => ⟨?_, ?_⟩⟩, fun j hj => ?_, ?_⟩,
    ⟨_, congrArg Host.Outcome.next (heard_step hs (p := .relayRelease c b) (by simp [Payload.ok, hc, hb]) _), ?_,
      fun hnone => ?_, fun e he => ⟨fun x hx hq => dropListener_left e.listeners hx hq, fun hl => ⟨?_, ?_⟩,
        fun hl => ⟨?_, fun tr ht => ⟨?_, ?_⟩⟩⟩, ?_⟩⟩
  · exact heard_peers hs (w := { Parts.settled with trunks := true, exported := true })
      (by apply requestRelay_frame <;> rfl) rfl
  · rw [requestRelay_closed (by rw [hg]; exact hclosed)]
    exact ⟨heard_sends hs (enqueueFrame_sends _ _ _) (hanswer _) rfl,
      heard_frame hs (enqueueFrame_frame rfl rfl _ _ _) rfl rfl rfl rfl rfl rfl rfl rfl rfl⟩
  · rw [requestRelay_noTrunk (ch := ch) (by rw [hg]; exact hch) (by rw [hg]; exact he) (by rw [hg]; exact ht)]
    exact ⟨heard_sends hs (enqueueFrame_sends _ _ _) (hanswer _) rfl,
      heard_frame hs (enqueueFrame_frame rfl rfl _ _ _) rfl rfl rfl rfl rfl rfl rfl rfl rfl⟩
  · rw [requestRelay_first (ch := ch) (by rw [hg]; exact hch) (by rw [hg]; exact he) (by rw [hg]; exact ht), settle_trunk]
    exact takeTrunk_trunk_self tr _ _
  · rw [requestRelay_first (ch := ch) (by rw [hg]; exact hch) (by rw [hg]; exact he) (by rw [hg]; exact ht), settle_relay]
    exact tab_get_set_self _ _ _
  · have hlabel : (greeted f s).trunkLabel (.exported c) = (c, ch.language) := by
      rw [hg]
      simp only [State.trunkLabel, show Tab.get s.planner.channels c = some ch from hch]
      rfl
    have hsent := takeTrunk_sends tr (.exported c) (greeted f s)
    rw [hlabel] at hsent
    rw [requestRelay_first (ch := ch) (by rw [hg]; exact hch) (by rw [hg]; exact he) (by rw [hg]; exact ht)]
    refine heard_sends hs (κ := { claims := false }) ?_ ?_ rfl
    · exact (Grows.refl (κ := {}) (greeted f s)).sent_by (κ' := { claims := false }) (κ'' := {})
        (takeTrunk_grows rfl _ _ _) (Grows.of_same rfl rfl rfl rfl) hsent rfl
    · exact (takeTrunk_grows rfl _ _ _).trans (Grows.of_same rfl rfl rfl rfl)
  · rw [settle_relay, (requestRelay_exported (ch := ch) (e := e) (by rw [hg]; exact hch) (by rw [hg]; exact he)).1]
    exact tab_get_set_self _ _ _
  · rw [settle_planner_trunks, (requestRelay_exported (ch := ch) (e := e) (by rw [hg]; exact hch)
      (by rw [hg]; exact he)).2, hg]
  · rw [requestRelay_granted (ch := ch) (e := e) (t := tr) (by rw [hg]; exact hch) (by rw [hg]; exact he)
      (by rw [hg]; exact ht)]
    generalize hu : setRoute (sendOutput tr) (.bus c) (joined f.station c b e (greeted f s)) = u
    have hgrow : Grows {} (greeted f s) u := by
      rw [← hu]
      exact Grows.trans (s := joined f.station c b e (greeted f s)) (Grows.of_same rfl rfl rfl rfl) (setRoute_grows _ _ _)
    exact heard_sends hs (hgrow.sends_from (enqueueFrame_sends _ _ _))
      (hgrow.trans (enqueueFrame_grows _ _ (by simp [Payload.key]) _)) rfl
  · rw [settle_route (sendOutput_ne_floor tr), requestRelay_granted (ch := ch) (e := e) (t := tr)
      (by rw [hg]; exact hch) (by rw [hg]; exact he) (by rw [hg]; exact ht),
      route_congr (congrArg PanelBlock.routes (enqueueFrame_panel _ _ _)), setRoute_route_self]
  · rw [settle_relay, requestRelay_exported_ne hj, hg]
  · exact heard_frame hs (w := { Parts.heard with trunks := true, exported := true })
      (by apply requestRelay_frame <;> rfl) rfl rfl rfl rfl rfl rfl rfl rfl rfl
  · exact heard_peers hs (w := { Parts.settled with trunks := true, exported := true })
      (by apply leaveExport_frame <;> rfl) rfl
  · rw [leaveExport_none (by rw [hg]; exact hnone)]
    exact heard_frame hs rfl rfl rfl rfl rfl rfl rfl rfl rfl rfl
  · rw [leaveExport_kept (e := e) (by rw [hg]; exact he) hl, settle_relay]
    exact tab_get_set_self _ _ _
  · rw [leaveExport_kept (e := e) (by rw [hg]; exact he) hl, settle_planner_trunks, hg]
    rfl
  · rw [leaveExport_ended (e := e) (by rw [hg]; exact he) hl, settle_relay]
    exact endExport_exported_self c _
  · rw [leaveExport_ended (e := e) (by rw [hg]; exact he) hl, settle_trunk]
    exact (endExport_releases (by rw [hg]; exact ht)).1
  · have hended := leaveExport_ended (q := f.station) (b := b) (e := e) (s := greeted f s) (by rw [hg]; exact he) hl
    have hsent := (endExport_releases (s := listenersLeft f.station c b e (greeted f s)) (by rw [hg]; exact ht)).2
    rw [← hended] at hsent
    refine heard_sends hs (κ := { claims := false, notices := false }) ?_ (leaveExport_grows rfl rfl _ _ _ _) rfl
    refine Grows.sends_from (κ := {}) (s := listenersLeft f.station c b e (greeted f s)) (Grows.of_same rfl rfl rfl rfl) ?_
    rw [show (listenersLeft f.station c b e (greeted f s)).trunkLabel (.exported c) = s.trunkLabel (.exported c) by
      rw [hg]; rfl] at hsent
    exact hsent
  · exact heard_frame hs (w := { Parts.heard with trunks := true, exported := true })
      (by apply leaveExport_frame <;> rfl) rfl rfl rfl rfl rfl rfl rfl rfl rfl

end Sys2Proof.Machine

/-! Frames of one key through the operations that queue others, and the searches (R8, R12, R169, R170). -/

namespace Sys2Proof.Machine

/-! ### The frames of one key -/

/-- A frame that is not superseded stays queued, or its loss is reported. -/
theorem enqueueFrame_keeps {f : TxFrame} {p : Payload} {s : State} (hf : f ∈ s.line.queue)
    (hne : supersededBy p f = false) (dest : Nat) : f ∈ (enqueueFrame dest p s).line.queue
      ∨ ∃ x, s.tells (enqueueFrame dest p s) .lineCongestion [f.payload.code, f.dest, x] := by
  unfold enqueueFrame
  dsimp only
  split
  · exact Or.inl hf
  split
  · exact Or.inl (List.mem_map.mpr ⟨f, hf, by simp [hne]⟩)
  split
  · exact Or.inl (List.mem_append_left _ hf)
  split
  next lost hlost =>
    rcases mem_dropLastMatch hlost hf with hmem | rfl
    · left
      rw [queueEvent_line]
      exact List.mem_append_left _ hmem
    · exact Or.inr ⟨0, told_after_update (by rfl) (by rfl) _ _⟩
  · left
    rw [queueEvent_line]
    exact hf

/-- No frame is kept: what is left of `Grows` is what concerns the events. -/
def Keep.nothing : Keep := ⟨false, false, false, false⟩

theorem Keep.nothing_has (k : Option FrameKey) : Keep.nothing.has k = false := by
  rcases k with - | k
  · rfl
  · cases k <;> rfl

theorem Grows.events {κ : Keep} {s t : State} (h : Grows κ s t) : Grows .nothing s t :=
  h.weaken fun k hk => absurd hk (by simp [Keep.nothing_has])

/-- From s to t no frame of the key is taken back. -/
structure Carries (K : FrameKey) (s t : State) : Prop where
  grows : Grows .nothing s t
  frames : ∀ f ∈ s.line.queue, f.sending = none → f.payload.key = some K →
    f ∈ t.line.queue ∨ ∃ x, s.tells t .lineCongestion [f.payload.code, f.dest, x]

section Carries

variable {K : FrameKey} {r s t : State}

theorem Carries.trans (h : Carries K r s) (h' : Carries K s t) : Carries K r t where
  grows := h.grows.trans h'.grows
  frames f hf hs hk := by
    rcases h.frames f hf hs hk with h1 | ⟨x, h1⟩
    · rcases h'.frames f h1 hs hk with h2 | ⟨x, h2⟩
      · exact Or.inl h2
      · exact Or.inr ⟨x, h.grows.tells_from h2⟩
    · exact Or.inr ⟨x, h'.grows.tells h1⟩

theorem Carries.of_grows {κ : Keep} (h : Grows κ s t) (hK : κ.has (some K) = true) : Carries K s t :=
  ⟨h.events, fun f hf hs hk => h.frames f hf hs (by rw [hk]; exact hK)⟩

theorem Carries.refl (K : FrameKey) (s : State) : Carries K s s :=
  ⟨.refl s, fun _ hf _ _ => Or.inl hf⟩

theorem enqueueFrame_carries {dest : Nat} {p : Payload} (hp : p.key ≠ some K) (s : State) :
    Carries K s (enqueueFrame dest p s) where
  grows := enqueueFrame_grows _ _ (fun _ => Keep.nothing_has _) _
  frames f hf hs hk := enqueueFrame_keeps hf (by simp [supersededBy, hk, Ne.symm hp]) dest

theorem forEach_carries {f : Nat → State → State} {l : List Nat} (h : ∀ k ∈ l, ∀ s, Carries K s (f k s)) (s : State) :
    Carries K s (forEach l f s) := by
  unfold forEach
  induction l generalizing s with
  | nil => exact .refl K s
  | cons k rest ih =>
    exact (h k List.mem_cons_self s).trans (ih (fun j hj => h j (List.mem_cons_of_mem _ hj)) (f k s))

/-- What is sent stays sent while the frames of its key are carried. -/
theorem Carries.sends {u v : State} {dest : Nat} {p : Payload} (hs : u.sends v dest p) (huv : Grows .nothing u v)
    (h : Carries K v t) (hk : p.key = some K) : u.sends t dest p := by
  intro hd
  rcases hs hd with hmem | ⟨x, htold⟩
  · rcases h.frames _ hmem rfl hk with hmem' | ⟨x, htold⟩
    · exact Or.inl hmem'
    · exact Or.inr ⟨x, huv.tells_from htold⟩
  · exact Or.inr ⟨x, h.grows.tells htold⟩

end Carries

/-! ### Searches -/

theorem ownSubcarrier_congr {s t : State} (h : t.planner.channels = s.planner.channels) (sc : Nat) :
    t.ownSubcarrier sc = s.ownSubcarrier sc := by simp only [State.ownSubcarrier, h]

/-- A free subcarrier is no own channel's and no zone station's. -/
theorem freeSubcarrier_free {s : State} {sc : Nat} (h : s.freeSubcarrier = some sc) :
    s.ownSubcarrier sc = false ∧ s.zoneSubcarrier sc = false := by
  simpa using List.find?_some h

/-- Where the tests of every candidate agree, the first free one is the same. -/
theorem freeSubcarrier_congr {s t : State} (hself : t.self = s.self) (h : ∀ sc,
    (!t.ownSubcarrier sc && !t.zoneSubcarrier sc) = (!s.ownSubcarrier sc && !s.zoneSubcarrier sc)) :
    t.freeSubcarrier = s.freeSubcarrier := by
  simp only [State.freeSubcarrier, State.candidates, hself]
  exact congrArg (fun p => List.find? p _) (funext h)

/-- A channel as a search that finds a subcarrier leaves it (R8). -/
def Channel.searched (sc : Nat) (ch : Channel) : Channel :=
  { ch with
    state := if ch.everOnAir then .shifting else .claiming
    subcarrier := some sc, confirmed := false, window := some 600, refresh := none }

/-- A channel as a search in vain leaves it (R8). -/
def Channel.starvedOut (ch : Channel) : Channel :=
  { ch with state := .starved, subcarrier := none, confirmed := false, window := none, refresh := none }

/-- A channel after its search in a state. -/
def State.afterSearch (s : State) (ch : Channel) : Channel :=
  match s.freeSubcarrier with
  | some sc => ch.searched sc
  | none => ch.starvedOut

theorem afterSearch_found {s : State} {sc : Nat} (h : s.freeSubcarrier = some sc) (ch : Channel) :
    s.afterSearch ch = ch.searched sc := by simp only [State.afterSearch, h]

theorem afterSearch_starved {s : State} (h : s.freeSubcarrier = none) (ch : Channel) :
    s.afterSearch ch = ch.starvedOut := by simp only [State.afterSearch, h]

section Search

variable {c : Nat} {s : State} {ch : Channel}

theorem search_found {sc : Nat} (hc : s.channel c = some ch) (hfree : s.freeSubcarrier = some sc) : search c s =
    sendClaim (.subcarrier sc) .claim c ch.language (modChannel c (Channel.searched sc) s) := by
  simp only [search, show Tab.get s.planner.channels c = some ch from hc, hfree]
  rfl

theorem search_starved (hc : s.channel c = some ch) (hfree : s.freeSubcarrier = none) : search c s =
    if ch.state = .starved then modChannel c Channel.starvedOut s
    else queueEvent .channelStarved [c] (modChannel c Channel.starvedOut s) := by
  simp only [search, show Tab.get s.planner.channels c = some ch from hc, hfree]
  rfl

/-- The channel after its search. -/
theorem search_channel_self (hc : s.channel c = some ch) : (search c s).channel c = some (s.afterSearch ch) := by
  cases hfree : s.freeSubcarrier with
  | some sc =>
    rw [search_found hc hfree, State.channel, sendClaim, enqueueFrame_planner, ← State.channel, modChannel_channel_self, hc,
      afterSearch_found hfree]
    rfl
  | none =>
    rw [search_starved hc hfree, afterSearch_starved hfree]
    split
    · rw [modChannel_channel_self, hc]
      rfl
    · rw [State.channel, queueEvent_planner, ← State.channel, modChannel_channel_self, hc]
      rfl

theorem search_channel_ne {j : Nat} (hj : j ≠ c) : (search c s).channel j = s.channel j := by
  cases hc : s.channel c with
  | none => rw [search, show Tab.get s.planner.channels c = none from hc]
  | some ch =>
    cases hfree : s.freeSubcarrier with
    | some sc =>
      rw [search_found hc hfree, State.channel, sendClaim, enqueueFrame_planner, ← State.channel, modChannel_channel_ne hj]
    | none =>
      rw [search_starved hc hfree]
      split
      · rw [modChannel_channel_ne hj]
      · rw [State.channel, queueEvent_planner, ← State.channel, modChannel_channel_ne hj]

/-- A search that finds a subcarrier claims it. -/
theorem search_sends {sc : Nat} (hc : s.channel c = some ch) (hfree : s.freeSubcarrier = some sc) :
    s.sends (search c s) 0 (.claim (.subcarrier sc) .claim c ch.language) := by
  rw [search_found hc hfree]
  exact Grows.sends_from (κ := {}) (modChannel_grows _ _ s) (enqueueFrame_sends _ _ _)

/-- A search in vain is reported, unless the channel was STARVED already. -/
theorem search_tells (hc : s.channel c = some ch) (hfree : s.freeSubcarrier = none) (hst : ch.state ≠ .starved) :
    s.tells (search c s) .channelStarved [c] := by
  rw [search_starved hc hfree, if_neg hst]
  exact (modChannel_grows (κ := {}) _ _ s).tells_from (queueEvent_tells _ _ _)

/-- A search claims no subcarrier an own channel has. -/
theorem search_carries {sc : Nat} (h : s.ownSubcarrier sc = true) :
    Carries (.claim (.subcarrier sc)) s (search c s) := by
  have hmod (f : Channel → Channel) : Carries (.claim (.subcarrier sc)) s (modChannel c f s) :=
    .of_grows (κ := {}) (modChannel_grows _ _ _) rfl
  cases hc : s.channel c with
  | none =>
    rw [search, show Tab.get s.planner.channels c = none from hc]
    exact .refl _ s
  | some ch =>
    cases hfree : s.freeSubcarrier with
    | some sc' =>
      rw [search_found hc hfree]
      refine (hmod _).trans (enqueueFrame_carries ?_ _)
      intro heq
      simp only [Payload.key, Option.some.injEq, FrameKey.claim.injEq, Resource.subcarrier.injEq] at heq
      rw [← heq, (freeSubcarrier_free hfree).1] at h
      simp at h
    | none =>
      rw [search_starved hc hfree]
      split
      · exact hmod _
      · exact (hmod _).trans (.of_grows (κ := {}) (queueEvent_grows _ _ _) rfl)

end Search

theorem searchWaiting_one {c : Nat} {s : State} (h : Tab.keys (s.planner.channels.filter fun e =>
    [c].contains e.1 || e.2.state = .starved) = [c]) : searchWaiting [c] s = search c s := by
  rw [searchWaiting, h]
  rfl

theorem searchWaiting_nothing {s : State} (h : ∀ e ∈ s.planner.channels, e.2.state ≠ .starved) :
    searchWaiting [] s = s := by
  have hdue : s.planner.channels.filter (fun e => [].contains e.1 || e.2.state = .starved) = [] := by
    rw [List.filter_eq_nil_iff]
    intro e he
    simpa using h e he
  rw [searchWaiting, hdue]
  rfl

end Sys2Proof.Machine

/-! A CLAIM heard: the peer claim table and the conflict over a subcarrier (R11, R18). -/

namespace Sys2Proof.Machine

/-! ### Tables with one entry of a kind -/

/-- A test that one key alone passes picks that key. -/
theorem keys_filter_one {α : Type} {t : Table α} (hw : Tab.wf t = true) {k : Nat} {v : α} (hk : Tab.get t k = some v)
    {p : Nat × α → Bool} (hp : p (k, v) = true) (hother : ∀ e ∈ t, p e = true → e.1 = k) :
    Tab.keys (t.filter p) = [k] := by
  have hmem : k ∈ Tab.keys (t.filter p) := mem_keys_filter hk hp
  have hall : ∀ j ∈ Tab.keys (t.filter p), j = k := fun j hj => by
    obtain ⟨e, he, rfl⟩ := List.mem_map.mp hj
    obtain ⟨hmem, htest⟩ := List.mem_filter.mp he
    exact hother e hmem htest
  have hsorted : (Tab.keys (t.filter p)).Pairwise (· < ·) :=
    ((tab_wf_iff t).mp hw).sublist (List.filter_sublist.map _)
  generalize Tab.keys (t.filter p) = l at hmem hall hsorted
  match l, hmem with
  | [x], _ => rw [hall x (by simp)]
  | x :: y :: rest, _ =>
    rw [List.pairwise_cons] at hsorted
    have hlt := hsorted.1 y (by simp)
    rw [hall x (by simp), hall y (by simp)] at hlt
    exact absurd hlt (Nat.lt_irrefl k)

/-! ### The peer claim table (R18) -/

section Store

variable {q sc c : Nat} {l : Tag} {s : State}

/-- The table keeps every entry of another key, and room or an old entry lets the new one in. -/
theorem storeClaim_enters
    (h : s.planner.peerClaims.any (PeerClaim.isFor q sc) = true ∨ s.planner.peerClaims.length < 320) :
    (⟨q, sc, c, l, 0⟩ : PeerClaim) ∈ (storeClaim q sc c l s).planner.peerClaims
      ∧ (∀ e ∈ s.planner.peerClaims, e.isFor q sc = false → e ∈ (storeClaim q sc c l s).planner.peerClaims)
      ∧ ∀ e ∈ (storeClaim q sc c l s).planner.peerClaims, e.isFor q sc = false → e ∈ s.planner.peerClaims := by
  have hnew : PeerClaim.isFor q sc ⟨q, sc, c, l, 0⟩ = true := by simp [PeerClaim.isFor]
  unfold storeClaim
  dsimp only
  split
  next hany =>
    refine ⟨?_, fun e he hfor => List.mem_map.mpr ⟨e, he, by simp [hfor]⟩, fun e he hfor => ?_⟩
    · obtain ⟨e, he, hfor⟩ := List.any_eq_true.mp hany
      exact List.mem_map.mpr ⟨e, he, by simp [hfor]⟩
    · obtain ⟨e', he', rfl⟩ := List.mem_map.mp he
      by_cases hfor' : e'.isFor q sc = true
      · simp [hfor', hnew] at hfor
      · simpa [hfor'] using he'
  next hany =>
    have hroom : s.planner.peerClaims.length < Config.peerClaimCapacity := h.resolve_left hany
    rw [if_pos hroom]
    refine ⟨by simp, fun e he _ => List.mem_append_left _ he, fun e he hfor => ?_⟩
    rcases List.mem_append.mp he with he | he
    · exact he
    · rw [List.mem_singleton.mp he, hnew] at hfor
      simp at hfor

/-- A claim of one subcarrier does not tell of another. -/
theorem storeClaim_zoneSubcarrier
    (h : s.planner.peerClaims.any (PeerClaim.isFor q sc) = true ∨ s.planner.peerClaims.length < 320) {x : Nat}
    (hx : x ≠ sc) : (storeClaim q sc c l s).zoneSubcarrier x = s.zoneSubcarrier x := by
  obtain ⟨-, hkept, hold⟩ := storeClaim_enters (c := c) (l := l) h
  have hzone : (storeClaim q sc c l s).planner.zone = s.planner.zone :=
    same_planner_zone (w := { events := true, claims := true }) (storeClaim_frame rfl rfl _ _ _ _ s) rfl
  have hfor (e : PeerClaim) (he : e.subcarrier = x) : e.isFor q sc = false := by
    simp [PeerClaim.isFor, he, hx]
  simp only [State.zoneSubcarrier, State.inZone, hzone]
  rw [Bool.eq_iff_iff, List.any_eq_true, List.any_eq_true]
  constructor <;> rintro ⟨e, he, htest⟩ <;> refine ⟨e, ?_, htest⟩ <;>
    simp only [Bool.and_eq_true, decide_eq_true_eq] at htest
  · exact hold e he (hfor e htest.1)
  · exact hkept e he (hfor e htest.1)

theorem storeClaim_channels : (storeClaim q sc c l s).planner.channels = s.planner.channels :=
  same_planner_channels (w := { events := true, claims := true }) (storeClaim_frame rfl rfl _ _ _ _ s) rfl rfl rfl

end Store

/-! ### Conflicts (R11) -/

/-- A channel that gives way, before its search. -/
def Channel.yielding (ch : Channel) : Channel :=
  { ch with state := if ch.state = .onAir then .shifting else ch.state, window := none, refresh := none }

/-- The state from which a channel that gives way searches. -/
def yielded (c sc : Nat) (l : Tag) (s : State) : State :=
  sendClaim (.subcarrier sc) .release c l (syncMask (modChannel c Channel.yielding s))

theorem giveWay_eq {q c sc : Nat} {s : State} {ch : Channel} (hc : s.channel c = some ch) : giveWay q c sc s =
    if ch.state = .onAir then queueEvent .claimYielded [c, sc, q] (searchWaiting [c] (yielded c sc ch.language s))
    else searchWaiting [c] (yielded c sc ch.language s) := by
  simp only [giveWay, show Tab.get s.planner.channels c = some ch from hc]
  rfl

theorem yielded_planner (c sc : Nat) (l : Tag) (s : State) :
    (yielded c sc l s).planner = (modChannel c Channel.yielding s).planner := by
  rw [yielded, sendClaim, enqueueFrame_planner, syncMask_planner]

theorem refreshClaim_eq {c sc : Nat} {s : State} {ch : Channel} (hc : s.channel c = some ch)
    (hsc : ch.subcarrier = some sc) : refreshClaim c s = sendClaim (.subcarrier sc) .refresh c ch.language
      (modChannel c (fun ch => { ch with refresh := ch.refresh.map fun _ => Config.refreshMs }) s) := by
  simp only [refreshClaim, show Tab.get s.planner.channels c = some ch from hc, hsc]

theorem refreshClaim_channel_self {c sc : Nat} {s : State} {ch : Channel} (hc : s.channel c = some ch)
    (hsc : ch.subcarrier = some sc) :
    (refreshClaim c s).channel c = some { ch with refresh := ch.refresh.map fun _ => 10000 } := by
  rw [refreshClaim_eq hc hsc, State.channel, sendClaim, enqueueFrame_planner, ← State.channel, modChannel_channel_self, hc]
  rfl

theorem refreshClaim_sends {c sc : Nat} {s : State} {ch : Channel} (hc : s.channel c = some ch)
    (hsc : ch.subcarrier = some sc) :
    s.sends (refreshClaim c s) 0 (.claim (.subcarrier sc) .refresh c ch.language) := by
  rw [refreshClaim_eq hc hsc]
  exact Grows.sends_from (κ := {}) (modChannel_grows _ _ s) (enqueueFrame_sends _ _ _)

theorem testClaim_unowned {q sc : Nat} {s : State} (h : s.ownSubcarrier sc = false) : testClaim q sc s = s := by
  have hmet : s.planner.channels.filter (fun e => e.2.subcarrier = some sc) = [] := by
    rw [List.filter_eq_nil_iff]
    intro e he
    have hnone := List.any_eq_false.mp h e he
    simpa using hnone
  simp only [testClaim, hmet]
  rfl

/-- The one own channel on a subcarrier meets the claim. -/
theorem testClaim_one {q sc c : Nat} {s : State} {ch : Channel} (hw : Tab.wf s.planner.channels = true)
    (hc : s.channel c = some ch) (hsc : ch.subcarrier = some sc)
    (hone : ∀ e ∈ s.planner.channels, e.2.subcarrier = some sc → e.1 = c) :
    testClaim q sc s = if q < s.self then giveWay q c sc s else refreshClaim c s := by
  have hmet : Tab.keys (s.planner.channels.filter fun e => e.2.subcarrier = some sc) = [c] :=
    keys_filter_one hw hc (by simpa using hsc) fun e he htest => hone e he (by simpa using htest)
  simp only [testClaim, hmet]
  rfl

section GiveWay

variable {q c sc : Nat} {s : State} {ch : Channel} (hw : Tab.wf s.planner.channels = true)
  (hc : s.channel c = some ch) (hsc : ch.subcarrier = some sc)
  (hstarved : ∀ e ∈ s.planner.channels, e.2.state ≠ .starved)
include hw hc hsc hstarved

omit hw hsc hstarved in
theorem yielded_channel : (yielded c sc ch.language s).channel c = some ch.yielding := by
  rw [State.channel, yielded_planner, ← State.channel, modChannel_channel_self, hc]
  rfl

omit hsc in
theorem giveWay_searches : searchWaiting [c] (yielded c sc ch.language s) = search c (yielded c sc ch.language s) := by
  refine searchWaiting_one ?_
  rw [yielded_planner]
  have hget : Tab.get (modChannel c Channel.yielding s).planner.channels c = some ch.yielding := by
    have := yielded_channel (sc := sc) hc
    rw [State.channel, yielded_planner] at this
    exact this
  refine keys_filter_one (tab_wf_modify _ _ _ hw) hget (by simp) fun e he htest => ?_
  simp only [List.contains_cons, List.contains_nil, Bool.or_false, Bool.or_eq_true, beq_iff_eq, decide_eq_true_eq] at htest
  refine htest.elim id fun hst => ?_
  obtain ⟨e', he', rfl⟩ := List.mem_map.mp he
  by_cases hkey : e'.1 = c
  · simp [hkey]
  · simp only [hkey, if_false] at hst
    exact absurd hst (hstarved e' he')

omit hw hstarved in
/-- The subcarrier given up still counts as an own one, and the search finds what it would have found before. -/
theorem yielded_free : (yielded c sc ch.language s).ownSubcarrier sc = true
    ∧ (yielded c sc ch.language s).freeSubcarrier = s.freeSubcarrier := by
  have hown (x : Nat) : (yielded c sc ch.language s).ownSubcarrier x = s.ownSubcarrier x := by
    simp only [State.ownSubcarrier, yielded_planner]
    simp only [modChannel, Tab.modify, List.any_map]
    refine congrArg (fun p => s.planner.channels.any p) (funext fun e => ?_)
    by_cases h : e.1 = c <;> simp [h, Channel.yielding]
  have hzone (x : Nat) : (yielded c sc ch.language s).zoneSubcarrier x = s.zoneSubcarrier x := by
    simp only [State.zoneSubcarrier, State.inZone, yielded_planner]
    rfl
  refine ⟨?_, freeSubcarrier_congr ?_ fun x => by rw [hown, hzone]⟩
  · rw [hown]
    exact List.any_eq_true.mpr ⟨(c, ch), mem_of_tab_get hc, by simpa using hsc⟩
  · have hclock : (yielded c sc ch.language s).clock = s.clock := by
      rw [yielded, sendClaim, enqueueFrame_clock, syncMask_clock]
      rfl
    simp only [State.self, State.cfg, hclock]

theorem giveWay_channel : (giveWay q c sc s).channel c = some (s.afterSearch ch.yielding) := by
  have hsearch : (search c (yielded c sc ch.language s)).channel c = some (s.afterSearch ch.yielding) := by
    rw [search_channel_self (yielded_channel hc)]
    simp only [State.afterSearch, (yielded_free hc hsc).2]
  rw [giveWay_eq hc, giveWay_searches hw hc hstarved]
  split
  · rw [State.channel, queueEvent_planner]
    exact hsearch
  · exact hsearch

omit hsc in
/-- From the search on, what giving way queues keeps the frames of other claims. -/
theorem giveWay_after_search (q : Nat) {K : FrameKey} :
    Carries K (search c (yielded c sc ch.language s)) (giveWay q c sc s) := by
  rw [giveWay_eq hc, giveWay_searches hw hc hstarved]
  split
  · exact .of_grows (κ := {}) (queueEvent_grows _ _ _) (by cases K <;> rfl)
  · exact .refl K _

theorem giveWay_releases (q : Nat) : s.sends (giveWay q c sc s) 0 (.claim (.subcarrier sc) .release c ch.language)
    ∧ Grows .nothing s (giveWay q c sc s) := by
  have hbefore : Grows {} s (syncMask (modChannel c Channel.yielding s)) :=
    (modChannel_grows _ _ _).trans (syncMask_grows _)
  have hsent : s.sends (yielded c sc ch.language s) 0 (.claim (.subcarrier sc) .release c ch.language) :=
    hbefore.sends_from (enqueueFrame_sends _ _ _)
  have hgrow : Grows .nothing s (yielded c sc ch.language s) :=
    hbefore.events.trans (enqueueFrame_grows _ _ (fun _ => Keep.nothing_has _) _)
  have hcarried : Carries (.claim (.subcarrier sc)) (yielded c sc ch.language s) (giveWay q c sc s) :=
    (search_carries (yielded_free hc hsc).1).trans (giveWay_after_search hw hc hstarved q)
  exact ⟨hcarried.sends hsent hgrow rfl, hgrow.trans hcarried.grows⟩

theorem giveWay_claims (q : Nat) {sc' : Nat} (h : s.freeSubcarrier = some sc') :
    s.sends (giveWay q c sc s) 0 (.claim (.subcarrier sc') .claim c ch.language) := by
  have hgrow : Grows .nothing s (yielded c sc ch.language s) :=
    (((modChannel_grows (κ := {}) _ _ _).trans (syncMask_grows _)).events).trans
      (enqueueFrame_grows _ _ (fun _ => Keep.nothing_has _) _)
  have hsent := search_sends (yielded_channel hc)
    ((yielded_free hc hsc).2.trans h)
  have hsearch : Grows .nothing (yielded c sc ch.language s) (search c (yielded c sc ch.language s)) :=
    search_grows rfl _ _
  exact hgrow.sends_from ((giveWay_after_search hw hc hstarved q).sends hsent hsearch rfl)

theorem giveWay_starves (q : Nat) (h : s.freeSubcarrier = none) : s.tells (giveWay q c sc s) .channelStarved [c] := by
  have hgrow : Grows .nothing s (yielded c sc ch.language s) :=
    (((modChannel_grows (κ := {}) _ _ _).trans (syncMask_grows _)).events).trans
      (enqueueFrame_grows _ _ (fun _ => Keep.nothing_has _) _)
  have hne : ch.yielding.state ≠ .starved := by
    have hst := hstarved (c, ch) (mem_of_tab_get hc)
    simp only [Channel.yielding]
    split
    · simp
    · exact hst
  have htold := search_tells (yielded_channel hc) ((yielded_free hc hsc).2.trans h) hne
  exact hgrow.told htold (giveWay_after_search hw hc hstarved q (K := .presence)).grows

end GiveWay

theorem giveWay_tells {q c sc : Nat} {s : State} {ch : Channel} (hc : s.channel c = some ch) (hair : ch.state = .onAir) :
    s.tells (giveWay q c sc s) .claimYielded [c, sc, q] := by
  rw [giveWay_eq hc, if_pos hair]
  have hgrow : Grows .nothing s (searchWaiting [c] (yielded c sc ch.language s)) :=
    ((((modChannel_grows (κ := {}) _ _ _).trans (syncMask_grows _)).events).trans
      (enqueueFrame_grows _ _ (fun _ => Keep.nothing_has _) _)).trans (searchWaiting_grows rfl _ _)
  exact hgrow.tells_from (queueEvent_tells _ _ _)

end Sys2Proof.Machine

/-! A CLAIM heard (R11, R18). -/

namespace Sys2Proof.Machine

/-- The state after a CLAIM was entered. -/
def claimStored (f : Sender) (sc c : Nat) (l : Tag) (s : State) : State :=
  storeClaim f.station sc c l (greeted f s)

theorem claimStored_frame {f : Sender} {s : State} (h : s.hears f) (sc c : Nat) (l : Tag) :
    SameBut { events := true, claims := true, lineState := true, peers := true } s (claimStored f sc c l s) :=
  Eq.trans (storeClaim_frame rfl rfl _ _ _ _ _) (greeted_frame h rfl rfl rfl)

theorem claimStored_grows {f : Sender} {s : State} (h : s.hears f) (sc c : Nat) (l : Tag) :
    Grows {} s (claimStored f sc c l s) :=
  (greeted_grows h).trans (storeClaim_grows _ _ _ _ _)

section Stored

variable {s : State} {f : Sender} {sc c : Nat} {l : Tag} (hs : s.hears f)
include hs

theorem claimStored_channels : (claimStored f sc c l s).planner.channels = s.planner.channels :=
  same_planner_channels (claimStored_frame hs sc c l) rfl rfl rfl

theorem claimStored_inZone (q : Nat) : (claimStored f sc c l s).inZone q = s.inZone q := by
  simp only [State.inZone, same_planner_zone (claimStored_frame hs sc c l) rfl]

theorem claimStored_self : (claimStored f sc c l s).self = s.self := by
  simp only [State.self, State.cfg, same_clock (claimStored_frame hs sc c l)]

/-- A CLAIM of a subcarrier that an own channel has changes nothing for a search. -/
theorem claimStored_free (hroom : s.planner.peerClaims.length < 320) (hown : s.ownSubcarrier sc = true) :
    (claimStored f sc c l s).freeSubcarrier = s.freeSubcarrier := by
  have hg : (greeted f s).planner = s.planner := by rw [greeted_eq hs]
  refine freeSubcarrier_congr (claimStored_self hs) fun x => ?_
  rw [ownSubcarrier_congr (claimStored_channels hs)]
  by_cases hx : x = sc
  · rw [hx, hown]
    rfl
  · rw [claimStored, storeClaim_zoneSubcarrier (Or.inr (by rw [hg]; exact hroom)) hx]
    simp only [State.zoneSubcarrier, State.inZone, hg]

end Stored

theorem hearClaim_frame {w : Parts} (h1 : w.events = true) (h2 : w.channels = true) (h3 : w.claims = true)
    (h4 : w.mapBack = true) (h5 : w.lineQueue = true) (q sc c : Nat) (l : Tag) (s : State) :
    (hearClaim q sc c l s).blank w = s.blank w := by
  simp only [hearClaim]
  split
  · exact (testClaim_frame h1 h2 h4 h5 _ _ _).trans (storeClaim_frame h1 h3 _ _ _ _ _)
  · exact storeClaim_frame h1 h3 _ _ _ _ _

/-- What a channel's core keeps of the channel. -/
theorem channel_of_core {c : Nat} {s : State} {ch : Channel} (h : (s.channel c).map Channel.core = some ch.core) :
    ∃ ch', s.channel c = some ch' ∧ ch'.core = ch.core := Option.map_eq_some_iff.mp h

/-- Settles O38: the CLAIM is entered, then tested against the own channel on its subcarrier. -/
theorem claimHeard : Obligations.ClaimHeard := by
  intro s f refresh sc c l hs hsc hc hl claims
  have hg : (greeted f s).planner = s.planner := by rw [greeted_eq hs]
  have hok : (Payload.claim (.subcarrier sc) (if refresh then .refresh else .claim) c l).ok = true := by
    cases refresh <;> simp [Payload.ok, Resource.ok, hsc, hc, hl]
  generalize hv : claimStored f sc c l s = v
  have hvgrow : Grows {} s v := hv ▸ claimStored_grows hs sc c l
  have hhear : hearClaim f.station sc c l (greeted f s) = if s.inZone f.station then testClaim f.station sc v else v := by
    rw [← hv, ← claimStored_inZone hs (sc := sc) (c := c) (l := l)]
    rfl
  have hvch : v.planner.channels = s.planner.channels := hv ▸ claimStored_channels hs
  have hvself : v.self = s.self := hv ▸ claimStored_self hs
  refine ⟨_, congrArg Host.Outcome.next (heard_step hs hok _), ?_, fun hroom => ?_, fun hfar => ?_, ?_,
    fun k ch hzone hw hk hkc hone => ?_⟩
  · exact heard_peers hs (w := { Parts.settled with channels := true, claims := true })
      (by apply hearClaim_frame <;> rfl) rfl
  · rw [settle_planner_peerClaims]
    have hstored : (hearClaim f.station sc c l (greeted f s)).planner.peerClaims = v.planner.peerClaims := by
      rw [hhear]
      split
      · exact same_planner_peerClaims (w := { Parts.settled with channels := true }) (by apply testClaim_frame <;> rfl) rfl
      · rfl
    obtain ⟨hnew, hkept, -⟩ := storeClaim_enters (q := f.station) (sc := sc) (c := c) (l := l) (s := greeted f s)
      (by rw [hg]; exact hroom)
    rw [hstored, ← hv]
    exact ⟨hnew, fun e he => hkept e (by rw [hg]; exact he)⟩
  · have hsame : hearClaim f.station sc c l (greeted f s) = v := by
      rw [hhear]
      split
      next hzone =>
        refine testClaim_unowned ?_
        rw [ownSubcarrier_congr hvch]
        exact hfar.resolve_left (by simp [hzone])
      · rfl
    rw [hsame, ← hv]
    exact heard_frame hs (w := { Parts.heard with claims := true }) (by apply storeClaim_frame <;> rfl)
      rfl rfl rfl rfl rfl rfl rfl rfl rfl
  · exact heard_frame hs (w := { Parts.heard with channels := true, claims := true }) (by apply hearClaim_frame <;> rfl)
      rfl rfl rfl rfl rfl rfl rfl rfl rfl
  have hvk : v.channel k = some ch := by rw [State.channel, hvch]; exact hk
  have htest : hearClaim f.station sc c l (greeted f s) =
      if f.station < s.self then giveWay f.station k sc v else refreshClaim k v := by
    rw [hhear, if_pos hzone, testClaim_one (by rw [hvch]; exact hw) hvk hkc (by rw [hvch]; exact hone), hvself]
  rw [htest]
  refine ⟨fun hlt => ?_, fun hlt hstarved hroom => ?_⟩
  · rw [if_neg (Nat.lt_asymm hlt)]
    refine ⟨?_, ?_⟩
    · rw [channel_core_of_same (settle_channels_core _), refreshClaim_channel_self hvk hkc]
      rfl
    · exact hvgrow.sent_by (κ' := .nothing) (refreshClaim_grows rfl _ _) (settle_steady _) (refreshClaim_sends hvk hkc) rfl
  · rw [if_pos hlt]
    have hvstarved : ∀ e ∈ v.planner.channels, e.2.state ≠ .starved := by rw [hvch]; exact hstarved
    have hvw : Tab.wf v.planner.channels = true := by rw [hvch]; exact hw
    have hown : s.ownSubcarrier sc = true := List.any_eq_true.mpr ⟨(k, ch), mem_of_tab_get hk, by simpa using hkc⟩
    have hfree : v.freeSubcarrier = s.freeSubcarrier := hv ▸ claimStored_free hs hroom hown
    obtain ⟨hrelease, hgrow⟩ := giveWay_releases hvw hvk hkc hvstarved f.station
    have hsent {p : Payload} (h : v.sends (giveWay f.station k sc v) 0 p) (hk : Keep.steady.has p.key = true) :
        s.sends (settle (giveWay f.station k sc v)) 0 p :=
      hvgrow.sent_by hgrow (settle_steady _) h hk
    have htold {e : EventKind} {x : List Nat} (h : v.tells (giveWay f.station k sc v) e x) :
        s.tells (settle (giveWay f.station k sc v)) e x := hvgrow.told h (settle_steady _)
    have hcore : ((settle (giveWay f.station k sc v)).channel k).map Channel.core = some (v.afterSearch ch.yielding).core := by
      rw [channel_core_of_same (settle_channels_core _), giveWay_channel hvw hvk hkc hvstarved]
      rfl
    obtain ⟨ch', hch', heq⟩ := channel_of_core hcore
    refine ⟨ch', hch', ?_⟩
    cases hfound : s.freeSubcarrier with
    | some sc' =>
      rw [afterSearch_found (hfree.trans hfound)] at heq
      have hne : sc' ≠ sc := fun h => by
        have := (freeSubcarrier_free hfound).1
        rw [h, hown] at this
        simp at this
      simp only [Channel.core, Channel.searched, Channel.yielding, Channel.mk.injEq] at heq
      obtain ⟨hst, hlang, hsub, hconf, hacc, hholder, hlive, -, -, -, hwin, -⟩ := heq
      refine ⟨hlang, hacc, hlive, hholder, fun x hx => ?_, fun h => by simp at h, fun hair => htold (giveWay_tells hvk hair)⟩
      obtain rfl := Option.some.inj hx
      exact ⟨hne, hsub, hconf, hwin, hst, hsent hrelease rfl,
        hsent (giveWay_claims hvw hvk hkc hvstarved _ (hfree.trans hfound)) rfl⟩
    | none =>
      rw [afterSearch_starved (hfree.trans hfound)] at heq
      simp only [Channel.core, Channel.starvedOut, Channel.yielding, Channel.mk.injEq] at heq
      obtain ⟨hst, hlang, hsub, -, hacc, hholder, hlive, -⟩ := heq
      exact ⟨hlang, hacc, hlive, hholder, fun x hx => by simp at hx,
        fun _ => ⟨hsub, hst, htold (giveWay_starves hvw hvk hkc hvstarved _ (hfree.trans hfound))⟩,
        fun hair => htold (giveWay_tells hvk hair)⟩

end Sys2Proof.Machine

/-! Relays and feeds follow the entry of their trunk (R65, R84). -/

namespace Sys2Proof.Machine

/-! ### What one of the numbers of a list brings about -/

/-- What every operation keeps, the list keeps. -/
theorem forEach_keeps {Q : State → Prop} {f : Nat → State → State} (h : ∀ j s, Q s → Q (f j s)) (l : List Nat) {s : State}
    (hs : Q s) : Q (forEach l f s) := by
  unfold forEach
  induction l generalizing s with
  | nil => exact hs
  | cons j rest ih => exact ih (h j s hs)

/-- What the operation for one number of the list brings about holds after the list, where every operation keeps it and
what it rests on. -/
theorem forEach_brings {I Q : State → Prop} {f : Nat → State → State} {k : Nat} (hI : ∀ j s, I s → I (f j s))
    (hQ : ∀ j s, Q s → Q (f j s)) (hk : ∀ s, I s → Q (f k s)) {l : List Nat} (hl : k ∈ l) {s : State} (hs : I s) :
    Q (forEach l f s) := by
  induction l generalizing s with
  | nil => simp at hl
  | cons j rest ih =>
    by_cases hj : j = k
    · exact forEach_keeps hQ rest (by rw [hj]; exact hk s hs)
    · exact ih ((List.mem_cons.mp hl).resolve_left (Ne.symm hj)) (hI j s hs)

/-! ### Feeds on a trunk (R84) -/

/-- A receiving feed that waits for another trunk. -/
def Feed.untrunked (x : Feed) : Feed := { x with trunk := none, readyWait := some 5000 }

/-- Context k loses its trunk. -/
def untrunkFeed (k : Nat) (s : State) : State :=
  match s.context k with
  | none => s
  | some f =>
    let s := modFeed k Feed.untrunked s
    if f.state = .holding then setRoute (busOutput f.target) .none s else s

/-- Does trunk t belong to the partner of a feed? -/
def State.trunkOwnedBy (s : State) (t : Nat) (f : Feed) : Bool :=
  match s.trunk t with
  | some (.peer p _) => p = f.partner
  | _ => false

theorem followTrunkFeeds_eq (t : Nat) (s : State) : followTrunkFeeds t s =
    forEach (Tab.keys (s.feed.contexts.filter fun e =>
      e.2.side = .receiving && e.2.trunk = some t && !s.trunkOwnedBy t e.2)) untrunkFeed s := rfl

theorem untrunkFeed_context_self (k : Nat) (s : State) :
    (untrunkFeed k s).context k = (s.context k).map Feed.untrunked := by
  cases hk : s.context k with
  | none => simp [untrunkFeed, hk]
  | some f =>
    simp only [untrunkFeed, hk]
    split
    · rw [State.context, setRoute_feed]
      exact (modFeed_context_self k _ s).trans (congrArg _ hk)
    · exact (modFeed_context_self k _ s).trans (congrArg _ hk)

theorem untrunkFeed_context_ne {j k : Nat} (h : j ≠ k) (s : State) : (untrunkFeed k s).context j = s.context j := by
  unfold untrunkFeed
  split
  · rfl
  · dsimp only
    split
    · rw [State.context, setRoute_feed]
      exact modFeed_context_ne h _ _
    · exact modFeed_context_ne h _ _

/-- A route without a source stays so. -/
theorem untrunkFeed_route {o : Nat} (k : Nat) {s : State} (h : s.route o = .none) : (untrunkFeed k s).route o = .none := by
  unfold untrunkFeed
  split
  · exact h
  · dsimp only
    split
    next f _ _ =>
      by_cases ho : o = busOutput f.target
      · rw [ho]
        exact setRoute_route_self _ _ _
      · rw [setRoute_route_ne ho]
        exact h
    · exact h

section Feeds

variable {t k : Nat} {s : State} {x : Feed} (hk : s.context k = some x) (hside : x.side = .receiving)
  (htr : x.trunk = some t) (howner : ∀ age, s.trunk t ≠ some (.peer x.partner age))
include hk hside htr howner

theorem mem_feeds_left : k ∈ Tab.keys (s.feed.contexts.filter fun e =>
    e.2.side = .receiving && e.2.trunk = some t && !s.trunkOwnedBy t e.2) := by
  refine mem_keys_filter hk ?_
  have hnot : s.trunkOwnedBy t x = false := by
    unfold State.trunkOwnedBy
    split
    next p age hp =>
      simp only [decide_eq_false_iff_not]
      rintro rfl
      exact howner age hp
    · rfl
  simp [hside, htr, hnot]

/-- A feed whose trunk is no longer its partner's waits for another. -/
theorem followTrunkFeeds_context : (followTrunkFeeds t s).context k = some x.untrunked := by
  rw [followTrunkFeeds_eq, forEach_at (P := fun _ => True) (view := fun u => u.context k) (g := Feed.untrunked)
    (fun _ _ _ => trivial) (fun _ u _ hj => untrunkFeed_context_ne (Ne.symm hj) u)
    (fun u _ => untrunkFeed_context_self k u) (fun _ => rfl) _ s trivial, if_pos (mem_feeds_left hk hside htr howner), hk]
  rfl

/-- The bus of a feed that held is silent. -/
theorem followTrunkFeeds_silent (hst : x.state = .holding) : (followTrunkFeeds t s).route (busOutput x.target) = .none := by
  rw [followTrunkFeeds_eq]
  refine forEach_brings (I := fun u => ∃ y, u.context k = some y ∧ y.state = .holding ∧ y.target = x.target)
    (Q := fun u => u.route (busOutput x.target) = .none) (fun j u hu => ?_) (fun j u hu => untrunkFeed_route j hu)
    (fun u hu => ?_) (mem_feeds_left hk hside htr howner) ⟨x, hk, hst, rfl⟩
  · obtain ⟨y, hy, hyst, hyt⟩ := hu
    by_cases hj : k = j
    · refine ⟨y.untrunked, ?_, hyst, hyt⟩
      rw [← hj, untrunkFeed_context_self, hy]
      rfl
    · exact ⟨y, by rw [untrunkFeed_context_ne hj]; exact hy, hyst, hyt⟩
  · obtain ⟨y, hy, hyst, hyt⟩ := hu
    simp only [untrunkFeed, hy, hyst, if_true, hyt]
    exact setRoute_route_self _ _ _

end Feeds

/-! ### Relays on a trunk (R65) -/

/-- A relay that waits for a new GRANT. -/
def Booth.rewaiting (bo : Booth) : Booth := { bo with relay := .waiting, sourceTrunk := none, answerWait := some 3000 }

/-- Booth b's relay loses its trunk. -/
def untrunkBooth (b : Nat) (s : State) : State := setRoute (inputOutput b) .none (modBooth b Booth.rewaiting s)

/-- Does trunk t belong to the station of a booth's input? -/
def State.trunkFeeds (s : State) (t : Nat) (bo : Booth) : Bool :=
  match s.trunk t with
  | some (.peer p _) => fromStation p bo.input
  | _ => false

theorem followTrunkBooths_free {t : Nat} {s : State} (h : s.trunk t = none) : followTrunkBooths t s =
    dropRelays .trunk (Tab.keys (s.booth.booths.filter fun e => e.2.sourceTrunk = some t)) s := by
  simp only [followTrunkBooths, h]

theorem followTrunkBooths_taken {t : Nat} {s : State} {e : TrunkEntry} (h : s.trunk t = some e) : followTrunkBooths t s =
    forEach (Tab.keys ((s.booth.booths.filter fun e => e.2.sourceTrunk = some t).filter fun e => !s.trunkFeeds t e.2))
      untrunkBooth s := by
  unfold followTrunkBooths State.trunkFeeds
  simp only [h]
  cases e <;> rfl

theorem untrunkBooth_boothRec_self (b : Nat) (s : State) :
    (untrunkBooth b s).boothRec b = (s.boothRec b).map Booth.rewaiting := by
  rw [untrunkBooth, State.boothRec, setRoute_booth]
  exact modBooth_boothRec_self b _ s

theorem untrunkBooth_boothRec_ne {j b : Nat} (h : j ≠ b) (s : State) :
    (untrunkBooth b s).boothRec j = s.boothRec j := by
  rw [untrunkBooth, State.boothRec, setRoute_booth]
  exact modBooth_boothRec_ne h _ s

theorem followTrunkBooths_waits {t b p q c : Nat} {age : Nat} {s : State} {bo : Booth} (h : s.trunk t = some (.peer p age))
    (hb : s.boothRec b = some bo) (htr : bo.sourceTrunk = some t) (hin : bo.input = .remote q c) (hqp : q ≠ p) :
    (followTrunkBooths t s).boothRec b = some bo.rewaiting ∧ (followTrunkBooths t s).route (inputOutput b) = .none := by
  have hmem : b ∈ Tab.keys ((s.booth.booths.filter fun e => e.2.sourceTrunk = some t).filter
      fun e => !s.trunkFeeds t e.2) := by
    rw [List.filter_filter]
    refine mem_keys_filter hb ?_
    simp [State.trunkFeeds, h, htr, hin, fromStation, hqp]
  rw [followTrunkBooths_taken h]
  refine ⟨?_, ?_⟩
  · rw [forEach_at (P := fun _ => True) (view := fun u => u.boothRec b) (g := Booth.rewaiting) (fun _ _ _ => trivial)
      (fun _ u _ hj => untrunkBooth_boothRec_ne (Ne.symm hj) u) (fun u _ => untrunkBooth_boothRec_self b u)
      (fun _ => rfl) _ s trivial, if_pos hmem, hb]
    rfl
  · refine forEach_brings (I := fun _ => True) (Q := fun u => u.route (inputOutput b) = .none) (fun _ _ _ => trivial)
      (fun j u hu => ?_) (fun u _ => setRoute_route_self _ _ _) hmem trivial
    by_cases hj : inputOutput b = inputOutput j
    · rw [untrunkBooth, hj]
      exact setRoute_route_self _ _ _
    · rw [untrunkBooth, setRoute_route_ne hj]
      exact hu

theorem followTrunkFeeds_boothRec (t b : Nat) (s : State) : (followTrunkFeeds t s).boothRec b = s.boothRec b := by
  simp only [State.boothRec, same_booth_booths (w := { feeds := true, outbound := true, routes := true })
    (followTrunkFeeds_frame rfl rfl rfl t s) rfl rfl]

end Sys2Proof.Machine

/-! What is released or expires becomes free (R12, R18 to R20, R65, R84). -/

namespace Sys2Proof.Machine

theorem searchWaiting_route (l : List Nat) (o : Nat) (s : State) : (searchWaiting l s).route o = s.route o :=
  route_congr (same_panel_routes (w := { events := true, channels := true, lineQueue := true })
    (searchWaiting_frame rfl rfl rfl l s) rfl) o

/-! ### A peer's trunk that becomes free -/

/-- Trunk tr is free, and what was on it follows. -/
structure TrunkLeft (tr : Nat) (s t : State) : Prop where
  free : t.trunk tr = none
  others : ∀ j, j ≠ tr → t.trunk j = s.trunk j
  relays : ∀ b bo p k, s.boothRec b = some bo → bo.sourceTrunk = some tr → bo.input = .remote p k → t.relayDropped b
  feeds : ∀ k x, s.context k = some x → x.side = .receiving → x.trunk = some tr → 1 ≤ x.target →
    Tab.wf s.feed.contexts = true → t.context k = some x.untrunked
      ∧ (x.state = .holding → t.route (busOutput x.target) = .none)

theorem busOutput_ne_floor {c : Nat} (h : 1 ≤ c) : busOutput c ≠ busOutput 0 := by
  simp only [busOutput]
  omega

theorem settle_context (s : State) (k : Nat) : (settle s).context k = s.context k := by
  simp only [State.context, settle_feed]

/-- The entry is gone. -/
def entryErased (tr : Nat) (s : State) : State := { s with planner.trunks := Tab.erase s.planner.trunks tr }

theorem freePeerTrunk_eq (tr : Nat) (s : State) :
    freePeerTrunk tr s = followTrunkFeeds tr (followTrunkBooths tr (entryErased tr s)) := rfl

theorem followTrunkBooths_trunks (tr : Nat) (s : State) :
    (followTrunkBooths tr s).planner.trunks = s.planner.trunks :=
  same_planner_trunks (w := { Parts.settled with channels := true, booths := true, feeds := true })
    (by apply followTrunkBooths_frame <;> rfl) rfl

theorem followTrunkFeeds_trunks (tr : Nat) (s : State) : (followTrunkFeeds tr s).planner.trunks = s.planner.trunks :=
  same_planner_trunks (w := { feeds := true, outbound := true, routes := true })
    (followTrunkFeeds_frame rfl rfl rfl tr s) rfl

/-- A trunk freed, in any state with the records and routes that it leaves. -/
theorem freePeerTrunk_left {tr : Nat} {s u : State} (htr : u.planner.trunks = (freePeerTrunk tr s).planner.trunks)
    (hb : u.booth.booths = (freePeerTrunk tr s).booth.booths) (hf : u.feed = (freePeerTrunk tr s).feed)
    (hr : ∀ o, u.route o = (freePeerTrunk tr s).route o) : TrunkLeft tr s (settle u) := by
  have htrunks : u.planner.trunks = Tab.erase s.planner.trunks tr := by
    rw [htr, freePeerTrunk_eq, followTrunkFeeds_trunks, followTrunkBooths_trunks]
    rfl
  have hnone : (entryErased tr s).trunk tr = none := tab_get_erase_self _ _
  have hbooths := followTrunkBooths_free hnone
  have hquiet : Quiet (entryErased tr s) (followTrunkBooths tr (entryErased tr s)) := by
    rw [hbooths]
    exact dropRelays_quiet _ _ _
  refine ⟨?_, fun j hj => ?_, fun b bo p k hbo hon hin => settle_relayDropped ?_, fun k x hk hx hon h1 hw => ?_⟩
  · rw [settle_trunk, State.trunk, htrunks]
    exact tab_get_erase_self _ _
  · rw [settle_trunk, State.trunk, htrunks]
    exact tab_get_erase_ne _ _ _ hj
  · have hdrop : (followTrunkBooths tr (entryErased tr s)).relayDropped b := by
      rw [hbooths]
      exact dropRelays_drops (mem_keys_filter (p := fun e => e.2.sourceTrunk = some tr) hbo (by simpa using hon)) _ hbo hin
    have hrec : u.boothRec b = (followTrunkBooths tr (entryErased tr s)).boothRec b := by
      rw [State.boothRec, hb, freePeerTrunk_eq]
      exact followTrunkFeeds_boothRec tr b _
    exact ⟨hdrop.choose, hrec.trans hdrop.choose_spec.1, hdrop.choose_spec.2⟩
  · have hk' := hquiet.receiving hw k x hk hx
    have hfree (age : Nat) : (followTrunkBooths tr (entryErased tr s)).trunk tr ≠ some (.peer x.partner age) := by
      rw [trunk_congr (followTrunkBooths_trunks _ _), hnone]
      simp
    refine ⟨?_, fun hst => ?_⟩
    · rw [settle_context, State.context, hf]
      exact followTrunkFeeds_context hk' hx hon hfree
    · rw [settle_route (busOutput_ne_floor h1), hr]
      exact followTrunkFeeds_silent hk' hx hon hfree hst

/-! ### The claim table -/

theorem removeClaim_claims (q sc : Nat) (s : State) :
    (removeClaim q sc s).planner.peerClaims = s.planner.peerClaims.filter fun e => !e.isFor q sc := by
  unfold removeClaim
  dsimp only
  split
  · exact same_planner_peerClaims (w := { events := true, channels := true, lineQueue := true })
      (searchWaiting_frame rfl rfl rfl _ _) rfl
  · rfl

/-- A claim that leaves the table moves nothing else where no channel is STARVED. -/
theorem removeClaim_calm {w : Parts} (hw : w.claims = true) {s : State}
    (h : ∀ e ∈ s.planner.channels, e.2.state ≠ .starved) (q sc : Nat) : SameBut w s (removeClaim q sc s) := by
  unfold removeClaim
  dsimp only
  rw [searchWaiting_nothing (by exact h), ite_self]
  exact blank_planner_peerClaims hw _ _

/-- A claim that is not there leaves the table as it is. -/
theorem filter_not_isFor {q sc : Nat} {l : List PeerClaim} (h : l.any (PeerClaim.isFor q sc) = false) :
    l.filter (fun e => !e.isFor q sc) = l := by
  rw [List.filter_eq_self]
  intro e he
  simpa using List.any_eq_false.mp h e he

/-- The expiry of a claim of the table. -/
def claimExpired (q sc : Nat) (s : State) : State :=
  if s.planner.peerClaims.any (PeerClaim.isFor q sc) then removeClaim q sc s else s

/-- The expiry of a peer's trunk. -/
def peerTrunkExpired (tr : Nat) (s : State) : State :=
  match s.trunk tr with
  | some (.peer _ _) => freePeerTrunk tr s
  | _ => s

theorem peerTrunkExpired_other {tr : Nat} {s : State} (h : ∀ p age, s.trunk tr ≠ some (.peer p age)) :
    peerTrunkExpired tr s = s := by
  unfold peerTrunkExpired
  split
  next p age hp => exact absurd hp (h p age)
  · rfl

theorem peerTrunkExpired_frame {w : Parts} (h1 : w.events = true) (h2 : w.notices = true) (h3 : w.channels = true)
    (h4 : w.trunks = true) (h5 : w.booths = true) (h6 : w.feeds = true) (h7 : w.lineQueue = true)
    (h8 : w.outbound = true) (h9 : w.routes = true) (tr : Nat) (s : State) :
    (peerTrunkExpired tr s).blank w = s.blank w := by
  unfold peerTrunkExpired
  split
  · exact freePeerTrunk_frame h1 h2 h3 h4 h5 h6 h7 h8 h9 _ _
  · rfl

/-- A RELEASE of a trunk by a station, before the searches. -/
def trunkReleased (q tr : Nat) (s : State) : State :=
  match s.trunk tr with
  | some (.peer p _) => if p = q then freePeerTrunk tr s else s
  | _ => s

theorem hearRelease_trunk (q tr : Nat) (s : State) : hearRelease q (.trunk tr) s =
    if (trunkReleased q tr s).inZone q then searchWaiting [] (trunkReleased q tr s) else trunkReleased q tr s := rfl

theorem trunkReleased_other {q tr : Nat} {s : State} (h : ∀ age, s.trunk tr ≠ some (.peer q age)) :
    trunkReleased q tr s = s := by
  unfold trunkReleased
  split
  next p age hp =>
    rw [if_neg]
    rintro rfl
    exact h age hp
  · rfl

theorem trunkReleased_frame {w : Parts} (h1 : w.events = true) (h2 : w.notices = true) (h3 : w.channels = true)
    (h4 : w.trunks = true) (h5 : w.booths = true) (h6 : w.feeds = true) (h7 : w.lineQueue = true)
    (h8 : w.outbound = true) (h9 : w.routes = true) (q tr : Nat) (s : State) :
    (trunkReleased q tr s).blank w = s.blank w := by
  unfold trunkReleased
  repeat' split
  · exact freePeerTrunk_frame h1 h2 h3 h4 h5 h6 h7 h8 h9 _ _
  · rfl
  · rfl

theorem hearRelease_frame {w : Parts} (h1 : w.events = true) (h2 : w.notices = true) (h3 : w.channels = true)
    (h4 : w.trunks = true) (h5 : w.booths = true) (h6 : w.feeds = true) (h7 : w.lineQueue = true)
    (h8 : w.outbound = true) (h9 : w.routes = true) (q tr : Nat) (s : State) :
    (hearRelease q (.trunk tr) s).blank w = s.blank w := by
  rw [hearRelease_trunk]
  split
  · exact (searchWaiting_frame h1 h3 h7 _ _).trans (trunkReleased_frame h1 h2 h3 h4 h5 h6 h7 h8 h9 _ _ _)
  · exact trunkReleased_frame h1 h2 h3 h4 h5 h6 h7 h8 h9 _ _ _

/-- What the searches after a RELEASE of a trunk leave alone. -/
theorem hearRelease_same (q tr : Nat) (s : State) :
    SameBut { events := true, channels := true, lineQueue := true } (trunkReleased q tr s) (hearRelease q (.trunk tr) s) := by
  rw [hearRelease_trunk]
  split
  · exact searchWaiting_frame rfl rfl rfl _ _
  · rfl

/-! ### The statement -/

/-- Settles O39: a subcarrier by `removeClaim`, a trunk by `freePeerTrunk_left`. -/
theorem releasedResourcesBecomeFree : Obligations.ReleasedResourcesBecomeFree := by
  intro s f q sc tr c l hsc h1 h12 hc hl without freed
  have hfreed {t : State} (h : TrunkLeft tr s t) : freed t := ⟨h.free, h.others, h.relays, h.feeds⟩
  refine ⟨fun hs => ⟨⟨_, congrArg Host.Outcome.next (heard_step hs (p := .claim (.subcarrier sc) .release c l) ?_ _),
      ?_, ?_, fun hst => ?_, ?_⟩,
    ⟨_, congrArg Host.Outcome.next (heard_step hs (p := .claim (.trunk tr) .release c l) ?_ _), fun age hp => ?_,
      fun hother => ?_, ?_⟩⟩,
    fun hrun => ⟨⟨settle (claimExpired q sc s), congrArg Host.Outcome.next (event_of_running _ hrun), ?_, fun hst => ?_, ?_⟩,
      ⟨settle (peerTrunkExpired tr s), congrArg Host.Outcome.next (event_of_running _ hrun), fun p age hp => ?_,
        fun hother => ?_, ?_⟩⟩⟩
  · simp [Payload.ok, Resource.ok, hsc, hc, hl]
  · exact heard_peers hs (w := { Parts.settled with channels := true, claims := true })
      (by apply removeClaim_frame <;> rfl) rfl
  · rw [settle_planner_peerClaims]
    change (removeClaim f.station sc (greeted f s)).planner.peerClaims = _
    rw [removeClaim_claims, greeted_eq hs]
  · exact heard_frame hs (w := { Parts.heard with claims := true })
      (removeClaim_calm rfl (by rw [greeted_eq hs]; exact hst) _ _) rfl rfl rfl rfl rfl rfl rfl rfl rfl
  · exact heard_frame hs (w := { Parts.heard with channels := true, claims := true })
      (by apply removeClaim_frame <;> rfl) rfl rfl rfl rfl rfl rfl rfl rfl rfl
  · simp [Payload.ok, Resource.ok, (trunkOk_iff tr).mpr ⟨h1, h12⟩, hc, hl]
  · obtain ⟨ev, line, hg⟩ : ∃ ev line, greeted f s = { s with events := ev, line := line } := ⟨_, _, greeted_eq hs⟩
    have hrel : trunkReleased f.station tr (greeted f s) = freePeerTrunk tr (greeted f s) := by
      have hp' : (greeted f s).trunk tr = some (.peer f.station age) := by rw [hg]; exact hp
      simp only [trunkReleased, hp', if_true]
    have hsame := hearRelease_same f.station tr (greeted f s)
    rw [hrel] at hsame
    have hleft : TrunkLeft tr (greeted f s) (settle (hearRelease f.station (.trunk tr) (greeted f s))) :=
      freePeerTrunk_left (same_planner_trunks hsame rfl) (same_booth_booths hsame rfl rfl) (same_feed hsame rfl rfl)
        fun o => route_congr (same_panel_routes hsame rfl) o
    rw [hg] at hleft ⊢
    exact hfreed ⟨hleft.free, hleft.others, hleft.relays, hleft.feeds⟩
  · have hsame := hearRelease_same f.station tr (greeted f s)
    rw [trunkReleased_other (by rw [greeted_eq hs]; exact hother)] at hsame
    rw [settle_planner_trunks]
    exact (same_planner_trunks hsame rfl).trans (by rw [greeted_eq hs])
  · exact heard_frame hs (w := { Parts.heard with channels := true, trunks := true, booths := true, feeds := true })
      (by apply hearRelease_frame <;> rfl) rfl rfl rfl rfl rfl rfl rfl rfl rfl
  · rw [settle_planner_peerClaims, claimExpired]
    split
    · exact removeClaim_claims _ _ _
    next hany => exact (filter_not_isFor (by simpa using hany)).symm
  · rw [claimExpired]
    split
    · exact SameBut.settled (w := { Parts.settled with claims := true }) (removeClaim_calm rfl hst _ _) rfl rfl rfl rfl rfl
        rfl rfl
    · exact SameBut.settled (w := { Parts.settled with claims := true }) rfl rfl rfl rfl rfl rfl rfl rfl
  · rw [claimExpired]
    split
    · exact SameBut.settled (w := { Parts.settled with channels := true, claims := true })
        (by apply removeClaim_frame <;> rfl) rfl rfl rfl rfl rfl rfl rfl
    · exact SameBut.settled (w := { Parts.settled with channels := true, claims := true }) rfl rfl rfl rfl rfl rfl rfl rfl
  · have heq : peerTrunkExpired tr s = freePeerTrunk tr s := by simp only [peerTrunkExpired, hp]
    rw [heq]
    exact hfreed (freePeerTrunk_left rfl rfl rfl fun _ => rfl)
  · rw [peerTrunkExpired_other hother]
    exact settle_sameBut s
  · exact SameBut.settled
      (w := { Parts.settled with channels := true, trunks := true, booths := true, feeds := true })
      (by apply peerTrunkExpired_frame <;> rfl) rfl rfl rfl rfl rfl rfl rfl

end Sys2Proof.Machine

/-! Holders of channels, and feed contexts that end (R30, R31, R86, R87). -/

namespace Sys2Proof.Machine

/-! ### Holders -/

/-- A channel given a holder (R30). -/
def Channel.given (h : Holder) (ch : Channel) : Channel :=
  { ch with holder := h, everHeld := ch.everHeld || h ≠ .none }

theorem setHolder_none {c : Nat} {s : State} (h : s.channel c = none) (x : Holder) : setHolder c x s = s := by
  simp only [setHolder, h]

theorem setHolder_some {c : Nat} {s : State} {ch : Channel} (h : s.channel c = some ch) (x : Holder) : setHolder c x s =
    if ch.holder.sameHolder x then modChannel c (Channel.given x) s
    else recomputeChannel c (setRoute (busOutput c) ((modChannel c (Channel.given x) s).busSource x)
      (modChannel c (Channel.given x) s)) := by
  simp only [setHolder, h]
  rfl

/-- Beside the holder, a holder change moves pedigrees, relays and routes alone. -/
theorem setHolder_calm (c : Nat) (x : Holder) (s : State) : Calm (modChannel c (Channel.given x) s) (setHolder c x s) := by
  cases h : s.channel c with
  | none =>
    rw [setHolder_none h]
    refine { Calm.refl s with channel := fun j => ?_ }
    by_cases hj : j = c
    · rw [hj, modChannel_channel_self, h]
      rfl
    · rw [modChannel_channel_ne hj]
  | some ch =>
    rw [setHolder_some h]
    split
    · exact .refl _
    · exact (setRoute_calm _ _ _).trans (recomputeChannel_quiet _ _).toCalm

theorem setHolder_channel {c : Nat} {s : State} {ch : Channel} (h : s.channel c = some ch) (x : Holder) :
    ∃ ch', (setHolder c x s).channel c = some ch' ∧ ch'.quiet = (ch.given x).quiet :=
  (setHolder_calm c x s).channel_some (by rw [modChannel_channel_self, h]; rfl)

theorem Calm.holder {s t : State} (h : Calm s t) {c : Nat} {ch : Channel} (hc : s.channel c = some ch) :
    ∃ ch', t.channel c = some ch' ∧ ch'.holder = ch.holder := by
  obtain ⟨ch', hch', hq⟩ := h.channel_some hc
  have hholder := congrArg Channel.holder hq
  exact ⟨ch', hch', hholder⟩

/-! ### The contexts in a change of other records -/

theorem modFeed_wf (k : Nat) (f : Feed → Feed) {s : State} (h : Tab.wf s.feed.contexts = true) :
    Tab.wf (modFeed k f s).feed.contexts = true := tab_wf_modify _ _ _ h

/-- The contexts are kept, but for the pedigrees of sending ones. -/
structure FeedsKept (s t : State) : Prop where
  context : ∀ k, (t.context k).map Feed.quiet = (s.context k).map Feed.quiet
  wf : Tab.wf s.feed.contexts = true → Tab.wf t.feed.contexts = true
  receiving : Tab.wf s.feed.contexts = true → ∀ k x, s.context k = some x → x.side = .receiving → t.context k = some x

theorem Calm.feeds {s t : State} (h : Calm s t) : FeedsKept s t := ⟨h.context, h.wf, h.receiving⟩

theorem FeedsKept.of_same {s t : State} (h : t.feed = s.feed) : FeedsKept s t where
  context k := by simp only [State.context, h]
  wf hw := by rw [h]; exact hw
  receiving _ k x hk _ := by simp only [State.context, h]; exact hk

theorem FeedsKept.trans {r s t : State} (h : FeedsKept r s) (h' : FeedsKept s t) : FeedsKept r t where
  context k := (h'.context k).trans (h.context k)
  wf hw := h'.wf (h.wf hw)
  receiving hw k x hk hx := h'.receiving (h.wf hw) k x (h.receiving hw k x hk hx) hx

theorem FeedsKept.none {s t : State} (h : FeedsKept s t) {k : Nat} (hk : s.context k = none) : t.context k = none := by
  have hq := h.context k
  rwa [hk, Option.map_none, Option.map_eq_none_iff] at hq

theorem FeedsKept.plan {s t : State} (h : FeedsKept s t) (k : Nat) :
    (t.context k).map Feed.plan = (s.context k).map Feed.plan := by
  have hq := congrArg (Option.map Feed.plan) (h.context k)
  rw [Option.map_map, Option.map_map] at hq
  exact hq

theorem setHolder_feeds (c : Nat) (x : Holder) (s : State) : FeedsKept s (setHolder c x s) :=
  FeedsKept.trans (s := modChannel c (Channel.given x) s) (.of_same rfl) (setHolder_calm c x s).feeds

/-! ### A context that ends -/

/-- A context freed, with what its side releases. -/
def contextFreed (k : Nat) (f : Feed) (s : State) : State :=
  match f.side with
  | .sending => freeContext k (endReplacement k f.booth (releaseTrunk (.feed k) s))
  | .receiving =>
    if f.state = .holding then modChannel f.target (Channel.given .none) (freeContext k s) else freeContext k s

section Ends

variable {k : Nat} {s : State} {f : Feed}

theorem endFeedContext_none (h : s.context k = none) (cause : FeedCause) (partner : Bool) :
    endFeedContext k cause partner s = s := by
  simp only [endFeedContext, h]

theorem endFeedContext_sending (h : s.context k = some f) (hside : f.side = .sending) (cause : FeedCause)
    (partner : Bool) : endFeedContext k cause partner s =
      queueEvent .feedEnded [k, f.partner, cause.code, if partner then 1 else 0]
        (recheckOutputs f.booth (contextFreed k f s)) := by
  simp only [endFeedContext, h, hside, contextFreed]

theorem endFeedContext_receiving (h : s.context k = some f) (hside : f.side = .receiving) (cause : FeedCause)
    (partner : Bool) : endFeedContext k cause partner s =
      queueEvent .feedEnded [k, f.partner, cause.code, if partner then 1 else 0]
        (if f.state = .holding then setHolder f.target .none (freeContext k s) else freeContext k s) := by
  simp only [endFeedContext, h, hside]

theorem endFeedContext_calm (h : s.context k = some f) (cause : FeedCause) (partner : Bool) :
    Calm (contextFreed k f s) (endFeedContext k cause partner s) := by
  cases hside : f.side with
  | sending =>
    rw [endFeedContext_sending h hside]
    exact ((recheckOutputs_quiet _ _).trans (queueEvent_quiet _ _ _)).toCalm
  | receiving =>
    rw [endFeedContext_receiving h hside, contextFreed, hside]
    refine Calm.trans ?_ (queueEvent_quiet _ _ _).toCalm
    dsimp only
    split
    · exact setHolder_calm _ _ _
    · exact .refl _

theorem contextFreed_contexts (k : Nat) (f : Feed) (s : State) :
    (contextFreed k f s).feed.contexts = Tab.erase s.feed.contexts k := by
  unfold contextFreed
  split
  · have hfeed : (endReplacement k f.booth (releaseTrunk (.feed k) s)).feed = s.feed :=
      same_feed (w := { events := true, booths := true, desks := true, trunks := true, lineQueue := true, outbound := true, routes := true })
        ((endReplacement_frame rfl rfl rfl _ _ _).trans (by apply releaseTrunk_frame <;> rfl)) rfl rfl
    simp only [freeContext, hfeed]
  · split <;> rfl

theorem endFeedContext_context_self (k : Nat) (cause : FeedCause) (partner : Bool) (s : State) :
    (endFeedContext k cause partner s).context k = none := by
  cases h : s.context k with
  | none => rw [endFeedContext_none h, h]
  | some f =>
    refine (endFeedContext_calm h cause partner).context_none ?_
    rw [State.context, contextFreed_contexts]
    exact tab_get_erase_self _ _

/-- The other contexts are kept. -/
theorem endFeedContext_feeds (h : s.context k = some f) (cause : FeedCause) (partner : Bool) :
    FeedsKept (freeContext k s) (endFeedContext k cause partner s) := by
  refine FeedsKept.trans (s := contextFreed k f s) (.of_same ?_) (endFeedContext_calm h cause partner).feeds
  have := contextFreed_contexts k f s
  simp only [freeContext, ← this]

theorem endFeedContext_tells (h : s.context k = some f) (cause : FeedCause) (partner : Bool) :
    s.tells (endFeedContext k cause partner s) .feedEnded [k, f.partner, cause.code, if partner then 1 else 0] := by
  have hfreed : Grows .nothing s (freeContext k s) := .of_same rfl rfl rfl rfl
  cases hside : f.side with
  | sending =>
    rw [endFeedContext_sending h hside, contextFreed, hside]
    generalize hu : freeContext k (endReplacement k f.booth (releaseTrunk (.feed k) s)) = u
    have hrel : Grows .nothing s u := hu ▸ ((releaseTrunk_grows rfl _ _).trans (endReplacement_grows k f.booth _)).trans
      (Grows.of_same rfl rfl rfl rfl)
    exact (hrel.trans (recheckOutputs_grows rfl _ _)).tells_from (queueEvent_tells _ _ _)
  | receiving =>
    rw [endFeedContext_receiving h hside]
    refine Grows.tells_from (κ := .nothing) ?_ (queueEvent_tells _ _ _)
    split
    · exact hfreed.trans (setHolder_grows rfl _ _ _)
    · exact hfreed

theorem endWith_some (h : s.context k = some f) (reason : EndReason) :
    endWith k reason s = endFeedContext k (causeOf reason) false (sendFeedState f (.ended reason) s) := by
  simp only [endWith, h]

theorem sendFeedState_context (f : Feed) (x : FeedSignal) (s : State) (k : Nat) :
    (sendFeedState f x s).context k = s.context k := by
  rw [State.context, sendFeedState, enqueueFrame_feed]
  rfl

theorem endWith_context_self (k : Nat) (reason : EndReason) (s : State) : (endWith k reason s).context k = none := by
  cases h : s.context k with
  | none => simp only [endWith, h]
  | some f =>
    rw [endWith_some h]
    exact endFeedContext_context_self _ _ _ _

/-- The partner is told the reason, and the host the cause. -/
theorem endWith_reports (h : s.context k = some f) (reason : EndReason) :
    s.sends (endWith k reason s) f.partner (.feedState f.booth f.target (.ended reason))
      ∧ s.tells (endWith k reason s) .feedEnded [k, f.partner, (causeOf reason).code, 0] := by
  have hk : (sendFeedState f (.ended reason) s).context k = some f := (sendFeedState_context _ _ _ _).trans h
  have hsend : Grows {} s (sendFeedState f (.ended reason) s) := enqueueFrame_grows _ _ (by simp [Payload.key]) _
  rw [endWith_some h]
  refine ⟨?_, hsend.tells_from (endFeedContext_tells hk _ _)⟩
  exact (Grows.refl (κ := {}) s).sent_by hsend (κ'' := { claims := false, notices := false })
    (endFeedContext_grows rfl rfl _ _ _ _) (enqueueFrame_sends _ _ _) rfl

end Ends

end Sys2Proof.Machine

/-! Trunks that change hands (R20 to R22). -/

namespace Sys2Proof.Machine

/-! ### Free trunks, and the trunk of a user -/

theorem freeTrunk_free {s : State} {t : Nat} (h : s.freeTrunk = some t) : s.trunk t = none :=
  (tab_firstFree_some _ _ _ _ h).1

theorem firstFree_congr {α β : Type} {t : Table α} {u : Table β} (h : ∀ j, Tab.has t j = Tab.has u j) (a n : Nat) :
    Tab.firstFree t a n = Tab.firstFree u a n := by
  induction n generalizing a with
  | zero => rfl
  | succ n ih => simp only [Tab.firstFree, h, ih]

/-- An entry that changes hands frees nothing. -/
theorem firstFree_set {α : Type} {t : Table α} {k : Nat} {v w : α} (h : Tab.get t k = some v) (a n : Nat) :
    Tab.firstFree (Tab.set t k w) a n = Tab.firstFree t a n := by
  refine firstFree_congr (fun j => ?_) a n
  by_cases hj : j = k
  · simp [Tab.has, hj, h, tab_get_set_self]
  · simp [Tab.has, tab_get_set_ne _ _ _ _ hj]

/-- The trunk of a user is an own one. -/
theorem trunkOf_owned {s : State} (hw : Tab.wf s.planner.trunks = true) {u : TrunkUser} {t : Nat}
    (h : s.trunkOf u = some t) : ∃ e, s.trunk t = some e ∧ e.ownedBy u = true := by
  obtain ⟨e, hfound, rfl⟩ := Option.map_eq_some_iff.mp h
  exact ⟨e.2, get_of_mem_of_wf hw (List.mem_of_find?_eq_some hfound), by simpa using List.find?_some hfound⟩

theorem trunkOf_ne {s : State} (hw : Tab.wf s.planner.trunks = true) {u : TrunkUser} {t p age : Nat}
    (h : s.trunk t = some (.peer p age)) : s.trunkOf u ≠ some t := by
  intro hof
  obtain ⟨e, he, howned⟩ := trunkOf_owned hw hof
  rw [h, Option.some.injEq] at he
  rw [← he] at howned
  simp [TrunkEntry.ownedBy] at howned

/-! ### What a user that gives up its trunk leaves of another -/

section Other

variable {t : Nat} {u : TrunkUser} {s : State}

theorem giveUpTrunk_carries {j : Nat} (h : j ≠ t) (u : TrunkUser) (s : State) :
    Carries (.claim (.trunk t)) s (giveUpTrunk j u s) := by
  rw [giveUpTrunk_eq]
  refine (Carries.of_grows (κ := {}) (trunkFreed_grows j s) rfl).trans (enqueueFrame_carries ?_ _)
  simp [Payload.key, h]

theorem takeTrunk_carries {j : Nat} (h : j ≠ t) (u : TrunkUser) (s : State) :
    Carries (.claim (.trunk t)) s (takeTrunk j u s) := by
  refine (Carries.of_grows (κ := {}) (setTrunk_grows _ _ s) rfl).trans (enqueueFrame_carries ?_ _)
  simp [Payload.key, h]

theorem releaseTrunk_carries (h : s.trunkOf u ≠ some t) : Carries (.claim (.trunk t)) s (releaseTrunk u s) := by
  unfold releaseTrunk
  split
  · exact .refl _ s
  next j hj => exact giveUpTrunk_carries (by rintro rfl; exact h hj) u s

theorem releaseTrunk_trunk (h : s.trunkOf u ≠ some t) : (releaseTrunk u s).trunk t = s.trunk t := by
  unfold releaseTrunk
  split
  · rfl
  next j hj => exact giveUpTrunk_trunk_ne (by rintro rfl; exact h hj) u s

/-- The state after a context that ends has given up its trunk. -/
def contextReleased (k : Nat) (f : Feed) (s : State) : State :=
  match f.side with
  | .sending => releaseTrunk (.feed k) s
  | .receiving => s

/-- After the trunk, the end of a context moves no trunk and takes back no claim. -/
theorem endFeedContext_rest {k : Nat} {f : Feed} (hk : s.context k = some f) (cause : FeedCause) (partner : Bool) :
    SameBut { Parts.settled with channels := true, booths := true, desks := true, contexts := true, feeds := true }
        (contextReleased k f s) (endFeedContext k cause partner s)
      ∧ Grows { notices := false } (contextReleased k f s) (endFeedContext k cause partner s) := by
  cases hside : f.side with
  | sending =>
    rw [endFeedContext_sending hk hside]
    simp only [contextFreed, contextReleased, hside]
    refine ⟨?_, ?_⟩
    · exact (queueEvent_frame rfl _ _ _).trans ((by apply recheckOutputs_frame <;> rfl : SameBut _ _ _).trans
        ((blank_feed_contexts rfl _ _).trans (endReplacement_frame rfl rfl rfl _ _ _)))
    · refine Grows.trans (Grows.trans ?_ (recheckOutputs_grows rfl _ _)) (queueEvent_grows _ _ _)
      exact (endReplacement_grows k f.booth _).trans (Grows.of_same rfl rfl rfl rfl)
  | receiving =>
    rw [endFeedContext_receiving hk hside]
    simp only [contextReleased, hside]
    have hfree : Grows { notices := false } s (freeContext k s) := .of_same rfl rfl rfl rfl
    refine ⟨(queueEvent_frame rfl _ _ _).trans ?_, Grows.trans ?_ (queueEvent_grows _ _ _)⟩
    · split
      · exact (by apply setHolder_frame <;> rfl : SameBut _ _ _).trans (blank_feed_contexts rfl _ _)
      · exact blank_feed_contexts rfl _ _
    · split
      · exact hfree.trans (setHolder_grows rfl _ _ _)
      · exact hfree

/-- What a context that ends leaves of a trunk that is not its own. -/
theorem endFeedContext_trunk {k : Nat} (h : s.trunkOf (.feed k) ≠ some t) (cause : FeedCause) (partner : Bool) :
    (endFeedContext k cause partner s).trunk t = s.trunk t
      ∧ Carries (.claim (.trunk t)) s (endFeedContext k cause partner s) := by
  cases hk : s.context k with
  | none =>
    rw [endFeedContext_none hk]
    exact ⟨rfl, .refl _ s⟩
  | some f =>
    have hreleased : (contextReleased k f s).trunk t = s.trunk t ∧ Carries (.claim (.trunk t)) s (contextReleased k f s) := by
      unfold contextReleased
      split
      · exact ⟨releaseTrunk_trunk h, releaseTrunk_carries h⟩
      · exact ⟨rfl, .refl _ s⟩
    obtain ⟨hsame, hgrow⟩ := endFeedContext_rest hk cause partner
    exact ⟨(trunk_congr (same_planner_trunks hsame rfl) t).trans hreleased.1,
      hreleased.2.trans (.of_grows hgrow rfl)⟩

end Other

/-! ### A peer takes a trunk from a peer (R20, R65, R84) -/

theorem followTrunk_trunks (t : Nat) (s : State) : (followTrunk t s).planner.trunks = s.planner.trunks :=
  (followTrunkFeeds_trunks t _).trans (followTrunkBooths_trunks t s)

/-- Relays that lose their trunk to another station leave the feeds alone. -/
theorem followTrunkBooths_taken_feed {t : Nat} {s : State} {e : TrunkEntry} (h : s.trunk t = some e) :
    (followTrunkBooths t s).feed = s.feed := by
  rw [followTrunkBooths_taken h]
  refine same_feed (w := { booths := true, outbound := true, routes := true })
    (forEach_frame _ _ (fun b u => ?_) s) rfl rfl
  exact (setRoute_frame rfl rfl _ _ _).trans (modBooth_frame rfl _ _ (by intro _; rfl) _)

theorem followTrunk_waits {t b p q c age : Nat} {s : State} {bo : Booth} (h : s.trunk t = some (.peer p age))
    (hb : s.boothRec b = some bo) (htr : bo.sourceTrunk = some t) (hin : bo.input = .remote q c) (hqp : q ≠ p) :
    (followTrunk t s).boothRec b = some bo.rewaiting ∧ (followTrunk t s).route (inputOutput b) = .none := by
  obtain ⟨hrec, hroute⟩ := followTrunkBooths_waits h hb htr hin hqp
  refine ⟨(followTrunkFeeds_boothRec t b _).trans hrec, ?_⟩
  rw [followTrunk, followTrunkFeeds_eq]
  exact forEach_keeps (Q := fun u => u.route (inputOutput b) = .none) (fun j _ hu => untrunkFeed_route j hu) _ hroute

theorem followTrunk_feeds {t k p age : Nat} {s : State} {x : Feed} (h : s.trunk t = some (.peer p age))
    (hk : s.context k = some x) (hx : x.side = .receiving) (hon : x.trunk = some t) (hne : x.partner ≠ p) :
    (followTrunk t s).context k = some x.untrunked
      ∧ (x.state = .holding → (followTrunk t s).route (busOutput x.target) = .none) := by
  have hk' : (followTrunkBooths t s).context k = some x := by
    rw [State.context, followTrunkBooths_taken_feed h]
    exact hk
  have howner (n : Nat) : (followTrunkBooths t s).trunk t ≠ some (.peer x.partner n) := by
    rw [trunk_congr (followTrunkBooths_trunks t s), h]
    simp only [ne_eq, Option.some.injEq, TrunkEntry.peer.injEq, not_and]
    exact fun heq => absurd heq.symm hne
  exact ⟨followTrunkFeeds_context hk' hx hon howner, followTrunkFeeds_silent hk' hx hon howner⟩

end Sys2Proof.Machine

/-! An own trunk claim that gives way (R22). -/

namespace Sys2Proof.Machine

/-! ### Answers to listeners -/

theorem answerListeners_sends {c q : Nat} {o : RelayOutcome} {ls : List Listener} (h : ∃ x ∈ ls, x.station = q) (s : State) :
    s.sends (answerListeners c o ls s) q (.relayAnswer c o) := by
  unfold answerListeners
  have hmem : q ∈ ls.map Listener.station := by
    obtain ⟨x, hx, rfl⟩ := h
    exact List.mem_map_of_mem hx
  generalize ls.map Listener.station = l at hmem
  have hone (j : Nat) (u : State) : Grows {} u (enqueueFrame j (.relayAnswer c o) u) :=
    enqueueFrame_grows _ _ (by simp [Payload.key]) _
  induction l generalizing s with
  | nil => simp at hmem
  | cons j rest ih =>
    by_cases hj : j = q
    · subst hj
      exact (Grows.refl (κ := {}) s).sent_by (κ'' := {}) (hone j s)
        (forEach_grows (f := fun q s => enqueueFrame q (.relayAnswer c o) s) rest hone _) (enqueueFrame_sends _ _ _) rfl
    · exact (hone j s).sends_from (ih _ ((List.mem_cons.mp hmem).resolve_left (Ne.symm hj)))

/-! ### The trunk passes -/

/-- Trunk t passes from user u to station q, before the user searches another. -/
def trunkYielded (q t : Nat) (u : TrunkUser) (s : State) : State :=
  setRoute (sendOutput t) .none (sendTrunkClaim t .release u (setTrunk t (.peer q 0) s))

theorem yieldTrunk_eq (q t : Nat) (u : TrunkUser) (s : State) : yieldTrunk q t u s = searchTrunk u (trunkYielded q t u s) :=
  rfl

section Yield

variable {q t : Nat} {u : TrunkUser} {s : State}

theorem trunkYielded_planner (q t : Nat) (u : TrunkUser) (s : State) :
    (trunkYielded q t u s).planner = (setTrunk t (.peer q 0) s).planner := by
  rw [trunkYielded, setRoute_planner, sendTrunkClaim_planner]

theorem trunkYielded_trunk (q t : Nat) (u : TrunkUser) (s : State) :
    (trunkYielded q t u s).trunk t = some (.peer q 0) := by
  rw [State.trunk, trunkYielded_planner]
  exact tab_get_set_self _ _ _

theorem trunkYielded_free {e : TrunkEntry} (h : s.trunk t = some e) :
    (trunkYielded q t u s).freeTrunk = s.freeTrunk := by
  rw [State.freeTrunk, trunkYielded_planner]
  exact firstFree_set h _ _

theorem trunkYielded_feed (q t : Nat) (u : TrunkUser) (s : State) : (trunkYielded q t u s).feed = s.feed := by
  rw [trunkYielded, setRoute_feed]
  exact enqueueFrame_feed _ _ _

theorem trunkYielded_relay (q t : Nat) (u : TrunkUser) (s : State) : (trunkYielded q t u s).relay = s.relay := by
  rw [trunkYielded, setRoute_relay]
  exact enqueueFrame_relay _ _ _

theorem trunkYielded_label (q t : Nat) (u v : TrunkUser) (s : State) :
    (trunkYielded q t u s).trunkLabel v = s.trunkLabel v :=
  trunkLabel_congr (by rw [trunkYielded_planner]; rfl) (congrArg FeedBlock.contexts (trunkYielded_feed q t u s)) v

theorem trunkYielded_grows (q t : Nat) (u : TrunkUser) (s : State) : Grows { claims := false } s (trunkYielded q t u s) :=
  ((setTrunk_grows _ _ _).trans (sendTrunkClaim_grows rfl _ _ _ _)).trans (setRoute_grows _ _ _)

theorem trunkYielded_sends (q t : Nat) (u : TrunkUser) (s : State) :
    s.sends (trunkYielded q t u s) 0 (.claim (.trunk t) .release (s.trunkLabel u).1 (s.trunkLabel u).2) := by
  have hlabel : (setTrunk t (.peer q 0) s).trunkLabel u = s.trunkLabel u := trunkLabel_congr rfl rfl u
  have hsent := sendTrunkClaim_sends t .release u (setTrunk t (.peer q 0) s)
  rw [hlabel] at hsent
  exact (setTrunk_grows (κ := {}) _ _ s).sent_by (κ' := { claims := false }) (κ'' := {})
    (sendTrunkClaim_grows rfl _ _ _ _) (setRoute_grows _ _ _) hsent rfl

/-! ### The user's search -/

/-- Its user told, a trunk just taken stays as it is. -/
theorem searchTrunk_moved {j : Nat} (h : s.freeTrunk = some j) :
    SameBut { exported := true, feeds := true } (takeTrunk j u s) (searchTrunk u s)
      ∧ Grows {} (takeTrunk j u s) (searchTrunk u s) := by
  cases u with
  | exported c =>
    simp only [searchTrunk, h]
    exact ⟨exportMoved_frame rfl _ _ _, exportMoved_grows _ _ _⟩
  | feed k =>
    simp only [searchTrunk, h]
    exact ⟨feedMoved_frame rfl _ _ _, feedMoved_grows _ _ _⟩

/-- Whatever the search finds, a peer's trunk and its frame stay. -/
theorem searchTrunk_trunk {p age : Nat} (hw : Tab.wf s.planner.trunks = true) (h : s.trunk t = some (.peer p age)) :
    (searchTrunk u s).trunk t = s.trunk t ∧ Carries (.claim (.trunk t)) s (searchTrunk u s) := by
  cases hfree : s.freeTrunk with
  | some j =>
    have hne : j ≠ t := by
      rintro rfl
      rw [freeTrunk_free hfree] at h
      simp at h
    obtain ⟨hsame, hgrow⟩ := searchTrunk_moved (u := u) hfree
    exact ⟨(trunk_congr (same_planner_trunks hsame rfl) t).trans (takeTrunk_trunk_ne hne.symm u s),
      (takeTrunk_carries hne u s).trans (.of_grows hgrow rfl)⟩
  | none =>
    cases u with
    | exported c =>
      simp only [searchTrunk, hfree, exportStranded]
      split
      · exact ⟨rfl, .refl _ s⟩
      next e _ =>
        have hanswer := answerListeners_grows (κ := {}) c (.refuse .noTrunk) e.listeners s
        have htrunks : (answerListeners c (.refuse .noTrunk) e.listeners s).planner.trunks = s.planner.trunks :=
          same_planner_trunks (w := { events := true, lineQueue := true }) (answerListeners_frame rfl rfl _ _ _ _) rfl
        generalize answerListeners c (.refuse .noTrunk) e.listeners s = v at *
        have hof : v.trunkOf (.exported c) ≠ some t :=
          trunkOf_ne (p := p) (age := age) (by rw [htrunks]; exact hw) (by rw [trunk_congr htrunks]; exact h)
        refine ⟨?_, (Carries.of_grows hanswer rfl).trans ((releaseTrunk_carries hof).trans ?_)⟩
        · rw [trunk_congr (endExport_trunks c v), releaseTrunk_trunk hof, trunk_congr htrunks]
        · exact .of_grows (κ := { notices := false }) (Grows.trans (s := dropExport c v) (Grows.of_same rfl rfl rfl rfl)
            (queueNotice_grows rfl _ _)) rfl
    | feed k =>
      simp only [searchTrunk, hfree]
      cases hk : s.context k with
      | none =>
        simp only [endWith, hk]
        exact ⟨trivial, .refl _ s⟩
      | some f =>
        rw [endWith_some hk]
        have htrunks : (sendFeedState f (.ended .noTrunk) s).planner.trunks = s.planner.trunks :=
          congrArg PlannerBlock.trunks (enqueueFrame_planner _ _ _)
        have hof : (sendFeedState f (.ended .noTrunk) s).trunkOf (.feed k) ≠ some t :=
          trunkOf_ne (p := p) (age := age) (by rw [htrunks]; exact hw) (by rw [trunk_congr htrunks]; exact h)
        obtain ⟨hsame, hcarried⟩ := endFeedContext_trunk hof (causeOf .noTrunk) false
        exact ⟨hsame.trans (trunk_congr htrunks t), (enqueueFrame_carries (by simp [Payload.key]) _).trans hcarried⟩

/-- An exported record without a trunk ends, and its listeners are told. -/
theorem searchTrunk_strands {c : Nat} {e : ExportRecord} (hfree : s.freeTrunk = none)
    (he : Tab.get s.relay.exported c = some e) :
    Tab.get (searchTrunk (.exported c) s).relay.exported c = none
      ∧ ∀ x ∈ e.listeners, s.sends (searchTrunk (.exported c) s) x.station (.relayAnswer c (.refuse .noTrunk)) := by
  simp only [searchTrunk, hfree, exportStranded, he]
  refine ⟨endExport_exported_self c _, fun x hx => ?_⟩
  exact (Grows.refl (κ := {}) s).sent_by (κ' := {}) (κ'' := { claims := false, notices := false })
    (answerListeners_grows _ _ _ _) (endExport_grows rfl rfl _ _) (answerListeners_sends ⟨x, hx, rfl⟩ s) rfl

end Yield

end Sys2Proof.Machine

/-! A TRUNK_CLAIM heard (R20, R22, R65, R84). -/

namespace Sys2Proof.Machine

section Heard

variable {q tr p age : Nat} {s : State}

theorem hearTrunkClaim_free (h : s.trunk tr = none) : hearTrunkClaim q tr s = setTrunk tr (.peer q 0) s := by
  simp only [hearTrunkClaim, h]

theorem hearTrunkClaim_same (h : s.trunk tr = some (.peer q age)) : hearTrunkClaim q tr s = setTrunk tr (.peer q 0) s := by
  simp only [hearTrunkClaim, h, if_true]

theorem hearTrunkClaim_lower (h : s.trunk tr = some (.peer p age)) (hlt : q < p) :
    hearTrunkClaim q tr s = followTrunk tr (setTrunk tr (.peer q 0) s) := by
  simp only [hearTrunkClaim, h, if_neg (Nat.ne_of_lt hlt), if_pos hlt]

theorem hearTrunkClaim_higher (h : s.trunk tr = some (.peer p age)) (hlt : p < q) : hearTrunkClaim q tr s = s := by
  simp only [hearTrunkClaim, h, if_neg (Nat.ne_of_gt hlt), if_neg (Nat.lt_asymm hlt)]

theorem setTrunk_self (tr : Nat) (e : TrunkEntry) (s : State) : (setTrunk tr e s).trunk tr = some e := tab_get_set_self _ _ _

theorem hearTrunkClaim_takes (h : s.trunk tr = some (.peer p age)) (hle : q ≤ p) :
    (hearTrunkClaim q tr s).trunk tr = some (.peer q 0) := by
  rcases Nat.lt_or_eq_of_le hle with hlt | rfl
  · rw [hearTrunkClaim_lower h hlt, trunk_congr (followTrunk_trunks _ _)]
    exact setTrunk_self _ _ _
  · rw [hearTrunkClaim_same h]
    exact setTrunk_self _ _ _

end Heard

section Own

variable {q tr : Nat} {s : State} {ph : TrunkPhase} {cf : Bool} {u : TrunkUser} {w r : Option Nat}

theorem hearTrunkClaim_kept (h : s.trunk tr = some (.own ph cf u w r)) (hlt : s.self < q) :
    hearTrunkClaim q tr s =
      sendTrunkClaim tr .refresh u (setTrunk tr (.own ph cf u w (r.map fun _ => 10000)) s) := by
  simp only [hearTrunkClaim, h, if_neg (Nat.lt_asymm hlt), refreshTrunk]

theorem hearTrunkClaim_yields (h : s.trunk tr = some (.own ph cf u w r)) (hlt : q < s.self) :
    hearTrunkClaim q tr s = yieldTrunk q tr u s := by
  simp only [hearTrunkClaim, h, if_pos hlt]

theorem yieldTrunk_passes (hw : Tab.wf s.planner.trunks = true) (q : Nat) : (yieldTrunk q tr u s).trunk tr = some (.peer q 0)
    ∧ s.sends (yieldTrunk q tr u s) 0 (.claim (.trunk tr) .release (s.trunkLabel u).1 (s.trunkLabel u).2) := by
  have hw' : Tab.wf (trunkYielded q tr u s).planner.trunks = true := by
    rw [trunkYielded_planner]
    exact tab_wf_set _ _ _ hw
  obtain ⟨htrunk, hcarried⟩ := searchTrunk_trunk (u := u) hw' (trunkYielded_trunk q tr u s)
  rw [yieldTrunk_eq]
  exact ⟨htrunk.trans (trunkYielded_trunk q tr u s),
    hcarried.sends (trunkYielded_sends q tr u s) (trunkYielded_grows q tr u s).events rfl⟩

section Yields

variable (h : s.trunk tr = some (.own ph cf u w r))
include h

theorem yieldTrunk_moves (q : Nat) {j : Nat} (hfree : s.freeTrunk = some j) :
    (yieldTrunk q tr u s).trunk j = some (.own .window false u (some 600) none)
      ∧ s.sends (yieldTrunk q tr u s) 0 (.claim (.trunk j) .claim (s.trunkLabel u).1 (s.trunkLabel u).2) := by
  obtain ⟨hsame, hafter⟩ := searchTrunk_moved (u := u) ((trunkYielded_free (q := q) (u := u) h).trans hfree)
  have hsent := takeTrunk_sends j u (trunkYielded q tr u s)
  rw [trunkYielded_label] at hsent
  rw [yieldTrunk_eq]
  refine ⟨(trunk_congr (same_planner_trunks hsame rfl) j).trans (takeTrunk_trunk_self j u _), ?_⟩
  exact (trunkYielded_grows q tr u s).sends_from
    ((Grows.refl (κ := {}) _).sent_by (takeTrunk_grows (κ := { claims := false }) rfl _ _ _) hafter hsent rfl)

theorem yieldTrunk_strands (q : Nat) {c : Nat} {e : ExportRecord} (hfree : s.freeTrunk = none) (hu : u = .exported c)
    (he : Tab.get s.relay.exported c = some e) : Tab.get (yieldTrunk q tr u s).relay.exported c = none
      ∧ ∀ x ∈ e.listeners, s.sends (yieldTrunk q tr u s) x.station (.relayAnswer c (.refuse .noTrunk)) := by
  obtain ⟨hgone, hsent⟩ := searchTrunk_strands (s := trunkYielded q tr u s) (c := c) (e := e)
    ((trunkYielded_free h).trans hfree) (by rw [trunkYielded_relay]; exact he)
  rw [yieldTrunk_eq]
  subst hu
  exact ⟨hgone, fun x hx => (trunkYielded_grows q tr _ s).sends_from (hsent x hx)⟩

theorem yieldTrunk_ends (q : Nat) {k : Nat} {x : Feed} (hfree : s.freeTrunk = none) (hu : u = .feed k)
    (hk : s.context k = some x) : (yieldTrunk q tr u s).context k = none
      ∧ s.sends (yieldTrunk q tr u s) x.partner (.feedState x.booth x.target (.ended .noTrunk))
      ∧ s.tells (yieldTrunk q tr u s) .feedEnded [k, x.partner, FeedCause.noTrunk.code, 0] := by
  subst hu
  have hk' : (trunkYielded q tr (.feed k) s).context k = some x := by
    rw [State.context, trunkYielded_feed]
    exact hk
  obtain ⟨hsent, htold⟩ := endWith_reports hk' .noTrunk
  have heq : yieldTrunk q tr (.feed k) s = endWith k .noTrunk (trunkYielded q tr (.feed k) s) := by
    rw [yieldTrunk_eq]
    simp only [searchTrunk, (trunkYielded_free h).trans hfree]
  rw [heq]
  have hgrow := trunkYielded_grows q tr (.feed k) s
  exact ⟨endWith_context_self _ _ _, hgrow.sends_from hsent, hgrow.tells_from htold⟩

end Yields

end Own

/-- Settles O40: by who holds the trunk, and the lower station's claim. -/
theorem trunkClaimHeard : Obligations.TrunkClaimHeard := by
  intro s f refresh tr c l hs h1 h12 hc hl
  have hok : (Payload.claim (.trunk tr) (if refresh then .refresh else .claim) c l).ok = true := by
    cases refresh <;> simp [Payload.ok, Resource.ok, (trunkOk_iff tr).mpr ⟨h1, h12⟩, hc, hl]
  obtain ⟨ev, line, hg⟩ : ∃ ev line, greeted f s = { s with events := ev, line := line } := ⟨_, _, greeted_eq hs⟩
  have htr (j : Nat) : (greeted f s).trunk j = s.trunk j := by rw [hg]; rfl
  have hlabel (u : TrunkUser) : (greeted f s).trunkLabel u = s.trunkLabel u := by rw [hg]; cases u <;> rfl
  have hself : (greeted f s).self = s.self := by rw [hg]; rfl
  have hfree : (greeted f s).freeTrunk = s.freeTrunk := by rw [hg]; rfl
  have hgrow : Grows { claims := false, notices := false } (greeted f s) (hearTrunkClaim f.station tr (greeted f s)) :=
    hearTrunkClaim_grows rfl rfl _ _ _
  refine ⟨_, congrArg Host.Outcome.next (heard_step hs hok _), ?_, fun hnone => ⟨?_, ?_⟩,
    fun p age hp => ⟨fun hle => ?_, fun hlt => ?_, fun hlt => ⟨fun b bo q k hb hon hin hne _ => ⟨?_, ?_⟩,
      fun k x hk hside hon hne htarget _ => ⟨?_, fun hst => ?_⟩⟩⟩,
    fun ph cf u w r hown => ⟨fun hlt => ?_, fun hlt hw => ?_⟩, ?_⟩
  · exact heard_peers hs (w := { Parts.settled with
      channels := true, trunks := true, booths := true, desks := true, exported := true, feeds := true, contexts := true })
      (by apply hearTrunkClaim_frame <;> rfl) rfl
  · rw [settle_trunk, hearTrunkClaim_free ((htr tr).trans hnone)]
    exact setTrunk_self _ _ _
  · rw [hearTrunkClaim_free ((htr tr).trans hnone)]
    exact heard_frame hs (w := { Parts.heard with trunks := true }) (setTrunk_frame rfl _ _ _)
      rfl rfl rfl rfl rfl rfl rfl rfl rfl
  · rw [settle_trunk]
    exact hearTrunkClaim_takes ((htr tr).trans hp) hle
  · rw [hearTrunkClaim_higher ((htr tr).trans hp) hlt]
    exact heard_frame hs rfl rfl rfl rfl rfl rfl rfl rfl rfl rfl
  · rw [settle_boothRec, hearTrunkClaim_lower ((htr tr).trans hp) hlt]
    exact (followTrunk_waits (setTrunk_self _ _ _) (by rw [hg]; exact hb) hon hin hne).1
  · rw [settle_route (inputOutput_ne_floor b), hearTrunkClaim_lower ((htr tr).trans hp) hlt]
    exact (followTrunk_waits (setTrunk_self _ _ _) (by rw [hg]; exact hb) hon hin hne).2
  · rw [hearTrunkClaim_lower ((htr tr).trans hp) hlt]
    rw [settle_context]
    exact (followTrunk_feeds (setTrunk_self _ _ _) (by rw [hg]; exact hk) hside hon hne).1
  · rw [settle_route (busOutput_ne_floor htarget), hearTrunkClaim_lower ((htr tr).trans hp) hlt]
    exact (followTrunk_feeds (setTrunk_self _ _ _) (by rw [hg]; exact hk) hside hon hne).2 hst
  · rw [hearTrunkClaim_kept ((htr tr).trans hown) (by rw [hself]; exact hlt)]
    have hsent := sendTrunkClaim_sends tr .refresh u (setTrunk tr (.own ph cf u w (r.map fun _ => 10000)) (greeted f s))
    rw [show (setTrunk tr (.own ph cf u w (r.map fun _ => 10000)) (greeted f s)).trunkLabel u = s.trunkLabel u from
      (trunkLabel_congr rfl rfl u).trans (hlabel u)] at hsent
    refine ⟨?_, ?_, ?_⟩
    · rw [settle_trunk, trunk_congr (congrArg PlannerBlock.trunks (sendTrunkClaim_planner _ _ _ _))]
      exact setTrunk_self _ _ _
    · refine heard_sends hs (κ := { claims := false }) ?_
        ((setTrunk_grows _ _ _).trans (sendTrunkClaim_grows rfl _ _ _ _)) rfl
      exact (setTrunk_grows (κ := {}) _ _ _).sends_from hsent
    · refine heard_frame hs (w := { Parts.heard with trunks := true }) ?_ rfl rfl rfl rfl rfl rfl rfl rfl rfl
      exact (enqueueFrame_frame rfl rfl _ _ _).trans (setTrunk_frame rfl _ _ _)
  · have hv : (greeted f s).trunk tr = some (.own ph cf u w r) := (htr tr).trans hown
    have hyield := hearTrunkClaim_yields hv (by rw [hself]; exact hlt)
    have hwv : Tab.wf (greeted f s).planner.trunks = true := by rw [hg]; exact hw
    rw [hyield] at hgrow ⊢
    have hsent {d : Nat} {p : Payload} (h : (greeted f s).sends (yieldTrunk f.station tr u (greeted f s)) d p)
        (hk : Keep.steady.has p.key = true) : s.sends (settle (yieldTrunk f.station tr u (greeted f s))) d p :=
      heard_sends hs h hgrow hk
    obtain ⟨hpass, hrelease⟩ := yieldTrunk_passes (u := u) (tr := tr) hwv f.station
    rw [hlabel] at hrelease
    refine ⟨(settle_trunk _ _).trans hpass, hsent hrelease rfl, fun t' ht' => ?_, fun hnone =>
      ⟨fun j e hu he => ?_, fun k x hu hk => ?_⟩⟩
    · obtain ⟨hwindow, hclaim⟩ := yieldTrunk_moves hv f.station (hfree.trans ht')
      rw [hlabel] at hclaim
      exact ⟨(settle_trunk _ _).trans hwindow, hsent hclaim rfl⟩
    · obtain ⟨hgone, hanswer⟩ := yieldTrunk_strands hv f.station (hfree.trans hnone) hu (e := e) (by rw [hg]; exact he)
      rw [settle_relay]
      exact ⟨hgone, fun x hx => hsent (hanswer x hx) rfl⟩
    · obtain ⟨hgone, hend, htold⟩ := yieldTrunk_ends hv f.station (hfree.trans hnone) hu (k := k) (x := x)
        (by rw [hg]; exact hk)
      exact ⟨(settle_context _ k).trans hgone, hsent hend rfl, heard_tells hs htold⟩
  · exact heard_frame hs (w := { Parts.heard with
      channels := true, trunks := true, booths := true, desks := true, exported := true, feeds := true, contexts := true })
      (by apply hearTrunkClaim_frame <;> rfl) rfl rfl rfl rfl rfl rfl rfl rfl rfl

end Sys2Proof.Machine

/-! What a sending context keeps where its booth changes what it holds (R47, R74 to R76). -/

namespace Sys2Proof.Machine

/-- A feed context without its pedigree and without its booth's hold. -/
abbrev Feed.bare (f : Feed) : Feed := { f with pedigree := [], boothHeld := false }

theorem FeedsKept.bare {s t : State} (h : FeedsKept s t) (k : Nat) :
    (t.context k).map Feed.bare = (s.context k).map Feed.bare := by
  have hq := congrArg (Option.map Feed.bare) (h.context k)
  rw [Option.map_map, Option.map_map] at hq
  exact hq

/-- A feed that waits for a channel is a receiving one. -/
theorem waitingFeed_receiving {s : State} (hw : Tab.wf s.feed.contexts = true) {c j : Nat} (h : s.waitingFeed c = some j) :
    ∃ y, s.context j = some y ∧ y.side = .receiving ∧ y.target = c := by
  obtain ⟨e, hfound, rfl⟩ := Option.map_eq_some_iff.mp h
  have htest := List.find?_some hfound
  simp only [Bool.and_eq_true, decide_eq_true_eq] at htest
  exact ⟨e.2, get_of_mem_of_wf hw (List.mem_of_find?_eq_some hfound), htest.1.1, htest.1.2⟩

/-- A feed that takes its channel. -/
def Feed.takes (f : Feed) : Feed := { f with state := .holding, blockedWait := none }

theorem feedTakes_eq (k c : Nat) (s : State) : feedTakes k c s = setHolder c (.feed k) (modFeed k Feed.takes s) := rfl

section Sending

variable {k : Nat} {s : State} {x : Feed} (hk : s.context k = some x)
include hk

theorem reportUnheld_bare (hst : x.state ≠ .live) (j : Nat) :
    ((reportUnheld j s).context k).map Feed.bare = (s.context k).map Feed.bare := by
  unfold reportUnheld
  cases hj : Tab.get s.feed.contexts j with
  | none => rfl
  | some f =>
    dsimp only
    by_cases hjk : k = j
    · subst hjk
      have hfx : f = x := Option.some.inj (hj.symm.trans hk)
      rw [if_neg (by rw [hfx]; exact hst), modFeed_context_self, Option.map_map]
      rfl
    · split
      · rw [sendFeedState_context, modFeed_context_ne hjk, modFeed_context_ne hjk]
      · rw [modFeed_context_ne hjk]

theorem vacate_bare (hw : Tab.wf s.feed.contexts = true) (hside : x.side = .sending) (c : Nat) :
    ((vacate c s).context k).map Feed.bare = (s.context k).map Feed.bare := by
  unfold vacate
  split
  next j hj =>
    split
    · obtain ⟨y, hy, hyside, -⟩ := waitingFeed_receiving hw hj
      have hne : k ≠ j := by
        rintro rfl
        rw [hk, Option.some.injEq] at hy
        rw [hy, hyside] at hside
        simp at hside
      rw [feedTakes_eq, (setHolder_feeds _ _ _).bare, modFeed_context_ne hne]
    · exact (setHolder_feeds _ _ _).bare k
  · exact (setHolder_feeds _ _ _).bare k

/-- A sending context that is not LIVE keeps its state where its booth stops holding. -/
theorem leave_bare (hw : Tab.wf s.feed.contexts = true) (hside : x.side = .sending) (hst : x.state ≠ .live)
    (h : Option Held) : ((leave h s).context k).map Feed.bare = (s.context k).map Feed.bare := by
  rcases h with - | c | j
  · rfl
  · exact vacate_bare hk hw hside c
  · exact reportUnheld_bare hk hst j

end Sending

theorem forceOff_feed (b : Nat) (cause : HoldCause) (s : State) : (forceOff b cause s).feed = s.feed :=
  same_feed (w := { events := true, booths := true, desks := true }) (forceOff_frame rfl rfl rfl b cause s) rfl rfl

/-! ### The replacement begins (R47) -/

/-- The booth's hold forced off, if output A is held. -/
def replacementMade (b : Nat) (bo : Booth) (s : State) : State :=
  if bo.holding.isSome && bo.selected = .a then leave bo.target (forceOff b .feed s) else s

section Replacement

variable {k b : Nat} {s : State} {bo : Booth} (hb : s.boothRec b = some bo)
include hb

theorem beginReplacement_quiet : Quiet (modBooth b (fun bo => { bo with feed := some k }) (replacementMade b bo s))
    (beginReplacement k b s) := by
  simp only [beginReplacement, hb]
  exact (recomputeBooths_quiet _ _).trans (recheckOutputs_quiet _ _)

/-- The booth's output A is the feed. -/
theorem beginReplacement_booth : ∃ bo', (beginReplacement k b s).boothRec b = some bo' ∧ bo'.feed = some k := by
  have hplan : Tab.mapAll (replacementMade b bo s).booth.booths Booth.plan = Tab.mapAll s.booth.booths Booth.plan := by
    unfold replacementMade
    split
    · refine same_booths_plan (w := { Parts.settled with channels := true, booths := true, desks := true, feeds := true }) ?_ rfl
      exact Eq.trans (by apply leave_frame <;> rfl) (forceOff_frame rfl rfl rfl _ _ _)
    · rfl
  have hget := congrArg (Tab.get · b) hplan
  simp only [tab_get_mapAll] at hget
  rw [show Tab.get s.booth.booths b = some bo from hb, Option.map_some, Option.map_eq_some_iff] at hget
  obtain ⟨bo1, hbo1, -⟩ := hget
  obtain ⟨bo', hbo', hq⟩ := (beginReplacement_quiet (k := k) hb).toCalm.booth_some (b := b)
    (bo := { bo1 with feed := some k }) (by rw [modBooth_boothRec_self, State.boothRec, hbo1]; rfl)
  have hfeed := congrArg Booth.feed hq
  exact ⟨bo', hbo', hfeed⟩

end Replacement

/-- A context that claims its trunk still does once it is its booth's output A. -/
theorem beginReplacement_bare {k : Nat} {s : State} {x : Feed} (hk : s.context k = some x)
    (hw : Tab.wf s.feed.contexts = true) (hside : x.side = .sending) (hst : x.state ≠ .live) (j b : Nat) :
    ((beginReplacement j b s).context k).map Feed.bare = (s.context k).map Feed.bare := by
  cases hb : s.boothRec b with
  | none => simp only [beginReplacement, hb]
  | some bo =>
    rw [(beginReplacement_quiet hb).toCalm.feeds.bare]
    change ((replacementMade b bo s).context k).map Feed.bare = _
    unfold replacementMade
    split
    · have hfeed := forceOff_feed b .feed s
      have hctx : (forceOff b .feed s).context k = s.context k := by simp only [State.context, hfeed]
      rw [leave_bare (hctx.trans hk) (by rw [hfeed]; exact hw) hside hst, hctx]
    · rfl

end Sys2Proof.Machine

/-! FEED_OFFER and FEED_ANSWER heard (R72, R74, R78). -/

namespace Sys2Proof.Machine

/-! ### The tests of an offer (R78) -/

/-- A receiving context as an offer makes it. -/
def Feed.offered (q b : Nat) (l : Tag) (c : Nat) (p : Pedigree) : Feed :=
  { side := .receiving, state := .offered, partner := q, booth := b, target := c, language := l, trunk := none
    pedigree := p, boothHeld := false, senderLive := false, answerWait := some 10000, readyWait := none
    blockedWait := none }

/-- An offer taken into context k. -/
def offerTaken (k q b : Nat) (l : Tag) (c : Nat) (p : Pedigree) (s : State) : State :=
  { s with feed.contexts := Tab.set s.feed.contexts k (.offered q b l c p) }

/-- An offer as it is tested, once no context has its key. -/
def offerTested (q b : Nat) (l : Tag) (c : Nat) (p : Pedigree) (s : State) : State :=
  match s.offerRefused l c, Tab.firstFree s.feed.contexts 1 4 with
  | some why, _ => queueEvent .feedOfferRefused [q, b, c, why.code] (enqueueFrame q (.feedAnswer b c false) s)
  | none, none => s
  | none, some k => queueEvent .feedOffered [k, q, b, c] (offerTaken k q b l c p s)

section Offer

variable {q b c : Nat} {l : Tag} {p : Pedigree} {s : State}

theorem hearOffer_new (h : s.matchFeed .receiving q b c = none) : hearOffer q b l c p s = offerTested q b l c p s := by
  simp only [hearOffer, h, offerTested]
  rfl

theorem hearOffer_known {k : Nat} (h : s.matchFeed .receiving q b c = some k) :
    hearOffer q b l c p s = offerTested q b l c p (endFeedContext k .unknown true s) := by
  simp only [hearOffer, h, offerTested]
  rfl

theorem offerTested_refused {why : OfferCase} (h : s.offerRefused l c = some why) : offerTested q b l c p s =
    queueEvent .feedOfferRefused [q, b, c, why.code] (enqueueFrame q (.feedAnswer b c false) s) := by
  simp only [offerTested, h]

theorem offerTested_taken {k : Nat} (h : s.offerRefused l c = none) (hk : Tab.firstFree s.feed.contexts 1 4 = some k) :
    offerTested q b l c p s = queueEvent .feedOffered [k, q, b, c] (offerTaken k q b l c p s) := by
  simp only [offerTested, h, hk]

theorem offerTaken_context (k : Nat) : (offerTaken k q b l c p s).context k = some (.offered q b l c p) :=
  tab_get_set_self _ _ _

theorem offerTaken_grows {κ : Keep} (k : Nat) : Grows κ s (offerTaken k q b l c p s) := .of_same rfl rfl rfl rfl

theorem offerTested_grows {κ : Keep} : Grows κ s (offerTested q b l c p s) := by
  unfold offerTested
  split
  · exact (enqueueFrame_grows _ _ (by simp [Payload.key]) _).trans (queueEvent_grows _ _ _)
  · exact .refl s
  · exact (offerTaken_grows _).trans (queueEvent_grows _ _ _)

/-- The tests of an offer look at the channel's language and at what the contexts were offered. -/
theorem offerRefused_congr {t : State} (hc : (t.channel c).map Channel.language = (s.channel c).map Channel.language)
    (hf : Tab.mapAll t.feed.contexts Feed.plan = Tab.mapAll s.feed.contexts Feed.plan) :
    t.offerRefused l c = s.offerRefused l c ∧ Tab.firstFree t.feed.contexts 1 4 = Tab.firstFree s.feed.contexts 1 4 := by
  have hfree : Tab.firstFree t.feed.contexts 1 4 = Tab.firstFree s.feed.contexts 1 4 := by
    refine firstFree_congr (fun j => ?_) 1 4
    have hget := congrArg (fun u => (Tab.get u j).isSome) hf
    simpa [tab_get_mapAll, Tab.has] using hget
  have hany (u : Table Feed) : (u.any fun e => e.2.side = .receiving && e.2.target = c) =
      (Tab.mapAll u Feed.plan).any fun e => e.2.side = .receiving && e.2.target = c := by
    simp only [Tab.mapAll, List.any_map]
    rfl
  refine ⟨?_, hfree⟩
  simp only [State.offerRefused]
  rw [hany, hf, ← hany, hfree]
  cases hs : s.channel c with
  | none =>
    rw [hs, Option.map_none, Option.map_eq_none_iff] at hc
    rw [hc]
  | some ch =>
    rw [hs, Option.map_some, Option.map_eq_some_iff] at hc
    obtain ⟨ch', hch', hl⟩ := hc
    rw [hch']
    dsimp only
    rw [hl]

end Offer

/-- What the end of a receiving context leaves of the others and of the channels. -/
theorem endFeedContext_receiving_frame {k : Nat} {f : Feed} {s : State} (hk : s.context k = some f)
    (hside : f.side = .receiving) (cause : FeedCause) (partner : Bool) :
    SameBut { Parts.settled with channels := true, booths := true, feeds := true } (freeContext k s)
      (endFeedContext k cause partner s) := by
  rw [endFeedContext_receiving hk hside]
  refine (queueEvent_frame rfl _ _ _).trans ?_
  split
  · apply setHolder_frame <;> rfl
  · rfl

theorem channel_language_of_same {s t : State}
    (h : Tab.mapAll t.planner.channels Channel.plan = Tab.mapAll s.planner.channels Channel.plan) (c : Nat) :
    (t.channel c).map Channel.language = (s.channel c).map Channel.language := by
  have hget := congrArg (fun u => (Tab.get u c).map Channel.language) h
  simp only [tab_get_mapAll, Option.map_map] at hget
  exact hget

/-! ### ACCEPT (R74) -/

/-- An OFFERED context that claims its trunk. -/
def Feed.claims (tr : Nat) (x : Feed) : Feed := { x with answerWait := none, state := .claiming, trunk := some tr }

section Accept

variable {k : Nat} {s : State} {x : Feed} (hk : s.context k = some x)
include hk

/-- The state in which an accepted offer looks for its trunk. -/
theorem acceptOffer_none (h : s.freeTrunk = none) :
    acceptOffer k s = endWith k .noTrunk (modFeed k (fun f => { f with answerWait := none }) s) := by
  have hfree : (modFeed k (fun f => { f with answerWait := none }) s).freeTrunk = none := h
  simp only [acceptOffer, hk, hfree]

theorem acceptOffer_some {tr : Nat} (h : s.freeTrunk = some tr) : acceptOffer k s =
    beginReplacement k x.booth (modFeed k (fun f => { f with state := .claiming, trunk := some tr })
      (takeTrunk tr (.feed k) (modFeed k (fun f => { f with answerWait := none }) s))) := by
  have hfree : (modFeed k (fun f => { f with answerWait := none }) s).freeTrunk = some tr := h
  simp only [acceptOffer, hk, hfree]

/-- The context as its replacement begins. -/
theorem claiming_context (tr : Nat) : (modFeed k (fun f => { f with state := .claiming, trunk := some tr })
    (takeTrunk tr (.feed k) (modFeed k (fun f => { f with answerWait := none }) s))).context k = some (x.claims tr) := by
  have hfeed : (takeTrunk tr (.feed k) (modFeed k (fun f => { f with answerWait := none }) s)).feed
      = (modFeed k (fun f => { f with answerWait := none }) s).feed := enqueueFrame_feed _ _ _
  have hctx : (takeTrunk tr (.feed k) (modFeed k (fun f => { f with answerWait := none }) s)).context k
      = some { x with answerWait := none } := by
    rw [State.context, hfeed]
    exact (modFeed_context_self k _ s).trans (by rw [hk]; rfl)
  rw [modFeed_context_self, hctx]
  rfl

end Accept

end Sys2Proof.Machine

/-! FEED_OFFER and FEED_ANSWER heard: the statement (R72, R74, R78). -/

namespace Sys2Proof.Machine

theorem context_of_match {s : State} (hw : Tab.wf s.feed.contexts = true) {side : Side} {q b c k : Nat}
    (h : s.matchFeed side q b c = some k) : ∃ x, s.context k = some x ∧ x.side = side := by
  obtain ⟨e, hfound, rfl⟩ := Option.map_eq_some_iff.mp h
  have htest := List.find?_some hfound
  simp only [Bool.and_eq_true, decide_eq_true_eq] at htest
  exact ⟨e.2, get_of_mem_of_wf hw (List.mem_of_find?_eq_some hfound), htest.1.1.1⟩

/-! ### A known offer -/

section Known

variable {k q b c : Nat} {l : Tag} {p : Pedigree} {s : State} {x : Feed} (hk : s.context k = some x)
  (hside : x.side = .receiving)
include hk

theorem known_offer_tells : s.tells (offerTested q b l c p (endFeedContext k .unknown true s)) .feedEnded
    [k, x.partner, FeedCause.unknown.code, 1] :=
  (offerTested_grows (κ := {})).tells (endFeedContext_tells hk .unknown true)

include hside

/-- A known offer is tested as if its context had not been there. -/
theorem known_offer_tests : (endFeedContext k .unknown true s).offerRefused l c = (freeContext k s).offerRefused l c
    ∧ Tab.firstFree (endFeedContext k .unknown true s).feed.contexts 1 4
      = Tab.firstFree (freeContext k s).feed.contexts 1 4 := by
  have hframe := endFeedContext_receiving_frame hk hside .unknown true
  exact offerRefused_congr (channel_language_of_same (same_channels_plan hframe rfl) c) (same_feeds_plan hframe rfl)

theorem known_offer_refused {why : OfferCase} (h : (freeContext k s).offerRefused l c = some why) :
    let t := offerTested q b l c p (endFeedContext k .unknown true s)
    t.context k = none ∧ s.sends t q (.feedAnswer b c false) ∧ s.tells t .feedOfferRefused [q, b, c, why.code] := by
  intro t
  have ht : t = queueEvent .feedOfferRefused [q, b, c, why.code]
      (enqueueFrame q (.feedAnswer b c false) (endFeedContext k .unknown true s)) :=
    offerTested_refused ((known_offer_tests hk hside).1.trans h)
  have hended : Grows { claims := false, notices := false } s (endFeedContext k .unknown true s) :=
    endFeedContext_grows rfl rfl _ _ _ _
  obtain ⟨htold, hsent⟩ := told_after_frame .feedOfferRefused [q, b, c, why.code] q (.feedAnswer b c false)
    (endFeedContext k .unknown true s) rfl
  rw [ht]
  refine ⟨?_, hended.sends_from hsent, hended.tells_from htold⟩
  rw [State.context, queueEvent_feed, enqueueFrame_feed]
  exact endFeedContext_context_self _ _ _ _

theorem known_offer_taken {j : Nat} (h : (freeContext k s).offerRefused l c = none)
    (hj : Tab.firstFree (freeContext k s).feed.contexts 1 4 = some j) :
    let t := offerTested q b l c p (endFeedContext k .unknown true s)
    t.context j = some (.offered q b l c p) ∧ (j ≠ k → t.context k = none) ∧ s.tells t .feedOffered [j, q, b, c] := by
  intro t
  obtain ⟨hrefused, hfree⟩ := known_offer_tests hk hside (l := l) (c := c)
  have ht : t = queueEvent .feedOffered [j, q, b, c] (offerTaken j q b l c p (endFeedContext k .unknown true s)) :=
    offerTested_taken (hrefused.trans h) (hfree.trans hj)
  have hended : Grows .nothing s (endFeedContext k .unknown true s) := endFeedContext_grows rfl rfl _ _ _ _
  rw [ht]
  refine ⟨?_, fun hne => ?_, (hended.trans (offerTaken_grows j)).tells_from (queueEvent_tells _ _ _)⟩
  · rw [State.context, queueEvent_feed]
    exact offerTaken_context j
  · rw [State.context, queueEvent_feed]
    exact (tab_get_set_ne _ _ _ _ hne.symm).trans (endFeedContext_context_self _ _ _ _)

end Known

/-! ### Answers -/

section Answer

variable {q b c k : Nat} {s : State} {x : Feed}

theorem hearFeedAnswer_unmatched (h : s.matchFeed .sending q b c = none) (accept : Bool) :
    hearFeedAnswer q b c accept s = if accept then answerUnknown q b c s else s := by
  simp only [hearFeedAnswer, h]

theorem hearFeedAnswer_other (h : s.matchFeed .sending q b c = some k) (hk : s.context k = some x)
    (hst : x.state ≠ .offered) (accept : Bool) : hearFeedAnswer q b c accept s = s := by
  simp [hearFeedAnswer, h, hk, hst]

theorem hearFeedAnswer_offered (h : s.matchFeed .sending q b c = some k) (hk : s.context k = some x)
    (hst : x.state = .offered) (accept : Bool) :
    hearFeedAnswer q b c accept s = if accept then acceptOffer k s else endFeedContext k .declined true s := by
  simp [hearFeedAnswer, h, hk, hst]

theorem hearFeedAnswer_grows (q b c : Nat) (accept : Bool) (s : State) :
    Grows { claims := false, notices := false } s (hearFeedAnswer q b c accept s) := by
  unfold hearFeedAnswer
  repeat' split
  · exact enqueueFrame_grows _ _ (by simp [Payload.key]) _
  · exact .refl s
  · exact acceptOffer_grows rfl rfl _ _
  · exact endFeedContext_grows rfl rfl _ _ _ _
  · exact .refl s

theorem hearFeedAnswer_frame {w : Parts} (h1 : w.events = true) (h2 : w.notices = true) (h3 : w.channels = true)
    (h4 : w.trunks = true) (h5 : w.booths = true) (h6 : w.desks = true) (h7 : w.feeds = true) (h8 : w.contexts = true)
    (h9 : w.lineQueue = true) (h10 : w.outbound = true) (h11 : w.routes = true) (q b c : Nat) (accept : Bool) (s : State) :
    (hearFeedAnswer q b c accept s).blank w = s.blank w := by
  unfold hearFeedAnswer
  repeat' split
  · exact enqueueFrame_frame h1 h9 _ _ _
  · rfl
  · exact acceptOffer_frame h1 h2 h3 h4 h5 h6 h7 h8 h9 h10 h11 _ _
  · exact endFeedContext_frame h1 h2 h3 h4 h5 h6 h7 h8 h9 h10 h11 _ _ _ _
  · rfl

/-- No trunk is free for an accepted feed. -/
theorem acceptOffer_ends (hk : s.context k = some x) (h : s.freeTrunk = none) : (acceptOffer k s).context k = none
    ∧ s.tells (acceptOffer k s) .feedEnded [k, x.partner, FeedCause.noTrunk.code, 0]
    ∧ s.sends (acceptOffer k s) x.partner (.feedState x.booth x.target (.ended .noTrunk)) := by
  have hmod : Grows {} s (modFeed k (fun f => { f with answerWait := none }) s) := modFeed_grows _ _ _
  obtain ⟨hsent, htold⟩ := endWith_reports (k := k) (s := modFeed k (fun f => { f with answerWait := none }) s)
    (f := { x with answerWait := none }) (by rw [modFeed_context_self, hk]; rfl) .noTrunk
  rw [acceptOffer_none hk h]
  exact ⟨endWith_context_self _ _ _, hmod.tells_from htold, hmod.sends_from hsent⟩

/-- An accepted feed claims a trunk, and is its booth's output A. -/
theorem acceptOffer_claims {tr : Nat} (hk : s.context k = some x) (hside : x.side = .sending) (h : s.freeTrunk = some tr)
    (hw : Tab.wf s.feed.contexts = true) :
    ((acceptOffer k s).context k).map Feed.bare = some (x.claims tr).bare
      ∧ (acceptOffer k s).trunk tr = some (.own .window false (.feed k) (some 600) none)
      ∧ s.sends (acceptOffer k s) 0 (.claim (.trunk tr) .claim x.target x.language)
      ∧ ∀ bo, s.boothRec x.booth = some bo → ∃ bo', (acceptOffer k s).boothRec x.booth = some bo' ∧ bo'.feed = some k := by
  rw [acceptOffer_some hk h]
  have hmod : Grows {} s (modFeed k (fun f => { f with answerWait := none }) s) := modFeed_grows _ _ _
  have hctx := claiming_context hk tr
  have hlabel : (modFeed k (fun f => { f with answerWait := none }) s).trunkLabel (.feed k) = (x.target, x.language) := by
    have hk' : (modFeed k (fun f => { f with answerWait := none }) s).context k = some { x with answerWait := none } := by
      rw [modFeed_context_self, hk]
      rfl
    simp only [State.trunkLabel, show Tab.get _ k = _ from hk']
  have hsent := takeTrunk_sends tr (.feed k) (modFeed k (fun f => { f with answerWait := none }) s)
  rw [hlabel] at hsent
  have htrunk := takeTrunk_trunk_self tr (.feed k) (modFeed k (fun f => { f with answerWait := none }) s)
  have hfeed : (takeTrunk tr (.feed k) (modFeed k (fun f => { f with answerWait := none }) s)).feed
      = (modFeed k (fun f => { f with answerWait := none }) s).feed := enqueueFrame_feed _ _ _
  have hbooth : (takeTrunk tr (.feed k) (modFeed k (fun f => { f with answerWait := none }) s)).booth = s.booth :=
    enqueueFrame_booth _ _ _
  have hgrow : Grows { claims := false } (modFeed k (fun f => { f with answerWait := none }) s)
      (takeTrunk tr (.feed k) (modFeed k (fun f => { f with answerWait := none }) s)) := takeTrunk_grows rfl _ _ _
  generalize takeTrunk tr (.feed k) (modFeed k (fun f => { f with answerWait := none }) s) = v at *
  refine ⟨?_, ?_, ?_, fun bo hbo => ?_⟩
  · have hwv : Tab.wf v.feed.contexts = true := by
      rw [hfeed]
      exact modFeed_wf _ _ hw
    rw [beginReplacement_bare hctx (modFeed_wf _ _ hwv) hside (by simp [Feed.claims]), hctx]
    rfl
  · rw [trunk_congr (same_planner_trunks (w := { Parts.settled with
      channels := true, booths := true, desks := true, feeds := true }) (by apply beginReplacement_frame <;> rfl) rfl)]
    exact htrunk
  · refine hmod.sent_by hgrow (κ'' := { notices := false }) ?_ hsent rfl
    exact (modFeed_grows _ _ _).trans (beginReplacement_grows rfl _ _ _)
  · refine beginReplacement_booth (bo := bo) ?_
    change v.boothRec x.booth = some bo
    rw [State.boothRec, hbooth]
    exact hbo

end Answer

/-- Settles O43: the offer by its tests, the answer by the context that matches it. -/
theorem feedOffersAndAnswers : Obligations.FeedOffersAndAnswers := by
  intro s f b c hs hb hc all
  obtain ⟨ev, line, hg⟩ : ∃ ev line, greeted f s = { s with events := ev, line := line } := ⟨_, _, greeted_eq hs⟩
  refine ⟨fun l p hl hp => ?_, fun accept => ?_⟩
  · have hok : (Payload.feedOffer b l c p).ok = true := by simp [Payload.ok, hb, hc, hl, hp]
    refine ⟨_, congrArg Host.Outcome.next (heard_step hs hok _), ?_, fun hnew => ⟨fun why hwhy => ?_, fun k hnone hk => ?_⟩,
      fun k x hkey hk hside hw => ?_, ?_⟩
    · exact heard_peers hs (w := { Parts.settled with
        channels := true, trunks := true, booths := true, desks := true, feeds := true, contexts := true })
        (by apply hearOffer_frame <;> rfl) rfl
    · rw [hearOffer_new (by rw [hg]; exact hnew), offerTested_refused (why := why) (by rw [hg]; exact hwhy)]
      obtain ⟨htold, hsent⟩ := told_after_frame .feedOfferRefused [f.station, b, c, why.code] f.station
        (.feedAnswer b c false) (greeted f s) rfl
      refine ⟨heard_sends (κ := {}) hs hsent ?_ rfl, heard_tells hs htold, ?_⟩
      · exact (enqueueFrame_grows _ _ (by simp [Payload.key]) _).trans (queueEvent_grows _ _ _)
      · exact heard_frame hs ((queueEvent_frame rfl _ _ _).trans (enqueueFrame_frame rfl rfl _ _ _))
          rfl rfl rfl rfl rfl rfl rfl rfl rfl
    · rw [hearOffer_new (by rw [hg]; exact hnew), offerTested_taken (k := k) (by rw [hg]; exact hnone) (by rw [hg]; exact hk)]
      refine ⟨?_, fun j hj => ?_, heard_tells hs ?_, ?_⟩
      · rw [settle_context, State.context, queueEvent_feed]
        exact offerTaken_context k
      · rw [settle_context, State.context, queueEvent_feed]
        exact (tab_get_set_ne _ _ _ _ hj).trans (by rw [hg]; rfl)
      · exact (offerTaken_grows (κ := {}) k).tells_from (queueEvent_tells _ _ _)
      · exact heard_frame hs (w := { Parts.heard with contexts := true })
          ((queueEvent_frame rfl _ _ _).trans (blank_feed_contexts rfl _ _)) rfl rfl rfl rfl rfl rfl rfl rfl rfl
    · have hk' : (greeted f s).context k = some x := by rw [hg]; exact hk
      have hfreed : freeContext k (greeted f s) = { freeContext k s with events := ev, line := line } := by rw [hg]; rfl
      have hgrow : Grows { claims := false, notices := false } (greeted f s)
          (offerTested f.station b l c p (endFeedContext k .unknown true (greeted f s))) :=
        (endFeedContext_grows rfl rfl _ _ _ _).trans offerTested_grows
      intro freed
      rw [hearOffer_known (k := k) (by rw [hg]; exact hkey)]
      refine ⟨heard_tells hs (known_offer_tells hk'), fun why hwhy => ?_, fun j hnone hj => ?_⟩
      · obtain ⟨hgone, hsent, htold⟩ := known_offer_refused (q := f.station) (b := b) (p := p) hk' hside (why := why)
          (by rw [hfreed]; exact hwhy)
        exact ⟨(settle_context _ _).trans hgone, heard_sends hs hsent hgrow rfl, heard_tells hs htold⟩
      · obtain ⟨hnew, hgone, htold⟩ := known_offer_taken (q := f.station) (b := b) (p := p) hk' hside
          (by rw [hfreed]; exact hnone) (by rw [hfreed]; exact hj)
        exact ⟨(settle_context _ _).trans hnew, fun hne => (settle_context _ _).trans (hgone hne), heard_tells hs htold⟩
    · exact heard_frame hs (w := all) (by apply hearOffer_frame <;> rfl) rfl rfl rfl rfl rfl rfl rfl rfl rfl
  · have hok : (Payload.feedAnswer b c accept).ok = true := by simp [Payload.ok, hb, hc]
    have hgrow := hearFeedAnswer_grows f.station b c accept (greeted f s)
    refine ⟨_, congrArg Host.Outcome.next (heard_step hs hok _), ?_, fun hnew => ?_,
      fun k x hkey hk hside => ⟨fun hst => ?_, fun hst hacc => ?_, fun hst hacc hnone => ?_, fun tr hst hacc htr hw => ?_⟩, ?_⟩
    · exact heard_peers hs (w := { Parts.settled with
        channels := true, trunks := true, booths := true, desks := true, feeds := true, contexts := true })
        (by apply hearFeedAnswer_frame <;> rfl) rfl
    · rw [hearFeedAnswer_unmatched (by rw [hg]; exact hnew)]
      refine ⟨fun hacc => ?_, ?_⟩
      · rw [if_pos hacc]
        exact heard_sends hs (enqueueFrame_sends _ _ _) (enqueueFrame_grows (κ := {}) _ _ (by simp [Payload.key]) _) rfl
      · refine heard_frame hs ?_ rfl rfl rfl rfl rfl rfl rfl rfl rfl
        split
        · exact enqueueFrame_frame rfl rfl _ _ _
        · rfl
    · rw [hearFeedAnswer_other (x := x) (k := k) (by rw [hg]; exact hkey) (by rw [hg]; exact hk) hst]
      exact heard_frame hs rfl rfl rfl rfl rfl rfl rfl rfl rfl rfl
    · have hk' : (greeted f s).context k = some x := by rw [hg]; exact hk
      rw [hearFeedAnswer_offered (x := x) (k := k) (by rw [hg]; exact hkey) hk' hst, hacc]
      exact ⟨(settle_context _ _).trans (endFeedContext_context_self _ _ _ _),
        heard_tells hs (endFeedContext_tells hk' .declined true)⟩
    · have hk' : (greeted f s).context k = some x := by rw [hg]; exact hk
      rw [hearFeedAnswer_offered (x := x) (k := k) (by rw [hg]; exact hkey) hk' hst, if_pos hacc]
      obtain ⟨hgone, htold, hsent⟩ := acceptOffer_ends hk' (by rw [hg]; exact hnone)
      exact ⟨(settle_context _ _).trans hgone, heard_tells hs htold,
        heard_sends (κ := { claims := false, notices := false }) hs hsent (acceptOffer_grows rfl rfl _ _) rfl⟩
    · have hk' : (greeted f s).context k = some x := by rw [hg]; exact hk
      rw [hearFeedAnswer_offered (x := x) (k := k) (by rw [hg]; exact hkey) hk' hst, if_pos hacc]
      obtain ⟨hctx, htrunk, hsent, hbooth⟩ := acceptOffer_claims hk' hside (tr := tr) (by rw [hg]; exact htr)
        (by rw [hg]; exact hw)
      refine ⟨?_, (settle_trunk _ _).trans htrunk,
        heard_sends (κ := { claims := false, notices := false }) hs hsent (acceptOffer_grows rfl rfl _ _) rfl,
        fun bo hbo => ?_⟩
      · obtain ⟨x', hx', hbare⟩ := Option.map_eq_some_iff.mp hctx
        simp only [Feed.bare, Feed.claims, Feed.mk.injEq] at hbare
        obtain ⟨hs1, hs2, hs3, hs4, hs5, hs6, hs7, -, -, -, hs8, -⟩ := hbare
        refine ⟨x', (settle_context _ _).trans hx', hs2, hs7, hs8, ?_⟩
        simp only [Feed.plan, hs1, hs3, hs4, hs5, hs6]
      · obtain ⟨bo', hbo', hfeed⟩ := hbooth bo (by rw [hg]; exact hbo)
        exact ⟨bo', (settle_boothRec _ _).trans hbo', hfeed⟩
    · exact heard_frame hs (w := all) (by apply hearFeedAnswer_frame <;> rfl) rfl rfl rfl rfl rfl rfl rfl rfl rfl

end Sys2Proof.Machine

/-! FEED_STATE heard (R72, R80 to R82, R84, R86, R87). -/

namespace Sys2Proof.Machine

/-! ### READY (R80, R84) -/

theorem adoptTrunk_context (q t k : Nat) (s : State) : (adoptTrunk q t s).context k = s.context k := by
  obtain ⟨trunks, h⟩ := adoptTrunk_rest q t s
  rw [h]
  rfl

section Ready

variable {k tr : Nat} {s : State} {x : Feed} (hk : s.context k = some x)
include hk

theorem takeReady_closed (h : s.trunkOpenTo x.partner tr = false) : takeReady k tr s = s := by
  simp [takeReady, hk, h]

/-- The context on its trunk. -/
def trunkTaken (k tr : Nat) (x : Feed) (s : State) : State :=
  modFeed k (fun f => { f with trunk := some tr, readyWait := none }) (adoptTrunk x.partner tr s)

theorem trunkTaken_context : (trunkTaken k tr x s).context k = some { x with trunk := some tr, readyWait := none } := by
  rw [trunkTaken, modFeed_context_self, adoptTrunk_context, hk]
  rfl

theorem takeReady_accepted (h : s.trunkOpenTo x.partner tr = true) (hst : x.state = .accepted) (hlive : x.senderLive = false) :
    takeReady k tr s = modFeed k (fun f => { f with state := .routed }) (trunkTaken k tr x s) := by
  simp only [takeReady, hk, h, hst, hlive, trunkTaken]
  rfl

theorem takeReady_holding (h : s.trunkOpenTo x.partner tr = true) (hst : x.state = .holding) :
    takeReady k tr s = setRoute (busOutput x.target) (.trunk tr) (trunkTaken k tr x s) := by
  simp only [takeReady, hk, h, hst, trunkTaken]
  rfl

theorem takeReady_waiting (h : s.trunkOpenTo x.partner tr = true) (hst : x.state = .routed ∨ x.state = .blocked) :
    takeReady k tr s = trunkTaken k tr x s := by
  rcases hst with hst | hst <;> simp only [takeReady, hk, h, hst, trunkTaken] <;> rfl

end Ready

/-! ### LIVE (R80, R81) -/

/-- A context whose sender is live. -/
def Feed.heardLive (p : Pedigree) (x : Feed) : Feed := { x with senderLive := true, pedigree := p }

/-- A context blocked by a desk. -/
def Feed.blockedOut (x : Feed) : Feed := { x with state := .blocked, blockedWait := some 60000 }

section Live

variable {k : Nat} {p : Pedigree} {s : State} {x : Feed} (hk : s.context k = some x)
include hk

theorem takeLive_offered (hst : x.state = .offered) : takeLive k p s = s := by
  simp only [takeLive, hk, hst, if_true]

theorem takeLive_routed (hst : x.state = .routed) : takeLive k p s = enterLive k (modFeed k (Feed.heardLive p) s) := by
  simp only [takeLive, hk, hst]
  rfl

theorem takeLive_holding (hst : x.state = .holding) :
    takeLive k p s = recomputeChannel x.target (modFeed k (Feed.heardLive p) s) := by
  simp only [takeLive, hk, hst]
  rfl

theorem takeLive_other (hst : x.state = .accepted ∨ x.state = .blocked) :
    takeLive k p s = modFeed k (Feed.heardLive p) s := by
  rcases hst with hst | hst <;> simp only [takeLive, hk, hst] <;> rfl

theorem enterLive_resting (hall : s.planner.hall ≠ .session) : enterLive k s = s := by
  simp only [enterLive, hk, if_pos hall]

theorem enterLive_blocked {ch : Channel} (hall : s.planner.hall = .session) (hc : s.channel x.target = some ch) {b d : Nat}
    (hh : ch.holder = .desk b d) :
    enterLive k s = queueEvent .feedBlocked [k, x.target, b] (modFeed k Feed.blockedOut s) := by
  simp only [enterLive, hk, hall, hc, Option.map_some, hh]
  rfl

theorem enterLive_takes {ch : Channel} (hall : s.planner.hall = .session) (hc : s.channel x.target = some ch)
    (hh : ∀ b d, ch.holder ≠ .desk b d) : enterLive k s = feedTakes k x.target s := by
  have hholder : ∀ h : Holder, (s.channel x.target).map Channel.holder = some h → ∀ b d, h ≠ .desk b d := by
    rintro h heq b d rfl
    rw [hc, Option.map_some, Option.some.injEq] at heq
    exact hh b d heq
  simp only [enterLive, hk, hall]
  cases hm : (s.channel x.target).map Channel.holder with
  | none => rfl
  | some h =>
    cases h with
    | desk b d => exact absurd rfl (hholder _ hm b d)
    | _ => rfl

/-- A receiving feed that takes its channel holds it. -/
theorem feedTakes_holds (hw : Tab.wf s.feed.contexts = true) (hside : x.side = .receiving) {c : Nat} {ch : Channel}
    (hc : s.channel c = some ch) : (feedTakes k c s).context k = some x.takes
      ∧ ∃ ch', (feedTakes k c s).channel c = some ch' ∧ ch'.holder = .feed k := by
  have hctx : (modFeed k Feed.takes s).context k = some x.takes := by
    rw [modFeed_context_self, hk]
    rfl
  obtain ⟨ch', hch', hq⟩ := setHolder_channel (s := modFeed k Feed.takes s) (c := c) hc (.feed k)
  have hholder := congrArg Channel.holder hq
  rw [feedTakes_eq]
  exact ⟨(setHolder_feeds _ _ _).receiving (modFeed_wf _ _ hw) k _ hctx hside, ch', hch', hholder⟩

end Live

/-! ### SILENT (R80, R81) -/

/-- A context whose sender is silent. -/
def Feed.heardSilent (x : Feed) : Feed := { x with senderLive := false }

/-- A context that holds or waits for its channel, and no longer does. -/
def Feed.routedAgain (x : Feed) : Feed := { x with state := .routed, blockedWait := none }

section Silent

variable {k : Nat} {s : State} {x : Feed} (hk : s.context k = some x)
include hk

theorem takeSilent_offered (hst : x.state = .offered) : takeSilent k s = s := by
  simp only [takeSilent, hk, hst, if_true]

theorem takeSilent_holding (hst : x.state = .holding) : takeSilent k s =
    setHolder x.target .none (modFeed k Feed.routedAgain (modFeed k Feed.heardSilent s)) := by
  simp only [takeSilent, hk, hst]
  rfl

theorem takeSilent_blocked (hst : x.state = .blocked) : takeSilent k s =
    modFeed k Feed.routedAgain (modFeed k Feed.heardSilent s) := by
  simp only [takeSilent, hk, hst]
  rfl

theorem takeSilent_other (hst : x.state = .accepted ∨ x.state = .routed) :
    takeSilent k s = modFeed k Feed.heardSilent s := by
  rcases hst with hst | hst <;> simp only [takeSilent, hk, hst] <;> rfl

theorem routedAgain_context : (modFeed k Feed.routedAgain (modFeed k Feed.heardSilent s)).context k
    = some x.heardSilent.routedAgain := by
  rw [modFeed_context_self, modFeed_context_self, hk]
  rfl

end Silent

/-! ### The frame's context (R72) -/

theorem hearFeedState_known {q b c k : Nat} {s : State} (h : s.matchFeed .receiving q b c = some k)
    (take : Nat → State → State) : hearFeedState q b c take s = take k s := by
  simp only [hearFeedState, h]

theorem hearFeedState_unknown {q b c : Nat} {s : State} (h : s.matchFeed .receiving q b c = none)
    (take : Nat → State → State) :
    hearFeedState q b c take s = enqueueFrame q (.feedState b c (.ended .unknown)) s := by
  simp only [hearFeedState, h]
  rfl

theorem hearFeedState_frame {w : Parts} {take : Nat → State → State} (h1 : w.events = true) (h9 : w.lineQueue = true)
    (ht : ∀ k s, (take k s).blank w = s.blank w) (q b c : Nat) (s : State) :
    (hearFeedState q b c take s).blank w = s.blank w := by
  unfold hearFeedState
  split
  · exact ht _ s
  · exact enqueueFrame_frame h1 h9 _ _ s

theorem hearEnd_frame {w : Parts} (h1 : w.events = true) (h2 : w.notices = true) (h3 : w.channels = true)
    (h4 : w.trunks = true) (h5 : w.booths = true) (h6 : w.desks = true) (h7 : w.feeds = true) (h8 : w.contexts = true)
    (h9 : w.lineQueue = true) (h10 : w.outbound = true) (h11 : w.routes = true) (q b c : Nat) (r : EndReason) (s : State) :
    (hearEnd q b c r s).blank w = s.blank w := by
  unfold hearEnd
  split
  · exact endFeedContext_frame h1 h2 h3 h4 h5 h6 h7 h8 h9 h10 h11 _ _ _ _
  · rfl

theorem hearEnd_unmatched {q b c : Nat} {r : EndReason} {s : State} (h : s.matchEnd q b c r = none) :
    hearEnd q b c r s = s := by
  simp only [hearEnd, h]

end Sys2Proof.Machine

/-! FEED_STATE heard: the statement (R72, R80 to R82, R84, R86, R87). -/

namespace Sys2Proof.Machine

/-- What a live sender brings about in a context (R80 to R82). -/
theorem takeLive_moves {k : Nat} {p : Pedigree} {s : State} {x : Feed} {ch : Channel} (hk : s.context k = some x)
    (hside : x.side = .receiving) (hc : s.channel x.target = some ch) (hw : Tab.wf s.feed.contexts = true) :
    (x.state = .routed → s.planner.hall = .session → (∀ b d, ch.holder ≠ .desk b d) →
        (takeLive k p s).context k = some (x.heardLive p).takes
          ∧ ∃ ch', (takeLive k p s).channel x.target = some ch' ∧ ch'.holder = .feed k)
      ∧ (∀ b d, x.state = .routed → s.planner.hall = .session → ch.holder = .desk b d →
        (takeLive k p s).context k = some (x.heardLive p).blockedOut
          ∧ s.tells (takeLive k p s) .feedBlocked [k, x.target, b])
      ∧ (x.state = .routed → s.planner.hall ≠ .session → (takeLive k p s).context k = some (x.heardLive p))
      ∧ (x.state = .accepted ∨ x.state = .holding ∨ x.state = .blocked →
        (takeLive k p s).context k = some (x.heardLive p)) := by
  have hheard : (modFeed k (Feed.heardLive p) s).context k = some (x.heardLive p) := by
    rw [modFeed_context_self, hk]
    rfl
  have hwh : Tab.wf (modFeed k (Feed.heardLive p) s).feed.contexts = true := modFeed_wf _ _ hw
  have hch : (modFeed k (Feed.heardLive p) s).channel (x.heardLive p).target = some ch := hc
  refine ⟨fun hst hall hh => ?_, fun b d hst hall hh => ?_, fun hst hall => ?_, fun hst => ?_⟩
  · rw [takeLive_routed hk hst, enterLive_takes hheard hall hch hh]
    exact feedTakes_holds hheard hwh hside hch
  · rw [takeLive_routed hk hst, enterLive_blocked hheard hall hch hh]
    refine ⟨?_, ?_⟩
    · rw [State.context, queueEvent_feed]
      exact (modFeed_context_self k _ _).trans (by rw [hheard]; rfl)
    · exact (((modFeed_grows (κ := {}) _ _ s).trans (modFeed_grows _ _ _))).tells_from (queueEvent_tells _ _ _)
  · rw [takeLive_routed hk hst, enterLive_resting hheard hall]
    exact hheard
  · rcases hst with hst | hst | hst
    · rw [takeLive_other hk (Or.inl hst)]
      exact hheard
    · rw [takeLive_holding hk hst]
      exact (recomputeChannel_quiet _ _).receiving hwh k _ hheard hside
    · rw [takeLive_other hk (Or.inr hst)]
      exact hheard

/-- What a silent sender brings about in a context (R80, R81). -/
theorem takeSilent_moves {k : Nat} {s : State} {x : Feed} (hk : s.context k = some x) (hside : x.side = .receiving)
    (hw : Tab.wf s.feed.contexts = true) :
    (x.state = .holding ∨ x.state = .blocked → (takeSilent k s).context k = some x.heardSilent.routedAgain)
      ∧ (x.state = .accepted ∨ x.state = .routed → (takeSilent k s).context k = some x.heardSilent)
      ∧ (x.state = .holding → ∀ ch, s.channel x.target = some ch →
        ∃ ch', (takeSilent k s).channel x.target = some ch' ∧ ch'.holder = .none) := by
  refine ⟨fun hst => ?_, fun hst => ?_, fun hst ch hc => ?_⟩
  · rcases hst with hst | hst
    · rw [takeSilent_holding hk hst]
      exact (setHolder_feeds _ _ _).receiving (modFeed_wf _ _ (modFeed_wf _ _ hw)) k _ (routedAgain_context hk) hside
    · rw [takeSilent_blocked hk hst]
      exact routedAgain_context hk
  · rw [takeSilent_other hk hst, modFeed_context_self, hk]
    rfl
  · rw [takeSilent_holding hk hst]
    obtain ⟨ch', hch', hq⟩ := setHolder_channel (s := modFeed k Feed.routedAgain (modFeed k Feed.heardSilent s))
      (c := x.target) hc .none
    have hholder := congrArg Channel.holder hq
    exact ⟨ch', hch', hholder⟩

theorem settle_holder {s : State} {c : Nat} {h : Holder} (hc : ∃ ch, s.channel c = some ch ∧ ch.holder = h) :
    ∃ ch, (settle s).channel c = some ch ∧ ch.holder = h := by
  obtain ⟨ch, hch, hh⟩ := hc
  obtain ⟨ch', hch', hh'⟩ := (settle_quiet s).toCalm.holder hch
  exact ⟨ch', hch', hh'.trans hh⟩

/-- Settles O44: the context that the frame matches, and the equation of its state. -/
theorem feedStatesMoveContexts : Obligations.FeedStatesMoveContexts := by
  intro s f b c hs hb hc all unmatched
  obtain ⟨ev, line, hg⟩ : ∃ ev line, greeted f s = { s with events := ev, line := line } := ⟨_, _, greeted_eq hs⟩
  have hmatch (side : Side) (q : Nat) : (greeted f s).matchFeed side q b c = s.matchFeed side q b c := by rw [hg]; rfl
  have hctx (k : Nat) : (greeted f s).context k = s.context k := by rw [hg]; rfl
  have hchan (k : Nat) : (greeted f s).channel k = s.channel k := by rw [hg]; rfl
  have hhall : (greeted f s).planner.hall = s.planner.hall := by rw [hg]
  have hopen (q tr : Nat) : (greeted f s).trunkOpenTo q tr = s.trunkOpenTo q tr := by rw [hg]; rfl
  have hwf (hw : Tab.wf s.feed.contexts = true) : Tab.wf (greeted f s).feed.contexts = true := by rw [hg]; exact hw
  have hkept {t : State} (ht : t = greeted f s) : SameBut Parts.heard s (settle t) :=
    heard_frame hs (by rw [ht]; rfl) rfl rfl rfl rfl rfl rfl rfl rfl rfl
  have hlost (take : Nat → State → State) :
      unmatched (settle (hearFeedState f.station b c take (greeted f s))) := fun hnone => by
    rw [hearFeedState_unknown ((hmatch _ _).trans hnone)]
    exact ⟨heard_sends hs (enqueueFrame_sends _ _ _) (enqueueFrame_grows (κ := {}) _ _ (by simp [Payload.key]) _) rfl,
      heard_frame hs (enqueueFrame_frame rfl rfl _ _ _) rfl rfl rfl rfl rfl rfl rfl rfl rfl⟩
  refine ⟨fun tr h1 h12 => ?_, fun p hp => ?_, ?_, fun r => ?_⟩
  · have hok : (Payload.feedState b c (.ready tr)).ok = true := by
      simp [Payload.ok, hb, hc, (trunkOk_iff tr).mpr ⟨h1, h12⟩]
    refine ⟨_, congrArg Host.Outcome.next (heard_step hs hok _), ?_, hlost fun k => takeReady k tr,
      fun k x hkey hk hpart => ?_, ?_⟩
    · exact heard_peers hs (w := { Parts.settled with channels := true, trunks := true, booths := true, feeds := true })
        (hearFeedState_frame rfl rfl (fun _ _ => by apply takeReady_frame <;> rfl) _ _ _ _) rfl
    · rw [hearFeedState_known ((hmatch _ _).trans hkey)]
      have hk' := (hctx k).trans hk
      have hopen' : (greeted f s).trunkOpenTo x.partner tr = s.trunkOpenTo f.station tr := by rw [hopen, hpart]
      refine ⟨fun hclosed => hkept (takeReady_closed hk' (hopen'.trans hclosed)),
        fun htr hst hlive => ?_, fun htr hst => ?_⟩
      · rw [takeReady_accepted hk' (hopen'.trans htr) hst hlive, settle_context, settle_trunk]
        refine ⟨?_, ?_⟩
        · rw [modFeed_context_self, trunkTaken_context hk']
          rfl
        · obtain ⟨age, hage⟩ := adoptTrunk_holds (q := x.partner) (hopen'.trans htr)
          rw [hpart] at hage
          exact ⟨age, by rw [← hage, trunkTaken, hpart]; rfl⟩
      · rw [settle_context]
        rcases hst with hst | hst | hst
        · rw [takeReady_waiting hk' (hopen'.trans htr) (Or.inl hst)]
          exact trunkTaken_context hk'
        · rw [takeReady_waiting hk' (hopen'.trans htr) (Or.inr hst)]
          exact trunkTaken_context hk'
        · rw [takeReady_holding hk' (hopen'.trans htr) hst, State.context, setRoute_feed]
          exact trunkTaken_context hk'
    · exact heard_frame hs (w := { Parts.heard with channels := true, trunks := true, booths := true, feeds := true })
        (hearFeedState_frame rfl rfl (fun _ _ => by apply takeReady_frame <;> rfl) _ _ _ _)
        rfl rfl rfl rfl rfl rfl rfl rfl rfl
  · have hok : (Payload.feedState b c (.live p)).ok = true := by simp [Payload.ok, hb, hc, hp]
    refine ⟨_, congrArg Host.Outcome.next (heard_step hs hok _), ?_, hlost fun k => takeLive k p,
      fun k x ch hkey hk hside htarget hch hw => ?_, ?_⟩
    · exact heard_peers hs (w := { Parts.settled with channels := true, booths := true, feeds := true })
        (hearFeedState_frame rfl rfl (fun _ _ => by apply takeLive_frame <;> rfl) _ _ _ _) rfl
    · rw [hearFeedState_known ((hmatch _ _).trans hkey)]
      have hk' := (hctx k).trans hk
      have hch' : (greeted f s).channel x.target = some ch := by rw [hchan, htarget]; exact hch
      obtain ⟨htakes, hblocked, hresting, hother⟩ := takeLive_moves (p := p) hk' hside hch' (hwf hw)
      rw [settle_context, ← htarget]
      refine ⟨fun hst => hkept (takeLive_offered hk' hst), fun hst hall hh => ?_, fun b' d hst hall hh => ?_,
        fun hst hall => hresting hst (by rw [hhall]; exact hall), hother⟩
      · obtain ⟨hnew, hheld⟩ := htakes hst (hhall.trans hall) hh
        exact ⟨hnew, settle_holder hheld⟩
      · obtain ⟨hnew, htold⟩ := hblocked b' d hst (hhall.trans hall) hh
        exact ⟨hnew, heard_tells hs htold⟩
    · exact heard_frame hs (w := { Parts.heard with channels := true, booths := true, feeds := true })
        (hearFeedState_frame rfl rfl (fun _ _ => by apply takeLive_frame <;> rfl) _ _ _ _)
        rfl rfl rfl rfl rfl rfl rfl rfl rfl
  · have hok : (Payload.feedState b c .silent).ok = true := by simp [Payload.ok, hb, hc]
    refine ⟨_, congrArg Host.Outcome.next (heard_step hs hok _), ?_, hlost takeSilent,
      fun k x hkey hk hside hw => ?_, ?_⟩
    · exact heard_peers hs (w := { Parts.settled with channels := true, booths := true, feeds := true })
        (hearFeedState_frame rfl rfl (fun _ _ => by apply takeSilent_frame <;> rfl) _ _ _ _) rfl
    · rw [hearFeedState_known ((hmatch _ _).trans hkey)]
      have hk' := (hctx k).trans hk
      obtain ⟨hheld, hother, hfree⟩ := takeSilent_moves hk' hside (hwf hw)
      rw [settle_context]
      exact ⟨fun hst => hkept (takeSilent_offered hk' hst), hheld, hother,
        fun hst ch hch => settle_holder (hfree hst ch ((hchan _).trans hch))⟩
    · exact heard_frame hs (w := { Parts.heard with channels := true, booths := true, feeds := true })
        (hearFeedState_frame rfl rfl (fun _ _ => by apply takeSilent_frame <;> rfl) _ _ _ _)
        rfl rfl rfl rfl rfl rfl rfl rfl rfl
  · have hok : (Payload.feedState b c (.ended r)).ok = true := by simp [Payload.ok, hb, hc]
    have hend : (greeted f s).matchEnd f.station b c r = s.matchEnd f.station b c r := by rw [hg]; cases r <;> rfl
    refine ⟨_, congrArg Host.Outcome.next (heard_step hs hok _), ?_,
      fun hnone => hkept (hearEnd_unmatched (hend.trans hnone)), fun hr hnone => ?_, fun hr hnone => ?_,
      fun k x hkey hk => ?_, ?_⟩
    · exact heard_peers hs (w := { Parts.settled with
        channels := true, trunks := true, booths := true, desks := true, feeds := true, contexts := true })
        (by apply hearEnd_frame <;> rfl) rfl
    · exact hkept (hearEnd_unmatched (by rw [hend, hr]; exact hnone))
    · refine hkept (hearEnd_unmatched ?_)
      rw [hend]
      rcases hr with rfl | rfl <;> exact hnone
    · have hk' := (hctx k).trans hk
      have heq : hearEnd f.station b c r (greeted f s) = endFeedContext k (causeOf r) true (greeted f s) := by
        simp only [hearEnd, hend.trans hkey]
      rw [heq]
      exact ⟨(settle_context _ _).trans (endFeedContext_context_self _ _ _ _),
        heard_tells hs (endFeedContext_tells hk' _ true)⟩
    · exact heard_frame hs (w := all) (by apply hearEnd_frame <;> rfl) rfl rfl rfl rfl rfl rfl rfl rfl rfl

end Sys2Proof.Machine

/-! The waits of feeds (R74, R78, R80, R82, R84), and holds forced off (R43). -/

namespace Sys2Proof.Machine

/-! ### A hold forced off (R43) -/

/-- A booth that holds nothing. -/
def Booth.released (bo : Booth) : Booth := { bo with holding := none, partner := none, overlap := none }

theorem desksOff_booth {b : Nat} {s : State} {bo : Booth} (h : s.boothRec b = some bo) :
    (desksOff b s).boothRec b = some bo.released := by
  have hoff (l : List Nat) : (forEach l deskOff s).booth.booths = s.booth.booths :=
    forEach_keeps (Q := fun u => u.booth.booths = s.booth.booths) (f := deskOff) (fun _ _ hu => hu) l rfl
  simp only [desksOff, h]
  rw [modBooth_boothRec_self, State.boothRec, hoff, show Tab.get s.booth.booths b = some bo from h]
  rfl

theorem desksOff_booth_ne {b j : Nat} (hj : j ≠ b) (s : State) : (desksOff b s).boothRec j = s.boothRec j := by
  have hoff (l : List Nat) : (forEach l deskOff s).booth.booths = s.booth.booths :=
    forEach_keeps (Q := fun u => u.booth.booths = s.booth.booths) (f := deskOff) (fun _ _ hu => hu) l rfl
  unfold desksOff
  split
  · rfl
  · rw [modBooth_boothRec_ne hj, State.boothRec, hoff]
    rfl

theorem forceOff_some {b : Nat} {s : State} {bo : Booth} (h : s.boothRec b = some bo) (cause : HoldCause) :
    forceOff b cause s = queueEvent .holdLost [b, heldCode bo.target, cause.code] (desksOff b s) := by
  simp only [forceOff, h]

theorem forceOff_booth {b : Nat} {s : State} {bo : Booth} (h : s.boothRec b = some bo) (cause : HoldCause) :
    (forceOff b cause s).boothRec b = some bo.released := by
  rw [forceOff_some h, State.boothRec, queueEvent_booth]
  exact desksOff_booth h

theorem forceOff_tells {b : Nat} {s : State} {bo : Booth} (h : s.boothRec b = some bo) (cause : HoldCause) :
    s.tells (forceOff b cause s) .holdLost [b, heldCode bo.target, cause.code] := by
  rw [forceOff_some h]
  exact (desksOff_grows (κ := {}) b s).tells_from (queueEvent_tells _ _ _)

theorem forceOff_planner (b : Nat) (cause : HoldCause) (s : State) : (forceOff b cause s).planner = s.planner := by
  have hoff (l : List Nat) : (forEach l deskOff s).planner = s.planner :=
    forEach_keeps (Q := fun u => u.planner = s.planner) (f := deskOff) (fun _ _ hu => hu) l rfl
  unfold forceOff desksOff
  repeat' split
  · rfl
  · rw [queueEvent_planner]
  · rw [queueEvent_planner]
    exact hoff _

/-! ### The waits -/

section Waits

variable {k : Nat} {s : State} {x : Feed} (hk : s.context k = some x)
include hk

theorem offerWaits_iff (side : Side) : s.offerWaits k side = true ↔
    x.side = side ∧ x.state = .offered ∧ x.answerWait.isSome = true := by
  simp [State.offerWaits, hk, and_assoc]

theorem declineOffer_some (cause : FeedCause) : declineOffer k cause s =
    endFeedContext k cause false (enqueueFrame x.partner (.feedAnswer x.booth x.target false) s) := by
  simp only [declineOffer, hk]

/-- A declined offer: its context is gone, and the partner and the host are told. -/
theorem declineOffer_ends (cause : FeedCause) : (declineOffer k cause s).context k = none
    ∧ s.tells (declineOffer k cause s) .feedEnded [k, x.partner, cause.code, 0]
    ∧ s.sends (declineOffer k cause s) x.partner (.feedAnswer x.booth x.target false) := by
  have hsend : Grows {} s (enqueueFrame x.partner (.feedAnswer x.booth x.target false) s) :=
    enqueueFrame_grows _ _ (by simp [Payload.key]) _
  have hk' : (enqueueFrame x.partner (.feedAnswer x.booth x.target false) s).context k = some x := by
    rw [State.context, enqueueFrame_feed]
    exact hk
  rw [declineOffer_some hk]
  refine ⟨endFeedContext_context_self _ _ _ _, hsend.tells_from (endFeedContext_tells hk' _ _), ?_⟩
  exact (Grows.refl (κ := {}) s).sent_by hsend (κ'' := { claims := false, notices := false })
    (endFeedContext_grows rfl rfl _ _ _ _) (enqueueFrame_sends _ _ _) rfl

/-- An offer that its receiver declines frees its context alone. -/
theorem declineOffer_frame_offered (hside : x.side = .receiving) (hst : x.state = .offered) (cause : FeedCause)
    {w : Parts} (h1 : w.events = true) (h2 : w.contexts = true) (h3 : w.lineQueue = true) :
    (declineOffer k cause s).blank w = s.blank w := by
  have hk' : (enqueueFrame x.partner (.feedAnswer x.booth x.target false) s).context k = some x := by
    rw [State.context, enqueueFrame_feed]
    exact hk
  have hnot : ¬x.state = .holding := by simp [hst]
  rw [declineOffer_some hk, endFeedContext_receiving hk' hside, if_neg hnot, queueEvent_frame h1, freeContext,
    blank_feed_contexts h2, enqueueFrame_frame h1 h3]

/-- The feed takes its channel when its wait is over, and a desk that held it is forced off (R82). -/
theorem endBlocked_takes {ch : Channel} (hside : x.side = .receiving) (hw : Tab.wf s.feed.contexts = true)
    (hc : s.channel x.target = some ch) : (endBlocked k s).context k = some x.takes
      ∧ (∃ ch', (endBlocked k s).channel x.target = some ch' ∧ ch'.holder = .feed k)
      ∧ ∀ b d bo, ch.holder = .desk b d → s.boothRec b = some bo →
          s.tells (endBlocked k s) .holdLost [b, heldCode bo.target, HoldCause.feed.code]
            ∧ ∃ bo', (endBlocked k s).boothRec b = some bo' ∧ bo'.holding = none ∧ bo'.overlap = none := by
  have htakes (v : State) (hf : v.feed = s.feed) (hp : v.planner = s.planner) :
      (feedTakes k x.target v).context k = some x.takes
        ∧ ∃ ch', (feedTakes k x.target v).channel x.target = some ch' ∧ ch'.holder = .feed k :=
    feedTakes_holds (by rw [State.context, hf]; exact hk) (by rw [hf]; exact hw) hside (by rw [State.channel, hp]; exact hc)
  by_cases hdesk : ∃ b d, ch.holder = .desk b d
  · obtain ⟨b, d, hh⟩ := hdesk
    have heq : endBlocked k s = feedTakes k x.target (forceOff b .feed s) := by
      simp only [endBlocked, hk, hc, Option.map_some, hh]
    obtain ⟨hctx, hheld⟩ := htakes (forceOff b .feed s) (forceOff_feed b .feed s) (forceOff_planner b .feed s)
    rw [heq]
    refine ⟨hctx, hheld, fun b' d' bo hh' hbo => ?_⟩
    obtain ⟨rfl, rfl⟩ : b' = b ∧ d' = d := by
      rw [hh] at hh'
      simpa [eq_comm] using hh'
    refine ⟨(feedTakes_grows (κ := .nothing) rfl _ _ _).tells (forceOff_tells hbo .feed), ?_⟩
    have hrel : (modChannel x.target (Channel.given (.feed k)) (modFeed k Feed.takes (forceOff b' .feed s))).boothRec b'
        = some bo.released := forceOff_booth hbo .feed
    obtain ⟨bo', hbo', hq⟩ := (setHolder_calm x.target (.feed k) (modFeed k Feed.takes (forceOff b' .feed s))).booth_some hrel
    have h1 := congrArg Booth.holding hq
    have h2 := congrArg Booth.overlap hq
    exact ⟨bo', hbo', h1, h2⟩
  · have heq : endBlocked k s = feedTakes k x.target s := by
      simp only [endBlocked, hk, hc, Option.map_some]
      cases hh : ch.holder with
      | desk b d => exact absurd ⟨b, d, hh⟩ hdesk
      | _ => rfl
    obtain ⟨hctx, hheld⟩ := htakes s rfl rfl
    rw [heq]
    exact ⟨hctx, hheld, fun b d bo hh => absurd ⟨b, d, hh⟩ hdesk⟩

end Waits

theorem settle_booth_some {s : State} {b : Nat} {p : Booth → Prop} (h : ∃ bo, s.boothRec b = some bo ∧ p bo) :
    ∃ bo, (settle s).boothRec b = some bo ∧ p bo := by
  rw [settle_boothRec]
  exact h

/-- The end of a wait that a test of the context lets pass. -/
def waitEnds (test : Bool) (ended : State → State) (s : State) : State := if test then ended s else s

section Exec

variable {s : State} (hrun : s.running = true) (k : Nat)
include hrun

theorem exec_feedAnswerWait : exec (.feedAnswerWait k) s =
    .next (settle (waitEnds (s.offerWaits k .sending) (endWith k .timeout) s)) :=
  congrArg Host.Outcome.next (event_of_running _ hrun)

theorem exec_hostAnswerWait : exec (.hostAnswerWait k) s =
    .next (settle (waitEnds (s.offerWaits k .receiving) (declineOffer k .timeout) s)) :=
  congrArg Host.Outcome.next (event_of_running _ hrun)

theorem exec_readyWait : exec (.readyWait k) s =
    .next (settle (waitEnds ((s.context k).any fun f => f.readyWait.isSome) (endWith k .timeout) s)) :=
  congrArg Host.Outcome.next (event_of_running _ hrun)

theorem exec_blockedWait : exec (.blockedWait k) s =
    .next (settle (waitEnds ((s.context k).any fun f => f.state = .blocked && f.blockedWait.isSome) (endBlocked k) s)) :=
  congrArg Host.Outcome.next (event_of_running _ hrun)

end Exec

theorem waitEnds_stopped {test : Bool} {f : State → State} {s : State} (h : test = false) :
    SameBut Parts.settled s (settle (waitEnds test f s)) := by
  rw [waitEnds, h]
  exact settle_sameBut s

theorem waitEnds_frame {w : Parts} {test : Bool} {f : State → State} {s : State} (hf : SameBut w s (f s)) :
    SameBut w s (waitEnds test f s) := by
  cases test
  · rfl
  · exact hf

/-- A context that ends as its wait does, after the step. -/
theorem endWith_timeout {k : Nat} {s : State} {x : Feed} (hk : s.context k = some x) :
    ((settle (endWith k .timeout s)).context k = none
      ∧ s.tells (settle (endWith k .timeout s)) .feedEnded [k, x.partner, FeedCause.timeout.code, 0])
    ∧ s.sends (settle (endWith k .timeout s)) x.partner (.feedState x.booth x.target (.ended .timeout)) := by
  obtain ⟨hsent, htold⟩ := endWith_reports hk .timeout
  refine ⟨⟨(settle_context _ _).trans (endWith_context_self _ _ _), (settle_steady _).tells htold⟩, ?_⟩
  exact (Grows.refl (κ := {}) s).sent_by (κ' := { claims := false, notices := false }) (endWith_grows rfl rfl _ _ _)
    (settle_steady _) hsent rfl

/-- Settles O51: each wait ends its context, or is stopped. -/
theorem feedWaits : Obligations.FeedWaits := by
  intro s k x hrun hk all ended
  refine ⟨⟨_, exec_feedAnswerWait hrun k, fun hside hst hwait => ?_, fun h => waitEnds_stopped ?_, ?_⟩,
    ⟨_, exec_hostAnswerWait hrun k, fun hside hst hwait => ?_, fun h => waitEnds_stopped ?_⟩,
    ⟨_, exec_readyWait hrun k, fun hwait => ?_, fun h => waitEnds_stopped ?_, ?_⟩,
    ⟨_, exec_blockedWait hrun k, fun ch hside hst hwait hw hc => ?_, fun h => waitEnds_stopped ?_, ?_⟩⟩
  · rw [waitEnds, if_pos ((offerWaits_iff hk _).mpr ⟨hside, hst, hwait⟩)]
    exact endWith_timeout hk
  · rw [Bool.eq_false_iff, ne_eq, offerWaits_iff hk]
    rintro ⟨h1, h2, h3⟩
    rcases h with h | h | h
    · simp [h1] at h
    · exact h h2
    · simp [h] at h3
  · exact SameBut.settled (w := all) (waitEnds_frame (by apply endWith_frame <;> rfl)) rfl rfl rfl rfl rfl rfl rfl
  · rw [waitEnds, if_pos ((offerWaits_iff hk _).mpr ⟨hside, hst, hwait⟩)]
    obtain ⟨hgone, htold, hsent⟩ := declineOffer_ends hk .timeout
    refine ⟨⟨(settle_context _ _).trans hgone, (settle_steady _).tells htold⟩, ?_, ?_⟩
    · exact (Grows.refl (κ := {}) s).sent_by (κ' := { claims := false, notices := false })
        (declineOffer_grows rfl rfl _ _ _) (settle_steady _) hsent rfl
    · exact SameBut.settled (w := { Parts.settled with contexts := true })
        (declineOffer_frame_offered hk hside hst .timeout rfl rfl rfl) rfl rfl rfl rfl rfl rfl rfl
  · rw [Bool.eq_false_iff, ne_eq, offerWaits_iff hk]
    rintro ⟨h1, h2, h3⟩
    rcases h with h | h | h
    · simp [h1] at h
    · exact h h2
    · simp [h] at h3
  · rw [waitEnds, if_pos (by simpa [hk] using hwait)]
    exact endWith_timeout hk
  · simp [hk, h]
  · exact SameBut.settled (w := all) (waitEnds_frame (by apply endWith_frame <;> rfl)) rfl rfl rfl rfl rfl rfl rfl
  · rw [waitEnds, if_pos (by simp [hk, hst, hwait])]
    obtain ⟨hctx, hheld, hoff⟩ := endBlocked_takes hk hside hw hc
    refine ⟨(settle_context _ _).trans hctx, settle_holder hheld, fun b d bo hh hbo => ?_⟩
    obtain ⟨htold, hfree⟩ := hoff b d bo hh hbo
    exact ⟨(settle_steady _).tells htold, settle_booth_some hfree⟩
  · rcases h with h | h <;> simp [hk, h]
  · exact SameBut.settled (w := { Parts.settled with channels := true, booths := true, desks := true, feeds := true })
      (waitEnds_frame (by apply endBlocked_frame <;> rfl)) rfl rfl rfl rfl rfl rfl rfl

end Sys2Proof.Machine

/-! ANSWER FEED and END FEED (R79, R86, R87). -/

namespace Sys2Proof.Machine

/-! ### What a context that ends releases (R86) -/

section Released

variable {k : Nat} {s : State} {f : Feed} (hk : s.context k = some f)
include hk

/-- A sending context that ends gives up its trunk. -/
theorem endFeedContext_trunk_self (hside : f.side = .sending) {tr : Nat} (h : s.trunkOf (.feed k) = some tr)
    (cause : FeedCause) (partner : Bool) : (endFeedContext k cause partner s).trunk tr = none := by
  have hrel : contextReleased k f s = giveUpTrunk tr (.feed k) s := by
    simp only [contextReleased, hside, releaseTrunk, h]
  obtain ⟨hsame, -⟩ := endFeedContext_rest hk cause partner
  rw [hrel] at hsame
  rw [trunk_congr (same_planner_trunks hsame rfl)]
  exact giveUpTrunk_trunk_self _ _ _

omit hk in
theorem releaseTrunk_booth (u : TrunkUser) (s : State) : (releaseTrunk u s).booth.booths = s.booth.booths :=
  same_booth_booths (w := { events := true, trunks := true, lineQueue := true, outbound := true, routes := true })
    (by apply releaseTrunk_frame <;> rfl) rfl rfl

omit hk in
/-- The booth's output A is its channel again. -/
theorem endReplacement_booth {b : Nat} {bo : Booth} (hb : s.boothRec b = some bo) (hfeed : bo.feed = some k) :
    ∃ bo', (endReplacement k b s).boothRec b = some bo' ∧ bo'.feed = none := by
  simp only [endReplacement, hb, hfeed, if_true]
  split
  · exact ⟨_, by rw [modBooth_boothRec_self, forceOff_booth hb]; rfl, rfl⟩
  · exact ⟨_, by rw [modBooth_boothRec_self, hb]; rfl, rfl⟩

/-- A sending context that ends leaves its booth without a replacement. -/
theorem endFeedContext_booth (hside : f.side = .sending) {bo : Booth} (hb : s.boothRec f.booth = some bo)
    (hfeed : bo.feed = some k) (cause : FeedCause) (partner : Bool) :
    ∃ bo', (endFeedContext k cause partner s).boothRec f.booth = some bo' ∧ bo'.feed = none := by
  have hb' : (releaseTrunk (.feed k) s).boothRec f.booth = some bo := by
    rw [State.boothRec, releaseTrunk_booth]
    exact hb
  obtain ⟨bo1, hbo1, hnone⟩ := endReplacement_booth hb' hfeed
  have hfreed : (contextFreed k f s).boothRec f.booth = some bo1 := by
    rw [contextFreed, hside]
    exact hbo1
  obtain ⟨bo', hbo', hq⟩ := (endFeedContext_calm hk cause partner).booth_some hfreed
  have h := congrArg Booth.feed hq
  exact ⟨bo', hbo', h.trans hnone⟩

/-- A receiving context that ends leaves its channel unheld. -/
theorem endFeedContext_holder (hside : f.side = .receiving) (hst : f.state = .holding) {ch : Channel}
    (hc : s.channel f.target = some ch) (cause : FeedCause) (partner : Bool) :
    ∃ ch', (endFeedContext k cause partner s).channel f.target = some ch' ∧ ch'.holder = .none := by
  refine (endFeedContext_calm hk cause partner).holder (ch := ch.given .none) ?_
  simp only [contextFreed, hside, hst, if_true]
  rw [modChannel_channel_self]
  exact congrArg (Option.map _) hc

theorem endFeedContext_plan {j : Nat} (hj : j ≠ k) (cause : FeedCause) (partner : Bool) :
    ((endFeedContext k cause partner s).context j).map Feed.plan = (s.context j).map Feed.plan := by
  rw [(endFeedContext_feeds hk cause partner).plan, State.context, freeContext, tab_get_erase_ne _ _ _ hj]
  rfl

/-! The end of a context whose partner is told. -/

theorem endWith_plan {j : Nat} (hj : j ≠ k) (reason : EndReason) :
    ((endWith k reason s).context j).map Feed.plan = (s.context j).map Feed.plan := by
  rw [endWith_some hk, endFeedContext_plan ((sendFeedState_context _ _ _ _).trans hk) hj, sendFeedState_context]

theorem endWith_trunk_self (hside : f.side = .sending) {tr : Nat} (h : s.trunkOf (.feed k) = some tr) (reason : EndReason) :
    (endWith k reason s).trunk tr = none := by
  rw [endWith_some hk]
  refine endFeedContext_trunk_self ((sendFeedState_context _ _ _ _).trans hk) hside ?_ _ _
  rw [State.trunkOf, sendFeedState, enqueueFrame_planner]
  exact h

theorem endWith_booth (hside : f.side = .sending) {bo : Booth} (hb : s.boothRec f.booth = some bo)
    (hfeed : bo.feed = some k) (reason : EndReason) :
    ∃ bo', (endWith k reason s).boothRec f.booth = some bo' ∧ bo'.feed = none := by
  rw [endWith_some hk]
  refine endFeedContext_booth ((sendFeedState_context _ _ _ _).trans hk) hside (bo := bo) ?_ hfeed _ _
  rw [State.boothRec, sendFeedState, enqueueFrame_booth]
  exact hb

theorem endWith_holder (hside : f.side = .receiving) (hst : f.state = .holding) {ch : Channel}
    (hc : s.channel f.target = some ch) (reason : EndReason) :
    ∃ ch', (endWith k reason s).channel f.target = some ch' ∧ ch'.holder = .none := by
  rw [endWith_some hk]
  refine endFeedContext_holder ((sendFeedState_context _ _ _ _).trans hk) hside hst (ch := ch) ?_ _ _
  rw [State.channel, sendFeedState, enqueueFrame_planner]
  exact hc

end Released

/-! ### The commands -/

section Commands

variable {p : List Nat} {s : State} {f : Feed} {k : Nat}

theorem actAnswerFeed_refused (hpk : field p 0 1 = k) (h1 : 1 ≤ k) (h4 : k ≤ 4) (ha : field p 1 1 ≤ 1)
    (hk : s.context k = some f) (h : f.side = .sending ∨ f.state ≠ .offered) : actAnswerFeed p s = .refuse .state := by
  have hrange : (within 1 k 4 && decide (field p 1 1 ≤ 1)) = true := by simp [within_iff.mpr ⟨h1, h4⟩, ha]
  have htest : (decide (f.side = .receiving) && decide (f.state = .offered)) = false := by
    rcases h with h | h <;> simp [h]
  simp only [actAnswerFeed, hpk, require_of hrange, hk, require_of_not htest]

theorem actAnswerFeed_passed (hpk : field p 0 1 = k) (h1 : 1 ≤ k) (h4 : k ≤ 4) (ha : field p 1 1 ≤ 1)
    (hk : s.context k = some f) (hside : f.side = .receiving) (hst : f.state = .offered) : actAnswerFeed p s =
      .accept [] (if field p 1 1 = 1 then acceptByHost k s else declineOffer k .declined s) := by
  have hrange : (within 1 k 4 && decide (field p 1 1 ≤ 1)) = true := by simp [within_iff.mpr ⟨h1, h4⟩, ha]
  have htest : (decide (f.side = .receiving) && decide (f.state = .offered)) = true := by simp [hside, hst]
  simp only [actAnswerFeed, hpk, require_of hrange, hk, require_of htest]

theorem actEndFeed_passed (hpk : field p 0 1 = k) (h1 : 1 ≤ k) (h4 : k ≤ 4) (hk : s.context k = some f) :
    actEndFeed p s = .accept [] (endWith k .host s) := by
  simp only [actEndFeed, hpk, require_of (within_iff.mpr ⟨h1, h4⟩), hk, Option.isSome_some, require_of]

theorem acceptByHost_some (hk : s.context k = some f) : acceptByHost k s =
    modFeed k (fun f => { f with state := .accepted, answerWait := none, readyWait := some 5000 })
      (enqueueFrame f.partner (.feedAnswer f.booth f.target true) s) := by
  simp only [acceptByHost, hk]

theorem acceptByHost_context (hk : s.context k = some f) : (acceptByHost k s).context k =
    some { f with state := .accepted, answerWait := none, readyWait := some 5000 } := by
  rw [acceptByHost_some hk, modFeed_context_self, State.context, enqueueFrame_feed, show Tab.get _ k = _ from hk]
  rfl

theorem acceptByHost_context_ne (hk : s.context k = some f) {j : Nat} (hj : j ≠ k) :
    (acceptByHost k s).context j = s.context j := by
  rw [acceptByHost_some hk, modFeed_context_ne hj, State.context, enqueueFrame_feed]
  rfl

theorem acceptByHost_sends (hk : s.context k = some f) :
    s.sends (acceptByHost k s) f.partner (.feedAnswer f.booth f.target true) := by
  rw [acceptByHost_some hk]
  exact (Grows.refl (κ := {}) s).sent_by (κ' := {}) (κ'' := {}) (enqueueFrame_grows _ _ (by simp [Payload.key]) _)
    (modFeed_grows _ _ _) (enqueueFrame_sends _ _ _) rfl

/-- A declined offer leaves every other context as it was. -/
theorem declineOffer_context_ne (hk : s.context k = some f) (hside : f.side = .receiving) (hst : f.state = .offered)
    (cause : FeedCause) {j : Nat} (hj : j ≠ k) : (declineOffer k cause s).context j = s.context j := by
  have hk' : (enqueueFrame f.partner (.feedAnswer f.booth f.target false) s).context k = some f := by
    rw [State.context, enqueueFrame_feed]
    exact hk
  have hnot : ¬f.state = .holding := by simp [hst]
  rw [declineOffer_some hk, endFeedContext_receiving hk' hside, if_neg hnot, State.context, queueEvent_feed]
  refine (tab_get_erase_ne _ _ _ hj).trans ?_
  rw [enqueueFrame_feed]
  rfl

end Commands

/-- What is sent before a host block's effect settles is sent after it. -/
theorem sends_done_by {κ : Keep} {s u : State} {port : PortBlock} {dest : Nat} {p : Payload} (h : s.sent.sends u dest p)
    (hu : Grows κ s.sent u) (hk : Keep.steady.has p.key = true) : s.sends { settle u with port := port } dest p :=
  (sent_grows (κ := .steady) s).sent_by hu ((settle_steady u).trans (Grows.of_same rfl rfl rfl rfl)) h hk

theorem done_context (u : State) (port : PortBlock) (k : Nat) :
    ({ settle u with port := port } : State).context k = u.context k := by
  rw [← settle_context u k]
  generalize settle u = v
  rfl

theorem done_trunk (u : State) (port : PortBlock) (j : Nat) :
    ({ settle u with port := port } : State).trunk j = u.trunk j := by
  rw [← settle_trunk u j]
  generalize settle u = v
  rfl

theorem done_booth_some {u : State} {b : Nat} {p : Booth → Prop} (h : ∃ bo, u.boothRec b = some bo ∧ p bo)
    (port : PortBlock) : ∃ bo, ({ settle u with port := port } : State).boothRec b = some bo ∧ p bo := by
  have hsettled := settle_booth_some h
  generalize settle u = v at *
  exact hsettled

theorem done_holder {u : State} {c : Nat} {h : Holder} (hc : ∃ ch, u.channel c = some ch ∧ ch.holder = h)
    (port : PortBlock) : ∃ ch, ({ settle u with port := port } : State).channel c = some ch ∧ ch.holder = h := by
  have hsettled := settle_holder hc
  generalize settle u = v at *
  exact hsettled

/-- Settles O31. -/
theorem answerAndEndFeed : Obligations.AnswerAndEndFeed := by
  intro s k f hp hst h1 h4 hk
  have hst' : inR s.clock.station = true := by simp [inR, hst]
  have hk' : s.sent.context k.toNat = some f := hk
  refine ⟨fun a hno ha => ?_, fun hside hoff => ?_, fun hside hoff => ?_, ?_⟩
  · exact congrArg Host.Outcome.next (command_refuses hp rfl hst'
      (actAnswerFeed_refused (field_first k a) h1 h4 (by rw [field_second]; exact ha) hk' hno))
  · have hact : actAnswerFeed (numbers [k, 1]) s.sent = .accept [] (acceptByHost k.toNat s.sent) :=
      actAnswerFeed_passed (field_first k 1) h1 h4 (by rw [field_second]; decide) hk' hside hoff
    have hframe : SameBut { Parts.settled with feeds := true } s.sent (acceptByHost k.toNat s.sent) := by
      apply acceptByHost_frame <;> rfl
    refine ⟨_, congrArg Host.Outcome.next (command_accepts hp rfl hst' hact (same_port hframe)),
      (done_context _ _ _).trans (acceptByHost_context hk'),
      fun j hj => (done_context _ _ _).trans (acceptByHost_context_ne hk' hj),
      sends_done_by (acceptByHost_sends hk') (acceptByHost_grows (κ := {}) _ _) rfl, rfl,
      done_frame hframe rfl rfl rfl rfl rfl rfl rfl⟩
  · have hact : actAnswerFeed (numbers [k, 0]) s.sent = .accept [] (declineOffer k.toNat .declined s.sent) :=
      actAnswerFeed_passed (field_first k 0) h1 h4 (by rw [field_second]; decide) hk' hside hoff
    have hframe : SameBut { Parts.settled with contexts := true } s.sent (declineOffer k.toNat .declined s.sent) :=
      declineOffer_frame_offered hk' hside hoff .declined rfl rfl rfl
    obtain ⟨hgone, htold, hsent⟩ := declineOffer_ends hk' .declined
    exact ⟨_, congrArg Host.Outcome.next (command_accepts hp rfl hst' hact (same_port hframe)),
      (done_context _ _ _).trans hgone,
      fun j hj => (done_context _ _ _).trans (declineOffer_context_ne hk' hside hoff .declined hj),
      sends_done_by hsent (declineOffer_grows (κ := { claims := false, notices := false }) rfl rfl _ _ _) rfl,
      tells_done htold, rfl, done_frame hframe rfl rfl rfl rfl rfl rfl rfl⟩
  · have hact : actEndFeed (numbers [k]) s.sent = .accept [] (endWith k.toNat .host s.sent) :=
      actEndFeed_passed (field_byte k) h1 h4 hk'
    have hframe : SameBut { Parts.settled with
        channels := true, trunks := true, booths := true, desks := true, feeds := true, contexts := true } s.sent
        (endWith k.toNat .host s.sent) := by
      apply endWith_frame <;> rfl
    obtain ⟨hsent, htold⟩ := endWith_reports hk' .host
    have hgrow : Grows { claims := false, notices := false } s.sent (endWith k.toNat .host s.sent) :=
      endWith_grows rfl rfl _ _ _
    have hgone := endWith_context_self k.toNat .host s.sent
    have hplan {j : Nat} (hj : j ≠ k.toNat) := endWith_plan hk' hj .host
    have htrunk (hside : f.side = .sending) {tr : Nat} (htr : s.sent.trunkOf (.feed k.toNat) = some tr) :=
      endWith_trunk_self hk' hside htr .host
    have hbooth (hside : f.side = .sending) {bo : Booth} (hbo : s.sent.boothRec f.booth = some bo)
      (hfeed : bo.feed = some k.toNat) := endWith_booth hk' hside hbo hfeed .host
    have hholder (hside : f.side = .receiving) (hhold : f.state = .holding) {ch : Channel}
      (hch : s.sent.channel f.target = some ch) := endWith_holder hk' hside hhold hch .host
    generalize endWith k.toNat .host s.sent = u at *
    exact ⟨_, congrArg Host.Outcome.next (command_accepts hp rfl hst' hact (same_port hframe)),
      (done_context _ _ _).trans hgone,
      fun j hj => (congrArg (Option.map Feed.plan) (done_context _ _ _)).trans (hplan hj),
      sends_done_by hsent hgrow rfl, tells_done htold,
      fun hside => ⟨fun tr htr => (done_trunk _ _ _).trans (htrunk hside htr),
        fun bo hbo hfeed => done_booth_some (p := fun bo => bo.feed = none) (hbooth hside hbo hfeed) _⟩,
      fun hside hhold ch hch => done_holder (hholder hside hhold hch) _, rfl,
      done_frame hframe rfl rfl rfl rfl rfl rfl rfl⟩

end Sys2Proof.Machine

/-! Notices as a step settles (R69, R169). -/

namespace Sys2Proof.Machine

theorem mem_of_mem_dropLastMatch {α : Type} {p : α → Bool} {l : List α} {a : α} (h : a ∈ dropLastMatch p l) : a ∈ l :=
  List.mem_reverse.mp (List.eraseP_subset (List.mem_reverse.mp h))

/-- A frame in the queue after another was handed over was there before, or carries the payload handed over. -/
theorem mem_enqueueFrame {f : TxFrame} {dest : Nat} {p : Payload} {s : State}
    (h : f ∈ (enqueueFrame dest p s).line.queue) : f ∈ s.line.queue ∨ f.payload = p := by
  unfold enqueueFrame at h
  dsimp only at h
  split at h
  · exact Or.inl h
  split at h
  · obtain ⟨g, hg, rfl⟩ := List.mem_map.mp h
    split
    · exact Or.inr rfl
    · exact Or.inl hg
  split at h
  · rcases List.mem_append.mp h with h | h
    · exact Or.inl h
    · rw [List.mem_singleton.mp h]
      exact Or.inr rfl
  split at h
  · rw [queueEvent_line] at h
    rcases List.mem_append.mp h with h | h
    · exact Or.inl (mem_of_mem_dropLastMatch h)
    · rw [List.mem_singleton.mp h]
      exact Or.inr rfl
  · rw [queueEvent_line] at h
    exact Or.inl h

theorem mem_queueNotice {f : TxFrame} {c : Nat} {s : State} (h : f ∈ (queueNotice c s).line.queue)
    (hcode : f.payload.code ≠ 10) : f ∈ s.line.queue := by
  unfold queueNotice at h
  split at h
  · exact h
  · rcases mem_enqueueFrame h with h | h
    · exact h
    · exact absurd (congrArg Payload.code h) hcode

/-- The state whose notices are announced as a step settles. -/
def settledDesks (s : State) : State := refreshDesks (routeFloor s)

theorem settledDesks_frame (s : State) :
    SameBut { deskShow := true, outbound := true, routes := true } s (settledDesks s) :=
  Eq.trans (refreshDesks_frame rfl rfl _) (routeFloor_frame rfl rfl s)

theorem settle_eq (s : State) : settle s = syncMask (rebuildMap (announce (settledDesks s))) := rfl

theorem settle_queue (s : State) : (settle s).line.queue = (announce (settledDesks s)).line.queue := by
  rw [settle_eq, syncMask_line, rebuildMap]

/-- Settling queues notices alone. -/
theorem mem_settle_queue {f : TxFrame} {s : State} (h : f ∈ (settle s).line.queue) (hcode : f.payload.code ≠ 10) :
    f ∈ s.line.queue := by
  rw [settle_queue] at h
  rw [← same_line_queue (settledDesks_frame s) rfl]
  have hkeep (l : List Nat) (u : State) (hu : f ∈ (forEach l queueNotice u).line.queue) : f ∈ u.line.queue := by
    unfold forEach at hu
    induction l generalizing u with
    | nil => exact hu
    | cons c rest ih => exact mem_queueNotice (ih _ hu) hcode
  exact hkeep _ _ h

theorem settledDesks_channels (s : State) : (settledDesks s).planner.channels = s.planner.channels :=
  same_planner_channels (settledDesks_frame s) rfl rfl rfl

theorem noticeState_congr {s t : State} (h : t.planner.hall = s.planner.hall) (c : Nat) (ch : Channel) :
    t.noticeState c ch = s.noticeState c ch := by
  unfold State.noticeState State.channelHeld
  rw [h]

theorem settledDesks_noticeState (s : State) (c : Nat) (ch : Channel) :
    (settledDesks s).noticeState c ch = s.noticeState c ch :=
  noticeState_congr (same_planner_hall (settledDesks_frame s) rfl) c ch

theorem queueNotice_carries {c j : Nat} (h : j ≠ c) (s : State) : Carries (.notice c) s (queueNotice j s) := by
  unfold queueNotice
  split
  · exact .refl _ s
  · refine (Carries.of_grows (κ := {}) (modChannel_grows _ _ _) rfl).trans (enqueueFrame_carries ?_ _)
    simp [Payload.key, h]

theorem queueNotice_some {c : Nat} {s : State} {ch : Channel} (h : s.channel c = some ch) : queueNotice c s =
    enqueueFrame 0 (.channelNotice c ch.language (s.noticeState c ch) (s.exportTrunk c) ch.pedigree)
      (modChannel c (fun x => { x with announced := s.noticeState c ch, notice := some 10000 }) s) := by
  simp only [queueNotice, show Tab.get s.planner.channels c = some ch from h]

theorem queueNotice_channel_self {c : Nat} {s : State} {ch : Channel} (h : s.channel c = some ch) :
    (queueNotice c s).channel c = some { ch with announced := s.noticeState c ch, notice := some 10000 } := by
  rw [queueNotice_some h, State.channel, enqueueFrame_planner, ← State.channel, modChannel_channel_self, h]
  rfl

theorem queueNotice_channel_ne {c j : Nat} (hj : j ≠ c) (s : State) : (queueNotice c s).channel j = s.channel j := by
  cases h : s.channel c with
  | none => simp only [queueNotice, show Tab.get s.planner.channels c = none from h]
  | some ch => rw [queueNotice_some h, State.channel, enqueueFrame_planner, ← State.channel, modChannel_channel_ne hj]

theorem queueNotice_sends {c : Nat} {s : State} {ch : Channel} (h : s.channel c = some ch) : s.sends (queueNotice c s) 0
    (.channelNotice c ch.language (s.noticeState c ch) (s.exportTrunk c) ch.pedigree) := by
  rw [queueNotice_some h]
  exact (modChannel_grows (κ := {}) _ _ s).sends_from (enqueueFrame_sends _ _ _)

/-- The notice of a channel as it stands. -/
def State.noticeOf (s : State) (c : Nat) : Option Payload :=
  (s.channel c).map fun ch => .channelNotice c ch.language (s.noticeState c ch) (s.exportTrunk c) ch.pedigree

theorem noticeOf_key {s : State} {c : Nat} {p : Payload} (h : s.noticeOf c = some p) : p.key = some (.notice c) := by
  obtain ⟨ch, -, rfl⟩ := Option.map_eq_some_iff.mp h
  rfl

theorem queueNotice_noticeOf (j c : Nat) (s : State) : (queueNotice j s).noticeOf c = s.noticeOf c := by
  have hsame : SameBut { events := true, notices := true, lineQueue := true } s (queueNotice j s) :=
    queueNotice_frame rfl rfl rfl j s
  have hstate (ch : Channel) : (queueNotice j s).noticeState c ch = s.noticeState c ch :=
    noticeState_congr (same_planner_hall hsame rfl) c ch
  have htrunk : (queueNotice j s).exportTrunk c = s.exportTrunk c := by
    simp only [State.exportTrunk, same_relay_exported hsame rfl, same_planner_trunks hsame rfl]
  unfold State.noticeOf
  rw [htrunk]
  by_cases hj : c = j
  · subst hj
    cases hc : s.channel c with
    | none => simp only [queueNotice, show Tab.get s.planner.channels c = none from hc, hc, Option.map_none]
    | some ch =>
      rw [queueNotice_channel_self hc]
      simp only [Option.map_some, hstate]
      rfl
  · rw [queueNotice_channel_ne hj]
    simp only [hstate]

/-- A notice queued stays as the step settles, or is queued again as it was. -/
theorem settle_sends_notice {c : Nat} {r s : State} {p : Payload} (hs : r.sends s 0 p) (hgrow : Grows .nothing r s)
    (hp : s.noticeOf c = some p) : r.sends (settle s) 0 p := by
  have hkey := noticeOf_key hp
  have hdesks : Grows {} s (settledDesks s) := (routeFloor_grows _).trans (refreshDesks_grows _)
  have hstep (j : Nat) (u : State)
      (hu : u.noticeOf c = some p ∧ Grows .nothing r u ∧ r.sends u 0 p) :
      (queueNotice j u).noticeOf c = some p ∧ Grows .nothing r (queueNotice j u) ∧ r.sends (queueNotice j u) 0 p := by
    obtain ⟨hof, hru, hsent⟩ := hu
    refine ⟨(queueNotice_noticeOf j c u).trans hof, hru.trans (queueNotice_grows rfl j u), ?_⟩
    by_cases hj : j = c
    · subst hj
      obtain ⟨ch, hch, rfl⟩ := Option.map_eq_some_iff.mp hof
      exact hru.sends_from (queueNotice_sends hch)
    · exact (queueNotice_carries hj u).sends hsent hru hkey
  have hof : (settledDesks s).noticeOf c = some p := by
    have hsame := settledDesks_frame s
    rw [← hp]
    simp only [State.noticeOf, State.channel, same_planner_channels hsame rfl rfl rfl, settledDesks_noticeState,
      State.exportTrunk, same_relay_exported hsame rfl, same_planner_trunks hsame rfl]
  obtain ⟨-, hgrown, hsent⟩ := forEach_keeps
    (Q := fun u => u.noticeOf c = some p ∧ Grows .nothing r u ∧ r.sends u 0 p) hstep
    (Tab.keys ((settledDesks s).planner.channels.filter fun e => (settledDesks s).noticeState e.1 e.2 ≠ e.2.announced))
    ⟨hof, hgrow.trans hdesks.events, (Carries.of_grows hdesks rfl).sends hs hgrow hkey⟩
  rw [settle_eq]
  refine (Carries.of_grows (κ := {}) ?_ rfl).sends hsent hgrown hkey
  exact (rebuildMap_grows _).trans (syncMask_grows _)

/-- A notice timer just set stays so as a step settles. -/
theorem settle_notice {c : Nat} {s : State} (h : (s.channel c).map Channel.notice = some (some 10000)) :
    ((settle s).channel c).map Channel.notice = some (some 10000) := by
  have hplanner : (settle s).planner.channels = (announce (settledDesks s)).planner.channels := by
    rw [settle_eq, syncMask_planner]
    rfl
  rw [State.channel, hplanner]
  refine forEach_keeps (Q := fun u => (u.channel c).map Channel.notice = some (some 10000)) (fun j u hu => ?_) _
    (s := settledDesks s) ?_
  · by_cases hj : c = j
    · subst hj
      obtain ⟨ch, hch, -⟩ := Option.map_eq_some_iff.mp hu
      rw [queueNotice_channel_self hch]
      rfl
    · rw [queueNotice_channel_ne hj]
      exact hu
  · rw [State.channel, settledDesks_channels]
    exact h

end Sys2Proof.Machine

/-! The timers of own claims and notices (R9, R10, R21, R26, R69, R75). -/

namespace Sys2Proof.Machine

/-! ### Channels (R9, R10) -/

/-- A channel that has won its subcarrier. -/
def Channel.won (confirmed : Bool) (ch : Channel) : Channel :=
  { ch with state := .onAir, everOnAir := true, confirmed := confirmed, window := none, refresh := some 10000 }

section Channels

variable {c : Nat} {s : State} {ch : Channel} (hc : s.channel c = some ch)
include hc

theorem winChannel_stopped (h : ch.window = none) : winChannel c s = s := by
  simp only [winChannel, hc, h, Option.isNone_none, if_true]

theorem winChannel_won (h : ch.window.isSome = true) :
    winChannel c s = modChannel c (Channel.won (decide (s.line.state ≠ .offLine))) s := by
  obtain ⟨n, hn⟩ := Option.isSome_iff_exists.mp h
  simp only [winChannel, hc, hn, Option.isNone_some]
  rfl

theorem refreshChannel_stopped (h : ch.refresh = none) : refreshChannel c s = s := by
  simp only [refreshChannel, hc, h, Option.isNone_none, if_true]

theorem refreshChannel_offLine (h : ch.refresh.isSome = true) (hoff : s.line.state = .offLine) :
    refreshChannel c s = modChannel c (fun ch => { ch with refresh := some 10000 }) s := by
  obtain ⟨n, hn⟩ := Option.isSome_iff_exists.mp h
  simp only [refreshChannel, hc, hn, Option.isNone_some, hoff]
  rfl

theorem refreshChannel_live (h : ch.refresh.isSome = true) (hlive : s.line.state ≠ .offLine) :
    refreshChannel c s = refreshClaim c s := by
  obtain ⟨n, hn⟩ := Option.isSome_iff_exists.mp h
  simp only [refreshChannel, hc, hn, Option.isNone_some, if_neg hlive]
  rfl

theorem refreshChannel_channel {sc : Nat} (h : ch.refresh.isSome = true) (hsc : ch.subcarrier = some sc) :
    (refreshChannel c s).channel c = some { ch with refresh := some 10000 } := by
  obtain ⟨n, hn⟩ := Option.isSome_iff_exists.mp h
  by_cases hoff : s.line.state = .offLine
  · rw [refreshChannel_offLine hc h hoff, modChannel_channel_self, hc]
    rfl
  · rw [refreshChannel_live hc h hoff, refreshClaim_channel_self hc hsc, hn]
    rfl

end Channels

theorem refreshClaim_channel_ne {c k : Nat} (hk : k ≠ c) (s : State) : (refreshClaim c s).channel k = s.channel k := by
  unfold refreshClaim
  split
  · rfl
  · split
    · rfl
    · rw [State.channel, sendClaim, enqueueFrame_planner, ← State.channel, modChannel_channel_ne hk]

theorem winChannel_channel_ne {c k : Nat} (hk : k ≠ c) (s : State) : (winChannel c s).channel k = s.channel k := by
  unfold winChannel
  repeat' split
  · rfl
  · rfl
  · exact modChannel_channel_ne hk _ _

theorem refreshChannel_channel_ne {c k : Nat} (hk : k ≠ c) (s : State) :
    (refreshChannel c s).channel k = s.channel k := by
  unfold refreshChannel
  repeat' split
  · rfl
  · rfl
  · exact modChannel_channel_ne hk _ _
  · exact refreshClaim_channel_ne hk _

/-- The subcarrier of an ON AIR channel is in the mask once the step has settled (R95). -/
theorem mem_mask {c sc : Nat} {s : State} {ch : Channel} (hc : (settle s).channel c = some ch) (hair : ch.state = .onAir)
    (hsc : ch.subcarrier = some sc) (hlt : sc < 32) : sc ∈ (settle s).map.mask := by
  rw [settle_mask, State.onAirSubcarriers, List.mem_filter]
  exact ⟨List.mem_range.mpr hlt, List.any_eq_true.mpr ⟨(c, ch), mem_of_tab_get hc, by simp [hair, hsc]⟩⟩

/-- OFF-LINE, a refresh queues no frame. -/
theorem refreshChannel_offLine_queue {c : Nat} {s : State} (hoff : s.line.state = .offLine) :
    (refreshChannel c s).line = s.line := by
  unfold refreshChannel
  split
  · rfl
  · split
    · rfl
    · rfl

/-! ### Trunks (R21, R26, R75) -/

section Trunks

variable {tr : Nat} {s : State} {ph : TrunkPhase} {cf : Bool} {u : TrunkUser} {w r : Option Nat}

/-- A trunk claim held. -/
def trunkWon (tr : Nat) (u : TrunkUser) (s : State) : State :=
  setTrunk tr (.own .held (decide (s.line.state ≠ .offLine)) u none (some 10000)) s

theorem winTrunk_own {n : Nat} (h : s.trunk tr = some (.own ph cf u (some n) r)) :
    winTrunk tr s = if ph = .window then tellWon u tr (trunkWon tr u s) else trunkWon tr u s := by
  simp only [winTrunk, h, trunkWon]

theorem winTrunk_other (h : ∀ ph cf u n r, s.trunk tr ≠ some (.own ph cf u (some n) r)) : winTrunk tr s = s := by
  unfold winTrunk
  split
  next heq => exact absurd heq (h _ _ _ _ _)
  · rfl

theorem winTrunk_trunk {n : Nat} (h : s.trunk tr = some (.own ph cf u (some n) r)) : (winTrunk tr s).trunk tr =
    some (.own .held (decide (s.line.state ≠ .offLine)) u none (some 10000)) := by
  rw [winTrunk_own h]
  split
  · rw [trunk_congr (same_planner_trunks (w := { Parts.settled with feeds := true })
      (by apply tellWon_frame <;> rfl) rfl)]
    exact setTrunk_self _ _ _
  · exact setTrunk_self _ _ _

theorem refreshOwnTrunk_other (h : ∀ ph cf u w n, s.trunk tr ≠ some (.own ph cf u w (some n))) :
    refreshOwnTrunk tr s = s := by
  unfold refreshOwnTrunk
  split
  next heq => exact absurd heq (h _ _ _ _ _)
  · rfl

theorem refreshOwnTrunk_own {n : Nat} (h : s.trunk tr = some (.own ph cf u w (some n))) : refreshOwnTrunk tr s =
    if s.line.state = .offLine then setTrunk tr (.own ph cf u w (some 10000)) s
    else sendTrunkClaim tr .refresh u (setTrunk tr (.own ph cf u w (some 10000)) s) := by
  simp only [refreshOwnTrunk, h, refreshTrunk]
  rfl

theorem refreshOwnTrunk_trunk {n : Nat} (h : s.trunk tr = some (.own ph cf u w (some n))) :
    (refreshOwnTrunk tr s).trunk tr = some (.own ph cf u w (some 10000)) := by
  rw [refreshOwnTrunk_own h]
  split
  · exact setTrunk_self _ _ _
  · rw [trunk_congr (congrArg PlannerBlock.trunks (sendTrunkClaim_planner _ _ _ _))]
    exact setTrunk_self _ _ _

theorem refreshOwnTrunk_trunk_ne {j : Nat} (hj : j ≠ tr) : (refreshOwnTrunk tr s).trunk j = s.trunk j := by
  have hset (e : TrunkEntry) : (setTrunk tr e s).trunk j = s.trunk j := tab_get_set_ne _ _ _ _ hj
  unfold refreshOwnTrunk
  split
  next heq =>
    split
    · exact hset _
    · simp only [refreshTrunk, heq]
      rw [trunk_congr (congrArg PlannerBlock.trunks (sendTrunkClaim_planner _ _ _ _))]
      exact hset _
  · rfl

theorem refreshOwnTrunk_offLine (hoff : s.line.state = .offLine) : (refreshOwnTrunk tr s).line = s.line := by
  unfold refreshOwnTrunk
  repeat' split
  · rfl
  next hlive => exact absurd hoff hlive
  · rfl

theorem refreshOwnTrunk_sends {n : Nat} (h : s.trunk tr = some (.own ph cf u w (some n))) (hlive : s.line.state ≠ .offLine) :
    s.sends (refreshOwnTrunk tr s) 0 (.claim (.trunk tr) .refresh (s.trunkLabel u).1 (s.trunkLabel u).2) := by
  rw [refreshOwnTrunk_own h, if_neg hlive]
  have hlabel : (setTrunk tr (.own ph cf u w (some 10000)) s).trunkLabel u = s.trunkLabel u := trunkLabel_congr rfl rfl u
  have hsent := sendTrunkClaim_sends tr .refresh u (setTrunk tr (.own ph cf u w (some 10000)) s)
  rw [hlabel] at hsent
  exact (setTrunk_grows (κ := {}) _ _ s).sends_from hsent

end Trunks

/-! ### The users of a trunk won (R68, R75) -/

section Won

variable {k tr : Nat} {s : State}

/-- A feed whose trunk is won. -/
def Feed.ready (tr : Nat) (x : Feed) : Feed := { x with state := .ready, trunk := some tr }

/-- The feed's trunk is routed and its partner told. -/
def feedReady (k tr : Nat) (x : Feed) (s : State) : State :=
  setRoute (sendOutput tr) (.mic x.booth) (sendFeedState x (.ready tr) (modFeed k (Feed.ready tr) s))

theorem feedWon_some {x : Feed} (hk : s.context k = some x) : feedWon k tr s =
    if x.boothHeld then reportHeld k (feedReady k tr x s) else feedReady k tr x s := by
  simp only [feedWon, hk]
  rfl

theorem feedReady_context {x : Feed} (hk : s.context k = some x) : (feedReady k tr x s).context k = some (x.ready tr) := by
  rw [feedReady, State.context, setRoute_feed, ← State.context, sendFeedState_context, modFeed_context_self, hk]
  rfl

theorem feedReady_sends {x : Feed} : s.sends (feedReady k tr x s) x.partner (.feedState x.booth x.target (.ready tr)) :=
  (modFeed_grows (κ := {}) k (Feed.ready tr) s).sent_by (κ' := {}) (κ'' := {})
    (enqueueFrame_grows _ _ (by simp [Payload.key]) _) (setRoute_grows _ _ _) (enqueueFrame_sends _ _ _) rfl

theorem feedReady_grows (k tr : Nat) (x : Feed) (s : State) : Grows {} s (feedReady k tr x s) :=
  ((modFeed_grows _ _ _).trans (enqueueFrame_grows _ _ (by simp [Payload.key]) _)).trans (setRoute_grows _ _ _)

/-- A booth that holds the feed makes it LIVE. -/
theorem reportHeld_ready {x : Feed} (hk : s.context k = some x) (hst : x.state = .ready) : reportHeld k s =
    sendFeedState x (.live x.pedigree)
      (modFeed k (fun f => { f with state := .live }) (modFeed k (fun f => { f with boothHeld := true }) s)) := by
  simp only [reportHeld, show Tab.get s.feed.contexts k = some x from hk, hst]
  rfl

theorem feedWon_wins {x : Feed} (hk : s.context k = some x) :
    (feedWon k tr s).context k = some { x with state := if x.boothHeld then .live else .ready, trunk := some tr }
      ∧ s.sends (feedWon k tr s) x.partner (.feedState x.booth x.target (.ready tr))
      ∧ (feedWon k tr s).route (sendOutput tr) = .mic x.booth := by
  have hready := feedReady_context (tr := tr) hk
  rw [feedWon_some hk]
  cases hheld : x.boothHeld with
  | false =>
    simp only [Bool.false_eq_true, if_false]
    exact ⟨hready.trans (by simp only [Feed.ready, hheld]), feedReady_sends, setRoute_route_self _ _ _⟩
  | true =>
    simp only [if_true]
    refine ⟨?_, ?_, ?_⟩
    · rw [reportHeld_ready hready rfl, sendFeedState_context, modFeed_context_self, modFeed_context_self, hready]
      simp only [Option.map_some, Feed.ready, hheld]
    · exact (Grows.refl (κ := {}) s).sent_by (feedReady_grows k tr x s) (κ'' := {}) (reportHeld_grows _ _)
        feedReady_sends rfl
    · rw [reportHeld_ready hready rfl, sendFeedState, route_congr (congrArg PanelBlock.routes (enqueueFrame_panel _ _ _))]
      exact setRoute_route_self _ _ _

theorem exportWon_wins {e : ExportRecord} (he : Tab.get s.relay.exported k = some e) :
    (exportWon k tr s).route (sendOutput tr) = .bus k
      ∧ ∀ y ∈ e.listeners, s.sends (exportWon k tr s) y.station (.relayAnswer k (.grant tr)) := by
  simp only [exportWon, he]
  refine ⟨?_, fun y hy => ?_⟩
  · rw [route_congr (same_panel_routes (w := { events := true, notices := true, lineQueue := true })
      (queueNotice_frame rfl rfl rfl _ _) rfl)]
    exact setRoute_route_self _ _ _
  · exact (Grows.refl (κ := {}) s).sent_by (κ' := {}) (κ'' := { notices := false }) (answerListeners_grows _ _ _ _)
      ((setRoute_grows _ _ _).trans (queueNotice_grows rfl _ _)) (answerListeners_sends ⟨y, hy, rfl⟩ s) rfl

end Won

end Sys2Proof.Machine

/-! The timers of own claims and notices: the statement (R9, R10, R21, R26, R69, R75). -/

namespace Sys2Proof.Machine

/-- The notice timer of a channel runs out. -/
def noticeExpired (c : Nat) (s : State) : State :=
  if (s.channel c).any fun ch => ch.notice.isSome then queueNotice c s else s

section Exec

variable {s : State} (hrun : s.running = true) (c : Nat)
include hrun

theorem exec_claimWindowExpiry : exec (.claimWindowExpiry c) s = .next (settle (winChannel c s)) :=
  congrArg Host.Outcome.next (event_of_running _ hrun)

theorem exec_claimRefresh : exec (.claimRefresh c) s = .next (settle (refreshChannel c s)) :=
  congrArg Host.Outcome.next (event_of_running _ hrun)

theorem exec_noticeTimer : exec (.noticeTimer c) s = .next (settle (noticeExpired c s)) :=
  congrArg Host.Outcome.next (event_of_running _ hrun)

theorem exec_trunkWindowExpiry : exec (.trunkWindowExpiry c) s = .next (settle (winTrunk c s)) :=
  congrArg Host.Outcome.next (event_of_running _ hrun)

theorem exec_trunkRefresh : exec (.trunkRefresh c) s = .next (settle (refreshOwnTrunk c s)) :=
  congrArg Host.Outcome.next (event_of_running _ hrun)

end Exec

theorem settle_channel_core {s : State} {c : Nat} : ((settle s).channel c).map Channel.core = (s.channel c).map Channel.core :=
  channel_core_of_same (settle_channels_core s) c

/-- Settles O50: the equation of each timer's operation. -/
theorem ownClaimTimers : Obligations.OwnClaimTimers := by
  intro s c tr ch hrun hc noClaim
  have hoffQueue {u : State} (hu : s.line.state = .offLine → u.line = s.line) : noClaim (settle u) := fun hoff f hf hcode => by
    have hmem := mem_settle_queue hf (by rw [hcode]; decide)
    rw [hu hoff] at hmem
    exact hmem
  refine ⟨⟨_, exec_claimWindowExpiry hrun c, fun h => ?_, fun h => ?_, fun k hk => ?_, ?_⟩,
    ⟨_, exec_claimRefresh hrun c, fun h => ?_, hoffQueue fun hoff => refreshChannel_offLine_queue hoff,
      fun sc h hsc => ⟨?_, fun hlive => ?_⟩, fun k hk => ?_, ?_⟩,
    ⟨_, exec_noticeTimer hrun c, fun h => ?_, fun h => ?_, ?_⟩,
    ⟨_, exec_trunkWindowExpiry hrun tr, fun ph cf u w r hown => ⟨?_, fun k x hph hu hk => ?_, fun k e hph hu he => ?_,
      fun hph => ?_⟩, fun h => ?_, ?_⟩,
    ⟨_, exec_trunkRefresh hrun tr, fun ph cf u w r hown => ⟨?_, fun hlive => ?_⟩, fun h => ?_,
      hoffQueue fun hoff => refreshOwnTrunk_offLine hoff, fun j hj => ?_, ?_⟩⟩
  · rw [winChannel_stopped hc h]
  · have hwon : ((settle (winChannel c s)).channel c).map Channel.core =
        some (ch.won (decide (s.line.state ≠ .offLine))).core := by
      rw [settle_channel_core, winChannel_won hc h, modChannel_channel_self, hc]
      rfl
    refine ⟨hwon, fun sc hsc hlt => ?_⟩
    obtain ⟨ch', hch', hcore⟩ := channel_of_core hwon
    have hair := congrArg Channel.state hcore
    have hsub := congrArg Channel.subcarrier hcore
    exact mem_mask hch' hair (hsub.trans hsc) hlt
  · rw [settle_channel_core, winChannel_channel_ne hk]
  · exact SameBut.settled (w := { Parts.settled with channels := true }) (winChannel_frame rfl _ _)
      rfl rfl rfl rfl rfl rfl rfl
  · rw [refreshChannel_stopped hc h]
  · rw [settle_channel_core, refreshChannel_channel hc h hsc]
    rfl
  · rw [refreshChannel_live hc h hlive]
    exact (Grows.refl (κ := {}) s).sent_by (κ' := .nothing) (refreshClaim_grows rfl _ _) (settle_steady _)
      (refreshClaim_sends hc hsc) rfl
  · rw [settle_channel_core, refreshChannel_channel_ne hk]
  · exact SameBut.settled (w := { Parts.settled with channels := true }) (refreshChannel_frame rfl rfl rfl _ _)
      rfl rfl rfl rfl rfl rfl rfl
  · have heq : noticeExpired c s = queueNotice c s := by simp [noticeExpired, hc, h]
    have hof : s.noticeOf c = some
        (.channelNotice c ch.language (s.noticeState c ch) (s.exportTrunk c) ch.pedigree) := by
      rw [State.noticeOf, hc]
      rfl
    rw [heq]
    refine ⟨settle_sends_notice (queueNotice_sends hc) (queueNotice_grows rfl _ _)
      ((queueNotice_noticeOf c c s).trans hof), settle_notice ?_⟩
    rw [queueNotice_channel_self hc]
    rfl
  · have heq : noticeExpired c s = s := by simp [noticeExpired, hc, h]
    rw [heq]
  · refine SameBut.settled (w := Parts.settled) ?_ rfl rfl rfl rfl rfl rfl rfl
    unfold noticeExpired
    split
    · exact queueNotice_frame rfl rfl rfl _ _
    · rfl
  · rw [settle_trunk]
    exact winTrunk_trunk hown
  · have heq : winTrunk tr s = feedWon k tr (trunkWon tr u s) := by
      rw [winTrunk_own hown, if_pos hph, hu]
      rfl
    obtain ⟨hctx, hsent, hroute⟩ := feedWon_wins (tr := tr) (s := trunkWon tr u s) (k := k) (x := x) hk
    rw [heq, settle_context, settle_route (sendOutput_ne_floor tr)]
    refine ⟨hctx, ?_, hroute⟩
    exact (setTrunk_grows (κ := {}) _ _ s).sent_by (κ' := {}) (feedWon_grows _ _ _) (settle_steady _) hsent rfl
  · have heq : winTrunk tr s = exportWon k tr (trunkWon tr u s) := by
      rw [winTrunk_own hown, if_pos hph, hu]
      rfl
    obtain ⟨hroute, hsent⟩ := exportWon_wins (tr := tr) (s := trunkWon tr u s) (k := k) (e := e) he
    rw [heq, settle_route (sendOutput_ne_floor tr)]
    exact ⟨hroute, fun y hy => (setTrunk_grows (κ := {}) _ _ s).sent_by (κ' := { notices := false })
      (exportWon_grows rfl _ _ _) (settle_steady _) (hsent y hy) rfl⟩
  · have heq : winTrunk tr s = trunkWon tr u s := by
      rw [winTrunk_own hown, if_neg (by simp [hph])]
    rw [heq]
    exact SameBut.settled (w := { Parts.settled with trunks := true }) (setTrunk_frame rfl _ _ _)
      rfl rfl rfl rfl rfl rfl rfl
  · rw [winTrunk_other fun ph cf u w r => h ph cf u w r]
  · exact SameBut.settled (w := { Parts.settled with trunks := true, feeds := true }) (by apply winTrunk_frame <;> rfl)
      rfl rfl rfl rfl rfl rfl rfl
  · rw [settle_trunk]
    exact refreshOwnTrunk_trunk hown
  · exact (Grows.refl (κ := {}) s).sent_by (κ' := .nothing) (refreshOwnTrunk_grows rfl _ _) (settle_steady _)
      (refreshOwnTrunk_sends hown hlive) rfl
  · rw [refreshOwnTrunk_other fun ph cf u w r => h ph cf u w r]
  · rw [settle_trunk, refreshOwnTrunk_trunk_ne hj]
  · exact SameBut.settled (w := { Parts.settled with trunks := true }) (refreshOwnTrunk_frame rfl rfl rfl _ _)
      rfl rfl rfl rfl rfl rfl rfl

end Sys2Proof.Machine

/-! The panel arbiter (R103, R106, R108). -/

namespace Sys2Proof.Machine

/-! ### A message in transmission -/

theorem deferTarget_outbound (t : Target) (s : State) : (deferTarget t s).panel.outbound = s.panel.outbound := by
  rw [deferTarget_eq]

/-- Queuing a message leaves the one in transmission alone. -/
theorem queueMessage_keeps_sending {m : Message} {s : State} (h : m ∈ s.panel.outbound) (hm : m.sending = true)
    (b : Body) (o : Origin) : m ∈ (queueMessage b o s).panel.outbound := by
  unfold queueMessage
  dsimp only
  split
  · exact h
  split
  · exact List.mem_map.mpr ⟨m, h, by simp [sameQueued, hm]⟩
  split
  · exact h
  split
  · exact List.mem_append_left _ h
  split
  · exact h
  split
  next n hlast =>
    rw [deferTarget_outbound]
    rcases mem_dropLastMatch hlast h with h1 | h1
    · exact List.mem_append_left _ h1
    · have htest := List.find?_some hlast
      simp [← h1, hm] at htest
  · rw [deferTarget_outbound]
    exact h

theorem setRoute_keeps_sending {m : Message} {s : State} (h : m ∈ s.panel.outbound) (hm : m.sending = true) (o : Nat)
    (src : Source) : m ∈ (setRoute o src s).panel.outbound := by
  unfold setRoute
  split
  · exact h
  · exact queueMessage_keeps_sending (by exact h) hm _ _

theorem refreshDesk_keeps_sending {m : Message} {s : State} (h : m ∈ s.panel.outbound) (hm : m.sending = true) (d : Nat) :
    m ∈ (refreshDesk d s).panel.outbound := by
  have hshow {u : State} (hu : m ∈ u.panel.outbound) (f : Desk → Desk) (b : Body) :
      m ∈ (queueMessage b .plain (modDesk d f u)).panel.outbound := queueMessage_keeps_sending (by exact hu) hm _ _
  unfold refreshDesk
  split
  · exact h
  · dsimp only
    split <;> split
    · exact h
    · exact hshow h _ _
    · exact hshow h _ _
    · exact hshow (hshow h _ _) _ _

theorem settle_panel (s : State) : (settle s).panel = (settledDesks s).panel := by
  rw [settle_eq, syncMask_panel, rebuildMap, announce_panel]

theorem settle_keeps_sending {m : Message} {s : State} (h : m ∈ s.panel.outbound) (hm : m.sending = true) :
    m ∈ (settle s).panel.outbound := by
  rw [settle_panel]
  exact forEach_keeps (Q := fun u => m ∈ u.panel.outbound) (fun d _ hu => refreshDesk_keeps_sending hu hm d) _
    (setRoute_keeps_sending h hm _ _)

/-! ### The message chosen (R106) -/

/-- The oldest of the earliest class: none before it of its class or an earlier one, none after it of an earlier. -/
theorem nextMessage_first {l : List Message} {m : Message} (h : nextMessage l = some m) : m.sending = false
    ∧ ∃ before after, l = before ++ m :: after
      ∧ (∀ n ∈ before, n.sending = false → m.body.cls < n.body.cls)
      ∧ ∀ n ∈ after, n.sending = false → m.body.cls ≤ n.body.cls := by
  obtain ⟨before, c, after, hrange, hfound, hearlier⟩ := List.findSome?_eq_some_iff.mp h
  have hlow (n : Message) (hn : n ∈ l) (hs : n.sending = false) (hlt : n.body.cls < c) : False := by
    have hmem : n.body.cls ∈ before := by
      have hin : n.body.cls ∈ List.range 5 := by
        have hle : n.body.cls ≤ 4 := by cases n.body <;> simp [Body.cls]
        exact List.mem_range.mpr (by omega)
      rw [hrange] at hin
      rcases List.mem_append.mp hin with hin | hin
      · exact hin
      · have hsorted : (List.range 5).Pairwise (· < ·) := List.pairwise_lt_range
        rw [hrange, List.pairwise_append] at hsorted
        rcases List.mem_cons.mp hin with heq | hin
        · omega
        · have hgt := (List.pairwise_cons.mp hsorted.2.1).1 _ hin
          omega
    have hnone := List.find?_eq_none.mp (hearlier _ hmem) n hn
    simp [hs] at hnone
  obtain ⟨hm, b, a, hl, hb⟩ := List.find?_eq_some_iff_append.mp hfound
  simp only [Bool.and_eq_true, decide_eq_true_eq, Bool.not_eq_true'] at hm
  refine ⟨hm.2, b, a, hl, fun n hn hs => ?_, fun n hn hs => ?_⟩
  · have hne := hb n hn
    simp only [hs, Bool.not_false, Bool.and_true, Bool.not_eq_true', decide_eq_false_iff_not] at hne
    have hnot : ¬n.body.cls < c := fun hlt => hlow n (by rw [hl]; exact List.mem_append_left _ hn) hs hlt
    omega
  · have hnot : ¬n.body.cls < c := fun hlt =>
      hlow n (by rw [hl]; exact List.mem_append_right _ (List.mem_cons_of_mem _ hn)) hs hlt
    omega

theorem mem_markSending {l : List Message} {m : Message} (h : m ∈ l) : { m with sending := true } ∈ markSending m l := by
  induction l with
  | nil => simp at h
  | cons n rest ih =>
    unfold markSending
    split
    next heq => simp [heq]
    next hne => exact List.mem_cons_of_mem _ (ih ((List.mem_cons.mp h).resolve_left (Ne.symm hne)))

/-! ### The next poll (R108) -/

section Polls

variable {s : State} {a : Nat} {rest : List Nat}

theorem nextPoll_running (n : Nat) (h : s.panel.polls = some (a :: rest)) : nextPoll (n + 1) s = sendPoll a rest s := by
  simp only [nextPoll, h]

theorem nextPoll_new (n : Nat) (h : s.panel.polls = none) (hr : s.roundPolls = a :: rest) :
    nextPoll (n + 2) s = sendPoll a rest (beginRound s) := by
  rw [nextPoll, h]
  exact nextPoll_running n (s := beginRound s) (congrArg some hr)

theorem nextPoll_over (n : Nat) (h : s.panel.polls = some [])
    (hr : ({ s with panel.round := (s.panel.round + 1) % 16 } : State).roundPolls = a :: rest) :
    nextPoll (n + 3) s = sendPoll a rest (beginRound (endRound s)) := by
  rw [nextPoll, h]
  exact nextPoll_new n (s := endRound s) rfl hr

end Polls

section Start

variable {s : State}

theorem startExchange_busy (h : s.panel.exchange.isSome = true) : startExchange s = s := by
  simp only [startExchange, h, if_true]

theorem startExchange_message {m : Message} (h : s.panel.exchange = none) (hm : nextMessage s.panel.outbound = some m) :
    startExchange s = sendMessage m s := by
  simp only [startExchange, h, hm]
  rfl

theorem startExchange_poll (h : s.panel.exchange = none) (hm : nextMessage s.panel.outbound = none) :
    startExchange s = nextPoll 40 s := by
  simp only [startExchange, h, hm]
  rfl

end Start

theorem settle_panelLine (s : State) : (settle s).panel.exchange = s.panel.exchange
    ∧ (settle s).panel.out = s.panel.out ∧ (settle s).panel.polls = s.panel.polls
    ∧ (settle s).panel.round = s.panel.round ∧ (settle s).panel.rotation = s.panel.rotation := by
  have h := settle_sameBut s
  exact ⟨same_panel_exchange h rfl, same_panel_out h rfl, same_panel_polls h rfl, same_panel_round h rfl,
    same_panel_rotation h rfl⟩

theorem nextRotation_endRound (s : State) : (endRound s).nextRotation = s.nextRotation := rfl

theorem exec_panelExchangeStart {s : State} (h : s.running = true) :
    exec .panelExchangeStart s = .next (settle (startExchange s)) := congrArg Host.Outcome.next (event_of_running _ h)

/-- Settles O55: the arbiter's choice, by what waits and what is left of the round. -/
theorem panelArbiter : Obligations.PanelArbiter := by
  intro s hrun line
  refine ⟨fun hbusy => ⟨_, exec_panelExchangeStart hrun, ?_⟩, fun hfree => ⟨_, exec_panelExchangeStart hrun,
    fun m hm => ?_, fun a rest hm hp => ?_, fun a rest hm hp hr => ?_, fun a rest hm hp hr => ?_, ?_⟩, ?_⟩
  · rw [startExchange_busy hbusy]
    exact settle_sameBut s
  · obtain ⟨hsending, before, after, hl, hb, ha⟩ := nextMessage_first hm
    obtain ⟨hex, hout, hpolls, hround, -⟩ := settle_panelLine (sendMessage m s)
    rw [startExchange_message hfree hm]
    refine ⟨hsending, ⟨before, after, hl, hb, ha⟩, hex, ?_, hout, hpolls, hround⟩
    exact settle_keeps_sending (mem_markSending (by rw [hl]; simp)) rfl
  · rw [startExchange_poll hfree hm, nextPoll_running 39 hp]
    obtain ⟨hex, hout, hpolls, hround, hrot⟩ := settle_panelLine (sendPoll a rest s)
    exact ⟨hex, hout, hpolls, hround, hrot⟩
  · rw [startExchange_poll hfree hm, nextPoll_new 38 hp hr]
    obtain ⟨hex, -, hpolls, hround, hrot⟩ := settle_panelLine (sendPoll a rest (beginRound s))
    exact ⟨hex, hpolls, hround, hrot⟩
  · rw [startExchange_poll hfree hm, nextPoll_over 37 hp hr]
    obtain ⟨hex, -, hpolls, hround, hrot⟩ := settle_panelLine (sendPoll a rest (beginRound (endRound s)))
    exact ⟨hex, hpolls, hround, hrot⟩
  · exact SameBut.settled (w := line) (by apply startExchange_frame <;> rfl) rfl rfl rfl rfl rfl rfl rfl
  · exact List.length_take_le _ _

end Sys2Proof.Machine

/-! Answered messages (R105, R107, R112, R119). -/

namespace Sys2Proof.Machine

/-! ### The exchange that ends (R105, R106) -/

theorem modDrop_drop_self (a : Nat) (f : Drop → Drop) (s : State) :
    Tab.get (modDrop a f s).panel.drops a = (Tab.get s.panel.drops a).map f := tab_get_modify_self _ _ _

theorem modDrop_drop_ne {a b : Nat} (h : b ≠ a) (f : Drop → Drop) (s : State) :
    Tab.get (modDrop a f s).panel.drops b = Tab.get s.panel.drops b := tab_get_modify_ne _ _ _ _ h

/-- The line free, the message out of the queue and its drop's silences cleared. -/
def lineFreed (m : Message) (s : State) : State :=
  modDrop m.body.drop (fun d => { d with online := true, silences := 0 })
    { s with panel.exchange := none, panel.outbound := s.panel.outbound.erase m }

section Answered

variable {m : Message} {s : State} {dr : Drop} (hfree : s.panel.exchange = none)
  (hd : Tab.get s.panel.drops m.body.drop = some dr) (hon : dr.online = true)
  (hfound : s.panel.outbound.find? (fun x => x.body.drop = m.body.drop && x.body.kind = m.body.kind) = some m)
include hfree hfound

theorem ending_message : s.ending m.body.drop m.body.kind = some (.message m) := by
  have hkind : m.body.kind ≠ .poll := by cases m.body <;> simp [Body.kind]
  simp only [State.ending, hfree, if_neg hkind, hfound, Option.map_some]

include hd hon

theorem answered_message (act : Ended → State → State) : answered m.body.drop m.body.kind act s =
    fillRoom (act (.message m) (lineFreed m s)) := by
  have hdrops : dropAnswers m.body.drop (endExchange (.message m) s) = lineFreed m s := by
    simp only [dropAnswers, endExchange, hd, hon, if_true, lineFreed]
  simp only [answered, ending_message hfree hfound, hdrops]

omit hfree hfound in
/-- The drop has answered. -/
theorem lineFreed_drop : Tab.get (lineFreed m s).panel.drops m.body.drop = some { dr with silences := 0 } := by
  have hself : Tab.get (lineFreed m s).panel.drops m.body.drop =
      (Tab.get s.panel.drops m.body.drop).map fun d => { d with online := true, silences := 0 } :=
    modDrop_drop_self _ _ _
  rw [hself, hd]
  simp only [Option.map_some, hon]

omit hfree hfound in
theorem lineFreed_online : (lineFreed m s).dropOnline m.body.drop = true := by
  simp only [State.dropOnline, lineFreed_drop hd hon, Option.map_some, Option.getD_some, hon]

end Answered

theorem lineFreed_owners (m : Message) (s : State) : (lineFreed m s).clock = s.clock ∧ (lineFreed m s).booth = s.booth
    ∧ (lineFreed m s).dock = s.dock := ⟨rfl, rfl, rfl⟩

/-- The drop as a step that answered leaves it. -/
theorem settle_drop {m : Message} {s u : State} {dr : Drop} (hd : Tab.get s.panel.drops m.body.drop = some dr)
    (hon : dr.online = true) (hu : u.panel.drops = (lineFreed m s).panel.drops) :
    Tab.get (settle (fillRoom u)).panel.drops m.body.drop = some { dr with silences := 0 } := by
  rw [same_panel_drops (settle_sameBut _) rfl, fillRoom_panel_drops, hu]
  exact lineFreed_drop hd hon

/-! ### What the answers tell (R112, R119) -/

section Issue

variable {n k : Nat} {m : Message} {i : Issue} {s : State} (horigin : m.origin = .issue n)
  (hi : Tab.get s.dock.issues n = some i)
include horigin hi

/-- The latch is to be opened for an issue. -/
def unlatching (n k : Nat) (s : State) : State :=
  modSlot k (fun sl => { sl with latchOpen := true }) (setPhase n .unlatching none s)

theorem hearPreset_issue (hph : i.phase = .presetting) :
    hearPreset k m s = queueMessage (.latch k true) (.issue n) (unlatching n k s) := by
  simp only [hearPreset, State.issueFor, horigin, hi, Option.map_some, hph, if_true]
  rfl

theorem hearLatch_issue (hph : i.phase = .unlatching) :
    hearLatch m s = setPhase n .awaitingRemoval (some 20000) s := by
  simp only [hearLatch, State.issueFor, horigin, hi, Option.map_some, hph, if_true]

omit horigin in
theorem setPhase_issue (ph : IssuePhase) (removal : Option Nat) :
    Tab.get (setPhase n ph removal s).dock.issues n = some { i with phase := ph, removal := removal } := by
  change Tab.get (Tab.modify s.dock.issues n fun i => { i with phase := ph, removal := removal }) n = _
  rw [tab_get_modify_self, hi]
  rfl

end Issue

theorem hearLatch_plain {m : Message} (h : m.origin = .plain) (s : State) : hearLatch m s = s := by
  simp only [hearLatch, State.issueFor, h]

theorem hearClearMark_plain {m : Message} (h : m.origin = .plain) (k : Nat) (s : State) :
    hearClearMark k m s = modSlot k (fun sl => { sl with clearMark := false }) s := by
  simp only [hearClearMark, h]
  rfl

end Sys2Proof.Machine

/-! Answered messages: the statement (R105, R112, R119). -/

namespace Sys2Proof.Machine

section Exec

variable {s : State} (hrun : s.running = true) (k : Nat)
include hrun

theorem exec_presetAnswered : exec (.presetAnswered k) s =
    .next (settle (answered (slotAddress k) .preset (onMessage (hearPreset k)) s)) :=
  congrArg Host.Outcome.next (event_of_running _ hrun)

theorem exec_latchAnswered : exec (.latchAnswered k) s =
    .next (settle (answered (slotAddress k) .latch (onMessage hearLatch) s)) :=
  congrArg Host.Outcome.next (event_of_running _ hrun)

theorem exec_clearMarkAnswered : exec (.clearMarkAnswered k) s =
    .next (settle (answered (slotAddress k) .clearMark (onMessage (hearClearMark k)) s)) :=
  congrArg Host.Outcome.next (event_of_running _ hrun)

theorem exec_messageAnswered {a : Nat} {kind : MsgKind} (h : plainReply a kind = true) :
    exec (.messageAnswered a kind) s = .next (settle (answered a kind (fun _ => id) s)) := by
  have hexec : exec (.messageAnswered a kind) s = .next
      (settle (if plainReply a kind then answered a kind (fun _ => id) s else s)) :=
    congrArg Host.Outcome.next (event_of_running _ hrun)
  rw [hexec, if_pos h]

end Exec

theorem lineFreed_frame {w : Parts} (h1 : w.outbound = true) (h2 : w.panelLine = true) (h3 : w.drops = true)
    (m : Message) (s : State) : (lineFreed m s).blank w = s.blank w :=
  (modDrop_frame h3 _ _ _).trans (endExchange_frame h1 h2 (.message m) s)

/-- An answer that its owner takes for nothing. -/
theorem answered_plain_frame (m : Message) (s : State) :
    SameBut { Parts.settled with desks := true, panelLine := true, drops := true } s
      (settle (fillRoom (lineFreed m s))) :=
  SameBut.settled ((fillRoom_frame rfl _).trans (lineFreed_frame rfl rfl rfl m s)) rfl rfl rfl rfl rfl rfl rfl

/-- A slot as a step leaves it that only fills the room after. -/
theorem settle_fillRoom_slot (u : State) (k : Nat) : (settle (fillRoom u)).slot k = u.slot k := by
  rw [slot_settle, State.slot, fillRoom_dock]
  rfl

/-- The latch wanted open is ordered, and stays so while the room is filled. -/
theorem unlatching_wants {n k : Nat} {s : State} {sl : Slot} (hr : s.clock.station = .running)
    (hd : s.dropOnline (slotAddress k) = true) (hsl : s.slot k = some sl) (hst : sl.state = .issuing) :
    (fillRoom (queueMessage (.latch k true) (.issue n) (unlatching n k s))).wants (.latch k true) := by
  have hslot : (unlatching n k s).slot k = some { sl with latchOpen := true } := by
    rw [unlatching, slot_modSlot_self]
    exact congrArg (Option.map _) hsl
  have hmsg : ∃ o, messageFor (unlatching n k s) (.latch k) = some (.latch k true, o) := by
    simp only [messageFor, show Tab.get (unlatching n k s).dock.slots k = _ from hslot, hst]
    cases (unlatching n k s).issueOf k with
    | none => exact ⟨_, rfl⟩
    | some x => exact ⟨_, rfl⟩
  obtain ⟨o, ho⟩ := hmsg
  have hwants : (queueMessage (.latch k true) (.issue n) (unlatching n k s)).wants (.latch k true) :=
    queueMessage_wants (b := .latch k true) (s := unlatching n k s) hr hd _
  refine wants_refill (b := .latch k true) (o := o) _ hwants ?_ ?_ ?_
  · rw [queueMessage_clock]
    exact hr
  · simp only [State.dropOnline, queueMessage_panel_drops]
    exact hd
  · rw [messageFor_congr (s := unlatching n k s) (by simp) (by simp) (by simp)]
    exact ho

/-- The matrix answers again: its drop is ONLINE, and the host is told. -/
theorem answered_matrix {s : State} {x : Drop} (hfree : s.panel.exchange = none) (hx : Tab.get s.panel.drops 0 = some x)
    (hkind : x.kind = .matrix) (hoff : x.online = false) :
    Tab.get (answered 0 .poll (fun _ => id) s).panel.drops 0 = some { x with online := true, silences := 0 }
      ∧ s.tells (answered 0 .poll (fun _ => id) s) .dropOnline [0, DropKind.matrix.code] := by
  have hend : s.ending 0 .poll = some .poll := by simp only [State.ending, hfree, if_true]
  generalize hv : modDrop 0 (fun d => { d with online := true, silences := 0 }) (endExchange .poll s) = v
  have heq : answered 0 .poll (fun _ => id) s =
      fillRoom (restoreRoutes (queueEvent .dropOnline [0, DropKind.matrix.code] v)) := by
    simp only [answered, hend, dropAnswers, show Tab.get (endExchange .poll s).panel.drops 0 = some x from hx, hoff, hkind,
      hv, Bool.false_eq_true, if_false, id_eq]
  have hdrops : (restoreRoutes (queueEvent .dropOnline [0, DropKind.matrix.code] v)).panel.drops = v.panel.drops := by
    rw [same_panel_drops (w := { outbound := true }) (restoreRoutes_frame rfl _) rfl, queueEvent_panel]
  have hgrow : Grows {} s v := by
    rw [← hv]
    exact Grows.of_same rfl rfl rfl rfl
  rw [heq]
  refine ⟨?_, ?_⟩
  · rw [fillRoom_panel_drops, hdrops, ← hv, modDrop_drop_self]
    rw [show Tab.get (endExchange .poll s).panel.drops 0 = some x from hx]
    rfl
  · have htold := hgrow.tells_from (queueEvent_tells .dropOnline [0, DropKind.matrix.code] v)
    exact (fillRoom_grows (κ := {}) _).tells ((restoreRoutes_grows (κ := {}) _).tells htold)

/-- Settles O58: the exchange that ends, then what its owner takes from the answer. -/
theorem answeredMessages : Obligations.AnsweredMessages := by
  intro s k sl m dr hrun hsl hfree hd hon hfound line heard
  have hstation : s.clock.station = .running := by
    simp only [State.running, Bool.and_eq_true, decide_eq_true_eq] at hrun
    exact hrun.1
  refine ⟨fun n i tag q hbody horigin hi hph => ?_, fun n i b hbody horigin hi hph => ?_, fun b hbody horigin => ?_,
    fun hbody horigin => ?_, fun hkind => ?_, fun x hx hxk hxo => ?_⟩
  · have heq := answered_message hfree hd hon hfound (onMessage (hearPreset k))
    rw [show onMessage (hearPreset k) (.message m) (lineFreed m s) = hearPreset k m (lineFreed m s) from rfl,
      hearPreset_issue horigin (s := lineFreed m s) (i := i) hi hph] at heq
    have haddr : m.body.drop = slotAddress k := by rw [hbody]; rfl
    rw [show m.body.kind = .preset by rw [hbody]; rfl, haddr] at heq
    refine ⟨_, (exec_presetAnswered hrun k).trans (by rw [heq]), ?_, ?_, ?_, fun j hj => ?_, fun hst => ?_, ?_⟩
    · exact settle_drop hd hon (by simp [unlatching, setPhase])
    · rw [settle_dock, fillRoom_dock, queueMessage_dock]
      exact setPhase_issue (s := lineFreed m s) hi .unlatching none
    · rw [settle_fillRoom_slot, State.slot, queueMessage_dock]
      refine (slot_modSlot_self k _ _).trans ?_
      rw [show (setPhase n .unlatching none (lineFreed m s)).slot k = some sl from hsl]
      rfl
    · rw [settle_fillRoom_slot, State.slot, queueMessage_dock]
      exact slot_modSlot_ne hj _ _
    · have honline := lineFreed_online hd hon
      rw [haddr] at honline
      exact orders_of_wants (wants_settle (unlatching_wants hstation honline hsl hst) rfl)
    · refine SameBut.settled (w := { line with slots := true, issues := true }) ?_ rfl rfl rfl rfl rfl rfl rfl
      exact (fillRoom_frame rfl _).trans ((queueMessage_frame rfl _ _ _).trans ((modSlot_frame rfl _ _ _).trans
        ((setPhase_frame rfl _ _ _ _).trans (lineFreed_frame rfl rfl rfl m s))))
  · have heq := answered_message hfree hd hon hfound (onMessage hearLatch)
    rw [show onMessage hearLatch (.message m) (lineFreed m s) = hearLatch m (lineFreed m s) from rfl,
      hearLatch_issue horigin (s := lineFreed m s) (i := i) hi hph,
      show m.body.kind = .latch by rw [hbody]; rfl] at heq
    have hdrop := settle_drop (u := setPhase n .awaitingRemoval (some 20000) (lineFreed m s)) hd hon rfl
    rw [show m.body.drop = slotAddress k by rw [hbody]; rfl] at heq hdrop
    refine ⟨_, (exec_latchAnswered hrun k).trans (by rw [heq]), ?_, ?_, ?_⟩
    · simp only [heard, show m.body.drop = slotAddress k by rw [hbody]; rfl]
      exact hdrop
    · rw [settle_dock, fillRoom_dock]
      exact setPhase_issue (s := lineFreed m s) hi .awaitingRemoval (some 20000)
    · refine SameBut.settled (w := { line with issues := true }) ?_ rfl rfl rfl rfl rfl rfl rfl
      exact (fillRoom_frame rfl _).trans ((setPhase_frame rfl _ _ _ _).trans (lineFreed_frame rfl rfl rfl m s))
  · have heq := answered_message hfree hd hon hfound (onMessage hearLatch)
    rw [show onMessage hearLatch (.message m) (lineFreed m s) = hearLatch m (lineFreed m s) from rfl,
      hearLatch_plain horigin, show m.body.kind = .latch by rw [hbody]; rfl] at heq
    have hexec : exec (.latchAnswered k) s = .next (settle (fillRoom (lineFreed m s))) := by
      rw [exec_latchAnswered hrun, ← heq, hbody]
      rfl
    exact ⟨_, hexec, settle_drop hd hon rfl, answered_plain_frame m s⟩
  · have heq := answered_message hfree hd hon hfound (onMessage (hearClearMark k))
    rw [show onMessage (hearClearMark k) (.message m) (lineFreed m s) = hearClearMark k m (lineFreed m s) from rfl,
      hearClearMark_plain horigin, show m.body.kind = .clearMark by rw [hbody]; rfl] at heq
    have hexec : exec (.clearMarkAnswered k) s =
        .next (settle (fillRoom (modSlot k (fun sl => { sl with clearMark := false }) (lineFreed m s)))) := by
      rw [exec_clearMarkAnswered hrun, ← heq, hbody]
      rfl
    refine ⟨_, hexec, settle_drop hd hon rfl, ?_, fun j hj => ?_, ?_⟩
    · rw [settle_fillRoom_slot, slot_modSlot_self, show (lineFreed m s).slot k = some sl from hsl]
      rfl
    · rw [settle_fillRoom_slot, slot_modSlot_ne hj]
      rfl
    · refine SameBut.settled (w := { line with slots := true }) ?_ rfl rfl rfl rfl rfl rfl rfl
      exact (fillRoom_frame rfl _).trans ((modSlot_frame rfl _ _ _).trans (lineFreed_frame rfl rfl rfl m s))
  · have hplain : plainReply m.body.drop m.body.kind = true := by
      rcases hkind with h | h | h <;> simp [plainReply, h]
    have heq : answered m.body.drop m.body.kind (fun _ => id) s = fillRoom (lineFreed m s) :=
      answered_message hfree hd hon hfound fun _ => id
    exact ⟨_, (exec_messageAnswered hrun hplain).trans (by rw [heq]), settle_drop hd hon rfl, answered_plain_frame m s⟩
  · have hback := answered_matrix hfree hx hxk hxo
    refine ⟨_, exec_messageAnswered hrun rfl, ?_, ?_, ?_⟩
    · rw [same_panel_drops (settle_sameBut _) rfl]
      exact hback.1
    · exact (settle_steady _).tells hback.2
    · refine SameBut.settled (w := line) ?_ rfl rfl rfl rfl rfl rfl rfl
      exact answered_frame rfl rfl rfl rfl rfl 0 .poll (fun _ => id) (fun _ _ => rfl) s

end Sys2Proof.Machine

/-! CONFIGURE (R183). -/

namespace Sys2Proof.Machine

/-! ### The records of a configuration -/

theorem get_freshSlots (cfg : StationConfig) (k : Nat) :
    Tab.get (freshSlots cfg) k = if 1 ≤ k ∧ k ≤ cfg.slotCount then some Slot.empty else none := by
  have hrange (l : List Nat) : Tab.get (l.map fun j => (j + 1, Slot.empty)) k =
      if ∃ j ∈ l, j + 1 = k then some Slot.empty else none := by
    induction l with
    | nil => simp [Tab.get]
    | cons j rest ih =>
      simp only [List.map_cons, Tab.get, ih]
      by_cases hj : j + 1 = k
      · simp [hj]
      · simp [hj]
  rw [freshSlots, hrange]
  refine if_congr ?_ rfl rfl
  simp only [List.mem_range]
  exact ⟨fun ⟨j, hj, he⟩ => by omega, fun ⟨h1, h2⟩ => ⟨k - 1, by omega, by omega⟩⟩

theorem mem_set_of_mem {α : Type} {t : Table α} {k : Nat} {v : α} {e : Nat × α} (h : e ∈ Tab.set t k v) :
    e ∈ t ∨ e = (k, v) := by
  induction t with
  | nil => simpa [Tab.set] using h
  | cons x rest ih =>
    obtain ⟨j, w⟩ := x
    unfold Tab.set at h
    split at h
    · rcases List.mem_cons.mp h with h | h
      · exact Or.inr h
      · exact Or.inl h
    · split at h
      · rcases List.mem_cons.mp h with h | h
        · exact Or.inr h
        · exact Or.inl (List.mem_cons_of_mem _ h)
      · rcases List.mem_cons.mp h with h | h
        · exact Or.inl (by simp [h])
        · rcases ih h with h | h
          · exact Or.inl (List.mem_cons_of_mem _ h)
          · exact Or.inr h

/-- A desk of a configuration is OFF. -/
theorem freshDesks_off (cfg : StationConfig) : ∀ e ∈ freshDesks cfg, e.2.state = .off ∧ e.2.cough = false := by
  have hfold (l : List (Nat × Nat)) (t : Table Desk) (ht : ∀ e ∈ t, e.2.state = .off ∧ e.2.cough = false) :
      ∀ e ∈ l.foldl (fun t x => Tab.set t x.1 (freshDesk x.2)) t, e.2.state = .off ∧ e.2.cough = false := by
    induction l generalizing t with
    | nil => exact ht
    | cons x rest ih =>
      refine ih _ fun e he => ?_
      rcases mem_set_of_mem he with h | rfl
      · exact ht e h
      · exact ⟨rfl, rfl⟩
  exact hfold _ [] (by simp)

/-! ### A step without channels -/

section NoChannels

variable {s : State} (h : s.planner.channels = [])
include h

theorem announce_of_no_channels : announce (settledDesks s) = settledDesks s := by
  have hnone : (settledDesks s).planner.channels = [] := (settledDesks_channels s).trans h
  unfold announce
  rw [hnone]
  rfl

theorem settle_events_of_no_channels : (settle s).events = s.events := by
  rw [settle_eq, announce_of_no_channels h, syncMask_events]
  change (settledDesks s).events = s.events
  exact same_events (w := { deskShow := true, outbound := true, routes := true }) (settledDesks_frame s) rfl

theorem settle_channels_of_no_channels : (settle s).planner.channels = [] := by
  rw [settle_eq, announce_of_no_channels h, syncMask_planner]
  exact (settledDesks_channels s).trans h

end NoChannels

/-- A desk's state as a step settles. -/
theorem settle_desks_state {s : State} {p : DeskState → Bool → Prop} (h : ∀ e ∈ s.booth.desks, p e.2.state e.2.cough) :
    ∀ e ∈ (settle s).booth.desks, p e.2.state e.2.cough := by
  intro e he
  have hmem : (e.1, e.2.core) ∈ Tab.mapAll (settle s).booth.desks Desk.core := List.mem_map.mpr ⟨e, he, rfl⟩
  rw [settle_desks_core] at hmem
  obtain ⟨e', he', heq⟩ := List.mem_map.mp hmem
  obtain ⟨-, hcore⟩ := Prod.mk.inj heq
  have hstate := congrArg Desk.state hcore
  have hcough := congrArg Desk.cough hcore
  have hp := h e' he'
  rw [show e'.2.state = e.2.state from hstate, show e'.2.cough = e.2.cough from hcough] at hp
  exact hp

theorem actConfigure_passed {p : List Nat} (h : configureOk p = true) (s : State) :
    actConfigure p s = .accept [] (configureStation (configOf p) s) := by
  simp only [actConfigure, require_of h]

theorem actConfigure_refused {p : List Nat} (h : configureOk p = false) (s : State) :
    actConfigure p s = .refuse .range := by
  simp only [actConfigure, require_of_not h]

theorem configured_booths (cfg : StationConfig) (s : State) (b : Nat) :
    (configureStation cfg s).boothRec b = (Tab.get cfg.booths b).map freshBooth :=
  tab_get_map cfg.booths freshBooth b

theorem configured_accounts (cfg : StationConfig) (s : State) (a : Nat) :
    Tab.get (configureStation cfg s).account.accounts a = (Tab.get cfg.rates a).map freshAccount :=
  tab_get_map cfg.rates freshAccount a

/-- Settles O19: every record is read off `configureStation`; with no channel open, settling announces nothing. -/
theorem configureCreatesRecords : Obligations.ConfigureCreatesRecords := by
  intro s params hp hst hl
  have hst' : inU s.clock.station = true := by simp [inU, hst]
  refine ⟨fun hbad => congrArg Host.Outcome.next (command_refuses hp hl hst' (actConfigure_refused hbad _)), fun hok => ?_⟩
  have hact := actConfigure_passed hok s.sent
  generalize hcfg : configOf (numbers params) = cfg at hact
  have hboothRec := configured_booths cfg s.sent
  have haccounts := configured_accounts cfg s.sent
  have hslots : (configureStation cfg s.sent).dock.slots = freshSlots cfg := rfl
  have hnone : (configureStation cfg s.sent).planner.channels = [] := rfl
  have hevents := settle_events_of_no_channels hnone
  have hchannels := settle_channels_of_no_channels hnone
  have hdesks := settle_desks_state (s := configureStation cfg s.sent) (p := fun st cough => st = .off ∧ cough = false)
    (freshDesks_off cfg)
  refine ⟨_, congrArg Host.Outcome.next (command_accepts hp hl hst' hact rfl), ?_⟩
  have hclock : (configureStation cfg s.sent).clock = { s.clock with
      station := .configured, config := some cfg, runMark := false, retainedValid := s.clock.retentionPresent } := rfl
  have hplanner : (configureStation cfg s.sent).planner.hall = .dark
      ∧ (configureStation cfg s.sent).planner.floorTag = cfg.floorTag := ⟨rfl, rfl⟩
  have hline : (configureStation cfg s.sent).line.state = .detached
      ∧ (configureStation cfg s.sent).line.epoch = s.line.epoch := ⟨rfl, rfl⟩
  have hempty : (configureStation cfg s.sent).feed.contexts = [] ∧ (configureStation cfg s.sent).dock.issues = []
      ∧ (configureStation cfg s.sent).dock.ready = [] := ⟨rfl, rfl, rfl⟩
  have hkept : (configureStation cfg s.sent).ledger = s.ledger ∧ (configureStation cfg s.sent).events = s.events
      ∧ (configureStation cfg s.sent).pending = s.pending := ⟨rfl, rfl, rfl⟩
  have haccount : (configureStation cfg s.sent).account.log = s.account.log
      ∧ (configureStation cfg s.sent).account.nextNumber = s.account.nextNumber
      ∧ (configureStation cfg s.sent).account.closing = s.account.closing := ⟨rfl, rfl, rfl⟩
  generalize configureStation cfg s.sent = u at *
  obtain ⟨hhall, hfloor⟩ := hplanner
  obtain ⟨hstate, hepoch⟩ := hline
  obtain ⟨hctx, hissues, hready⟩ := hempty
  obtain ⟨hledger, hev, hpending⟩ := hkept
  obtain ⟨hlog, hnext, hclosing⟩ := haccount
  refine ⟨(settle_clock u).trans hclock, rfl, (settle_planner_hall u).trans hhall,
    (settle_planner_floorTag u).trans hfloor, hchannels, (settle_line_state u).trans hstate, fun b => ?_, hdesks,
    fun a => ?_, fun k => ?_, ?_, ?_, ?_, (settle_ledger u).trans hledger, hevents.trans hev,
    (settle_line_epoch u).trans hepoch, ?_, ?_, ?_, (settle_pending u).trans hpending⟩
  · simp only [State.boothRec, settle_booth_booths]
    exact hboothRec b
  · simp only [settle_account]
    exact haccounts a
  · simp only [State.slot, settle_dock, hslots]
    exact get_freshSlots cfg k
  · simp only [settle_feed, hctx]
  · simp only [settle_dock, hissues]
  · simp only [settle_dock, hready]
  · simp only [settle_account, hlog]
  · simp only [settle_account, hnext]
  · simp only [settle_account, hclosing]

end Sys2Proof.Machine

/-! START (R184). -/

namespace Sys2Proof.Machine

/-! ### A mask word that is going out stands -/

theorem sendMaskWord_sending {w : MaskWord} {s : State} (h : s.map.sending = some w) :
    (sendMaskWord s).map.sending = some w := by
  simp only [sendMaskWord, h]

theorem syncMask_sending {w : MaskWord} {s : State} (h : s.map.sending = some w) :
    (syncMask s).map.sending = some w := by
  simp only [syncMask]
  split
  · exact h
  · exact sendMaskWord_sending h

/-- What a search writes. -/
def Parts.searched : Parts := { events := true, channels := true, lineQueue := true }

theorem searchWaiting_sending (fresh : List Nat) (s : State) :
    (searchWaiting fresh s).map.sending = s.map.sending :=
  same_map_sending (w := Parts.searched) (searchWaiting_frame rfl rfl rfl fresh s) rfl

theorem giveWay_sending {w : MaskWord} {s : State} (h : s.map.sending = some w) (q c sc : Nat) :
    (giveWay q c sc s).map.sending = some w := by
  simp only [giveWay]
  split
  · exact h
  next ch _ =>
    generalize hu : modChannel c (fun ch => { ch with
      state := if ch.state = .onAir then .shifting else ch.state, window := none, refresh := none }) s = u
    have hmod : u.map.sending = some w := by
      rw [← hu]
      exact (same_map_sending (w := Parts.searched) (modChannel_frame rfl c _ (fun _ => rfl) s) rfl).trans h
    have hsent : (sendClaim (.subcarrier sc) .release c ch.language (syncMask u)).map.sending = some w :=
      (same_map_sending (w := Parts.searched) (sendClaim_frame rfl rfl _ _ _ _ _) rfl).trans (syncMask_sending hmod)
    have hsearched := (searchWaiting_sending [c] _).trans hsent
    split
    · exact (same_map_sending (w := Parts.searched) (queueEvent_frame rfl _ _ _) rfl).trans hsearched
    · exact hsearched

theorem testClaim_sending {w : MaskWord} {s : State} (h : s.map.sending = some w) (q sc : Nat) :
    (testClaim q sc s).map.sending = some w := by
  refine forEach_keeps (Q := fun u => u.map.sending = some w) (fun c u hu => ?_) _ h
  split
  · exact giveWay_sending hu q c sc
  · exact (same_map_sending (w := Parts.searched) (refreshClaim_frame rfl rfl rfl c u) rfl).trans hu

theorem recomputeZone_sending {w : MaskWord} {s : State} (h : s.map.sending = some w) :
    (recomputeZone s).map.sending = some w := by
  simp only [recomputeZone]
  split
  · exact h
  · have htests (f : State → Nat → Option Nat) : ∀ sc (u : State), u.map.sending = some w →
        (match f u sc with | some q => testClaim q sc u | none => u).map.sending = some w := by
      intro sc u hu
      split
      · exact testClaim_sending hu _ sc
      · exact hu
    split
    · rw [searchWaiting_sending]
      exact forEach_keeps (htests fun u sc => u.lowestClaimant _ sc) _ h
    · exact forEach_keeps (htests fun u sc => u.lowestClaimant _ sc) _ h

theorem settle_sending {w : MaskWord} {s : State} (h : s.map.sending = some w) :
    (settle s).map.sending = some w := by
  refine syncMask_sending ?_
  have hshown : SameBut Parts.shown s (announce (refreshDesks (routeFloor s))) :=
    (announce_frame rfl rfl rfl _).trans ((refreshDesks_frame rfl rfl _).trans (routeFloor_frame rfl rfl _))
  change (announce (refreshDesks (routeFloor s))).map.sending = some w
  exact (same_map_sending (w := Parts.shown) hshown rfl).trans h

/-! ### The panel bus begins -/

/-- The panel as the bus begins: only its drops are kept (R103, R105). -/
def PanelBlock.begun (p : PanelBlock) : PanelBlock :=
  { State.reset.panel with drops := Tab.mapAll p.drops fun d => { d with online := true, silences := 0 }, out := .lineBreak }

/-- What queueing messages writes. -/
def Parts.queued : Parts := { outbound := true }

/-- What setting routes writes. -/
def Parts.routed : Parts := { outbound := true, routes := true }

/-- The panel and the desks as the bus begins, before its first messages. -/
def State.panelBegun (s : State) : State :=
  { s with
    panel := s.panel.begun
    booth.desks := Tab.mapAll s.booth.desks fun r => { r with gate := false, lamps := .allDark } }

theorem beginPanel_same (s : State) : SameBut Parts.routed s.panelBegun (beginPanel s) := by
  refine (forEach_frame _ _ (fun b u => setRoute_frame rfl rfl _ _ u) _).trans ?_
  refine (forEach_frame _ _ (fun d u => queueMessage_frame rfl _ _ u) _).trans ?_
  exact forEach_frame _ _ (fun d u => queueMessage_frame rfl _ _ u) _

/-- Every booth's input is routed from the floor. -/
theorem beginPanel_route {s : State} {b : Nat} {bo : Booth} (h : s.boothRec b = some bo) :
    (beginPanel s).route (inputOutput b) = .floor := by
  have hqueued : ∀ {f : Nat → Body} (l : List Nat) (u : State), u.booth.booths = s.booth.booths →
      (forEach l (fun d => queueMessage (f d) .plain) u).booth.booths = s.booth.booths := fun l u hu =>
    forEach_keeps (fun d v hv => (same_booth_booths (w := Parts.queued) (queueMessage_frame rfl _ _ v) rfl rfl).trans hv) l hu
  simp only [beginPanel]
  refine forEach_brings (I := fun _ => True) (Q := fun u => u.route (inputOutput b) = .floor) (fun _ _ _ => trivial)
    (fun j u hu => ?_) (fun u _ => setRoute_route_self _ _ u) (k := b) ?_ trivial
  · by_cases hj : j = b
    · rw [hj, setRoute_route_self]
    · rw [setRoute_route_ne (inputOutput_inj (Ne.symm hj)), hu]
  · have hkeys (u : State) (hu : u.booth.booths = s.booth.booths) : b ∈ Tab.keys u.booth.booths := by
      rw [hu]
      exact mem_keys_of_get h
    exact hkeys _ (hqueued _ _ (hqueued _ _ rfl))

/-! ### The blocks begin -/

/-- The blocks as they begin, before the zone is recomputed. -/
def State.begun (s : State) : State := beginWalls (beginDock (beginPanel (beginLine s)))

/-- What the blocks' beginning writes. -/
def Parts.started : Parts :=
  { Parts.rezoned with
    walls := true, desks := true, lineState := true, presence := true, peers := true, outbound := true, routes := true
    panelLine := true, drops := true, slots := true, ready := true, issues := true }

theorem begun_same (s : State) : SameBut Parts.started s s.begun :=
  (beginWalls_frame rfl _).trans ((beginDock_frame rfl rfl rfl _).trans
    ((beginPanel_frame rfl rfl rfl rfl rfl _).trans (beginLine_frame rfl rfl rfl rfl s)))

/-- The dock and the walls begin without the line and the panel. -/
theorem beginWalls_rest (s : State) :
    (beginWalls s).line = s.line ∧ (beginWalls s).panel = s.panel ∧ (beginWalls s).map = s.map ∧ (beginWalls s).dock = s.dock
      ∧ (beginWalls s).events = s.events ∧ (beginWalls s).booth = s.booth :=
  ⟨rfl, rfl, rfl, rfl, rfl, rfl⟩

theorem beginDock_rest (s : State) :
    (beginDock s).line = s.line ∧ (beginDock s).panel = s.panel ∧ (beginDock s).map = s.map
      ∧ (beginDock s).events = s.events ∧ (beginDock s).booth = s.booth := ⟨rfl, rfl, rfl, rfl, rfl⟩

theorem begun_blocks (s : State) :
    s.begun.line = (beginPanel (beginLine s)).line ∧ s.begun.panel = (beginPanel (beginLine s)).panel
      ∧ s.begun.map = (beginPanel (beginLine s)).map ∧ s.begun.events = (beginPanel (beginLine s)).events
      ∧ s.begun.booth = (beginPanel (beginLine s)).booth := by
  obtain ⟨hline, hpanel, hmap, -, hevents, hbooth⟩ := beginWalls_rest (beginDock (beginPanel (beginLine s)))
  obtain ⟨hline', hpanel', hmap', hevents', hbooth'⟩ := beginDock_rest (beginPanel (beginLine s))
  exact ⟨hline.trans hline', hpanel.trans hpanel', hmap.trans hmap', hevents.trans hevents', hbooth.trans hbooth'⟩

theorem begun_line_eq (s : State) : s.begun.line = (beginPanel (beginLine s)).line := (begun_blocks s).1

theorem begun_panel_eq (s : State) : s.begun.panel = (beginPanel (beginLine s)).panel := (begun_blocks s).2.1

theorem begun_sending (s : State) : s.begun.map.sending = s.map.sending := by
  have h := same_map_sending (w := Parts.routed) (beginPanel_same (beginLine s)) rfl
  rw [(begun_blocks s).2.2.1]
  exact h

theorem begun_events (s : State) : s.begun.events = s.events := by
  have h := same_events (w := Parts.routed) (beginPanel_same (beginLine s)) rfl
  exact (begun_blocks s).2.2.2.1.trans h

theorem begun_desks (s : State) :
    s.begun.booth.desks = Tab.mapAll s.booth.desks fun r => { r with gate := false, lamps := .allDark } := by
  have h := same_booth_desks (w := Parts.routed) (beginPanel_same (beginLine s)) rfl rfl
  rw [(begun_blocks s).2.2.2.2]
  exact h

theorem begun_line (s : State) : s.begun.line.state = .joining ∧ s.begun.line.epoch = s.line.epoch ∧ s.begun.line.peers = [] := by
  have h := beginPanel_same (beginLine s)
  have hepoch := same_line_epoch (w := Parts.routed) h rfl
  rw [begun_line_eq]
  exact ⟨same_line_state (w := Parts.routed) h rfl, hepoch,
    same_line_peers (w := Parts.routed) h rfl⟩

theorem begun_panel (s : State) :
    s.begun.panel.out = .lineBreak ∧ s.begun.panel.round = 0 ∧ s.begun.panel.rotation = 1
      ∧ s.begun.panel.drops = Tab.mapAll s.panel.drops fun d => { d with online := true, silences := 0 } := by
  have h := beginPanel_same (beginLine s)
  rw [begun_panel_eq]
  exact ⟨same_panel_out (w := Parts.routed) h rfl, same_panel_round (w := Parts.routed) h rfl,
    same_panel_rotation (w := Parts.routed) h rfl, same_panel_drops (w := Parts.routed) h rfl⟩

theorem beginDock_slots (s : State) :
    (beginDock s).dock.slots = Tab.mapAll s.dock.slots (fun _ => { Slot.empty with startUp := true })
      ∧ (beginDock s).dock.ready = [] ∧ (beginDock s).dock.issues = [] := ⟨rfl, rfl, rfl⟩

theorem begun_dock (s : State) :
    s.begun.dock.slots = Tab.mapAll s.dock.slots (fun _ => { Slot.empty with startUp := true })
      ∧ s.begun.dock.ready = [] ∧ s.begun.dock.issues = [] := by
  have h := same_dock_slots (w := Parts.routed) (beginPanel_same (beginLine s)) rfl
  have hdock : s.begun.dock = (beginDock (beginPanel (beginLine s))).dock := (beginWalls_rest _).2.2.2.1
  obtain ⟨hslots, hempty⟩ := beginDock_slots (beginPanel (beginLine s))
  rw [hdock, hslots, h]
  exact ⟨rfl, hempty⟩

/-- Every own edge begins closed (R15). -/
theorem beginWalls_closed {s : State} {k : Nat} {x : Wall} (h : Tab.get (beginWalls s).planner.walls k = some x) :
    x.position = false := by
  obtain ⟨e, -, he⟩ := List.mem_map.mp (mem_of_tab_get h)
  obtain ⟨-, rfl⟩ := Prod.mk.inj he
  rfl

theorem begun_route {s : State} {b : Nat} {bo : Booth} (h : s.boothRec b = some bo) :
    s.begun.route (inputOutput b) = .floor :=
  (route_congr (by rw [begun_panel_eq]) _).trans (beginPanel_route (s := beginLine s) h)

/-- What holds of the blocks as they have begun, whatever the zone's recomputation then writes. -/
structure State.Began (s t : State) : Prop where
  rest : SameBut Parts.started s t
  hall : t.planner.hall = s.planner.hall
  sending : ∀ w, s.map.sending = some w → t.map.sending = some w
  events : s.events.queue <+: t.events.queue
  desks : t.booth.desks = Tab.mapAll s.booth.desks fun r => { r with gate := false, lamps := .allDark }
  line : t.line.state = .joining ∧ t.line.epoch = s.line.epoch ∧ t.line.peers = []
  panel : t.panel.out = .lineBreak ∧ t.panel.round = 0 ∧ t.panel.rotation = 1
    ∧ t.panel.drops = Tab.mapAll s.panel.drops fun d => { d with online := true, silences := 0 }
  dock : t.dock.slots = Tab.mapAll s.dock.slots (fun _ => { Slot.empty with startUp := true })
    ∧ t.dock.ready = [] ∧ t.dock.issues = []
  walls : ∀ k x, Tab.get t.planner.walls k = some x → x.position = false
  routes : ∀ b bo, s.boothRec b = some bo → t.route (inputOutput b) = .floor

theorem began_of_begun (s : State) : s.Began s.begun := by
  have h := begun_same s
  exact { rest := h, hall := same_planner_hall (w := Parts.started) h rfl, sending := fun w hw => (begun_sending s).trans hw
          events := by rw [begun_events], desks := begun_desks s
          line := begun_line s, panel := begun_panel s, dock := begun_dock s
          walls := fun k x hx => beginWalls_closed hx, routes := fun b bo hb => begun_route hb }

theorem State.Began.rezoned {s t : State} (h : s.Began t) : s.Began (recomputeZone t) := by
  have hz := recomputeZone_rezoned t
  have hroutes := same_panel_routes (w := Parts.rezoned) hz rfl
  exact
    { rest := (recomputeZone_frame (w := Parts.started) rfl rfl rfl rfl rfl t).trans h.rest
      hall := (same_planner_hall (w := Parts.rezoned) hz rfl).trans h.hall
      sending := fun w hw => recomputeZone_sending (h.sending w hw)
      events := h.events.trans (recomputeZone_grows (κ := .nothing) rfl t).queue
      desks := (same_booth_desks (w := Parts.rezoned) hz rfl rfl).trans h.desks
      line := by
        rw [same_line_state (w := Parts.rezoned) hz rfl, same_line_epoch (w := Parts.rezoned) hz rfl,
          same_line_peers (w := Parts.rezoned) hz rfl]
        exact h.line
      panel := by
        rw [same_panel_out (w := Parts.rezoned) hz rfl, same_panel_round (w := Parts.rezoned) hz rfl,
          same_panel_rotation (w := Parts.rezoned) hz rfl, same_panel_drops (w := Parts.rezoned) hz rfl]
        exact h.panel
      dock := by rw [same_dock (w := Parts.rezoned) hz rfl rfl rfl]; exact h.dock
      walls := by rw [same_planner_walls (w := Parts.rezoned) hz rfl]; exact h.walls
      routes := fun b bo hb => (route_congr hroutes _).trans (h.routes b bo hb) }

/-- The state in which START and a warm start let the blocks begin (R184, R188). -/
def State.atStart (s : State) : State :=
  { s with clock.station := .running, planner.hall := .dark, map.sending := some ⟨false, []⟩ }

theorem beginRunning_began (s : State) : s.atStart.Began (beginRunning s) := (began_of_begun s.atStart).rezoned

theorem actStart_passed (p : List Nat) (s : State) : actStart p s = .accept [] (startStation s) := rfl

/-- Settles O20: each block's beginning is read off its definition; the zone's recomputation and the settling leave what
began, and a mask word that is going out stands. -/
theorem startBegins : Obligations.StartBegins := by
  intro s hp hst
  have hst' : inC s.clock.station = true := by simp [inC, hst]
  have hbegan : State.Began (State.atStart _) (startStation s.sent) := beginRunning_began _
  generalize hv : State.atStart _ = v at hbegan
  have hstart : v.clock = { s.clock with station := .running, runMark := true } ∧ v.port = s.sent.port
      ∧ v.planner.hall = .dark ∧ v.ledger = s.ledger ∧ v.account = s.account ∧ v.pending = s.pending
      ∧ v.map.sending = some ⟨false, []⟩ ∧ v.line.epoch = s.line.epoch ∧ v.panel.drops = s.panel.drops
      ∧ v.dock.slots = s.dock.slots ∧ v.booth.booths = s.booth.booths := by
    rw [← hv]
    exact ⟨rfl, rfl, rfl, rfl, rfl, rfl, rfl, rfl, rfl, rfl, rfl⟩
  obtain ⟨hclock', hport', hhall', hledger', haccount', hpending', hsending', hepoch', hdrops', hslots', hbooths'⟩ := hstart
  have hclock := (same_clock (w := Parts.started) hbegan.rest).trans hclock'
  have hport := (same_port (w := Parts.started) hbegan.rest).trans hport'
  have hhall := hbegan.hall.trans hhall'
  have hledger := (same_ledger (w := Parts.started) hbegan.rest rfl rfl rfl).trans hledger'
  have haccount := (same_account (w := Parts.started) hbegan.rest rfl).trans haccount'
  have hpending := (same_pending (w := Parts.started) hbegan.rest).trans hpending'
  have hsending := hbegan.sending _ hsending'
  obtain ⟨hline, hepoch, hpeers⟩ := hbegan.line
  obtain ⟨hout, hround, hrotation, hdrops⟩ := hbegan.panel
  obtain ⟨hslots, hready, hissues⟩ := hbegan.dock
  have hwalls := hbegan.walls
  have hroutes := hbegan.routes
  clear hbegan hv
  refine ⟨_, congrArg Host.Outcome.next (command_accepts (params := []) hp rfl hst' (actStart_passed _ _) hport), ?_⟩
  generalize startStation s.sent = u at *
  refine ⟨(settle_clock u).trans hclock, rfl, (settle_planner_hall u).trans hhall, (settle_line_state u).trans hline,
    (settle_line_epoch u).trans (hepoch.trans hepoch'), (settle_line_peers u).trans hpeers, (settle_panel_out u).trans hout,
    (settle_panel_round u).trans hround, (settle_panel_rotation u).trans hrotation, fun a => ?_, fun k => ?_, ?_, ?_,
    fun k x hx => ?_, settle_sending hsending, fun b bo hb => ?_, (settle_ledger u).trans hledger,
    (settle_account u).trans haccount, (settle_pending u).trans hpending⟩
  · rw [settle_panel_drops, hdrops, hdrops']
    exact tab_get_mapAll _ _ _
  · simp only [State.slot, settle_dock, hslots, hslots']
    exact tab_get_mapAll _ _ _
  · rw [settle_dock, hready]
  · rw [settle_dock, hissues]
  · rw [settle_planner_walls] at hx
    exact hwalls k x hx
  · have hroute := (settle_route (inputOutput_ne_floor b) u).trans (hroutes b bo (by rw [State.boothRec, hbooths']; exact hb))
    generalize settle u = w at hroute ⊢
    exact hroute

end Sys2Proof.Machine

/-! What a channel's bill reads of its record, and which operations leave it alone (R151, R152). -/

namespace Sys2Proof.Machine

/-- What a channel's bill reads of its record: language, account, opening minute, live seconds, and whether it has
been on air. -/
abbrev Channel.history (ch : Channel) : Channel := { ch.plan with everOnAir := ch.everOnAir }

/-- The same channels are open, each with its history. -/
def Billed (s t : State) : Prop := ∀ c, (t.channel c).map Channel.history = (s.channel c).map Channel.history

section Billed

variable {r s t : State}

theorem Billed.refl (s : State) : Billed s s := fun _ => rfl

theorem Billed.trans (h : Billed r s) (h' : Billed s t) : Billed r t := fun c => (h' c).trans (h c)

theorem Billed.of_channels (h : t.planner.channels = s.planner.channels) : Billed s t := fun c => by
  simp only [State.channel, h]

theorem Calm.billed (h : Calm s t) : Billed s t := fun c => by
  have := congrArg (Option.map Channel.history) (h.channel c)
  rw [Option.map_map, Option.map_map] at this
  exact this

theorem Billed.some (h : Billed s t) {c : Nat} {ch : Channel} (hc : s.channel c = .some ch) :
    ∃ ch', t.channel c = .some ch' ∧ ch'.history = ch.history := by
  have := h c
  rw [hc] at this
  obtain ⟨ch', hch', he⟩ := Option.map_eq_some_iff.mp this
  exact ⟨ch', hch', he⟩

theorem Billed.none (h : Billed s t) {c : Nat} (hc : s.channel c = .none) : t.channel c = .none := by
  have := h c
  rw [hc] at this
  exact Option.map_eq_none_iff.mp this

theorem forEach_billed {f : Nat → State → State} (h : ∀ k s, Billed s (f k s)) (l : List Nat) (s : State) :
    Billed s (forEach l f s) :=
  forEach_keeps (Q := Billed s) (fun k u hu => hu.trans (h k u)) l (.refl s)

theorem modChannel_billed {c : Nat} {f : Channel → Channel} (hf : ∀ ch, (f ch).history = ch.history) (s : State) :
    Billed s (modChannel c f s) := by
  intro j
  by_cases hj : j = c
  · rw [hj, modChannel_channel_self, Option.map_map]
    exact congrArg (fun g => (s.channel c).map g) (funext hf)
  · rw [modChannel_channel_ne hj]

end Billed

/-! ### Searches and releases -/

theorem search_billed (c : Nat) (s : State) : Billed s (search c s) := by
  unfold search
  split
  · exact .refl s
  · split
    · refine Billed.trans ?_ (sendClaim_quiet _ _ _ _ _).toCalm.billed
      exact modChannel_billed (by exact fun _ => rfl) s
    · dsimp only
      split
      · exact modChannel_billed (by exact fun _ => rfl) s
      · refine Billed.trans ?_ (queueEvent_quiet _ _ _).toCalm.billed
        exact modChannel_billed (by exact fun _ => rfl) s

theorem searchWaiting_billed (fresh : List Nat) (s : State) : Billed s (searchWaiting fresh s) :=
  forEach_billed search_billed _ s

theorem closeClaim_billed (c : Nat) (s : State) : Billed s (closeClaim c s) := by
  unfold closeClaim
  split
  · exact .refl s
  · dsimp only
    split
    · refine Billed.trans ?_ (sendClaim_quiet _ _ _ _ _).toCalm.billed
      refine Billed.trans ?_ (syncMask_quiet _).toCalm.billed
      exact modChannel_billed (by exact fun _ => rfl) s
    · refine Billed.trans ?_ (syncMask_quiet _).toCalm.billed
      exact modChannel_billed (by exact fun _ => rfl) s

/-! ### Holders and feeds -/

theorem setHolder_billed (c : Nat) (x : Holder) (s : State) : Billed s (setHolder c x s) :=
  (modChannel_billed (f := Channel.given x) (fun _ => rfl) s).trans (setHolder_calm c x s).billed

theorem forceOff_billed (b : Nat) (cause : HoldCause) (s : State) : Billed s (forceOff b cause s) :=
  .of_channels (by rw [forceOff_planner])

theorem contextFreed_billed (k : Nat) (f : Feed) (s : State) : Billed s (contextFreed k f s) := by
  unfold contextFreed
  split
  · refine .of_channels (s := s) ?_
    exact (same_planner_channels (w := { events := true, booths := true, desks := true })
      (endReplacement_frame rfl rfl rfl k f.booth (releaseTrunk (.feed k) s)) rfl rfl rfl).trans
      (same_planner_channels
        (w := { events := true, trunks := true, lineQueue := true, outbound := true, routes := true })
        (releaseTrunk_frame rfl rfl rfl rfl rfl _ _) rfl rfl rfl)
  · split
    · exact (Billed.of_channels (t := freeContext k s) rfl).trans
        (modChannel_billed (f := Channel.given .none) (fun _ => rfl) _)
    · exact .of_channels rfl

theorem endFeedContext_billed (k : Nat) (cause : FeedCause) (partner : Bool) (s : State) :
    Billed s (endFeedContext k cause partner s) := by
  cases hk : s.context k with
  | none =>
    rw [endFeedContext_none hk]
    exact .refl s
  | some f => exact (contextFreed_billed k f s).trans (endFeedContext_calm hk cause partner).billed

theorem endWith_billed (k : Nat) (reason : EndReason) (s : State) : Billed s (endWith k reason s) := by
  unfold endWith
  split
  · exact .refl s
  · exact (enqueueFrame_quiet _ _ _).toCalm.billed.trans (endFeedContext_billed _ _ _ _)

theorem closeHolders_billed (c : Nat) (s : State) : Billed s (closeHolders c s) := by
  unfold closeHolders
  refine Billed.trans (s := (match (s.channel c).map Channel.holder with
    | some (.desk b _) => forceOff b .closed s
    | _ => s)) ?_ ?_
  · split
    · exact forceOff_billed _ _ _
    · exact .refl s
  · exact (forEach_billed (fun k u => endWith_billed k .closed u) _ _).trans (setHolder_billed _ _ _)

theorem closeRelays_billed (c : Nat) (s : State) : Billed s (closeRelays c s) := by
  have hexport : Billed s (dropExport c s) := .of_channels
    (same_planner_channels
      (w := { events := true, trunks := true, exported := true, lineQueue := true, outbound := true, routes := true })
      (dropExport_frame rfl rfl rfl rfl rfl rfl c s) rfl rfl rfl)
  simp only [closeRelays]
  generalize dropExport c s = u at hexport ⊢
  have hdropped := hexport.trans (dropRelays_quiet .closed (s.listeners (.own c)) u).toCalm.billed
  split
  · exact hdropped
  · exact hdropped.trans (enqueueFrame_quiet _ _ _).toCalm.billed

/-! ### A channel closes -/

/-- A channel's entry removed (R13). -/
def State.channelErased (c : Nat) (s : State) : State := { s with planner.channels := Tab.erase s.planner.channels c }

/-- A channel with its holders, its claim and its relays ended, before its settlement (R13). -/
def State.channelEnded (c : Nat) (s : State) : State := closeRelays c (closeClaim c (closeHolders c s))

theorem closeAChannel_eq (c : Nat) (s : State) : closeAChannel c s =
    searchWaiting [] (rebuildMap (setRoute (busOutput c) .none
      ((closeAccount c (s.channelEnded c)).channelErased c))) := by
  simp only [closeAChannel, State.channelEnded, State.channelErased]

theorem channelEnded_billed (c : Nat) (s : State) : Billed s (s.channelEnded c) :=
  ((closeHolders_billed c s).trans (closeClaim_billed c _)).trans (closeRelays_billed c _)

/-- What the closing of a channel writes before its settlement. -/
def Parts.channelEnded : Parts :=
  { Parts.settled with
    channels := true, trunks := true, booths := true, desks := true, exported := true, feeds := true, contexts := true }

theorem channelEnded_same (c : Nat) (s : State) : SameBut Parts.channelEnded s (s.channelEnded c) :=
  (closeRelays_frame (w := Parts.channelEnded) rfl rfl rfl rfl rfl rfl rfl rfl rfl rfl c _).trans
    ((closeClaim_frame (w := Parts.channelEnded) rfl rfl rfl rfl c _).trans
      (closeHolders_frame (w := Parts.channelEnded) rfl rfl rfl rfl rfl rfl rfl rfl rfl rfl rfl c s))

theorem closeAccount_channels (c : Nat) (s : State) : (closeAccount c s).planner.channels = s.planner.channels :=
  same_planner_channels (w := { events := true, account := true }) (closeAccount_frame rfl rfl c s) rfl rfl rfl

theorem channelErased_account (c : Nat) (s : State) : (s.channelErased c).account = s.account := rfl

theorem channelErased_channel (c : Nat) (s : State) (j : Nat) :
    (s.channelErased c).channel j = if j = c then none else s.channel j := by
  split
  next h => rw [h]; exact tab_get_erase_self _ _
  next h => exact tab_get_erase_ne _ _ _ h

/-- What follows the removal of a channel's entry leaves the channels open that are. -/
theorem channelGone_billed (o : Nat) (s : State) : Billed s (searchWaiting [] (rebuildMap (setRoute o .none s))) :=
  ((setRoute_calm _ _ s).billed.trans (rebuildMap_quiet _).toCalm.billed).trans (searchWaiting_billed _ _)

/-- The other channels keep their histories as one closes. -/
theorem closeAChannel_history (c : Nat) (s : State) (j : Nat) :
    ((closeAChannel c s).channel j).map Channel.history
      = if j = c then none else (s.channel j).map Channel.history := by
  have hended := channelEnded_billed c s j
  rw [closeAChannel_eq, channelGone_billed (busOutput c) _ j, channelErased_channel]
  split
  · rfl
  · rw [← hended, State.channel, closeAccount_channels]
    rfl

theorem closeAChannel_channel_self (c : Nat) (s : State) : (closeAChannel c s).channel c = none := by
  have h := closeAChannel_history c s c
  rw [if_pos rfl] at h
  exact Option.map_eq_none_iff.mp h

theorem closeAChannel_channel_none {c j : Nat} {s : State} (h : s.channel j = none) :
    (closeAChannel c s).channel j = none := by
  have h' := closeAChannel_history c s j
  rw [h] at h'
  refine Option.map_eq_none_iff.mp (h'.trans ?_)
  split <;> rfl

theorem tab_eq_nil {α : Type} {t : Table α} (h : ∀ k, Tab.get t k = none) : t = [] := by
  cases t with
  | nil => rfl
  | cons e rest => simpa [Tab.get] using h e.1

/-- As every channel closes, none stays. -/
theorem closeAll_channels (s : State) : (closeAll s).planner.channels = [] := by
  refine tab_eq_nil fun j => ?_
  change (closeAll s).channel j = none
  cases hj : s.channel j with
  | none =>
    exact forEach_keeps (Q := fun u => u.channel j = none) (fun c u hu => closeAChannel_channel_none hu) _ hj
  | some ch =>
    exact forEach_brings (f := closeAChannel) (I := fun _ => True) (Q := fun u => u.channel j = none) (k := j)
      (fun _ _ _ => trivial) (fun c u hu => closeAChannel_channel_none hu) (fun u _ => closeAChannel_channel_self j u)
      (mem_keys_of_get hj) trivial

/-! ### The account of a channel that closes -/

theorem channelGone_account (o : Nat) (s : State) :
    (searchWaiting [] (rebuildMap (setRoute o .none s))).account = s.account := by
  refine (same_account (w := Parts.channelEnded) (searchWaiting_frame rfl rfl rfl _ _) rfl).trans ?_
  change (setRoute o .none s).account = s.account
  exact same_account (w := Parts.channelEnded) (setRoute_frame rfl rfl _ _ _) rfl

/-- After the settlement no account moves any more. -/
theorem closeAChannel_account (c : Nat) (s : State) :
    (closeAChannel c s).account = (closeAccount c (s.channelEnded c)).account := by
  rw [closeAChannel_eq, channelGone_account, channelErased_account]

/-- A channel never on air makes no settlement (R13). -/
theorem closeAChannel_account_unaired {c : Nat} {s : State} (h : ∀ ch, s.channel c = some ch → ch.everOnAir = false) :
    (closeAChannel c s).account = s.account := by
  have hended := same_account (w := Parts.channelEnded) (channelEnded_same c s) rfl
  rw [closeAChannel_account, closeAccount]
  cases hc : s.channel c with
  | none => rw [(channelEnded_billed c s).none hc]; exact hended
  | some ch =>
    obtain ⟨ch', hch', hh⟩ := (channelEnded_billed c s).some hc
    have hair : ch'.everOnAir = false := (congrArg Channel.everOnAir hh).trans (h ch hc)
    rw [hch']
    simp only [hair, Bool.false_eq_true, if_false]
    exact hended

theorem unaired_closeAChannel {c : Nat} {s : State} (h : ∀ j ch, s.channel j = some ch → ch.everOnAir = false) (j : Nat)
    (ch : Channel) (hj : (closeAChannel c s).channel j = some ch) : ch.everOnAir = false := by
  have hh := closeAChannel_history c s j
  rw [hj] at hh
  split at hh
  · simp at hh
  · obtain ⟨ch', hch', he⟩ := Option.map_eq_some_iff.mp hh.symm
    exact (congrArg Channel.everOnAir he).symm.trans (h j ch' hch')

/-- Where no channel has been on air, their closing moves no account. -/
theorem closeAll_account_unaired {s : State} (h : ∀ j ch, s.channel j = some ch → ch.everOnAir = false) :
    (closeAll s).account = s.account := by
  refine (forEach_keeps (Q := fun u => u.account = s.account ∧ ∀ j ch, u.channel j = some ch → ch.everOnAir = false)
    (fun c u hu => ⟨?_, unaired_closeAChannel hu.2⟩) _ ⟨rfl, h⟩).1
  exact (closeAChannel_account_unaired (hu.2 c)).trans hu.1

end Sys2Proof.Machine

/-! The supply and the restarts (R14, R121, R187 to R189). -/

namespace Sys2Proof.Machine

/-! ### The blocks stop -/

/-- What the blocks do as they stop, once the channels are closed. -/
def State.stopped (s : State) : State :=
  stopLines (stopRadiator (clearRelays (freeFeeds { s with dock.issues := [] })))

theorem stopped_blocks (s : State) :
    s.stopped.planner.hall = .dark ∧ s.stopped.planner.channels = s.planner.channels ∧ s.stopped.feed.contexts = []
      ∧ s.stopped.dock.issues = [] ∧ s.stopped.relay = ⟨[], []⟩ ∧ s.stopped.map.radiator = false
      ∧ s.stopped.line = { State.reset.line with epoch := s.line.epoch } ∧ s.stopped.panel.exchange = none :=
  ⟨rfl, rfl, rfl, rfl, rfl, rfl, rfl, rfl⟩

theorem stopped_kept (s : State) : s.stopped.clock = s.clock ∧ s.stopped.ledger = s.ledger ∧ s.stopped.account = s.account :=
  ⟨rfl, rfl, rfl⟩

theorem stopBlocks_eq (s : State) : stopBlocks s = (closeForStop s).stopped := by
  simp only [stopBlocks, State.stopped]

/-- What the closing of the channels writes. -/
def Parts.closedAll : Parts := { Parts.channelEnded with openings := true, account := true }

theorem closeAll_same (s : State) : SameBut Parts.closedAll s (closeAll s) :=
  closeAll_frame (w := Parts.closedAll) rfl rfl rfl rfl rfl rfl rfl rfl rfl rfl rfl rfl rfl rfl rfl s

theorem closeForStop_same (s : State) : SameBut Parts.closedAll s (closeForStop s) := by
  unfold closeForStop
  refine (blank_feed_contexts (w := Parts.closedAll) rfl _ _).trans ?_
  exact Eq.trans (closeAll_same { s with feed.contexts := [] }) (blank_feed_contexts (w := Parts.closedAll) rfl [] s)

theorem closeForStop_channels (s : State) : (closeForStop s).planner.channels = [] :=
  closeAll_channels { s with feed.contexts := [] }

theorem closeForStop_account {s : State} (h : ∀ e ∈ s.planner.channels, e.2.everOnAir = false) :
    (closeForStop s).account = s.account :=
  closeAll_account_unaired (s := { s with feed.contexts := [] }) fun _ _ hj => h _ (mem_of_tab_get hj)

theorem settle_queue_of_no_channels {s : State} (h : s.planner.channels = []) : (settle s).line.queue = s.line.queue := by
  rw [settle_eq, announce_of_no_channels h, syncMask_line]
  change (settledDesks s).line.queue = s.line.queue
  exact same_line_queue (w := { deskShow := true, outbound := true, routes := true }) (settledDesks_frame s) rfl

/-- What holds of the blocks as they have stopped (R187). -/
structure State.Stopped (s t : State) : Prop where
  clock : t.clock = s.clock
  blocks : t.planner.hall = .dark ∧ t.planner.channels = [] ∧ t.feed.contexts = [] ∧ t.dock.issues = []
    ∧ t.relay = ⟨[], []⟩ ∧ t.map.radiator = false ∧ t.line.state = .detached ∧ t.line.queue = []
    ∧ t.line.epoch = s.line.epoch ∧ t.panel.exchange = none ∧ t.ledger = s.ledger
    ∧ ((∀ e ∈ s.planner.channels, e.2.everOnAir = false) → t.account = s.account)

theorem settle_stopBlocks (s : State) : s.Stopped (settle (stopBlocks s)) := by
  have hsame := closeForStop_same s
  have hclock := same_clock (w := Parts.closedAll) hsame
  have hepoch := same_line_epoch (w := Parts.closedAll) hsame rfl
  have hledger := same_ledger (w := Parts.closedAll) hsame rfl rfl rfl
  have hnone := closeForStop_channels s
  have haccount := closeForStop_account (s := s)
  rw [stopBlocks_eq]
  generalize closeForStop s = u at *
  obtain ⟨hhall, hchannels, hcontexts, hissues, hrelay, hradiator, hline, hexchange⟩ := stopped_blocks u
  obtain ⟨hclock', hledger', haccount'⟩ := stopped_kept u
  generalize u.stopped = v at *
  have hnone' := hchannels.trans hnone
  refine ⟨(settle_clock v).trans (hclock'.trans hclock), (settle_planner_hall v).trans hhall,
    settle_channels_of_no_channels hnone', ?_, ?_, (settle_relay v).trans hrelay, (settle_map_radiator v).trans hradiator,
    ?_, (settle_queue_of_no_channels hnone').trans ?_, ?_, (settle_panel_exchange v).trans hexchange,
    (settle_ledger v).trans (hledger'.trans hledger), fun h => (settle_account v).trans (haccount'.trans (haccount h))⟩
  · rw [settle_feed, hcontexts]
  · rw [settle_dock, hissues]
  · rw [settle_line_state, hline]
    rfl
  · rw [hline]
    rfl
  · rw [settle_line_epoch, hline]
    exact hepoch

/-! ### A warm start -/

/-- The state in which a warm start lets the blocks begin: its cause is the only event (R188). -/
def State.warmed (cause : WarmCause) (s : State) : State :=
  let s :=
    warmBlocks
      { s with
        clock.resetHeld := false
        clock.supply := if cause = .supply then .normal else s.clock.supply
        clock.station := .configured
        line.epoch := (s.line.epoch + 1) % 256
        port := { answer := none, shifted := [] }
        ledger.orphans := s.ledger.orphans.map fun o => { o with answerWait := none } }
  queueEvent .warmStart [cause.code] (clearEvents { s with dock.warmMinute := some s.clock.minute })

theorem warmStart_eq (cause : WarmCause) (s : State) :
    warmStart cause s = settle (if (s.warmed cause).clock.runMark then beginRunning (s.warmed cause) else s.warmed cause) :=
  rfl

theorem warmed_clock (cause : WarmCause) (s : State) : (s.warmed cause).clock = { s.clock with
    resetHeld := false, supply := if cause = .supply then .normal else s.clock.supply, station := .configured } := rfl

theorem warmed_blocks (cause : WarmCause) (s : State) :
    (s.warmed cause).planner.hall = .dark ∧ (s.warmed cause).planner.channels = []
      ∧ (s.warmed cause).planner.peerClaims = [] ∧ (s.warmed cause).planner.trunks = []
      ∧ (s.warmed cause).relay = ⟨[], []⟩ ∧ (s.warmed cause).feed.contexts = [] ∧ (s.warmed cause).map.radiator = false
      ∧ (s.warmed cause).map.sending = some ⟨false, []⟩ ∧ (s.warmed cause).line.state = .detached
      ∧ (s.warmed cause).line.epoch = (s.line.epoch + 1) % 256 ∧ (s.warmed cause).dock.issues = []
      ∧ (s.warmed cause).dock.ready = [] ∧ (s.warmed cause).dock.warmMinute = some s.clock.minute :=
  ⟨rfl, rfl, rfl, rfl, rfl, rfl, rfl, rfl, rfl, rfl, rfl, rfl, rfl⟩

theorem warmed_kept (cause : WarmCause) (s : State) :
    (s.warmed cause).ledger.hires = s.ledger.hires ∧ (s.warmed cause).ledger.lost = s.ledger.lost
      ∧ (s.warmed cause).account = s.account ∧ (s.warmed cause).port.answer = none ∧ (s.warmed cause).pending = s.pending
      ∧ (s.warmed cause).events.queue = [⟨.warmStart, s.clock.minute, s.clock.second, [cause.code]⟩] :=
  ⟨rfl, rfl, rfl, rfl, rfl, rfl⟩

theorem warmed_desks (cause : WarmCause) (s : State) : ∀ e ∈ (s.warmed cause).booth.desks, e.2.state = .off :=
  fun e he => (freshDesks_off _ e he).1

theorem warmed_slots (cause : WarmCause) (s : State) : ∀ e ∈ (s.warmed cause).dock.slots, e.2.startUp = true := by
  intro e he
  obtain ⟨e', -, rfl⟩ := List.mem_map.mp he
  rfl

/-- What holds of the blocks after a warm start, settled or not. -/
structure State.Warm (s : State) (cause : WarmCause) (t : State) : Prop where
  clock : t.clock = { s.clock with
    resetHeld := false, supply := if cause = .supply then .normal else s.clock.supply
    station := if s.clock.runMark then .running else .configured }
  planner : t.planner.hall = .dark ∧ t.planner.channels = [] ∧ t.planner.peerClaims = [] ∧ t.planner.trunks = []
  relay : t.relay = ⟨[], []⟩
  contexts : t.feed.contexts = []
  map : t.map.radiator = false ∧ t.map.sending = some ⟨false, []⟩
  line : t.line.epoch = (s.line.epoch + 1) % 256 ∧ t.line.state = if s.clock.runMark then .joining else .detached
  desks : ∀ e ∈ t.booth.desks, e.2.state = .off
  dock : t.dock.issues = [] ∧ t.dock.ready = [] ∧ t.dock.warmMinute = some s.clock.minute
    ∧ ∀ e ∈ t.dock.slots, e.2.startUp = true
  kept : t.ledger.hires = s.ledger.hires ∧ t.ledger.lost = s.ledger.lost ∧ t.account = s.account ∧ t.port.answer = none
    ∧ t.pending = s.pending
  told : [⟨.warmStart, s.clock.minute, s.clock.second, [cause.code]⟩] <+: t.events.queue

variable {s t : State} {cause : WarmCause}

theorem warmed_warm (h : s.clock.runMark = false) : s.Warm cause (s.warmed cause) := by
  obtain ⟨hhall, hchannels, hclaims, htrunks, hrelay, hcontexts, hradiator, hsending, hstate, hepoch, hissues, hready,
    hwarm⟩ := warmed_blocks cause s
  obtain ⟨hhires, hlost, haccount, hport, hpending, hqueue⟩ := warmed_kept cause s
  exact
    { clock := by rw [warmed_clock, h]; rfl
      planner := ⟨hhall, hchannels, hclaims, htrunks⟩
      relay := hrelay
      contexts := hcontexts
      map := ⟨hradiator, hsending⟩
      line := ⟨hepoch, by rw [hstate, h]; rfl⟩
      desks := warmed_desks cause s
      dock := ⟨hissues, hready, hwarm, warmed_slots cause s⟩
      kept := ⟨hhires, hlost, haccount, hport, hpending⟩
      told := by rw [hqueue] }

theorem mapAll_eq_nil {α : Type} {t : Table α} {f : α → α} (h : Tab.mapAll t f = []) : t = [] := List.map_eq_nil_iff.mp h

theorem began_warm (h : s.clock.runMark = true) : s.Warm cause (beginRunning (s.warmed cause)) := by
  obtain ⟨hhall, hchannels, hclaims, htrunks, hrelay, hcontexts, hradiator, hsending, hstate, hepoch, hissues, hready,
    hwarm⟩ := warmed_blocks cause s
  obtain ⟨hhires, hlost, haccount, hport, hpending, hqueue⟩ := warmed_kept cause s
  have hdesks := warmed_desks cause s
  have hclock := warmed_clock cause s
  have hb := beginRunning_began (s.warmed cause)
  generalize s.warmed cause = v at *
  generalize beginRunning v = u at *
  have hs := hb.rest
  obtain ⟨hstate', hepoch', -⟩ := hb.line
  obtain ⟨hslots, hready', hissues'⟩ := hb.dock
  have hplans : Tab.mapAll u.planner.channels Channel.plan = [] := by
    rw [same_channels_plan (w := Parts.started) hs rfl]
    exact congrArg (fun x => Tab.mapAll x Channel.plan) hchannels
  exact
    { clock := by
        rw [same_clock (w := Parts.started) hs, h]
        exact congrArg (fun x : ClockBlock => { x with station := .running }) hclock
      planner := ⟨hb.hall, mapAll_eq_nil hplans, (same_planner_peerClaims (w := Parts.started) hs rfl).trans hclaims,
        (same_planner_trunks (w := Parts.started) hs rfl).trans htrunks⟩
      relay := (same_relay (w := Parts.started) hs rfl rfl).trans hrelay
      contexts := (congrArg FeedBlock.contexts (same_feed (w := Parts.started) hs rfl rfl)).trans hcontexts
      map := ⟨(same_map_radiator (w := Parts.started) hs rfl).trans hradiator, hb.sending _ rfl⟩
      line := ⟨hepoch'.trans hepoch, by rw [hstate', h]; rfl⟩
      desks := by
        rw [hb.desks]
        intro e he
        obtain ⟨e', he', rfl⟩ := List.mem_map.mp he
        exact hdesks e' he'
      dock := ⟨hissues', hready', (same_dock_warmMinute (w := Parts.started) hs).trans hwarm, by
        rw [hslots]
        intro e he
        obtain ⟨e', -, rfl⟩ := List.mem_map.mp he
        rfl⟩
      kept := ⟨(same_ledger_hires (w := Parts.started) hs rfl).trans hhires,
        (same_ledger_lost (w := Parts.started) hs rfl).trans hlost, (same_account (w := Parts.started) hs rfl).trans haccount,
        (congrArg PortBlock.answer (same_port (w := Parts.started) hs)).trans hport,
        (same_pending (w := Parts.started) hs).trans hpending⟩
      told := by
        rw [← hqueue]
        exact hb.events }

theorem State.Warm.settled (h : s.Warm cause t) : s.Warm cause (settle t) := by
  obtain ⟨hhall, hchannels, hclaims, htrunks⟩ := h.planner
  obtain ⟨hhires, hlost, haccount, hport, hpending⟩ := h.kept
  obtain ⟨hradiator, hsending⟩ := h.map
  obtain ⟨hepoch, hstate⟩ := h.line
  exact
    { clock := (settle_clock t).trans h.clock
      planner := ⟨(settle_planner_hall t).trans hhall, settle_channels_of_no_channels hchannels,
        (settle_planner_peerClaims t).trans hclaims, (settle_planner_trunks t).trans htrunks⟩
      relay := (settle_relay t).trans h.relay
      contexts := (congrArg FeedBlock.contexts (settle_feed t)).trans h.contexts
      map := ⟨(settle_map_radiator t).trans hradiator, settle_sending hsending⟩
      line := ⟨(settle_line_epoch t).trans hepoch, (settle_line_state t).trans hstate⟩
      desks := settle_desks_state (p := fun st _ => st = .off) h.desks
      dock := by rw [settle_dock]; exact h.dock
      kept := by rw [settle_ledger, settle_account, settle_port, settle_pending]; exact h.kept
      told := h.told.trans (settle_events_of_no_channels hchannels ▸ List.prefix_rfl) }

theorem warmStart_warm (cause : WarmCause) (s : State) : s.Warm cause (warmStart cause s) := by
  have hmark := congrArg ClockBlock.runMark (warmed_clock cause s)
  rw [warmStart_eq, hmark]
  refine State.Warm.settled ?_
  cases h : s.clock.runMark with
  | true =>
    rw [if_pos rfl]
    exact began_warm h
  | false =>
    rw [if_neg (by decide)]
    exact warmed_warm h

end Sys2Proof.Machine

/-! SUPPLY_LOW, SUPPLY_RISE_ABOVE_WARN, ENTER_RETAIN, RESET_ASSERTED, RESET_RELEASED, MAIN_POWER_APPLIED and
RETENTION_SUPPLY_FAILS (R187 to R189). -/

namespace Sys2Proof.Machine

/-- What holds of a machine after a cold start (R189). -/
def State.Cold (s t : State) : Prop :=
  t.clock.station = .unconfigured ∧ t.clock.config = none ∧ t.clock.minute = 0 ∧ t.clock.runMark = false
    ∧ t.clock.retainedValid = false ∧ t.line = State.reset.line ∧ t.ledger = ⟨[], [], []⟩
    ∧ t.account = State.reset.account ∧ t.events = ⟨[], 0⟩ ∧ t.port = ⟨none, []⟩ ∧ t.dock = State.reset.dock
    ∧ t.booth = ⟨[], []⟩ ∧ t.planner.channels = [] ∧ t.map.radiator = false ∧ t.pending = s.pending

theorem coldStart_cold (s : State) : s.Cold (coldStart s) :=
  ⟨rfl, rfl, rfl, rfl, rfl, rfl, rfl, rfl, rfl, rfl, rfl, rfl, rfl, rfl, rfl⟩

theorem coldStart_supply (s : State) : (coldStart s).clock.supply = s.clock.supply := rfl

theorem warmStart_mask (cause : WarmCause) (s : State) : (warmStart cause s).map.mask = [] := by
  have h := (warmStart_warm cause s).planner.2.1
  rw [warmStart_eq] at h ⊢
  rw [settle_mask, State.onAirSubcarriers, h]
  rfl

section Restart

variable {cause : WarmCause} {check : Bool} {s : State}

theorem restart_valid (h : s.clock.retainedValid = true) (hc : check = true) :
    restart cause check s = warmStart cause s := by
  simp only [restart, h, hc, Bool.and_self, if_true]

theorem restart_invalid (h : s.clock.retainedValid = false ∨ check = false) : restart cause check s =
    coldStart { s with clock.supply := if cause = .supply then .normal else s.clock.supply } := by
  have htest : (s.clock.retainedValid && check) = false := by
    rcases h with h | h <;> simp [h]
  simp only [restart, htest, Bool.false_eq_true, if_false]

theorem restart_cold (h : s.clock.retainedValid = false ∨ check = false) : s.Cold (restart cause check s) := by
  rw [restart_invalid h]
  exact coldStart_cold _

theorem restart_supply (cause : WarmCause) (check : Bool) (s : State) : (restart cause check s).clock.supply =
    if cause = .supply then .normal else s.clock.supply := by
  by_cases h : s.clock.retainedValid = true ∧ check = true
  · rw [restart_valid h.1 h.2, (warmStart_warm cause s).clock]
  · rw [restart_invalid (by simpa only [not_and_or, Bool.not_eq_true] using h), coldStart_supply]

end Restart

/-! ### The memory is frozen, or a reset takes effect -/

/-- The blocks stop where they run (R187). -/
def State.halted (s : State) : State := if s.running then settle (stopBlocks s) else s

theorem halted_clock (s : State) : s.halted.clock = s.clock := by
  unfold State.halted
  split
  · exact (settle_stopBlocks s).clock
  · rfl

theorem halted_running {s : State} (h : s.running = true) : s.Stopped s.halted := by
  rw [State.halted, if_pos h]
  exact settle_stopBlocks s

theorem halted_resting {s : State} (h : s.running = false) : s.halted = s := by
  rw [State.halted, h, if_neg (by decide)]

theorem enterRetainState_retain {s : State} (h : s.clock.station = .retain) : enterRetainState s = s := by
  rw [enterRetainState, if_pos h]

theorem enterRetainState_eq {s : State} (h : s.clock.station ≠ .retain) : enterRetainState s =
    { s.halted with clock.station := .retain, clock.resetHeld := false } := by
  rw [enterRetainState, if_neg h, State.halted]

theorem assertReset_ignored {s : State} (h : s.clock.station = .retain ∨ s.clock.resetHeld = true) :
    assertReset s = s := by
  rw [assertReset, if_pos (by simpa using h)]

theorem assertReset_cold {s : State} (h : s.clock.station ≠ .retain) (hheld : s.clock.resetHeld = false)
    (hbad : s.clock.station = .unconfigured ∨ s.clock.retentionPresent = false ∨ s.clock.retainedValid = false) :
    assertReset s = coldStart s := by
  rw [assertReset, if_neg (by simp [h, hheld]), if_pos (by simpa [or_assoc] using hbad)]

theorem assertReset_eq {s : State} (h : s.clock.station ≠ .retain) (hheld : s.clock.resetHeld = false)
    (h1 : s.clock.station ≠ .unconfigured) (h2 : s.clock.retentionPresent = true) (h3 : s.clock.retainedValid = true) :
    assertReset s = { s.halted with clock.resetHeld := true } := by
  rw [assertReset, if_neg (by simp [h, hheld]), if_neg (by simp [h1, h2, h3]), State.halted]

/-! ### The supply -/

theorem supplyFalls_ignored {s : State} (h : s.clock.station = .retain ∨ s.clock.supply = .low) : supplyFalls s = s := by
  rw [supplyFalls, if_pos (by simpa using h)]

theorem supplyFalls_eq {s : State} (h : s.clock.station ≠ .retain) (hs : s.clock.supply = .normal) :
    supplyFalls s = queueEvent .supplyLow [] { s with clock.supply := .low } := by
  rw [supplyFalls, if_neg (by simp [h, hs])]

theorem supplyFalls_tells {s : State} (h : s.clock.station ≠ .retain) (hs : s.clock.supply = .normal) :
    (supplyFalls s).clock = { s.clock with supply := .low } ∧ s.tells (supplyFalls s) .supplyLow []
      ∧ SameBut { events := true } { s with clock := (supplyFalls s).clock } (supplyFalls s) := by
  have hclock : (supplyFalls s).clock = { s.clock with supply := .low } := by
    rw [supplyFalls_eq h hs, queueEvent_clock]
  refine ⟨hclock, ?_, ?_⟩
  · rw [supplyFalls_eq h hs]
    exact queueEvent_tells .supplyLow [] { s with clock.supply := .low }
  · rw [hclock, supplyFalls_eq h hs]
    exact queueEvent_frame rfl _ _ _

theorem supplyRises_retain (check : Bool) {s : State} (h : s.clock.station = .retain) :
    supplyRises check s = restart .supply check s := by
  rw [supplyRises, if_pos h]

theorem supplyRises_normal (check : Bool) {s : State} (h : s.clock.station ≠ .retain) :
    supplyRises check s = { s with clock.supply := .normal } := by
  rw [supplyRises, if_neg h]

theorem releaseReset_held (check : Bool) {s : State} (h : s.clock.resetHeld = true) :
    releaseReset check s = restart .reset check s := by
  rw [releaseReset, if_pos h]

theorem releaseReset_ignored (check : Bool) {s : State} (h : s.clock.resetHeld = false) : releaseReset check s = s := by
  rw [releaseReset, h, if_neg (by decide)]

theorem applyPower_keeps (above : Bool) {present : Bool} {s : State} (h : s.clock.retainedValid = true) (hp : present = true) :
    applyPower above present s = { s with clock.retentionPresent := true, clock.retainedValid := true } := by
  simp only [applyPower, h, hp, Bool.and_self, if_true]

theorem applyPower_cold (above : Bool) {present : Bool} {s : State} (h : s.clock.retainedValid = false ∨ present = false) :
    applyPower above present s = coldStart { s with
      clock.retentionPresent := present
      clock.retainedValid := false
      clock.supply := if above then .normal else .low } := by
  have htest : (s.clock.retainedValid && present) = false := by
    rcases h with h | h <;> simp [h]
  simp only [applyPower, htest, Bool.false_eq_true, if_false]

/-- Settles O60: the stop closes every channel and empties each block; a warm start begins from fresh blocks, and neither
its settling nor the zone's recomputation, with no channel open, brings anything back. -/
theorem supplyAndRestarts : Obligations.SupplyAndRestarts := by
  intro s check stopped warm cold
  have hstopped {t u : State} (h : s.Stopped u) (hu : t = { u with clock := t.clock }) : stopped t := by
    rw [hu]
    exact h.blocks
  have hwarm (cause : WarmCause) : warm (warmStart cause s) cause := by
    have h := warmStart_warm cause s
    have hmask := warmStart_mask cause s
    generalize warmStart cause s = t at h hmask
    obtain ⟨hhall, hchannels, hclaims, htrunks⟩ := h.planner
    obtain ⟨hhires, hlost, haccount, hport, hpending⟩ := h.kept
    obtain ⟨hradiator, hsending⟩ := h.map
    obtain ⟨hepoch, hstate⟩ := h.line
    obtain ⟨hissues, hready, hminute, hslots⟩ := h.dock
    obtain ⟨rest, hrest⟩ := h.told
    have hclock := h.clock
    refine ⟨by rw [hclock], by rw [hclock], by rw [hclock], by rw [hclock], by rw [hclock], hhall, hchannels, hclaims,
      htrunks, h.relay, h.contexts, hradiator, hmask, hepoch, hstate, h.desks, hissues, hready, hminute, hslots, hsending,
      hhires, hlost, haccount, hport, ?_, hpending⟩
    rw [← hrest]
    rfl
  refine ⟨fun h hs => ⟨_, rfl, supplyFalls_tells h hs⟩, fun h => congrArg Host.Outcome.next (supplyFalls_ignored h),
    fun h => congrArg Host.Outcome.next (supplyRises_normal check h), fun h => ?_, ?_, ?_,
    fun h => congrArg Host.Outcome.next (releaseReset_ignored check h), fun h => ?_, fun above present => ?_, rfl⟩
  · refine ⟨_, congrArg Host.Outcome.next (supplyRises_retain check h), restart_supply _ _ _, fun hv hc => ?_, restart_cold⟩
    rw [restart_valid hv hc]
    exact hwarm .supply
  · by_cases h : s.clock.station = .retain
    · refine ⟨_, congrArg Host.Outcome.next (enterRetainState_retain h), fun _ => rfl, fun hn => absurd h hn, fun hrun => ?_,
        fun _ hn => absurd h hn⟩
      rw [State.running, h] at hrun
      exact absurd hrun (by simp)
    · refine ⟨_, congrArg Host.Outcome.next (enterRetainState_eq h), fun hr => absurd hr h, fun _ => ?_,
        fun hrun => hstopped (halted_running hrun) rfl, fun hrest _ => ?_⟩
      · exact congrArg (fun x : ClockBlock => { x with station := .retain, resetHeld := false }) (halted_clock s)
      · rw [halted_resting hrest]
  · by_cases h : s.clock.station = .retain ∨ s.clock.resetHeld = true
    · refine ⟨_, congrArg Host.Outcome.next (assertReset_ignored h), fun _ => rfl, fun hn hheld => ?_⟩
      rcases h with h | h
      · exact absurd h hn
      · rw [hheld] at h
        exact absurd h (by decide)
    · obtain ⟨hn, hheld⟩ := not_or.mp h
      have hheld : s.clock.resetHeld = false := by simpa using hheld
      by_cases hbad : s.clock.station = .unconfigured ∨ s.clock.retentionPresent = false ∨ s.clock.retainedValid = false
      · refine ⟨_, congrArg Host.Outcome.next (assertReset_cold hn hheld hbad), fun h' => absurd h' h, fun _ _ =>
          ⟨fun _ => coldStart_cold s, fun h1 h2 h3 => ?_⟩⟩
        rcases hbad with hb | hb | hb
        · exact absurd hb h1
        · rw [h2] at hb
          exact absurd hb (by decide)
        · rw [h3] at hb
          exact absurd hb (by decide)
      · obtain ⟨h1, h2⟩ := not_or.mp hbad
        obtain ⟨h2, h3⟩ := not_or.mp h2
        refine ⟨_, congrArg Host.Outcome.next (assertReset_eq hn hheld h1 (by simpa using h2) (by simpa using h3)),
          fun h' => absurd h' h, fun _ _ => ⟨fun hb => absurd hb hbad, fun _ _ _ => ⟨?_, fun hrun => ?_, fun hrest => ?_⟩⟩⟩
        · exact congrArg (fun x : ClockBlock => { x with resetHeld := true }) (halted_clock s)
        · exact hstopped (halted_running hrun) rfl
        · rw [halted_resting hrest]
  · refine ⟨_, congrArg Host.Outcome.next (releaseReset_held check h), restart_supply _ _ _, fun hv hc => ?_, restart_cold⟩
    rw [restart_valid hv hc]
    exact hwarm .reset
  · by_cases h : s.clock.retainedValid = false ∨ present = false
    · refine ⟨_, congrArg Host.Outcome.next (applyPower_cold above h), rfl, fun _ => ⟨coldStart_cold _, rfl⟩, fun hv hp => ?_⟩
      rcases h with h | h
      · rw [hv] at h
        exact absurd h (by decide)
      · rw [hp] at h
        exact absurd h (by decide)
    · obtain ⟨hv, hp⟩ := not_or.mp h
      have hp : present = true := by simpa using hp
      refine ⟨_, congrArg Host.Outcome.next (applyPower_keeps above (by simpa using hv) hp), hp.symm, fun hb => absurd hb h,
        fun _ _ => rfl⟩

end Sys2Proof.Machine

/-! SET FLOOR LANGUAGE and OPEN CHANNEL (R5 to R8). -/

namespace Sys2Proof.Machine

/-! ### State, subcarrier and language of a channel -/

/-- A channel's state, subcarrier and language. -/
structure Tuning where
  state : ChanState
  subcarrier : Option Nat
  language : Tag

/-- How a channel is tuned. -/
def Channel.tuned (ch : Channel) : Tuning := ⟨ch.state, ch.subcarrier, ch.language⟩

theorem Calm.tuned {s t : State} (h : Calm s t) (c : Nat) :
    (t.channel c).map Channel.tuned = (s.channel c).map Channel.tuned := by
  have := congrArg (Option.map Channel.tuned) (h.channel c)
  rw [Option.map_map, Option.map_map] at this
  exact this

theorem modChannel_tuned {c : Nat} {f : Channel → Channel} (hf : ∀ ch, (f ch).tuned = ch.tuned) (s : State) (j : Nat) :
    ((modChannel c f s).channel j).map Channel.tuned = (s.channel j).map Channel.tuned := by
  by_cases hj : j = c
  · rw [hj, modChannel_channel_self, Option.map_map]
    exact congrArg (fun g => (s.channel c).map g) (funext hf)
  · rw [modChannel_channel_ne hj]

theorem refreshClaim_tuned (c : Nat) (s : State) (j : Nat) :
    ((refreshClaim c s).channel j).map Channel.tuned = (s.channel j).map Channel.tuned := by
  unfold refreshClaim
  split
  · rfl
  · split
    · rfl
    · rw [(sendClaim_quiet _ _ _ _ _).toCalm.tuned]
      exact modChannel_tuned (by exact fun _ => rfl) s j

/-- The channels of a state that settles under another port keep their tuning. -/
theorem done_tuned (u : State) (port : PortBlock) (c : Nat) :
    (({ settle u with port := port } : State).channel c).map Channel.tuned = (u.channel c).map Channel.tuned := by
  have h := (settle_quiet u).toCalm.tuned c
  generalize settle u = v at h
  exact h

theorem channel_of_tuned {s t : State} {c : Nat} {ch : Channel}
    (h : (t.channel c).map Channel.tuned = (s.channel c).map Channel.tuned) (hc : s.channel c = some ch) :
    ∃ ch', t.channel c = some ch' ∧ ch'.state = ch.state ∧ ch'.subcarrier = ch.subcarrier ∧ ch'.language = ch.language := by
  rw [hc] at h
  obtain ⟨ch', hch', he⟩ := Option.map_eq_some_iff.mp h
  exact ⟨ch', hch', congrArg Tuning.state he, congrArg Tuning.subcarrier he, congrArg Tuning.language he⟩

/-! ### The floor tag (R6) -/

/-- The floor tag is stored, and an open channel 0 takes it and tells it (R6). -/
def State.floorTold (l : Tag) (s : State) : State :=
  match s.channel 0 with
  | none => { s with planner.floorTag := l }
  | some ch =>
    let u := refreshClaim 0 (modChannel 0 (fun ch => { ch with language := l }) { s with planner.floorTag := l })
    if ch.language = l then u else queueNotice 0 u

theorem changeFloor_eq (l : Tag) (s : State) : changeFloor l s = recompute (fun _ _ => true)
    (Tab.keys ((s.floorTold l).booth.booths.filter fun e => e.2.input = .floor || e.2.input = .nothing)) (s.floorTold l) := by
  rw [changeFloor, State.floorTold]
  rfl

/-- A channel with another language. -/
def Channel.speaking (l : Tag) (ch : Channel) : Channel := { ch with language := l }

theorem floorTold_tuned (l : Tag) (s : State) (c : Nat) : ((s.floorTold l).channel c).map Channel.tuned =
    ((modChannel 0 (Channel.speaking l) s).channel c).map Channel.tuned := by
  have hstored : ((refreshClaim 0 (modChannel 0 (Channel.speaking l) { s with planner.floorTag := l })).channel c).map
      Channel.tuned = ((modChannel 0 (Channel.speaking l) s).channel c).map Channel.tuned := refreshClaim_tuned 0 _ c
  unfold State.floorTold
  split
  next hnone =>
    by_cases hc : c = 0
    · rw [hc, modChannel_channel_self, hnone]
      exact congrArg (Option.map Channel.tuned) hnone
    · rw [modChannel_channel_ne hc]
      rfl
  · dsimp only
    split
    · exact hstored
    · rw [(queueNotice_quiet 0 _).toCalm.tuned]
      exact hstored

theorem floorTold_planner (l : Tag) (s : State) :
    (s.floorTold l).planner.floorTag = l ∧ (s.floorTold l).planner.hall = s.planner.hall := by
  have hframe {u : State} (h : SameBut Parts.allButHall { s with planner.floorTag := l } u) :
      u.planner.floorTag = l ∧ u.planner.hall = s.planner.hall := by
    have hhall := same_planner_hall (w := Parts.allButHall) h rfl
    exact ⟨same_planner_floorTag (w := Parts.allButHall) h rfl, hhall⟩
  have hstored (ch : Channel) : SameBut Parts.allButHall { s with planner.floorTag := l }
      (refreshClaim 0 (modChannel 0 (Channel.speaking l) { s with planner.floorTag := l })) := by
    refine (refreshClaim_frame (w := Parts.allButHall) rfl rfl rfl 0 _).trans ?_
    simp [State.blank, modChannel, Parts.allButHall]
  unfold State.floorTold
  split
  · exact ⟨rfl, rfl⟩
  next ch _ =>
    dsimp only
    split
    · exact hframe (hstored ch)
    · exact hframe ((queueNotice_frame (w := Parts.allButHall) rfl rfl rfl 0 _).trans (hstored ch))

theorem changeFloor_tuned (l : Tag) (s : State) (c : Nat) : ((changeFloor l s).channel c).map Channel.tuned =
    ((modChannel 0 (Channel.speaking l) s).channel c).map Channel.tuned := by
  rw [changeFloor_eq, (recompute_quiet _ _ _).toCalm.tuned, floorTold_tuned]

theorem changeFloor_planner (l : Tag) (s : State) :
    (changeFloor l s).planner.floorTag = l ∧ (changeFloor l s).planner.hall = s.planner.hall := by
  have h := recompute_frame (w := Parts.allButHall) rfl rfl rfl rfl rfl rfl rfl rfl (fun _ _ => true)
    (Tab.keys ((s.floorTold l).booth.booths.filter fun e => e.2.input = .floor || e.2.input = .nothing)) (s.floorTold l)
  obtain ⟨htag, hhall⟩ := floorTold_planner l s
  rw [changeFloor_eq]
  exact ⟨(same_planner_floorTag (w := Parts.allButHall) h rfl).trans htag,
    (same_planner_hall (w := Parts.allButHall) h rfl).trans hhall⟩

theorem actSetFloorLanguage_refused {p : List Nat} (h : (tagAt p 0).ok = false) (s : State) :
    actSetFloorLanguage p s = .refuse .range := by
  rw [actSetFloorLanguage, require_of_not h]

theorem actSetFloorLanguage_passed {p : List Nat} (h : (tagAt p 0).ok = true) (s : State) :
    actSetFloorLanguage p s = .accept [] (changeFloor (tagAt p 0) s) := by
  rw [actSetFloorLanguage, require_of h]

/-- Settles O25: beside channel 0's language, what follows the floor tag leaves the tuning of every channel. -/
theorem setFloorLanguage : Obligations.SetFloorLanguage := by
  intro s params hp hst hl l
  refine ⟨fun hbad => congrArg Host.Outcome.next (command_refuses hp hl hst (actSetFloorLanguage_refused hbad _)),
    fun hok => ?_⟩
  have hact := actSetFloorLanguage_passed (p := numbers params) hok s.sent
  change actSetFloorLanguage (numbers params) s.sent = .accept [] (changeFloor l s.sent) at hact
  have hframe : SameBut { Parts.settled with hall := true, channels := true, openings := true, booths := true, feeds := true }
      s.sent (changeFloor l s.sent) := by
    apply changeFloor_frame <;> rfl
  have htuned := changeFloor_tuned l s.sent
  obtain ⟨htag, hhall⟩ := changeFloor_planner l s.sent
  refine ⟨_, congrArg Host.Outcome.next (command_accepts hp hl hst hact (same_port hframe)), ?_⟩
  generalize changeFloor l s.sent = u at *
  refine ⟨(settle_planner_floorTag u).trans htag, (settle_planner_hall u).trans hhall, rfl, fun ch hch => ?_,
    fun c ch hc hch => ?_, done_frame hframe rfl rfl rfl rfl rfl rfl rfl⟩
  · have hmod : (modChannel 0 (Channel.speaking l) s.sent).channel 0 = some (Channel.speaking l ch) := by
      rw [modChannel_channel_self, show s.sent.channel 0 = some ch from hch]
      rfl
    obtain ⟨ch', hch', hstate, hsub, hlang⟩ := channel_of_tuned ((done_tuned u _ 0).trans (htuned 0)) hmod
    exact ⟨ch', hch', hlang, hstate, hsub⟩
  · have hmod : (modChannel 0 (Channel.speaking l) s.sent).channel c = some ch :=
      (modChannel_channel_ne hc _ _).trans hch
    obtain ⟨ch', hch', -, -, hlang⟩ := channel_of_tuned ((done_tuned u _ c).trans (htuned c)) hmod
    exact ⟨ch', hch', hlang⟩

end Sys2Proof.Machine

/-! OPEN CHANNEL (R5, R7, R8). -/

namespace Sys2Proof.Machine

theorem any_set {α : Type} {t : Table α} {k : Nat} {v : α} (h : Tab.get t k = none) (p : α → Bool) :
    (Tab.set t k v).any (fun e => p e.2) = (p v || t.any fun e => p e.2) := by
  induction t with
  | nil => simp [Tab.set]
  | cons e rest ih =>
    obtain ⟨j, w⟩ := e
    have hj : j ≠ k := by
      rintro rfl
      simp [Tab.get] at h
    have hrest : Tab.get rest k = none := by simpa [Tab.get, hj] using h
    unfold Tab.set
    split
    · simp
    · simp only [List.any_cons, ih hrest]
      rw [Bool.or_left_comm]

/-! ### A channel opens -/

/-- A channel's entry made (R5). -/
def State.entryMade (c : Nat) (l : Tag) (account : Nat) (s : State) : State :=
  { s with planner.channels := Tab.set s.planner.channels c (s.newChannel c l account) }

/-- The booths with the channel at an output. -/
def State.assigned (s : State) (c : Nat) : List Nat :=
  Tab.keys (s.booth.booths.filter fun e => e.2.outputA = some c || e.2.outputB = some c)

theorem openAChannel_eq (c : Nat) (l : Tag) (account : Nat) (s : State) : openAChannel c l account s =
    forEach (s.assigned c) recheckOutputs (search c (queueNotice c (s.entryMade c l account))) := by
  simp only [openAChannel, State.assigned, State.entryMade]

section Opens

variable (c : Nat) (l : Tag) (account : Nat) (s : State)

theorem entryMade_channel : (s.entryMade c l account).channel c = some (s.newChannel c l account) := tab_get_set_self _ _ _

theorem entryMade_channel_ne {j : Nat} (h : j ≠ c) : (s.entryMade c l account).channel j = s.channel j :=
  tab_get_set_ne _ _ _ _ h

theorem entryMade_grows (κ : Keep) : Grows κ s (s.entryMade c l account) := .of_same rfl rfl rfl rfl

/-- A new channel's entry takes no subcarrier. -/
theorem entryMade_free {c : Nat} {s : State} (h : s.channel c = none) :
    (queueNotice c (s.entryMade c l account)).freeSubcarrier = s.freeSubcarrier := by
  have hsame : SameBut { events := true, notices := true, lineQueue := true } (s.entryMade c l account)
      (queueNotice c (s.entryMade c l account)) := queueNotice_frame rfl rfl rfl c _
  have hclaims := same_planner_peerClaims hsame rfl
  have hzone := same_planner_zone hsame rfl
  have hclock := same_clock hsame
  have hcores := same_channels_core hsame rfl rfl
  have hany (u : State) (sc : Nat) : u.ownSubcarrier sc =
      (Tab.mapAll u.planner.channels Channel.core).any fun e => e.2.subcarrier = some sc := by
    simp only [State.ownSubcarrier, Tab.mapAll, List.any_map]
    rfl
  refine freeSubcarrier_congr ?_ fun sc => ?_
  · simp only [State.self, State.cfg, hclock]
    rfl
  · have hown : (queueNotice c (s.entryMade c l account)).ownSubcarrier sc = s.ownSubcarrier sc := by
      rw [hany, hcores, ← hany]
      simp only [State.ownSubcarrier, State.entryMade]
      rw [any_set h fun ch => decide (ch.subcarrier = some sc)]
      simp [State.newChannel]
    have hpeers : (queueNotice c (s.entryMade c l account)).zoneSubcarrier sc = s.zoneSubcarrier sc := by
      simp only [State.zoneSubcarrier, State.inZone, hclaims, hzone]
      rfl
    rw [hown, hpeers]

/-- The new channel is as its search leaves it, but for its notice and its pedigree (R8). -/
theorem openAChannel_channel_self : ∃ ch ch0, (openAChannel c l account s).channel c = some ch
    ∧ ch0.quiet = (s.newChannel c l account).quiet
    ∧ ch.quiet = ((queueNotice c (s.entryMade c l account)).afterSearch ch0).quiet := by
  obtain ⟨ch0, hch0, hq0⟩ := (queueNotice_quiet c (s.entryMade c l account)).toCalm.channel_some (entryMade_channel c l account s)
  obtain ⟨ch, hch, hq⟩ := (forEach_quiet recheckOutputs_quiet (s.assigned c) _).toCalm.channel_some (search_channel_self hch0)
  rw [openAChannel_eq]
  exact ⟨ch, ch0, hch, hq0, hq⟩

theorem openAChannel_tuned {j : Nat} (h : j ≠ c) :
    ((openAChannel c l account s).channel j).map Channel.tuned = (s.channel j).map Channel.tuned := by
  rw [openAChannel_eq, (forEach_quiet recheckOutputs_quiet _ _).toCalm.tuned, search_channel_ne h,
    (queueNotice_quiet _ _).toCalm.tuned, entryMade_channel_ne _ _ _ _ h]

end Opens

/-- What a new channel's search leaves of it (R8). -/
structure Channel.Opened (s : State) (c : Nat) (l : Tag) (account : Nat) (ch : Channel) : Prop where
  language : ch.language = l
  account : ch.account = account
  holder : ch.holder = .none
  liveSeconds : ch.liveSeconds = 0
  opening : ch.opening = s.clock.minute
  everOnAir : ch.everOnAir = false
  confirmed : ch.confirmed = false
  state : ch.state = .claiming ∨ ch.state = .starved
  found : s.channel c = none → ∀ sc, s.freeSubcarrier = some sc →
    ch.state = .claiming ∧ ch.subcarrier = some sc ∧ ch.window = some 600
  starved : s.channel c = none → s.freeSubcarrier = none →
    ch.state = .starved ∧ ch.subcarrier = none ∧ ch.window = none

theorem opened_of_quiet {s w : State} {c : Nat} {l : Tag} {account : Nat} {ch ch0 : Channel}
    (hq0 : ch0.quiet = (s.newChannel c l account).quiet) (hq : ch.quiet = (w.afterSearch ch0).quiet)
    (hfree : s.channel c = none → w.freeSubcarrier = s.freeSubcarrier) : ch.Opened s c l account := by
  have hair0 := congrArg Channel.everOnAir hq0
  cases hf : w.freeSubcarrier with
  | some sc =>
    rw [afterSearch_found hf] at hq
    have hstate : ch.state = .claiming := by
      have h := congrArg Channel.state hq
      simp only [Channel.searched, show ch0.everOnAir = false from hair0] at h
      exact h
    exact
      { language := (congrArg Channel.language hq).trans (congrArg Channel.language hq0)
        account := (congrArg Channel.account hq).trans (congrArg Channel.account hq0)
        holder := (congrArg Channel.holder hq).trans (congrArg Channel.holder hq0)
        liveSeconds := (congrArg Channel.liveSeconds hq).trans (congrArg Channel.liveSeconds hq0)
        opening := (congrArg Channel.opening hq).trans (congrArg Channel.opening hq0)
        everOnAir := (congrArg Channel.everOnAir hq).trans hair0
        confirmed := congrArg Channel.confirmed hq
        state := Or.inl hstate
        found := fun hnone sc' hsc' => by
          rw [← hfree hnone, hf] at hsc'
          obtain rfl := Option.some.inj hsc'
          exact ⟨hstate, congrArg Channel.subcarrier hq, congrArg Channel.window hq⟩
        starved := fun hnone hno => by
          rw [← hfree hnone, hf] at hno
          exact absurd hno (by simp) }
  | none =>
    rw [afterSearch_starved hf] at hq
    exact
      { language := (congrArg Channel.language hq).trans (congrArg Channel.language hq0)
        account := (congrArg Channel.account hq).trans (congrArg Channel.account hq0)
        holder := (congrArg Channel.holder hq).trans (congrArg Channel.holder hq0)
        liveSeconds := (congrArg Channel.liveSeconds hq).trans (congrArg Channel.liveSeconds hq0)
        opening := (congrArg Channel.opening hq).trans (congrArg Channel.opening hq0)
        everOnAir := (congrArg Channel.everOnAir hq).trans hair0
        confirmed := congrArg Channel.confirmed hq
        state := Or.inr (congrArg Channel.state hq)
        found := fun hnone sc' hsc' => by
          rw [← hfree hnone, hf] at hsc'
          exact absurd hsc' (by simp)
        starved := fun _ _ => ⟨congrArg Channel.state hq, congrArg Channel.subcarrier hq, congrArg Channel.window hq⟩ }

theorem state_of_quiet {ch ch' : Channel} (hq : ch'.quiet = ch.quiet) :
    ch'.state = ch.state ∧ ch'.subcarrier = ch.subcarrier ∧ ch'.window = ch.window := by
  have hstate := congrArg Channel.state hq
  have hsub := congrArg Channel.subcarrier hq
  have hwindow := congrArg Channel.window hq
  exact ⟨hstate, hsub, hwindow⟩

/-- A record that differs in its pedigree and its notice alone is opened likewise. -/
theorem Channel.Opened.of_quiet {s : State} {c : Nat} {l : Tag} {account : Nat} {ch ch' : Channel}
    (h : ch.Opened s c l account) (hq : ch'.quiet = ch.quiet) : ch'.Opened s c l account := by
  obtain ⟨hstate, hsub, hwindow⟩ := state_of_quiet hq
  exact
    { language := (congrArg Channel.language hq).trans h.language
      account := (congrArg Channel.account hq).trans h.account
      holder := (congrArg Channel.holder hq).trans h.holder
      liveSeconds := (congrArg Channel.liveSeconds hq).trans h.liveSeconds
      opening := (congrArg Channel.opening hq).trans h.opening
      everOnAir := (congrArg Channel.everOnAir hq).trans h.everOnAir
      confirmed := (congrArg Channel.confirmed hq).trans h.confirmed
      state := by rw [hstate]; exact h.state
      found := by rw [hstate, hsub, hwindow]; exact h.found
      starved := by rw [hstate, hsub, hwindow]; exact h.starved }

section Search

variable (c : Nat) (l : Tag) (account : Nat) (s : State)

theorem openAChannel_opened : ∃ ch, (openAChannel c l account s).channel c = some ch ∧ ch.Opened s c l account := by
  obtain ⟨ch, ch0, hch, hq0, hq⟩ := openAChannel_channel_self c l account s
  exact ⟨ch, hch, opened_of_quiet hq0 hq (entryMade_free l account)⟩

/-- The claim of a new channel goes out, and a search in vain is told (R8). -/
theorem openAChannel_reports {c : Nat} {s : State} (h : s.channel c = none) :
    (∀ sc, s.freeSubcarrier = some sc → s.sends (openAChannel c l account s) 0 (.claim (.subcarrier sc) .claim c l))
      ∧ (s.freeSubcarrier = none → s.tells (openAChannel c l account s) .channelStarved [c]) := by
  obtain ⟨ch0, hch0, hq0⟩ := (queueNotice_quiet c (s.entryMade c l account)).toCalm.channel_some (entryMade_channel c l account s)
  have hfree := entryMade_free l account h
  have hbefore : Grows .steady s (queueNotice c (s.entryMade c l account)) :=
    (entryMade_grows c l account s _).trans (queueNotice_grows rfl _ _)
  have hlang : ch0.language = l := congrArg Channel.language hq0
  have hstate : ch0.state = .claiming := congrArg Channel.state hq0
  have hafter : Grows .steady (search c (queueNotice c (s.entryMade c l account)))
      (forEach (s.assigned c) recheckOutputs (search c (queueNotice c (s.entryMade c l account)))) :=
    forEach_grows _ (fun b u => recheckOutputs_grows rfl b u) _
  rw [openAChannel_eq]
  generalize queueNotice c (s.entryMade c l account) = w at *
  refine ⟨fun sc hsc => ?_, fun hno => ?_⟩
  · have hsends := search_sends hch0 (hfree.trans hsc)
    rw [hlang] at hsends
    exact hbefore.sent_by (search_grows (κ := .nothing) rfl c w) hafter hsends rfl
  · have htells := search_tells hch0 (hfree.trans hno) (by rw [hstate]; decide)
    exact hbefore.told htells hafter

end Search

/-! ### OPEN CHANNEL -/

section Command

variable {p : List Nat} {s : State} {c account : Nat} {l : Tag} (hc : field p 0 1 = c) (hl : tagAt p 1 = l)
  (ha : field p 4 1 = account)
include hc hl ha

theorem actOpenChannel_dark (h : s.planner.hall = .dark) : actOpenChannel p s = .refuse .state := by
  simp only [actOpenChannel, hc, hl, ha]
  exact require_of_not (by simpa using h) _ _

theorem actOpenChannel_out (h : s.planner.hall ≠ .dark) (hbad : c = 0 ∨ 31 < c ∨ l.ok = false ∨ 31 < account) :
    actOpenChannel p s = .refuse .range := by
  simp only [actOpenChannel, hc, hl, ha]
  rw [require_of (by simpa using h)]
  refine require_of_not ?_ _ _
  rcases hbad with rfl | hbad | hbad | hbad
  · simp [within]
  · simp [within, hbad]
  · simp [hbad]
  · simp [hbad]

variable (h : s.planner.hall ≠ .dark) (h1 : 1 ≤ c) (h2 : c ≤ 31) (hok : l.ok = true) (h3 : account ≤ 31)
include h h1 h2 hok h3

theorem actOpenChannel_open (hbad : (s.channel c).isSome = true ∨ s.pendingElsewhere c account = true) :
    actOpenChannel p s = .refuse .state := by
  simp only [actOpenChannel, hc, hl, ha]
  rw [require_of (by simpa using h), require_of (by simp [within, h1, h2, hok, h3])]
  refine require_of_not ?_ _ _
  rcases hbad with hbad | hbad
  · simp [Option.isNone_eq_false_iff.mpr hbad]
  · simp [hbad]

theorem actOpenChannel_passed (hnone : s.channel c = none) (hno : s.pendingElsewhere c account = false) :
    actOpenChannel p s = .accept (b1 ((openAChannel c l account s).stateCode c)
      ++ bOpt 1 b1 (((openAChannel c l account s).channel c).bind Channel.subcarrier)) (openAChannel c l account s) := by
  simp only [actOpenChannel, hc, hl, ha]
  rw [require_of (by simpa using h), require_of (by simp [within, h1, h2, hok, h3]), require_of (by simp [hnone, hno])]

end Command

/-- The channels of a state that settles under another port keep their records but for pedigrees and notices. -/
theorem done_channel {u : State} {c : Nat} {ch : Channel} (h : u.channel c = some ch) (port : PortBlock) :
    ∃ ch', ({ settle u with port := port } : State).channel c = some ch' ∧ ch'.quiet = ch.quiet := by
  have hsettled := (settle_quiet u).toCalm.channel_some h
  generalize settle u = v at *
  exact hsettled

/-- Settles O26: the entry is made, its notice changes nothing the search reads, and the search finds the first free
subcarrier of the state before. -/
theorem openChannel : Obligations.OpenChannel := by
  intro s params hp hst hl c l account
  have hst' : inR s.clock.station = true := by simp [inR, hst]
  refine ⟨fun hd => congrArg Host.Outcome.next (command_refuses hp hl hst' (actOpenChannel_dark rfl rfl rfl hd)),
    fun hd hbad => congrArg Host.Outcome.next (command_refuses hp hl hst' (actOpenChannel_out rfl rfl rfl hd hbad)),
    fun hd h1 h2 hok h3 hbad => congrArg Host.Outcome.next
      (command_refuses hp hl hst' (actOpenChannel_open rfl rfl rfl hd h1 h2 hok h3 hbad)),
    fun hd h1 h2 hok h3 hnone hno => ?_⟩
  have hact := actOpenChannel_passed (p := numbers params) (s := s.sent) (c := c) (l := l) (account := account) rfl rfl rfl hd
    h1 h2 hok h3 hnone hno
  have hframe : SameBut { Parts.settled with channels := true, openings := true, booths := true, feeds := true } s.sent
      (openAChannel c l account s.sent) := by
    apply openAChannel_frame <;> rfl
  have hgrows : Grows .nothing s.sent (openAChannel c l account s.sent) := openAChannel_grows rfl rfl c l account _
  obtain ⟨hclaims, hstarved⟩ := openAChannel_reports l account (s := s.sent) hnone
  obtain ⟨ch, hch, hopened⟩ := openAChannel_opened c l account s.sent
  have hothers (j : Nat) (hj : j ≠ c) := openAChannel_tuned c l account s.sent hj
  have hcode : (openAChannel c l account s.sent).stateCode c = ch.state.code := by simp only [State.stateCode, hch]; rfl
  have hsub : ((openAChannel c l account s.sent).channel c).bind Channel.subcarrier = ch.subcarrier := by rw [hch]; rfl
  rw [hcode, hsub] at hact
  generalize openAChannel c l account s.sent = u at *
  obtain ⟨ch', hch', hq⟩ := done_channel hch (s.donePort (b1 ch.state.code ++ bOpt 1 b1 ch.subcarrier))
  have hopened' := hopened.of_quiet hq
  refine ⟨_, ch', congrArg Host.Outcome.next (command_accepts hp hl hst' hact (same_port hframe)), hch',
    hopened'.language, hopened'.account, hopened'.holder, hopened'.liveSeconds, hopened'.opening, hopened'.everOnAir,
    hopened'.confirmed, fun sc hsc => ?_, fun hno => ?_, ?_, fun k k' hk hk' => ?_,
    done_frame hframe rfl rfl rfl rfl rfl rfl rfl⟩
  · obtain ⟨hstate, hsc', hwindow⟩ := hopened'.found hnone sc hsc
    exact ⟨hstate, hsc', hwindow, sends_done_by (hclaims sc hsc) hgrows rfl⟩
  · obtain ⟨hstate, hsc', hwindow⟩ := hopened'.starved hnone hno
    exact ⟨hstate, hsc', hwindow, tells_done (hstarved hno)⟩
  · obtain ⟨hstate, hsubcarrier, -⟩ := state_of_quiet hq
    rw [hstate, hsubcarrier]
  · exact channel_of_tuned (s := s) ((done_tuned u _ k).trans (hothers k hk)) hk'

end Sys2Proof.Machine

/-! SET HALL STATE out of DARK (R3, R8, R94, R97). -/

namespace Sys2Proof.Machine

/-! ### The map as the hall leaves DARK -/

/-- A map record reads of its channel what no notice changes, and of the state its hall. -/
theorem mapRecords_of_core {s t : State} (hhall : t.planner.hall = s.planner.hall)
    (hcore : Tab.mapAll t.planner.channels Channel.core = Tab.mapAll s.planner.channels Channel.core) :
    t.mapRecords = s.mapRecords := by
  have hcores (u : State) : u.mapRecords =
      ((Tab.mapAll u.planner.channels Channel.core).filter fun e => e.2.everOnAir).map fun e => u.mapRecord e.1 e.2 := by
    simp only [State.mapRecords, Tab.mapAll, List.filter_map, List.map_map]
    rfl
  have hrecord (c : Nat) (ch : Channel) : t.mapRecord c ch = s.mapRecord c ch := by
    have hheld : t.channelHeld c ch = s.channelHeld c ch := by simp only [State.channelHeld, hhall]
    have hstatus : t.mapStatus c ch = s.mapStatus c ch := by
      unfold State.mapStatus
      rw [hheld]
    simp only [State.mapRecord, hstatus]
  rw [hcores, hcores, hcore]
  exact List.map_congr_left fun e _ => hrecord e.1 e.2

theorem settle_mapRecords (s : State) : (settle s).mapRecords = s.mapRecords :=
  mapRecords_of_core (settle_planner_hall s) (settle_channels_core s)

/-- The front map as the hall leaves DARK: the one of the channels now, under the next version (R94). -/
def State.frontNext (s : State) : RMap := { s.mapNow with version := (s.map.front.version + 1) % 256 }

theorem leaveDarkMap_map (s : State) :
    (leaveDarkMap s).map.radiator = true ∧ (leaveDarkMap s).map.holdCount = 0 ∧ (leaveDarkMap s).planner = s.planner
      ∧ (leaveDarkMap s).map.front = s.frontNext := by
  have hplanner : (setRadiator true (rebuildMap s)).planner = s.planner := setRadiator_planner _ _
  have hrad := setRadiator_radiator true (rebuildMap s)
  have hmaps : (setRadiator true (rebuildMap s)).map.front = s.map.front
      ∧ (setRadiator true (rebuildMap s)).map.back = s.mapNow := by
    simp only [setRadiator]
    split
    · exact ⟨rfl, rfl⟩
    · simp only [sendMaskWord]
      split <;> exact ⟨rfl, rfl⟩
  obtain ⟨hfront, hback⟩ := hmaps
  refine ⟨hrad, rfl, hplanner, ?_⟩
  rw [State.frontNext, ← hfront, ← hback]
  rfl

/-- As the hall leaves DARK both maps are the one of the channels (R94). -/
theorem settle_leaveDarkMap_maps (s : State) :
    (settle (leaveDarkMap s)).map.front.version = (s.map.front.version + 1) % 256
      ∧ (settle (leaveDarkMap s)).map.front.records = (settle (leaveDarkMap s)).mapRecords
      ∧ (settle (leaveDarkMap s)).map.front.station = s.self
      ∧ (settle (leaveDarkMap s)).map.back = (settle (leaveDarkMap s)).map.front := by
  obtain ⟨-, -, hplanner, hfront⟩ := leaveDarkMap_map s
  have hrecords : (leaveDarkMap s).mapRecords = s.mapRecords :=
    mapRecords_of_core (congrArg PlannerBlock.hall hplanner)
      (congrArg (fun p : PlannerBlock => Tab.mapAll p.channels Channel.core) hplanner)
  have hself : (leaveDarkMap s).self = s.self := by
    have hclock := same_clock (w := { mapBack := true, mapFront := true }) (leaveDarkMap_frame rfl rfl s)
    simp only [State.self, State.cfg, hclock]
  have hback := settle_back (leaveDarkMap s)
  have hfront' := (settle_map_front (leaveDarkMap s)).trans hfront
  have hrecords' := (settle_mapRecords (leaveDarkMap s)).trans hrecords
  have hself' := (settle_self (leaveDarkMap s)).trans hself
  generalize settle (leaveDarkMap s) = t at *
  have hnow : t.mapNow = s.frontNext := by
    rw [State.mapNow, hfront', hrecords', hself']
    rfl
  exact ⟨by rw [hfront']; rfl, by rw [hfront', hrecords']; rfl, by rw [hfront']; rfl, by rw [hback, hnow, hfront']⟩

/-! ### SET HALL STATE -/

theorem changeHall_leaves {h : HallState} {s : State} (hd : s.planner.hall = .dark) (hne : h ≠ .dark) :
    changeHall h s = leaveDark h s := by
  cases h with
  | dark => exact absurd rfl hne
  | recess => simp [changeHall, hd]
  | session => simp [changeHall, hd]

theorem actSetHallState_named {p : List Nat} {h : HallState} (hh : hallOf (field p 0 1) = some h) (s : State) :
    actSetHallState p s =
      .accept (b1 (changeHall h s).planner.hall.code ++ b1 ((changeHall h s).stateCode 0)) (changeHall h s) := by
  simp only [actSetHallState, hh]

/-- The hall in a state that is not DARK, its channel 0 opened (R3). -/
def State.hallLit (h : HallState) (s : State) : State := openAChannel 0 s.planner.floorTag 0 { s with planner.hall := h }

theorem leaveDark_eq (h : HallState) (s : State) : leaveDark h s = leaveDarkMap (s.hallLit h) := by
  rw [leaveDark, State.hallLit]

theorem hallLit_hall (h : HallState) (s : State) : (s.hallLit h).planner.hall = h := by
  have hsame : SameBut Parts.allButHall { s with planner.hall := h } (s.hallLit h) := by
    unfold State.hallLit
    apply openAChannel_frame <;> rfl
  have hhall := same_planner_hall hsame rfl
  exact hhall

theorem hallLit_kept (h : HallState) (s : State) :
    (s.hallLit h).map.front.version = s.map.front.version ∧ (s.hallLit h).self = s.self := by
  have hsame : SameBut Parts.allButHall { s with planner.hall := h } (s.hallLit h) := by
    unfold State.hallLit
    apply openAChannel_frame <;> rfl
  have hfront := same_map_front
    (w := { Parts.settled with channels := true, openings := true, booths := true, feeds := true })
    (by unfold State.hallLit; apply openAChannel_frame <;> rfl : SameBut _ { s with planner.hall := h } (s.hallLit h)) rfl
  have hclock := same_clock hsame
  refine ⟨congrArg RMap.version hfront, ?_⟩
  simp only [State.self, State.cfg, hclock]

theorem Channel.Opened.of_hall {h : HallState} {s : State} {c : Nat} {l : Tag} {account : Nat} {ch : Channel}
    (ho : ch.Opened { s with planner.hall := h } c l account) : ch.Opened s c l account :=
  { language := ho.language, account := ho.account, holder := ho.holder, liveSeconds := ho.liveSeconds
    opening := ho.opening, everOnAir := ho.everOnAir, confirmed := ho.confirmed, state := ho.state
    found := ho.found, starved := ho.starved }

theorem hallLit_reports (h : HallState) {s : State} (hnone : s.channel 0 = none) :
    (∀ sc, s.freeSubcarrier = some sc → s.sends (s.hallLit h) 0 (.claim (.subcarrier sc) .claim 0 s.planner.floorTag))
      ∧ (s.freeSubcarrier = none → s.tells (s.hallLit h) .channelStarved [0]) :=
  openAChannel_reports s.planner.floorTag 0 (s := { s with planner.hall := h }) hnone

/-- Settles O22: leaving DARK is an opening of channel 0, after which the map's versions turn. -/
theorem leavingDarkOpensChannelZero : Obligations.LeavingDarkOpensChannelZero := by
  intro s b h hp hst hd hb hne
  have hst' : inR s.clock.station = true := by simp [inR, hst]
  have hact := actSetHallState_named (p := numbers [b]) (h := h) (by rw [field_byte]; exact hb) s.sent
  rw [changeHall_leaves (s := s.sent) hd hne, leaveDark_eq] at hact
  have hhall := hallLit_hall h s.sent
  have hframe : SameBut { Parts.settled with
      hall := true, channels := true, openings := true, booths := true, feeds := true, mapFront := true } s.sent
      (leaveDarkMap (s.sent.hallLit h)) := by
    rw [← leaveDark_eq]
    apply leaveDark_frame <;> rfl
  obtain ⟨hversion, hself⟩ := hallLit_kept h s.sent
  have hreports (hnone : s.channel 0 = none) := hallLit_reports h (s := s.sent) hnone
  have hbefore : Grows .nothing s.sent (s.sent.hallLit h) :=
    (Grows.of_same rfl rfl rfl rfl : Grows .nothing s.sent { s.sent with planner.hall := h }).trans
      (openAChannel_grows rfl rfl _ _ _ _)
  obtain ⟨ch, hch, hopened⟩ := openAChannel_opened 0 s.sent.planner.floorTag 0 { s.sent with planner.hall := h }
  have hopened := hopened.of_hall
  change (s.sent.hallLit h).channel 0 = some ch at hch
  generalize s.sent.hallLit h = u at *
  have hafter := leaveDarkMap_grows (κ := .steady) u
  obtain ⟨hversion', hrecords, hself', hback⟩ := settle_leaveDarkMap_maps u
  obtain ⟨hradiator, hhold, hplanner, -⟩ := leaveDarkMap_map u
  have hch' : (leaveDarkMap u).channel 0 = some ch := by
    rw [State.channel, hplanner]
    exact hch
  have hhall' : (leaveDarkMap u).planner.hall = h := (congrArg PlannerBlock.hall hplanner).trans hhall
  have hcode : (leaveDarkMap u).stateCode 0 = ch.state.code := by
    simp only [State.stateCode, hch']
    rfl
  rw [hcode, hhall'] at hact
  generalize leaveDarkMap u = v at *
  obtain ⟨ch', hch'', hq⟩ := done_channel hch' (s.donePort (b1 h.code ++ b1 ch.state.code))
  have hopened' := hopened.of_quiet hq
  refine ⟨_, ch', congrArg Host.Outcome.next (command_accepts hp rfl hst' hact (same_port hframe)),
    (settle_planner_hall v).trans hhall', hch'', hopened'.language, hopened'.account, hopened'.holder,
    hopened'.liveSeconds, hopened'.opening, hopened'.everOnAir, hopened'.state, fun hnone =>
    ⟨fun sc hsc => ?_, fun hno => ?_⟩, ?_, (settle_map_radiator v).trans hradiator, hversion'.trans ?_,
    (settle_map_holdCount v).trans hhold, ?_, hself'.trans hself, hback, done_frame hframe rfl rfl rfl rfl rfl rfl rfl⟩
  · obtain ⟨hstate, hsc', hwindow⟩ := hopened'.found hnone sc hsc
    have hsends := (Grows.refl (κ := .nothing) s.sent).sent_by hbefore hafter ((hreports hnone).1 sc hsc) rfl
    exact ⟨hstate, hsc', hopened'.confirmed, hwindow, sends_done_by hsends (hbefore.trans hafter.events) rfl⟩
  · obtain ⟨hstate, hsc', hwindow⟩ := hopened'.starved hnone hno
    exact ⟨hstate, hsc', hwindow, tells_done (hafter.tells ((hreports hnone).2 hno))⟩
  · rw [(state_of_quiet hq).1]
  · rw [hversion]
    rfl
  · exact hrecords

end Sys2Proof.Machine

/-! CLOSE CHANNEL: the settlement of a channel (R13, R151, R152, R154). -/

namespace Sys2Proof.Machine

/-! ### A channel's settlement -/

/-- A channel's minutes and charge booked to its account (R151). -/
def State.billBooked (bill : ChannelBill) (s : State) : State :=
  book bill.account .channelRevenue bill.charge (book bill.account .channelMinutes bill.minutes s)

theorem settleChannel_eq (c : Nat) (ch : Channel) (s : State) : settleChannel c ch s =
    if s.logOpen then enterLog (.channel (s.billOf c ch)) (s.billBooked (s.billOf c ch))
    else waitBill (s.billOf c ch) (s.billBooked (s.billOf c ch)) := by
  simp only [settleChannel, book_logOpen, State.billBooked]
  rfl

section Bill

variable (bill : ChannelBill) (s : State)

theorem billBooked_rest : (s.billBooked bill).account.log = s.account.log
    ∧ (s.billBooked bill).account.nextNumber = s.account.nextNumber
    ∧ (s.billBooked bill).account.closing = s.account.closing := by
  unfold State.billBooked
  exact ⟨(book_log _ _ _ _).trans (book_log _ _ _ _), (book_nextNumber _ _ _ _).trans (book_nextNumber _ _ _ _),
    (book_closing _ _ _ _).trans (book_closing _ _ _ _)⟩

/-- An account record with a channel's bill booked. -/
def bookedBill (r : Account) : Account :=
  bookedAccount .channelRevenue bill.charge (bookedAccount .channelMinutes bill.minutes r)

theorem billBooked_account : Tab.get (s.billBooked bill).account.accounts bill.account =
    (Tab.get s.account.accounts bill.account).map (bookedBill bill) := by
  rw [State.billBooked, book_accounts, book_accounts, Option.map_map]
  rfl

theorem billBooked_account_ne {j : Nat} (h : j ≠ bill.account) :
    Tab.get (s.billBooked bill).account.accounts j = Tab.get s.account.accounts j := by
  rw [State.billBooked, book_accounts_ne h, book_accounts_ne h]

theorem bookedBill_fields (r : Account) :
    (bookedBill bill r).channelMinutes = min (r.channelMinutes + bill.minutes) 99999999
      ∧ (bookedBill bill r).channelRevenue = min (r.channelRevenue + bill.charge) 99999999
      ∧ (bookedBill bill r).hireRevenue = r.hireRevenue ∧ (bookedBill bill r).lossRevenue = r.lossRevenue
      ∧ (bookedBill bill r).refunds = r.refunds ∧ (bookedBill bill r).balanceDue = r.balanceDue
      ∧ (bookedBill bill r).depositsHeld = r.depositsHeld ∧ (bookedBill bill r).rate = r.rate :=
  ⟨rfl, rfl, rfl, rfl, rfl, rfl, rfl, rfl⟩

theorem waitBill_rest : (waitBill bill s).account.log = s.account.log
    ∧ (waitBill bill s).account.nextNumber = s.account.nextNumber
    ∧ (waitBill bill s).account.accounts = s.account.accounts := by
  unfold waitBill
  split <;> exact ⟨rfl, rfl, rfl⟩

/-- Is there a settlement of the channel in the closing queue? -/
theorem pending_iff {c : Nat} {l : List ClosingItem} :
    l.any (ClosingItem.pendingOf c) = true ↔ ∃ x, .channel x ∈ l ∧ x.channel = c := by
  rw [List.any_eq_true]
  constructor
  · rintro ⟨i, hi, hp⟩
    cases i with
    | hire serial => simp [ClosingItem.pendingOf] at hp
    | recovery serial account minute => simp [ClosingItem.pendingOf] at hp
    | channel x => exact ⟨x, hi, by simpa [ClosingItem.pendingOf] using hp⟩
  · rintro ⟨x, hx, hc⟩
    exact ⟨_, hx, by simpa [ClosingItem.pendingOf] using hc⟩

/-- A bill merged into its channel's settlement that waits already (R154). -/
def mergedInto : ClosingItem → ClosingItem
  | .channel old => if old.channel = bill.channel then .channel (mergeBills old bill) else .channel old
  | i => i

theorem waitBill_closing : (waitBill bill s).account.closing =
    if s.account.closing.any (ClosingItem.pendingOf bill.channel) then s.account.closing.map (mergedInto bill)
    else s.account.closing ++ [.channel bill] := by
  unfold waitBill
  split
  · refine List.map_congr_left fun i _ => ?_
    cases i <;> rfl
  · rfl

end Bill

/-- What a channel's settlement makes of the accounts, the log and the closing queue (R151, R152, R154). -/
structure Settled (bill : ChannelBill) (a : AccountBlock) (isOpen : Bool) (b : AccountBlock) : Prop where
  logged : isOpen = true → b.log = a.log ++ [⟨a.nextNumber, .channel bill⟩] ∧ b.nextNumber = (a.nextNumber + 1) % 65536
    ∧ b.closing = a.closing
  waits : isOpen = false → b.log = a.log ∧ b.nextNumber = a.nextNumber
    ∧ b.closing = if a.closing.any (ClosingItem.pendingOf bill.channel) then a.closing.map (mergedInto bill)
      else a.closing ++ [.channel bill]
  booked : Tab.get b.accounts bill.account = (Tab.get a.accounts bill.account).map (bookedBill bill)
  others : ∀ j, j ≠ bill.account → Tab.get b.accounts j = Tab.get a.accounts j

theorem settleChannel_settled (c : Nat) (ch : Channel) (s : State) :
    Settled (s.billOf c ch) s.account s.logOpen (settleChannel c ch s).account := by
  rw [settleChannel_eq]
  generalize s.billOf c ch = bill
  obtain ⟨hlog, hnext, hclosing⟩ := billBooked_rest bill s
  have hself := billBooked_account bill s
  have hothers (j : Nat) (hj : j ≠ bill.account) := billBooked_account_ne bill s hj
  generalize s.billBooked bill = u at *
  cases hopen : s.logOpen with
  | true =>
    rw [if_pos rfl]
    exact
      { logged := fun _ => by rw [enterLog_log, enterLog_nextNumber, enterLog_closing, hlog, hnext, hclosing]; exact ⟨rfl, rfl, rfl⟩
        waits := fun h => absurd h (by decide)
        booked := by rw [enterLog_accounts]; exact hself
        others := by rw [enterLog_accounts]; exact hothers }
  | false =>
    rw [if_neg (by decide)]
    obtain ⟨hlog', hnext', haccounts⟩ := waitBill_rest bill u
    exact
      { logged := fun h => absurd h (by decide)
        waits := fun _ => by rw [hlog', hnext', waitBill_closing, hlog, hnext, hclosing]; exact ⟨rfl, rfl, rfl⟩
        booked := by rw [haccounts]; exact hself
        others := by rw [haccounts]; exact hothers }

/-! ### A channel that closes -/

/-- A bill reads of the channel its history, and of the state its clock and its accounts. -/
theorem billOf_congr {s t : State} (hclock : t.clock = s.clock) (haccount : t.account = s.account) {ch ch' : Channel}
    (h : ch'.history = ch.history) (c : Nat) : t.billOf c ch' = s.billOf c ch := by
  have hlive := congrArg Channel.liveSeconds h
  have hacc := congrArg Channel.account h
  have hopening := congrArg Channel.opening h
  simp only at hlive hacc hopening
  simp only [State.billOf, hclock, haccount, hlive, hacc, hopening]

/-- A channel that has been on air makes its settlement as it closes (R13, R151). -/
theorem closeAChannel_settled {c : Nat} {s : State} {ch : Channel} (hc : s.channel c = some ch) (hair : ch.everOnAir = true) :
    Settled (s.billOf c ch) s.account s.logOpen (closeAChannel c s).account := by
  obtain ⟨ch', hch', hh⟩ := (channelEnded_billed c s).some hc
  have hended := channelEnded_same c s
  have haccount := same_account (w := Parts.channelEnded) hended rfl
  have hclock := same_clock (w := Parts.channelEnded) hended
  have hair' : ch'.everOnAir = true := (congrArg Channel.everOnAir hh).trans hair
  rw [closeAChannel_account, closeAccount, hch']
  simp only [hair', if_true]
  have h := settleChannel_settled c ch' (s.channelEnded c)
  rw [billOf_congr hclock haccount hh, haccount] at h
  rwa [State.logOpen, haccount, ← State.logOpen] at h

theorem actCloseChannel_passed {p : List Nat} {c : Nat} {s : State} {ch : Channel} (hf : field p 0 1 = c) (h1 : 1 ≤ c)
    (h2 : c ≤ 31) (hc : s.channel c = some ch) : actCloseChannel p s = .accept [] (closeAChannel c s) := by
  simp only [actCloseChannel, hf]
  rw [require_of (by simp [within, h1, h2]), require_of (by simp [hc])]

/-- Settles O27: until its settlement a channel that closes keeps its history, and after it no account moves. -/
theorem closeChannelSettles : Obligations.CloseChannelSettles := by
  intro s b ch hp hst h1 h2 hc bill
  have hst' : inR s.clock.station = true := by simp [inR, hst]
  have hact := actCloseChannel_passed (p := numbers [b]) (s := s.sent) (field_byte b) h1 h2 hc
  have hframe : SameBut { Parts.settled with
      channels := true, openings := true, trunks := true, booths := true, desks := true, exported := true
      feeds := true, contexts := true, account := true } s.sent (closeAChannel b.toNat s.sent) := by
    apply closeAChannel_frame <;> rfl
  have hnone := closeAChannel_channel_self b.toNat s.sent
  have hunaired (h : ch.everOnAir = false) : (closeAChannel b.toNat s.sent).account = s.account :=
    closeAChannel_account_unaired fun ch' hch' => by
      obtain rfl := Option.some.inj (hc.symm.trans hch')
      exact h
  have hsettled (h : ch.everOnAir = true) : Settled bill s.account s.logOpen (closeAChannel b.toNat s.sent).account :=
    closeAChannel_settled (s := s.sent) hc h
  refine ⟨_, congrArg Host.Outcome.next (command_accepts hp rfl hst' hact (same_port hframe)), ?_⟩
  generalize closeAChannel b.toNat s.sent = u at *
  have hchannel : (settle u).channel b.toNat = none := (settle_quiet u).toCalm.channel_none hnone
  have haccount := settle_account u
  have hdone := done_frame (port := s.donePort []) hframe rfl rfl rfl rfl rfl rfl rfl
  generalize settle u = v at *
  refine ⟨hchannel, rfl, fun h => haccount.trans (hunaired h), fun h hopen => ?_, fun h hfull => ?_, fun r h hr => ⟨?_, ?_⟩,
    fun j hj => ?_, rfl, hdone⟩
  · simp only [haccount]
    exact (hsettled h).logged hopen
  · simp only [haccount]
    obtain ⟨hlog, hnext, hclosing⟩ := (hsettled h).waits hfull
    refine ⟨hlog, hnext, fun hno => ?_, fun x hx hxc => ?_⟩
    · rw [hclosing, if_neg]
      rw [pending_iff]
      rintro ⟨x, hx, hxc⟩
      exact hno x hx hxc
    · have hpending : s.account.closing.any (ClosingItem.pendingOf bill.channel) = true := pending_iff.mpr ⟨x, hx, hxc⟩
      rw [hclosing, if_pos hpending]
      refine List.map_congr_left fun i _ => ?_
      cases i <;> rfl
  · change satMul bill.minutes (((Tab.get s.account.accounts ch.account).map Account.rate).getD 0) = _
    rw [hr]
    rfl
  · simp only [haccount]
    have hbooked := (hsettled h).booked
    rw [show Tab.get s.account.accounts bill.account = some r from hr] at hbooked
    exact ⟨bookedBill bill r, hbooked, bookedBill_fields bill r⟩
  · simp only [haccount]
    cases hair : ch.everOnAir with
    | true => exact (hsettled hair).others j hj
    | false => rw [hunaired hair]

end Sys2Proof.Machine

/-! ASSIGN OUTPUT (R52, R54). -/

namespace Sys2Proof.Machine

/-- A booth with a channel, or none, at an output (R52). -/
def Booth.withOutput (o : Output) (c : Option Nat) (bo : Booth) : Booth :=
  match o with
  | .a => { bo with outputA := c }
  | .b => { bo with outputB := c }

/-- A channel whose first booth is set where there is none (R54). -/
def Channel.firstAt (b : Nat) (ch : Channel) : Channel :=
  { ch with firstBooth := if ch.firstBooth = 0 then b else ch.firstBooth }

/-- The records an assignment writes. -/
def State.outputPut (b : Nat) (o : Output) (c : Option Nat) (s : State) : State :=
  match c with
  | some c => modChannel c (Channel.firstAt b) (modBooth b (Booth.withOutput o (some c)) s)
  | none => modBooth b (Booth.withOutput o none) s

section Assign

variable (b : Nat) (o : Output) (c : Option Nat) (s : State)

theorem assign_calm : Calm (s.outputPut b o c) (assign b o c s) := by
  cases c with
  | none => exact (recheckOutputs_quiet b (modBooth b (Booth.withOutput o none) s)).toCalm
  | some k =>
    exact ((recomputeChannel_quiet k (modChannel k (Channel.firstAt b) (modBooth b (Booth.withOutput o (some k)) s))).trans
      (recheckOutputs_quiet b _)).toCalm

theorem outputPut_boothRec : (s.outputPut b o c).boothRec b = (s.boothRec b).map (Booth.withOutput o c) := by
  cases c <;> exact modBooth_boothRec_self b _ s

theorem outputPut_boothRec_ne {j : Nat} (h : j ≠ b) : (s.outputPut b o c).boothRec j = s.boothRec j := by
  cases c <;> exact modBooth_boothRec_ne h _ s

theorem outputPut_channel (k : Nat) : (s.outputPut b o (some k)).channel k = (s.channel k).map (Channel.firstAt b) :=
  modChannel_channel_self k _ _

end Assign

/-- The booths of a state that settles under another port. -/
theorem done_boothRec (u : State) (port : PortBlock) (b : Nat) :
    ({ settle u with port := port } : State).boothRec b = u.boothRec b := by
  rw [← settle_boothRec u b]
  generalize settle u = v
  rfl

/-- The output an ASSIGN OUTPUT names. -/
def outputNamed (a : Nat) : Output := if a = 0 then .a else .b

/-- The channel an ASSIGN OUTPUT names, or none. -/
def channelNamed (x : Nat) : Option Nat := if x = 255 then none else some x

/-- A booth's other output. -/
def Booth.otherOutput (bo : Booth) (o : Output) : Option Nat := if o = .a then bo.outputB else bo.outputA

section Command

variable {p : List Nat} {s : State} {b x a : Nat} {bo : Booth} (hb : field p 0 1 = b) (hx : field p 2 1 = x)
  (ha : field p 1 1 = a) (hbo : s.boothRec b = some bo) (h1 : 1 ≤ b) (h8 : b ≤ 8) (ha1 : a ≤ 1)
  (hxr : x = 255 ∨ (1 ≤ x ∧ x ≤ 31))

include hb hx ha hbo h1 h8 ha1 hxr

theorem actAssignOutput_tested : actAssignOutput p s =
    require (!(bo.holding.isSome && bo.selected = outputNamed a)
        && !((channelNamed x).isSome && bo.otherOutput (outputNamed a) = channelNamed x)) .state
      (.accept (bOpt 1 b1 (((assign b (outputNamed a) (channelNamed x) s).boothRec b).getD bo).outputA
          ++ bOpt 1 b1 (((assign b (outputNamed a) (channelNamed x) s).boothRec b).getD bo).outputB
          ++ b1 (((assign b (outputNamed a) (channelNamed x) s).boothRec b).getD bo).selected.code)
        (assign b (outputNamed a) (channelNamed x) s)) := by
  have hrange : (within 1 b 8 && decide (a ≤ 1) && (decide (x = 255) || within 1 x 31)) = true := by
    rcases hxr with rfl | ⟨hx1, hx2⟩
    · simp [within, h1, h8, ha1]
    · simp [within, h1, h8, ha1, hx1, hx2]
  simp only [actAssignOutput, hb, hx, ha, hbo]
  rw [require_of hrange]
  rfl

end Command

/-- What a booth's record keeps as its relay moves. -/
theorem booth_of_quiet {bo bo' : Booth} (hq : bo'.quiet = bo.quiet) :
    bo'.outputA = bo.outputA ∧ bo'.outputB = bo.outputB ∧ bo'.selected = bo.selected ∧ bo'.desks = bo.desks
      ∧ bo'.holding = bo.holding ∧ bo'.mode = bo.mode := by
  have hA := congrArg Booth.outputA hq
  have hB := congrArg Booth.outputB hq
  have hsel := congrArg Booth.selected hq
  have hdesks := congrArg Booth.desks hq
  have hhold := congrArg Booth.holding hq
  have hmode := congrArg Booth.mode hq
  exact ⟨hA, hB, hsel, hdesks, hhold, hmode⟩

theorem withOutput_fields (o : Output) (c : Option Nat) (bo : Booth) :
    (bo.withOutput o c).outputA = (if o = .a then c else bo.outputA)
      ∧ (bo.withOutput o c).outputB = (if o = .a then bo.outputB else c)
      ∧ (bo.withOutput o c).selected = bo.selected ∧ (bo.withOutput o c).desks = bo.desks
      ∧ (bo.withOutput o c).holding = bo.holding ∧ (bo.withOutput o c).mode = bo.mode := by
  cases o <;> exact ⟨rfl, rfl, rfl, rfl, rfl, rfl⟩

/-- Settles O28: what the assignment writes, and what the pedigrees and the languages then move leaves it. -/
theorem assignOutput : Obligations.AssignOutput := by
  intro s params bo hp hst hl b x o c other hbo h1 h8 ha hxr
  have hact := actAssignOutput_tested (p := numbers params) (s := s.sent) (bo := bo) rfl rfl rfl hbo h1 h8 ha hxr
  change actAssignOutput (numbers params) s.sent = require (!(bo.holding.isSome && decide (bo.selected = o))
    && !(c.isSome && decide (other = c))) .state (.accept (bOpt 1 b1 (((assign b o c s.sent).boothRec b).getD bo).outputA
      ++ bOpt 1 b1 (((assign b o c s.sent).boothRec b).getD bo).outputB
      ++ b1 (((assign b o c s.sent).boothRec b).getD bo).selected.code) (assign b o c s.sent)) at hact
  refine ⟨fun hbad => ?_, fun hfree hnew => ?_⟩
  · refine congrArg Host.Outcome.next (command_refuses hp hl hst (hact.trans (require_of_not ?_ _ _)))
    rcases hbad with ⟨h, h'⟩ | ⟨h, h'⟩ <;> simp [h, h']
  · rw [require_of (by simpa [not_and, imp_iff_not_or] using And.intro hfree hnew)] at hact
    have hframe : SameBut { Parts.settled with channels := true, outputs := true, booths := true, feeds := true } s.sent
        (assign b o c s.sent) := by
      apply assign_frame <;> rfl
    have hcalm := assign_calm b o c s.sent
    have hself : (s.sent.outputPut b o c).boothRec b = some (bo.withOutput o c) := by
      rw [outputPut_boothRec, show s.sent.boothRec b = some bo from hbo]
      rfl
    obtain ⟨bo', hbo', hq⟩ := hcalm.booth_some hself
    rw [hbo', Option.getD_some] at hact
    have hothers (j : Nat) (y : Booth) (hj : j ≠ b) (hy : s.boothRec j = some y) :=
      hcalm.booth_some ((outputPut_boothRec_ne b o c s.sent hj).trans hy)
    have hchannels (k : Nat) (ch : Channel) (hk : c = some k) (hch : s.channel k = some ch) :
        ∃ ch', (assign b o c s.sent).channel k = some ch' ∧ ch'.quiet = (ch.firstAt b).quiet := by
      refine hcalm.channel_some ?_
      rw [hk, outputPut_channel, show s.sent.channel k = some ch from hch]
      rfl
    obtain ⟨hA, hB, hsel, hdesks, hhold, hmode⟩ := booth_of_quiet hq
    obtain ⟨hA', hB', hsel', hdesks', hhold', hmode'⟩ := withOutput_fields o c bo
    generalize assign b o c s.sent = u at *
    refine ⟨_, bo', congrArg Host.Outcome.next (command_accepts hp hl hst hact (same_port hframe)),
      (done_boothRec _ _ _).trans hbo', hA.trans hA', hB.trans hB', hsel.trans hsel', hdesks.trans hdesks', hhold.trans hhold',
      hmode.trans hmode', rfl, fun j y hj hy => ?_, fun k ch hk hch => ?_, done_frame hframe rfl rfl rfl rfl rfl rfl rfl⟩
    · obtain ⟨y', hy', hqy⟩ := hothers j y hj hy
      obtain ⟨hyA, hyB, -, -, hyH, -⟩ := booth_of_quiet hqy
      exact ⟨y', (done_boothRec _ _ _).trans hy', hyA, hyB, hyH⟩
    · obtain ⟨ch', hch', hqc⟩ := hchannels k ch hk hch
      obtain ⟨ch'', hch'', hqc'⟩ := done_channel hch' (s.donePort (bOpt 1 b1 bo'.outputA ++ bOpt 1 b1 bo'.outputB ++ b1 bo'.selected.code))
      have hfirst := congrArg Channel.firstBooth (hqc'.trans hqc)
      exact ⟨ch'', hch'', hfirst⟩

end Sys2Proof.Machine

/-! SELECT RELAY (R56 to R58). -/

namespace Sys2Proof.Machine

/-! ### A booth takes an input -/

/-- The relay status a selection begins in (R58). -/
def selectedStatus : Selection → RelayStatus
  | .own _ => .relayed
  | .remote _ _ => .waiting
  | _ => .none

/-- The wait a selection begins with (R58). -/
def selectedWait : Selection → Option Nat
  | .remote _ _ => some 3000
  | _ => none

/-- The source of the booth's input under a selection (R58). -/
def selectedSource : Selection → Source
  | .floor => .floor
  | .own c => .bus c
  | _ => .none

/-- A booth that takes a selection (R58). -/
def Booth.taking (src : Selection) (bo : Booth) : Booth :=
  { bo with input := src, relay := selectedStatus src, sourceTrunk := none, answerWait := selectedWait src }

/-- The booth's records and route as it leaves its old source and takes the new one. -/
def State.inputTaken (b : Nat) (old src : Selection) (s : State) : State :=
  setRoute (inputOutput b) (selectedSource src) (modBooth b (Booth.taking src) (sendRelayRelease b old s))

/-- A remote source is asked for (R58). -/
def askSource (b : Nat) (src : Selection) (s : State) : State :=
  match src with
  | .remote q c => enqueueFrame q (.relayRequest c b) s
  | _ => s

section Select

variable {b : Nat} {src : Selection} {s : State} {bo : Booth}

theorem applySelection_same (hb : s.boothRec b = some bo) (h : bo.hasInput src = true) : applySelection b src s = s := by
  simp only [applySelection, hb, h, if_true]

theorem applySelection_eq (hb : s.boothRec b = some bo) (h : bo.hasInput src = false) :
    applySelection b src s = recomputeBooths [b] (askSource b src (s.inputTaken b bo.input src)) := by
  simp only [applySelection, hb, h, Bool.false_eq_true, if_false]
  cases src <;> rfl

theorem askSource_grows (b : Nat) (src : Selection) (s : State) : Grows .steady s (askSource b src s) := by
  unfold askSource
  split
  · exact enqueueFrame_grows _ _ (by simp [Payload.key]) _
  · exact .refl s

/-- The booth's state after its selection, before the pedigrees follow. -/
def State.selected (b : Nat) (old src : Selection) (s : State) : State := askSource b src (s.inputTaken b old src)

theorem sendRelayRelease_rest (b : Nat) (old : Selection) (s : State) :
    (sendRelayRelease b old s).planner = s.planner ∧ (sendRelayRelease b old s).feed = s.feed
      ∧ (sendRelayRelease b old s).booth = s.booth ∧ (sendRelayRelease b old s).panel = s.panel := by
  cases old <;> simp [sendRelayRelease]

theorem askSource_rest (b : Nat) (src : Selection) (s : State) :
    (askSource b src s).planner = s.planner ∧ (askSource b src s).feed = s.feed
      ∧ (askSource b src s).booth = s.booth ∧ (askSource b src s).panel = s.panel := by
  cases src <;> simp [askSource]

/-- What a selection leaves of the records: all but the booth's. -/
theorem selected_records (b : Nat) (old src : Selection) (s : State) :
    (s.selected b old src).planner = s.planner ∧ (s.selected b old src).feed = s.feed
      ∧ (s.selected b old src).booth = (modBooth b (Booth.taking src) s).booth := by
  obtain ⟨hplanner, hfeed, hbooth, -⟩ := sendRelayRelease_rest b old s
  obtain ⟨hplanner', hfeed', hbooth', -⟩ := askSource_rest b src (s.inputTaken b old src)
  simp only [State.inputTaken, setRoute_planner, setRoute_feed, setRoute_booth] at hplanner' hfeed' hbooth'
  refine ⟨hplanner'.trans hplanner, hfeed'.trans hfeed, hbooth'.trans ?_⟩
  simp only [modBooth, hbooth]

theorem selected_boothRec (b : Nat) (old src : Selection) (s : State) :
    (s.selected b old src).boothRec b = (s.boothRec b).map (Booth.taking src) := by
  rw [State.boothRec, (selected_records b old src s).2.2]
  exact modBooth_boothRec_self b _ s

theorem selected_boothRec_ne {j : Nat} (h : j ≠ b) (old src : Selection) (s : State) :
    (s.selected b old src).boothRec j = s.boothRec j := by
  rw [State.boothRec, (selected_records b old src s).2.2]
  exact modBooth_boothRec_ne h _ s

theorem selected_route (b : Nat) (old src : Selection) (s : State) :
    (s.selected b old src).route (inputOutput b) = selectedSource src := by
  obtain ⟨-, -, -, hpanel⟩ := askSource_rest b src (s.inputTaken b old src)
  exact (route_congr (congrArg PanelBlock.routes hpanel) _).trans (setRoute_route_self _ _ _)

theorem selected_route_ne {o : Nat} (h : o ≠ inputOutput b) (old src : Selection) (s : State) :
    (s.selected b old src).route o = s.route o := by
  obtain ⟨-, -, -, hpanel⟩ := askSource_rest b src (s.inputTaken b old src)
  obtain ⟨-, -, -, hpanel'⟩ := sendRelayRelease_rest b old s
  refine (route_congr (congrArg PanelBlock.routes hpanel) _).trans ((setRoute_route_ne h _ _).trans ?_)
  exact route_congr (congrArg PanelBlock.routes hpanel') _

theorem inputTaken_grows (κ : Keep) (b : Nat) (old src : Selection) (s : State) : Grows κ (sendRelayRelease b old s) (s.inputTaken b old src) :=
  (modBooth_grows _ _ _).trans (setRoute_grows _ _ _)

/-- What a selection sends (R58). -/
theorem selected_sends (b : Nat) (old src : Selection) (s : State) :
    Grows .steady s (s.selected b old src)
      ∧ (∀ q c, src = .remote q c → s.sends (s.selected b old src) q (.relayRequest c b))
      ∧ ∀ q c, old = .remote q c → s.sends (s.selected b old src) q (.relayRelease c b) := by
  have hrel : Grows .steady s (sendRelayRelease b old s) := sendRelayRelease_grows _ _ _
  have hmid := inputTaken_grows .steady b old src s
  have hask := askSource_grows b src (s.inputTaken b old src)
  refine ⟨(hrel.trans hmid).trans hask, fun q c hq => ?_, fun q c hq => ?_⟩
  · subst hq
    exact (hrel.trans hmid).sends_from (enqueueFrame_sends _ _ _)
  · subst hq
    exact (hmid.trans hask).sends hrel rfl (enqueueFrame_sends _ _ _)

theorem selected_frame {w : Parts} (h1 : w.events = true) (h2 : w.booths = true) (h3 : w.lineQueue = true)
    (h4 : w.outbound = true) (h5 : w.routes = true) (b : Nat) (old src : Selection) (s : State) :
    SameBut w s (s.selected b old src) := by
  have hask : SameBut w (s.inputTaken b old src) (s.selected b old src) := by
    unfold State.selected askSource
    split
    · exact enqueueFrame_frame h1 h3 _ _ _
    · rfl
  refine hask.trans ((setRoute_frame h4 h5 _ _ _).trans ((modBooth_frame h2 b (Booth.taking src) (fun _ => rfl) _).trans ?_))
  exact sendRelayRelease_frame h1 h3 b old s

/-- Where no channel and no feed takes its pedigree from the booth, none is recomputed. -/
theorem recomputeBooths_mute (h : s.boothMute b) : recomputeBooths [b] s = s := by
  obtain ⟨hch, hfeeds⟩ := h
  have hstale : s.stale (fun _ ch => ch.heldByOne [b]) = [] := by
    have hnone : s.planner.channels.filter
        (fun e => e.2.heldByOne [b] && decide (s.channelPedigree e.1 e.2 ≠ e.2.pedigree)) = [] := by
      rw [List.filter_eq_nil_iff]
      intro e he
      simp [hch e he]
    simp only [State.stale, hnone]
    rfl
  simp only [recomputeBooths, recompute, hstale, hfeeds]
  rfl

theorem selected_mute (h : s.boothMute b) (old src : Selection) : (s.selected b old src).boothMute b := by
  obtain ⟨hch, hfeeds⟩ := h
  obtain ⟨hplanner, hfeed, -⟩ := selected_records b old src s
  refine ⟨by rw [hplanner]; exact hch, ?_⟩
  have hreplaces (k : Nat) (x : Feed) : (s.selected b old src).replaces k x = s.replaces k x := by
    have hany : ((s.selected b old src).boothRec x.booth).any (fun bo => bo.feed = some k)
        = (s.boothRec x.booth).any fun bo => bo.feed = some k := by
      by_cases hx : x.booth = b
      · rw [hx, selected_boothRec, Option.any_map]
        rfl
      · rw [selected_boothRec_ne hx]
    simp only [State.replaces, hany]
  refine Eq.trans ?_ hfeeds
  simp only [State.feedsOf, hfeed, hreplaces]

end Select

/-! ### SELECT RELAY -/

section Command

variable {p : List Nat} {s : State} {b : Nat} {bo : Booth} {src : Selection} (hf : field p 0 1 = b)
  (hb : s.boothRec b = some bo) (hsrc : selectionOf p = some src)
include hf hb hsrc

theorem actSelectRelay_refused (h : s.accepts b bo src = false) : actSelectRelay p s = .refuse .range := by
  simp only [actSelectRelay, hf, hb, hsrc]
  exact require_of_not h _ _

theorem actSelectRelay_passed (h : s.accepts b bo src = true) {bo' : Booth}
    (hb' : (applySelection b src s).boothRec b = some bo') :
    actSelectRelay p s = .accept (bSelection bo'.input ++ b1 bo'.relay.code) (applySelection b src s) := by
  simp only [actSelectRelay, hf, hb, hsrc]
  rw [require_of h, hb']
  rfl

end Command

theorem applySelection_boothRec {b : Nat} {s : State} {bo : Booth} (hb : s.boothRec b = some bo) (src : Selection) :
    ∃ bo', (applySelection b src s).boothRec b = some bo' := by
  have hframe : SameBut { Parts.settled with channels := true, booths := true, feeds := true } s (applySelection b src s) := by
    apply applySelection_frame <;> rfl
  have hget := congrArg (Tab.get · b) (same_booths_plan hframe rfl)
  simp only [tab_get_mapAll, show Tab.get s.booth.booths b = some bo from hb] at hget
  obtain ⟨bo', hbo', -⟩ := Option.map_eq_some_iff.mp hget
  exact ⟨bo', hbo'⟩

/-- Settles O29: a booth that speaks into nothing has no pedigree to follow, so that its selection is the records and
frames it writes itself. -/
theorem selectRelay : Obligations.SelectRelay := by
  intro s params bo src hp hst hl b hb hsrc
  have hst' : inR s.clock.station = true := by simp [inR, hst]
  have hb' : s.sent.boothRec b = some bo := hb
  have hframe : SameBut { Parts.settled with channels := true, booths := true, feeds := true } s.sent
      (applySelection b src s.sent) := by
    apply applySelection_frame <;> rfl
  refine ⟨fun hbad => congrArg Host.Outcome.next (command_refuses hp hl hst' (actSelectRelay_refused rfl hb' hsrc hbad)),
    fun hok => ⟨?_, fun hmute hnew => ?_, fun hsame hrel => ?_⟩⟩
  · obtain ⟨bo', hbo'⟩ := applySelection_boothRec hb' src
    have hact := actSelectRelay_passed rfl hb' hsrc hok hbo'
    generalize applySelection b src s.sent = u at *
    exact ⟨_, bo', congrArg Host.Outcome.next (command_accepts hp hl hst' hact (same_port hframe)),
      (done_boothRec _ _ _).trans hbo', rfl, done_frame hframe rfl rfl rfl rfl rfl rfl rfl⟩
  · have hfresh : bo.hasInput src = false := by
      by_contra h
      rw [Bool.not_eq_false] at h
      simp only [Booth.hasInput, Bool.and_eq_true, Bool.or_eq_true, decide_eq_true_eq] at h
      exact hnew ⟨h.1.symm, h.2⟩
    have heq : applySelection b src s.sent = s.sent.selected b bo.input src := by
      rw [applySelection_eq hb' hfresh]
      exact recomputeBooths_mute (selected_mute (s := s.sent) hmute bo.input src)
    obtain ⟨hplanner, hfeed, -⟩ := selected_records b bo.input src s.sent
    have hself : (s.sent.selected b bo.input src).boothRec b = some (bo.taking src) := by
      rw [selected_boothRec, hb']
      rfl
    have hothers (j : Nat) (hj : j ≠ b) := selected_boothRec_ne hj bo.input src s.sent
    have hroute := selected_route b bo.input src s.sent
    have hroutes (o : Nat) (ho : o ≠ inputOutput b) := selected_route_ne ho bo.input src s.sent
    obtain ⟨hgrows, hrequest, hrelease⟩ := selected_sends b bo.input src s.sent
    have hact := actSelectRelay_passed rfl hb' hsrc hok (heq ▸ hself)
    have hsame : SameBut { Parts.settled with booths := true } s.sent (s.sent.selected b bo.input src) :=
      selected_frame rfl rfl rfl rfl rfl b bo.input src s.sent
    rw [heq] at hact
    generalize s.sent.selected b bo.input src = u at *
    refine ⟨_, congrArg Host.Outcome.next (command_accepts hp hl hst' hact (same_port hsame)),
      (done_boothRec _ _ _).trans (hself.trans ?_), ?_, fun j hj => (done_boothRec _ _ _).trans (hothers j hj),
      fun o ho hfloor => ?_, fun q c hq => sends_done (hrequest q c hq) hgrows rfl,
      fun q c hq => sends_done (hrelease q c hq) hgrows rfl, done_frame hsame rfl rfl rfl rfl rfl rfl rfl⟩
    · cases src <;> rfl
    · have hsettled := (settle_route (inputOutput_ne_floor b) u).trans hroute
      generalize settle u = v at hsettled ⊢
      refine Eq.trans (show _ = selectedSource src from hsettled) ?_
      cases src <;> rfl
    · have hsettled := (settle_route hfloor u).trans (hroutes o ho)
      generalize settle u = v at hsettled ⊢
      exact hsettled
  · have hhas : bo.hasInput src = true := by
      rcases hrel with h | h <;> simp [Booth.hasInput, hsame, h]
    have heq := applySelection_same hb' hhas
    have hact := actSelectRelay_passed rfl hb' hsrc hok (heq ▸ hb')
    rw [heq] at hact
    exact ⟨_, congrArg Host.Outcome.next (command_accepts hp hl hst' hact rfl), rfl,
      done_frame rfl rfl rfl rfl rfl rfl rfl rfl⟩

end Sys2Proof.Machine

/-! The frame on the line (R160, R161, R163): what the queueing of frames leaves of it. -/

namespace Sys2Proof.Machine

/-- The frames of the transmit queue that are on the line. -/
def onLine (l : List TxFrame) : List TxFrame := l.filter fun f => f.sending.isSome

theorem mem_onLine {l : List TxFrame} {f : TxFrame} : f ∈ onLine l ↔ f ∈ l ∧ f.sending.isSome = true := List.mem_filter

theorem frameOut_eq (s : State) : s.frameOut = (onLine s.line.queue).head? := by
  rw [State.frameOut, onLine, List.head?_filter]

theorem count_onLine {f : TxFrame} (h : f.sending.isSome = true) (l : List TxFrame) : (onLine l).count f = l.count f :=
  List.count_filter h

/-! ### Frames handed over -/

theorem filter_dropLastMatch {α : Type} {p q : α → Bool} (h : ∀ x, p x = true → q x = false) (l : List α) :
    (dropLastMatch p l).filter q = l.filter q := by
  have hdrop (l : List α) : (l.eraseP p).filter q = l.filter q := by
    induction l with
    | nil => rfl
    | cons x rest ih =>
      by_cases hx : p x = true
      · rw [List.eraseP_cons_of_pos hx, List.filter_cons_of_neg (by simp [h x hx])]
      · rw [List.eraseP_cons_of_neg hx, List.filter_cons, List.filter_cons, ih]
  rw [dropLastMatch, List.filter_reverse, hdrop, List.filter_reverse, List.reverse_reverse]

/-- A frame handed over moves no frame that is on the line. -/
theorem enqueueFrame_onLine (dest : Nat) (p : Payload) (s : State) :
    onLine (enqueueFrame dest p s).line.queue = onLine s.line.queue := by
  have hmap (l : List TxFrame) :
      onLine (l.map fun g => if supersededBy p g then ({ dest, payload := p, sending := none, noAcks := 0 } : TxFrame) else g)
        = onLine l := by
    induction l with
    | nil => rfl
    | cons g rest ih =>
      simp only [onLine] at ih
      by_cases hg : supersededBy p g = true
      · have hnone : g.sending.isSome = false := by
          simp only [supersededBy, Bool.and_eq_true] at hg
          simpa using hg.2
        simp [onLine, hg, hnone, ih]
      · simp [onLine, hg, ih, List.filter_cons]
  have happend (l : List TxFrame) :
      onLine (l ++ [({ dest, payload := p, sending := none, noAcks := 0 } : TxFrame)]) = onLine l := by
    simp [onLine]
  unfold enqueueFrame
  dsimp only
  split
  · rfl
  split
  · exact hmap _
  split
  · exact happend _
  split
  · rw [queueEvent_line]
    refine (happend _).trans (filter_dropLastMatch (fun x hx => ?_) _)
    simp only [Bool.and_eq_true] at hx
    simpa using hx.2
  · rw [queueEvent_line]

theorem queueNotice_onLine (c : Nat) (s : State) : onLine (queueNotice c s).line.queue = onLine s.line.queue := by
  unfold queueNotice
  split
  · rfl
  · exact enqueueFrame_onLine _ _ _

theorem settle_onLine (s : State) : onLine (settle s).line.queue = onLine s.line.queue := by
  rw [settle_queue]
  refine (forEach_keeps (Q := fun u => onLine u.line.queue = onLine (settledDesks s).line.queue)
    (fun c u hu => (queueNotice_onLine c u).trans hu) _ rfl).trans ?_
  rw [same_line_queue (settledDesks_frame s) rfl]

theorem settle_frameOut (s : State) : (settle s).frameOut = s.frameOut := by
  rw [frameOut_eq, settle_onLine, ← frameOut_eq]

theorem settle_count {g : TxFrame} (h : g.sending.isSome = true) (s : State) :
    (settle s).line.queue.count g = s.line.queue.count g := by
  rw [← count_onLine h, settle_onLine, count_onLine h]

/-! ### Frames that no notice takes back -/

/-- Frames without a key go before notices (R168). -/
theorem precedence_of_keyless {p : Payload} (h : p.key = none) : p.precedence ≤ 2 := by
  cases p <;> simp_all [Payload.key, Payload.precedence, Payload.code, precedenceOf]

theorem mem_dropLastMatch_of_neg {α : Type} {p : α → Bool} {l : List α} {a : α} (h : a ∈ l) (hp : p a = false) :
    a ∈ dropLastMatch p l := by
  rw [dropLastMatch, List.mem_reverse, List.mem_eraseP_of_neg (by simp [hp])]
  exact List.mem_reverse.mpr h

/-- A frame without a key stays as a notice is handed over. -/
theorem queueNotice_keeps {f : TxFrame} (hk : f.payload.key = none) (c : Nat) {s : State} (hf : f ∈ s.line.queue) :
    f ∈ (queueNotice c s).line.queue := by
  have hnotice (p : Payload) (u : State) (hp : p.precedence = 3) (hu : f ∈ u.line.queue) :
      f ∈ (enqueueFrame 0 p u).line.queue := by
    have hsup : supersededBy p f = false := by
      cases hkey : p.key with
      | none => simp [supersededBy, hkey]
      | some k => simp [supersededBy, hk, hkey]
    unfold enqueueFrame
    dsimp only
    split
    · exact hu
    split
    · exact List.mem_map.mpr ⟨f, hu, by rw [hsup]; rfl⟩
    split
    · exact List.mem_append_left _ hu
    split
    · rw [queueEvent_line]
      refine List.mem_append_left _ (mem_dropLastMatch_of_neg hu ?_)
      have hprec := precedence_of_keyless hk
      simp only [hp, Bool.and_eq_false_iff, decide_eq_false_iff_not]
      omega
    · rw [queueEvent_line]
      exact hu
  unfold queueNotice
  split
  · exact hf
  · exact hnotice _ _ rfl hf

theorem settle_keeps_frame {f : TxFrame} (hk : f.payload.key = none) {s : State} (hf : f ∈ s.line.queue) :
    f ∈ (settle s).line.queue := by
  rw [settle_queue]
  refine forEach_keeps (Q := fun u => f ∈ u.line.queue) (fun c u hu => queueNotice_keeps hk c hu) _ ?_
  rw [same_line_queue (settledDesks_frame s) rfl]
  exact hf

end Sys2Proof.Machine

/-! Own frames (R159 to R163, R165, R166, R168): the start and the end of a frame. -/

namespace Sys2Proof.Machine

/-! ### The head of the queue (R168) -/

theorem precedence_lt (p : Payload) : p.precedence < 5 := by
  cases p <;> simp [Payload.precedence, Payload.code, precedenceOf]

theorem findSome?_range {α : Type} {n : Nat} {f : Nat → Option α} {a : α} (h : (List.range n).findSome? f = some a) :
    ∃ p, p < n ∧ f p = some a ∧ ∀ p' < p, f p' = none := by
  obtain ⟨l, p, r, hsplit, hp, hbefore⟩ := List.findSome?_eq_some_iff.mp h
  have hlen : p = l.length := by
    have hget : (List.range n)[l.length]? = some p := by rw [hsplit]; simp
    rw [List.getElem?_eq_some_iff] at hget
    obtain ⟨hlt, hget⟩ := hget
    simpa using hget.symm
  have hmem : p ∈ List.range n := by rw [hsplit]; simp
  refine ⟨p, List.mem_range.mp hmem, hp, fun p' hp' => hbefore p' ?_⟩
  have hget : (List.range n)[p']? = some p' := List.getElem?_range (lt_trans hp' (List.mem_range.mp hmem))
  rw [hsplit, List.getElem?_append_left (by omega)] at hget
  exact List.mem_of_getElem? hget

/-- The frame that goes first is the oldest of the lowest precedence number. -/
theorem headFrame_split {l : List TxFrame} {f : TxFrame} (h : headFrame l = some f) :
    ∃ before after, l = before ++ f :: after ∧ (∀ g ∈ before, f.payload.precedence < g.payload.precedence)
      ∧ ∀ g ∈ after, f.payload.precedence ≤ g.payload.precedence := by
  obtain ⟨p, -, hf, hlower⟩ := findSome?_range h
  obtain ⟨hprec, before, after, hsplit, hbefore⟩ := List.find?_eq_some_iff_append.mp hf
  have hprec : f.payload.precedence = p := by simpa using hprec
  have hle (g : TxFrame) (hg : g ∈ l) : p ≤ g.payload.precedence := by
    by_contra hlt
    have hnone := List.find?_eq_none.mp (hlower _ (Nat.lt_of_not_le hlt)) g hg
    simp at hnone
  refine ⟨before, after, hsplit, fun g hg => ?_, fun g hg => ?_⟩
  · have hne : g.payload.precedence ≠ p := by simpa using hbefore g hg
    have := hle g (by rw [hsplit]; exact List.mem_append_left _ hg)
    omega
  · rw [hprec]
    exact hle g (by rw [hsplit]; exact List.mem_append_right _ (List.mem_cons_of_mem _ hg))

/-! ### A frame is changed in its place -/

theorem onLine_changeFrame_sent {f : TxFrame} {l : List TxFrame} (hf : f ∈ l) (hnone : onLine l = []) (e : Nat) :
    onLine (changeFrame f (fun f => { f with sending := some e }) l) = [{ f with sending := some e }] := by
  induction l with
  | nil => simp at hf
  | cons x rest ih =>
    obtain ⟨hx, hrest⟩ : x.sending.isSome = false ∧ onLine rest = [] := by
      simp only [onLine, List.filter_cons] at hnone ⊢
      split at hnone
      · simp at hnone
      next h => exact ⟨by simpa using h, hnone⟩
    unfold changeFrame
    split
    next heq =>
      subst heq
      simp only [onLine] at hrest
      simp [onLine, hrest]
    next hne =>
      have hmem : f ∈ rest := (List.mem_cons.mp hf).resolve_left fun h => hne h.symm
      have := ih hmem hrest
      simp only [onLine] at this
      simp [onLine, hx, this]

theorem mem_changeFrame {f : TxFrame} {l : List TxFrame} (hf : f ∈ l) (g : TxFrame → TxFrame) : g f ∈ changeFrame f g l := by
  induction l with
  | nil => simp at hf
  | cons x rest ih =>
    unfold changeFrame
    split
    next heq => rw [heq]; exact List.mem_cons_self
    next hne => exact List.mem_cons_of_mem _ (ih ((List.mem_cons.mp hf).resolve_left fun h => hne h.symm))

theorem count_erase_add {g : TxFrame} {l : List TxFrame} (h : g ∈ l) : (l.erase g).count g + 1 = l.count g := by
  rw [List.count_erase_self]
  have := List.count_pos_iff.mpr h
  omega

/-! ### The start of a frame -/

section Start

variable {s : State}

theorem startFrame_idle (h : s.frameOut.isSome = true ∨ s.line.queue = []) : startFrame s = s := by
  unfold startFrame
  split
  · rfl
  next hgo =>
    simp only [Bool.or_eq_true, not_or] at hgo
    rcases h with h | h
    · exact absurd h hgo.2
    · rw [h]
      rfl

/-- A frame's place on the line (R159, R160). -/
def State.frameStarted (f : TxFrame) (s : State) : State :=
  { s with
    line.queue := changeFrame f (fun f => { f with sending := some s.line.epoch }) s.line.queue
    line.drive := .frame (frameBits s.self f.dest s.line.epoch f.payload) }

theorem startFrame_eq {f : TxFrame} (hlive : s.line.state.live = true) (hno : s.frameOut = none)
    (hf : headFrame s.line.queue = some f) : startFrame s = s.frameStarted f := by
  simp only [startFrame, hlive, hno, hf, State.frameStarted]
  rfl

theorem frameStarted_frameOut {f : TxFrame} (hno : s.frameOut = none) (hf : headFrame s.line.queue = some f) :
    (s.frameStarted f).frameOut = some { f with sending := some s.line.epoch } := by
  obtain ⟨before, after, hsplit, -, -⟩ := headFrame_split hf
  have hmem : f ∈ s.line.queue := by rw [hsplit]; simp
  have hnone : onLine s.line.queue = [] := by
    rw [frameOut_eq] at hno
    exact List.head?_eq_none_iff.mp hno
  rw [frameOut_eq]
  change (onLine (changeFrame f _ s.line.queue)).head? = _
  rw [onLine_changeFrame_sent hmem hnone]
  rfl

/-- The start of a frame leaves state and scores. -/
theorem startFrame_line (s : State) : (startFrame s).line.state = s.line.state
    ∧ (startFrame s).line.txScore = s.line.txScore ∧ (startFrame s).line.rxScore = s.line.rxScore := by
  unfold startFrame
  split
  · exact ⟨rfl, rfl, rfl⟩
  · split <;> exact ⟨rfl, rfl, rfl⟩

end Start

/-! ### The scores are tested (R166) -/

/-- The line state that the scores of a station on the line call for. -/
def State.scoredState (s : State) : LineState :=
  if 100 ≤ s.line.txScore ∨ 100 ≤ s.line.rxScore then .quiet else .joined

/-- Below 200 the scores choose between JOINED and QUIET; the change is told. -/
theorem testScores_within {s : State} (hlive : s.line.state.live = true) (h : s.line.txScore < 200) :
    testScores s = if s.line.state = s.scoredState then s else tellLine { s with line.state := s.scoredState } := by
  have htest : ¬ 200 ≤ s.line.txScore := by omega
  unfold testScores State.scoredState
  rw [if_neg (by simp [hlive]), if_neg htest]
  cases hs : s.line.state with
  | joined =>
    by_cases hq : 100 ≤ s.line.txScore ∨ 100 ≤ s.line.rxScore
    · simp [hq]
    · simp [hq]
  | quiet =>
    by_cases hq : 100 ≤ s.line.txScore ∨ 100 ≤ s.line.rxScore
    · have hno : ¬(s.line.txScore < 100 ∧ s.line.rxScore < 100) := by omega
      simp [hq, hno]
    · have hyes : s.line.txScore < 100 ∧ s.line.rxScore < 100 := by omega
      simp [hq, hyes]
  | detached => simp [LineState.live, hs] at hlive
  | joining => simp [LineState.live, hs] at hlive
  | offLine => simp [LineState.live, hs] at hlive

theorem testScores_over {s : State} (hlive : s.line.state.live = true) (h : 200 ≤ s.line.txScore) :
    testScores s = goOffLine s := by
  unfold testScores
  rw [if_neg (by simp [hlive]), if_pos h]

/-- What the scores' test leaves of the line while they are below 200. -/
theorem testScores_line {s : State} (hlive : s.line.state.live = true) (h : s.line.txScore < 200) :
    (testScores s).line = { s.line with state := s.scoredState }
      ∧ SameBut { events := true, lineState := true } s (testScores s) := by
  rw [testScores_within hlive h]
  split
  next hs => exact ⟨by rw [← hs], rfl⟩
  · unfold tellLine
    refine ⟨queueEvent_line _ _ _, (queueEvent_frame rfl _ _ _).trans ?_⟩
    simp [State.blank]

end Sys2Proof.Machine

/-! What a station that goes OFF-LINE leaves of its queue, peers and feeds (R166). -/

namespace Sys2Proof.Machine

/-! ### No operation moves a frame that is on the line -/

section OnLine

variable (s : State)

theorem forEach_onLine {f : Nat → State → State} (h : ∀ k u, onLine (f k u).line.queue = onLine u.line.queue) (l : List Nat) :
    onLine (forEach l f s).line.queue = onLine s.line.queue :=
  forEach_keeps (Q := fun u => onLine u.line.queue = onLine s.line.queue) (fun k u hu => (h k u).trans hu) l rfl

theorem sendClaim_onLine (r : Resource) (a : ClaimAction) (c : Nat) (l : Tag) :
    onLine (sendClaim r a c l s).line.queue = onLine s.line.queue := enqueueFrame_onLine _ _ s

theorem sendRelayRelease_onLine (b : Nat) (src : Selection) :
    onLine (sendRelayRelease b src s).line.queue = onLine s.line.queue := by
  cases src with
  | remote q c => exact enqueueFrame_onLine _ _ s
  | _ => rfl

theorem search_onLine (c : Nat) : onLine (search c s).line.queue = onLine s.line.queue := by
  unfold search
  repeat' split
  all_goals simp [sendClaim_onLine]

theorem searchWaiting_onLine (fresh : List Nat) : onLine (searchWaiting fresh s).line.queue = onLine s.line.queue :=
  forEach_onLine s (fun c u => search_onLine u c) _

theorem refreshClaim_onLine (c : Nat) : onLine (refreshClaim c s).line.queue = onLine s.line.queue := by
  unfold refreshClaim
  repeat' split
  all_goals simp [sendClaim_onLine]

theorem giveWay_onLine (q c sc : Nat) : onLine (giveWay q c sc s).line.queue = onLine s.line.queue := by
  unfold giveWay
  repeat' split
  all_goals simp [sendClaim_onLine, searchWaiting_onLine]

theorem testClaim_onLine (q sc : Nat) : onLine (testClaim q sc s).line.queue = onLine s.line.queue := by
  refine forEach_onLine s (fun c u => ?_) _
  split
  · exact giveWay_onLine u q c sc
  · exact refreshClaim_onLine u c

theorem recomputeZone_onLine : onLine (recomputeZone s).line.queue = onLine s.line.queue := by
  have htests (f : State → Nat → Option Nat) (u : State) : onLine (forEach (List.range 32)
      (fun sc t => match f t sc with | some q => testClaim q sc t | none => t) u).line.queue = onLine u.line.queue :=
    forEach_onLine u (fun sc t => by split; exacts [testClaim_onLine t _ sc, rfl]) _
  simp only [recomputeZone]
  split
  · rfl
  · split
    · rw [searchWaiting_onLine]
      exact htests (fun u sc => u.lowestClaimant _ sc) _
    · exact htests (fun u sc => u.lowestClaimant _ sc) _

/-! Pedigrees, relays and holders. -/

theorem storePedigree_onLine (c : Nat) : onLine (storePedigree c s).line.queue = onLine s.line.queue := by
  unfold storePedigree
  repeat' split
  all_goals simp [queueNotice_onLine]

theorem storeFeedPedigree_onLine (k : Nat) : onLine (storeFeedPedigree k s).line.queue = onLine s.line.queue := by
  simp only [storeFeedPedigree]
  repeat' split
  all_goals simp [enqueueFrame_onLine]

theorem dropRelay_onLine (cause : LostCause) (b : Nat) : onLine (dropRelay cause b s).line.queue = onLine s.line.queue := by
  unfold dropRelay
  repeat' split
  all_goals simp [sendRelayRelease_onLine]

theorem recheckBooth_onLine (src : Selection) (b : Nat) :
    onLine (recheckBooth src b s).line.queue = onLine s.line.queue := by
  simp only [recheckBooth]
  split
  · exact dropRelay_onLine s .loop b
  · split
    · exact dropRelay_onLine s .depth b
    · rfl

theorem followChanges_onLine (n : Nat) (l : List Selection) :
    onLine (followChanges n l s).line.queue = onLine s.line.queue := by
  induction n generalizing l s with
  | zero => rfl
  | succ n ih =>
    cases l with
    | nil => rfl
    | cons src rest =>
      simp only [followChanges]
      rw [ih, forEach_onLine _ (fun k u => storeFeedPedigree_onLine u k), forEach_onLine _ (fun c u => storePedigree_onLine u c),
        forEach_onLine _ (fun b u => recheckBooth_onLine u src b)]

theorem recompute_onLine (which : Nat → Channel → Bool) (booths : List Nat) :
    onLine (recompute which booths s).line.queue = onLine s.line.queue := by
  simp only [recompute]
  rw [followChanges_onLine, forEach_onLine _ (fun k u => storeFeedPedigree_onLine u k),
    forEach_onLine _ (fun c u => storePedigree_onLine u c)]

theorem recheckOutputs_onLine (b : Nat) : onLine (recheckOutputs b s).line.queue = onLine s.line.queue := by
  have hdrop (u : State) : onLine (dropRelays .output [b] u).line.queue = onLine u.line.queue :=
    (recompute_onLine _ _ _).trans (forEach_onLine u (fun j v => dropRelay_onLine v .output j) _)
  unfold recheckOutputs
  repeat' split
  · rfl
  · exact hdrop s
  · rfl

theorem setHolder_onLine (c : Nat) (h : Holder) : onLine (setHolder c h s).line.queue = onLine s.line.queue := by
  simp only [setHolder, recomputeChannel]
  repeat' split
  · rfl
  · rfl
  · rw [recompute_onLine, setRoute_line]
    rfl

/-! Feeds that end. -/

theorem releaseTrunk_onLine (u : TrunkUser) : onLine (releaseTrunk u s).line.queue = onLine s.line.queue := by
  unfold releaseTrunk
  split
  · rfl
  · simp only [giveUpTrunk, sendTrunkClaim, sendClaim_onLine, setRoute_line]

theorem endReplacement_onLine (k b : Nat) : onLine (endReplacement k b s).line.queue = onLine s.line.queue := by
  rw [same_line_queue (w := { events := true, booths := true, desks := true }) (endReplacement_frame rfl rfl rfl k b s) rfl]

theorem endFeedContext_onLine (k : Nat) (cause : FeedCause) (partner : Bool) :
    onLine (endFeedContext k cause partner s).line.queue = onLine s.line.queue := by
  cases hk : s.context k with
  | none => rw [endFeedContext_none hk]
  | some f =>
    have hfree (u : State) : (freeContext k u).line = u.line := rfl
    cases hside : f.side with
    | sending =>
      rw [endFeedContext_sending hk hside, queueEvent_line, recheckOutputs_onLine, contextFreed, hside]
      dsimp only
      rw [hfree, endReplacement_onLine, releaseTrunk_onLine]
    | receiving =>
      rw [endFeedContext_receiving hk hside, queueEvent_line]
      split
      · rw [setHolder_onLine, hfree]
      · rw [hfree]

theorem endFeeds_onLine (p : Feed → Bool) (cause : FeedCause) :
    onLine (endFeeds p cause s).line.queue = onLine s.line.queue :=
  forEach_onLine s (fun k u => endFeedContext_onLine u k cause false) _

end OnLine

/-! ### Every feed ends -/

theorem endFeedContext_context_none {k j : Nat} {s : State} (h : s.context j = none) (cause : FeedCause) (partner : Bool) :
    (endFeedContext k cause partner s).context j = none := by
  cases hk : s.context k with
  | none => rw [endFeedContext_none hk, h]
  | some f =>
    refine (endFeedContext_feeds hk cause partner).none ?_
    by_cases hj : j = k
    · rw [hj, State.context]
      exact tab_get_erase_self _ _
    · exact (tab_get_erase_ne _ _ _ hj).trans h

theorem endFeeds_all_contexts (cause : FeedCause) (s : State) : (endFeeds (fun _ => true) cause s).feed.contexts = [] := by
  refine tab_eq_nil fun j => ?_
  change (endFeeds (fun _ => true) cause s).context j = none
  cases hj : s.context j with
  | none =>
    exact forEach_keeps (Q := fun u => u.context j = none) (fun k u hu => endFeedContext_context_none hu cause false) _ hj
  | some f =>
    refine forEach_brings (f := fun k => endFeedContext k cause false) (I := fun _ => True)
      (Q := fun u => u.context j = none) (k := j) (fun _ _ _ => trivial)
      (fun k u hu => endFeedContext_context_none hu cause false) (fun u _ => endFeedContext_context_self j cause false u) ?_ trivial
    exact mem_keys_filter hj rfl

/-! ### OFF-LINE (R166) -/

/-- What a station that goes OFF-LINE writes besides the line. -/
def Parts.unlinked : Parts :=
  { Parts.settled with
    channels := true, zone := true, trunks := true, booths := true, desks := true, feeds := true, contexts := true }

/-- The line as a station goes OFF-LINE. -/
def State.cutOff (s : State) : State :=
  { s with
    line.state := .offLine
    line.queue := s.line.queue.map fun f => { f with sending := none }
    line.peers := []
    line.sequences := 0 }

/-- A station gone OFF-LINE before it tells so. -/
def State.unlinked (s : State) : State := endFeeds (fun _ => true) .line (unconfirmClaims s.cutOff)

theorem goOffLine_eq (s : State) : goOffLine s = tellLine s.unlinked := by
  simp only [goOffLine, State.unlinked, State.cutOff]

theorem unconfirmClaims_onLine (s : State) : onLine (unconfirmClaims s).line.queue = onLine s.line.queue :=
  recomputeZone_onLine _

theorem unlinked_onLine (s : State) : onLine s.unlinked.line.queue = [] := by
  rw [State.unlinked, endFeeds_onLine, unconfirmClaims_onLine]
  simp [onLine, State.cutOff]

theorem unlinked_same (s : State) : SameBut Parts.unlinked s.cutOff s.unlinked :=
  Eq.trans (by apply endFeeds_frame <;> rfl) (unconfirmClaims_frame rfl rfl rfl rfl rfl rfl s.cutOff)

theorem unlinked_line (s : State) : s.unlinked.line.state = .offLine ∧ s.unlinked.line.txScore = s.line.txScore
    ∧ s.unlinked.line.rxScore = s.line.rxScore ∧ s.unlinked.line.drive = s.line.drive ∧ s.unlinked.line.peers = [] := by
  have h := unlinked_same s
  have hscore := same_line_txScore (w := Parts.unlinked) h rfl
  have hrx := same_line_rxScore (w := Parts.unlinked) h rfl
  have hdrive := same_line_drive (w := Parts.unlinked) h rfl
  exact ⟨same_line_state (w := Parts.unlinked) h rfl, hscore, hrx, hdrive, same_line_peers (w := Parts.unlinked) h rfl⟩

theorem goOffLine_line (s : State) : (goOffLine s).line.state = .offLine ∧ (goOffLine s).line.txScore = s.line.txScore
    ∧ (goOffLine s).line.rxScore = s.line.rxScore ∧ (goOffLine s).line.drive = s.line.drive
    ∧ (goOffLine s).line.peers = [] ∧ (goOffLine s).feed.contexts = [] ∧ onLine (goOffLine s).line.queue = [] := by
  obtain ⟨hstate, htx, hrx, hdrive, hpeers⟩ := unlinked_line s
  have hqueue := unlinked_onLine s
  have hfeeds : s.unlinked.feed.contexts = [] := endFeeds_all_contexts .line _
  rw [goOffLine_eq, tellLine, queueEvent_line]
  exact ⟨hstate, htx, hrx, hdrive, hpeers, by simpa using hfeeds, hqueue⟩

theorem unlinked_grows (s : State) : Grows .nothing s s.unlinked := by
  have hcut : Grows .nothing s s.cutOff :=
    ⟨rfl, fun _ => by simp [State.cutOff], List.prefix_rfl, id, fun _ _ _ h => absurd h (by simp [Keep.nothing_has])⟩
  exact hcut.trans ((unconfirmClaims_grows rfl _).trans (endFeeds_grows rfl rfl _ _ _))

/-- Going OFF-LINE is told (R166). -/
theorem goOffLine_tells (s : State) :
    s.tells (goOffLine s) .lineState [LineState.offLine.code, s.line.txScore, s.line.rxScore] := by
  obtain ⟨hstate, htx, hrx, -⟩ := unlinked_line s
  have htells := queueEvent_tells .lineState [s.unlinked.line.state.code, s.unlinked.line.txScore, s.unlinked.line.rxScore] s.unlinked
  rw [hstate, htx, hrx] at htells
  refine (unlinked_grows s).tells_from ?_
  rw [goOffLine_eq, tellLine, hstate, htx, hrx]
  exact htells

end Sys2Proof.Machine

/-! Own frames (R159 to R163, R165, R166, R168): what becomes of a frame that was on the line. -/

namespace Sys2Proof.Machine

/-- What the end of an own frame writes. -/
def Parts.sending : Parts := { Parts.settled with lineState := true }

/-! ### The end of a frame -/

theorem frameOut_sending {s : State} {g : TxFrame} (h : s.frameOut = some g) :
    g ∈ s.line.queue ∧ g.sending.isSome = true :=
  ⟨List.mem_of_find?_eq_some h, List.find?_some (p := fun f : TxFrame => f.sending.isSome) h⟩

/-- A frame kept for another attempt. -/
def TxFrame.kept (n : Nat) (g : TxFrame) : TxFrame := { g with sending := none, noAcks := n }

theorem keepFrame_line (g : TxFrame) (n : Nat) (s : State) : (keepFrame g n s).line.state = s.line.state
    ∧ (keepFrame g n s).line.txScore = s.line.txScore ∧ (keepFrame g n s).line.rxScore = s.line.rxScore
    ∧ (keepFrame g n s).line.drive = s.line.drive ∧ (keepFrame g n s).events = s.events
    ∧ SameBut Parts.sending s (keepFrame g n s) := by
  unfold keepFrame
  split
  · exact ⟨rfl, rfl, rfl, rfl, rfl, by simp [SameBut, State.blank, Parts.sending, Parts.settled]⟩
  · exact ⟨rfl, rfl, rfl, rfl, rfl, by simp [SameBut, State.blank, Parts.sending, Parts.settled]⟩

/-- No frame supersedes one without a key. -/
theorem keepFrame_mem {g : TxFrame} (hk : g.payload.key = none) {s : State} (hg : g ∈ s.line.queue) (n : Nat) :
    g.kept n ∈ (keepFrame g n s).line.queue := by
  have hno : s.line.queue.any (supersededBy g.payload) = false := by
    simp [supersededBy, hk]
  rw [keepFrame, hno, if_neg (by decide)]
  exact mem_changeFrame hg (TxFrame.kept n)

/-- The machine after a success, before its scores are tested (R165). -/
def State.succeeded (g : TxFrame) (s : State) : State :=
  { s with line.queue := s.line.queue.erase g, line.txScore := s.line.txScore - 1, line.drive := .nothing }

/-- The NO ACKs in a row after a failure. -/
def failedAcks (x : SendFault) (g : TxFrame) : Nat := if x = .noAck then g.noAcks + 1 else 0

/-- What a failure costs (R165). -/
def failureCost (x : SendFault) (s : State) : Nat := if x = .noAck ∧ s.line.state = .quiet then 0 else 8

/-- The line after a failure. -/
def State.charged (x : SendFault) (s : State) : State :=
  { s with line.drive := s.faultDrive, line.txScore := s.line.txScore + failureCost x s }

/-- The machine after a failure, before its scores are tested (R163, R165). -/
def State.failed (x : SendFault) (g : TxFrame) (s : State) : State :=
  if 16 ≤ failedAcks x g then
    queueEvent .frameUnheard [g.payload.code, g.dest] { s.charged x with line.queue := s.line.queue.erase g }
  else keepFrame g (failedAcks x g) (s.charged x)

section Ends

variable {s : State} {g : TxFrame} (h : (startFrame s).frameOut = some g)
include h

theorem loseArbitration_eq :
    loseArbitration s = keepFrame g 0 { startFrame s with line.drive := .nothing } := by
  simp only [loseArbitration, h]

theorem succeed_eq : succeed s = testScores ((startFrame s).succeeded g) := by
  simp only [succeed, h, State.succeeded]

theorem fail_eq (x : SendFault) : fail x s = testScores ((startFrame s).failed x g) := by
  simp only [fail, h, State.failed, State.charged, failureCost, failedAcks, Bool.and_eq_true, decide_eq_true_eq]
  rfl

end Ends

section Failed

variable {s : State} (x : SendFault) (g : TxFrame)

theorem failed_line : (s.failed x g).line.state = s.line.state
    ∧ (s.failed x g).line.txScore = s.line.txScore + failureCost x s ∧ (s.failed x g).line.rxScore = s.line.rxScore
    ∧ (s.failed x g).line.drive = s.faultDrive ∧ SameBut Parts.sending s (s.failed x g) := by
  have hcharged : SameBut Parts.sending s (s.charged x) := by
    simp [SameBut, State.blank, Parts.sending, Parts.settled, State.charged]
  unfold State.failed
  split
  · rw [queueEvent_line]
    refine ⟨rfl, rfl, rfl, rfl, (queueEvent_frame rfl _ _ _).trans (Eq.trans ?_ hcharged)⟩
    simp [State.blank, Parts.sending, Parts.settled]
  · obtain ⟨hstate, htx, hrx, hdrive, -, hsame⟩ := keepFrame_line g (failedAcks x g) (s.charged x)
    exact ⟨hstate, htx, hrx, hdrive, Eq.trans hsame hcharged⟩

theorem failed_grows : Grows .nothing s (s.failed x g) := by
  obtain ⟨hstate, -, -, -, hsame⟩ := failed_line (s := s) x g
  have hclock := same_clock (w := Parts.sending) hsame
  have htold : s.events.queue <+: (s.failed x g).events.queue
      ∧ (0 < s.events.overrun → 0 < (s.failed x g).events.overrun) := by
    unfold State.failed
    split
    · have h := queueEvent_grows (κ := .nothing) .frameUnheard [g.payload.code, g.dest]
        { s.charged x with line.queue := s.line.queue.erase g }
      exact ⟨h.queue, h.overrun⟩
    · rw [(keepFrame_line g (failedAcks x g) (s.charged x)).2.2.2.2.1]
      exact ⟨List.prefix_rfl, id⟩
  exact ⟨hclock, fun hd => by rw [hstate]; exact hd, htold.1, htold.2, fun _ _ _ hk => absurd hk (by simp [Keep.nothing_has])⟩

theorem failed_unheard (h : 16 ≤ failedAcks x g) :
    s.tells (s.failed x g) .frameUnheard [g.payload.code, g.dest] ∧ (s.failed x g).line.queue = s.line.queue.erase g := by
  rw [State.failed, if_pos h, queueEvent_line]
  exact ⟨queueEvent_tells .frameUnheard [g.payload.code, g.dest] { s.charged x with line.queue := s.line.queue.erase g }, rfl⟩

theorem failed_keeps {g : TxFrame} (h : failedAcks x g < 16) (hk : g.payload.key = none) (hg : g ∈ s.line.queue) :
    g.kept (failedAcks x g) ∈ (s.failed x g).line.queue := by
  rw [State.failed, if_neg (by omega)]
  exact keepFrame_mem (s := s.charged x) hk hg _

end Failed

/-- Below 200 the line's state follows the scores (R166). -/
theorem settle_testScores {s : State} (hlive : s.line.state.live = true) (h : s.line.txScore < 200) :
    (settle (testScores s)).line.state
        = (if 100 ≤ (settle (testScores s)).line.txScore ∨ 100 ≤ (settle (testScores s)).line.rxScore then .quiet else .joined)
      ∧ (settle (testScores s)).line.rxScore = s.line.rxScore ∧ (settle (testScores s)).line.txScore = s.line.txScore
      ∧ (settle (testScores s)).line.drive = s.line.drive
      ∧ SameBut Parts.sending s (settle (testScores s)) := by
  obtain ⟨hline, hsame⟩ := testScores_line hlive h
  have htests : SameBut Parts.sending s (testScores s) := by
    rw [testScores_within hlive h]
    split
    · rfl
    · refine (queueEvent_frame rfl _ _ _).trans ?_
      simp [State.blank, Parts.sending, Parts.settled]
  rw [settle_line_state, settle_line_rxScore, settle_line_txScore, settle_line_drive, hline]
  exact ⟨rfl, rfl, rfl, rfl, htests.settled rfl rfl rfl rfl rfl rfl rfl⟩

theorem settle_testScores_queue {s : State} (hlive : s.line.state.live = true) (h : s.line.txScore < 200) {g : TxFrame} :
    (g.sending.isSome = true → (settle (testScores s)).line.queue.count g = s.line.queue.count g)
      ∧ (g.payload.key = none → g ∈ s.line.queue → g ∈ (settle (testScores s)).line.queue) := by
  obtain ⟨hline, -⟩ := testScores_line hlive h
  have hqueue : (testScores s).line.queue = s.line.queue := by rw [hline]
  refine ⟨fun hg => ?_, fun hk hg => settle_keeps_frame hk ?_⟩
  · rw [settle_count hg, hqueue]
  · rw [hqueue]
    exact hg

theorem settle_testScores_off {s : State} (hlive : s.line.state.live = true) (h : 200 ≤ s.line.txScore) :
    (settle (testScores s)).line.state = .offLine ∧ (settle (testScores s)).line.peers = []
      ∧ (settle (testScores s)).feed.contexts = [] ∧ (settle (testScores s)).line.txScore = s.line.txScore
      ∧ (settle (testScores s)).line.drive = s.line.drive ∧ onLine (settle (testScores s)).line.queue = []
      ∧ s.tells (settle (testScores s)) .lineState [LineState.offLine.code, s.line.txScore, s.line.rxScore] := by
  obtain ⟨hstate, htx, -, hdrive, hpeers, hfeeds, hqueue⟩ := goOffLine_line s
  rw [testScores_over hlive h, settle_line_state, settle_line_peers, settle_line_txScore, settle_line_drive, settle_onLine,
    settle_feed]
  exact ⟨hstate, hpeers, hfeeds, htx, hdrive, hqueue, (settle_steady _).tells (goOffLine_tells s)⟩

theorem startFrame_same (s : State) : SameBut Parts.sending s (startFrame s) := startFrame_frame rfl rfl s

theorem startFrame_grows (s : State) : Grows .nothing s (startFrame s) := by
  have h : SameBut { lineQueue := true, lineState := true } s (startFrame s) := startFrame_frame rfl rfl s
  refine ⟨same_clock h, fun hd => ?_, ?_, ?_, fun _ _ _ hk => absurd hk (by simp [Keep.nothing_has])⟩
  · rw [(startFrame_line s).1]
    exact hd
  · rw [same_events h rfl]
  · rw [same_events h rfl]
    exact id

theorem exec_transmitStart {s : State} (hrun : s.running = true) : exec .frameTransmitStart s = .next (settle (startFrame s)) :=
  congrArg Host.Outcome.next (event_of_running _ hrun)

theorem exec_lostArbitration {s : State} (hrun : s.running = true) :
    exec .lostArbitration s = .next (settle (loseArbitration s)) := congrArg Host.Outcome.next (event_of_running _ hrun)

theorem exec_transmitSuccess {s : State} (hrun : s.running = true) :
    exec .transmitSuccess s = .next (settle (succeed s)) := congrArg Host.Outcome.next (event_of_running _ hrun)

theorem exec_transmitFailure {s : State} (hrun : s.running = true) (x : SendFault) :
    exec (.transmitFailure x) s = .next (settle (fail x s)) := congrArg Host.Outcome.next (event_of_running _ hrun)

/-- Settles O48: the line's queue changes at the frame that is on the line alone; the scores are tested after, and what is
queued as the step settles are notices, which take back no frame on the line and none without a key. -/
theorem ownFrames : Obligations.OwnFrames := by
  intro s hrun hlive hbelow line scored
  obtain ⟨hstate, htx, hrx⟩ := startFrame_line s
  have hstart := startFrame_same s
  have hscored {u : State} (hlive' : u.line.state.live = true) (hu : u.line.txScore < 200)
      (hrx' : u.line.rxScore = s.line.rxScore) (hsame : SameBut line s u) : scored (settle (testScores u)) := by
    obtain ⟨hst, hr, -, -, hs⟩ := settle_testScores hlive' hu
    exact ⟨hr.trans hrx', hst, Eq.trans hs hsame⟩
  refine ⟨fun f hno hf => ⟨headFrame_split hf, _, exec_transmitStart hrun, ?_, hstart.settled rfl rfl rfl rfl rfl rfl rfl, ?_⟩,
    fun hidle => ⟨_, exec_transmitStart hrun, ?_⟩, fun g hg => ⟨⟨_, exec_lostArbitration hrun, ?_⟩,
      ⟨_, exec_transmitSuccess hrun, ?_⟩, fun x => ?_⟩⟩
  · rw [settle_frameOut, startFrame_eq hlive hno hf]
    exact frameStarted_frameOut hno hf
  · rw [settle_line_drive, startFrame_eq hlive hno hf]
    rfl
  · rw [startFrame_idle hidle]
    exact settle_sameBut s
  · obtain ⟨hmem, -⟩ := frameOut_sending hg
    obtain ⟨-, htx', -, hdrive, -, hsame⟩ := keepFrame_line g 0 { startFrame s with line.drive := .nothing }
    rw [loseArbitration_eq hg, settle_line_drive, settle_line_txScore]
    refine ⟨hdrive, htx'.trans htx, fun hk => ?_, ?_⟩
    · have hkept := keepFrame_mem (s := { startFrame s with line.drive := .nothing }) hk hmem 0
      exact settle_keeps_frame (f := g.kept 0) hk hkept
    refine SameBut.settled ?_ rfl rfl rfl rfl rfl rfl rfl
    refine Eq.trans hsame (Eq.trans ?_ hstart)
    simp [State.blank, Parts.sending, Parts.settled]
  · obtain ⟨hmem, hsending⟩ := frameOut_sending hg
    rw [succeed_eq hg]
    have hlive' : ((startFrame s).succeeded g).line.state.live = true := by
      rw [← hlive, ← hstate]
      rfl
    have htx' : ((startFrame s).succeeded g).line.txScore = s.line.txScore - 1 := by
      rw [← htx]
      rfl
    have hsame : SameBut line s ((startFrame s).succeeded g) := by
      refine Eq.trans ?_ hstart
      simp [State.blank, State.succeeded, Parts.sending, Parts.settled, line]
    have hcount : ((startFrame s).succeeded g).line.queue.count g + 1 = (startFrame s).line.queue.count g :=
      count_erase_add hmem
    have hrx' : ((startFrame s).succeeded g).line.rxScore = s.line.rxScore := hrx
    have hdrive' : ((startFrame s).succeeded g).line.drive = .nothing := rfl
    generalize (startFrame s).succeeded g = u at *
    have hu : u.line.txScore < 200 := by omega
    obtain ⟨-, -, htx'', hdrive, -⟩ := settle_testScores hlive' hu
    refine ⟨hdrive.trans hdrive', htx''.trans htx', ?_, hscored hlive' hu hrx' hsame⟩
    rw [(settle_testScores_queue hlive' hu).1 hsending]
    exact hcount
  · intro cost noAcks
    obtain ⟨hmem, hsending⟩ := frameOut_sending hg
    refine ⟨_, exec_transmitFailure hrun x, ?_⟩
    rw [fail_eq hg]
    obtain ⟨hstate', htx', hrx', hdrive', hsame'⟩ := failed_line (s := startFrame s) x g
    have hcost : failureCost x (startFrame s) = cost := by
      simp only [failureCost, hstate]
      rfl
    have hfault : (startFrame s).faultDrive = if s.line.state = .quiet then .recessive else .faultMark := by
      rw [State.faultDrive, hstate]
    have hunheard := failed_unheard (s := startFrame s) x g
    have hkeeps (hn : noAcks < 16) (hk : g.payload.key = none) := failed_keeps (s := startFrame s) x hn hk hmem
    have hsame : SameBut line s ((startFrame s).failed x g) := Eq.trans hsame' hstart
    rw [hcost, htx] at htx'
    rw [hfault] at hdrive'
    have hlive' : ((startFrame s).failed x g).line.state.live = true := by rw [hstate', hstate, hlive]
    have hrx'' := hrx'.trans hrx
    have hgrows := (startFrame_grows s).trans (failed_grows (s := startFrame s) x g)
    generalize (startFrame s).failed x g = u at *
    have hafter : Grows .nothing u (settle (testScores u)) :=
      (testScores_grows rfl rfl u).trans (settle_steady _).events
    by_cases hover : 200 ≤ s.line.txScore + cost
    · obtain ⟨hoff, hpeers, hfeeds, htx'', hdrive, hqueue, htells⟩ := settle_testScores_off hlive' (by omega)
      rw [hrx'', htx'] at htells
      refine ⟨htx''.trans htx', hdrive.trans hdrive', fun hn => ⟨?_, fun hlt => absurd hlt (by omega), fun _ hin => ?_⟩,
        fun _ _ hlt => absurd hlt (by omega), fun hlt => absurd hlt (by omega),
        fun _ => ⟨hoff, hpeers, hfeeds, hgrows.tells_from htells⟩⟩
      · exact hafter.tells ((startFrame_grows s).tells_from (hunheard hn).1)
      · have hout := mem_onLine.mpr ⟨hin, hsending⟩
        rw [hqueue] at hout
        exact absurd hout (by simp)
    · have hu : u.line.txScore < 200 := by omega
      obtain ⟨-, -, htx'', hdrive, -⟩ := settle_testScores hlive' hu
      obtain ⟨hcount, hkept⟩ := settle_testScores_queue hlive' hu (g := g)
      refine ⟨htx''.trans htx', hdrive.trans hdrive', fun hn => ⟨?_, fun _ => ?_, fun hge => absurd hge hover⟩,
        fun hn hk _ => ?_, fun _ => hscored hlive' hu hrx'' hsame, fun hge => absurd hge hover⟩
      · exact hafter.tells ((startFrame_grows s).tells_from (hunheard hn).1)
      · rw [hcount hsending, (hunheard hn).2]
        exact count_erase_add hmem
      · exact (settle_testScores_queue hlive' hu (g := g.kept noAcks)).2 hk (hkeeps hn hk)

end Sys2Proof.Machine

/-! A station on the line again: its claims announced, its PRESENCE sent (R164, R167, R170, R171). -/

namespace Sys2Proof.Machine

/-- What each operation of a list keeps, the list keeps. -/
theorem forEach_keeps_on {Q : State → Prop} {f : Nat → State → State} {l : List Nat} (h : ∀ j ∈ l, ∀ s, Q s → Q (f j s))
    {s : State} (hs : Q s) : Q (forEach l f s) := by
  unfold forEach
  induction l generalizing s with
  | nil => exact hs
  | cons j rest ih =>
    exact ih (fun k hk => h k (List.mem_cons_of_mem _ hk)) (h j List.mem_cons_self s hs)

/-! ### What a search for starved channels leaves of the others -/

section Searches

variable {c sc : Nat} {s : State} {ch : Channel}

/-- A channel that is not STARVED is not searched for. -/
theorem ne_of_mem_due (hw : Tab.wf s.planner.channels = true) (hc : s.channel c = some ch) (hst : ch.state ≠ .starved) :
    ∀ k ∈ Tab.keys (s.planner.channels.filter fun e => [].contains e.1 || e.2.state = .starved), k ≠ c := by
  rintro k hk rfl
  obtain ⟨e, he, rfl⟩ := List.mem_map.mp hk
  obtain ⟨hmem, htest⟩ := List.mem_filter.mp he
  have hget : s.channel e.1 = some e.2 := get_of_mem_of_wf hw hmem
  obtain rfl := Option.some.inj (hget.symm.trans hc)
  simp [hst] at htest

theorem searchWaiting_channel (hw : Tab.wf s.planner.channels = true) (hc : s.channel c = some ch)
    (hst : ch.state ≠ .starved) : (searchWaiting [] s).channel c = some ch :=
  forEach_keeps_on (Q := fun u => u.channel c = some ch)
    (fun k hk _ hu => (search_channel_ne (ne_of_mem_due hw hc hst k hk).symm).trans hu) hc

theorem ownSubcarrier_of_channel (hc : s.channel c = some ch) (hsc : ch.subcarrier = some sc) :
    s.ownSubcarrier sc = true := by
  rw [State.ownSubcarrier, List.any_eq_true]
  exact ⟨_, mem_of_tab_get hc, by simp [hsc]⟩

/-- A search takes back no claim of a channel that is not searched for. -/
theorem searchWaiting_carries (hw : Tab.wf s.planner.channels = true) (hc : s.channel c = some ch)
    (hst : ch.state ≠ .starved) (hsc : ch.subcarrier = some sc) :
    Carries (.claim (.subcarrier sc)) s (searchWaiting [] s) := by
  refine (forEach_keeps_on (Q := fun u => u.channel c = some ch ∧ Carries (.claim (.subcarrier sc)) s u)
    (fun k hk u hu => ?_) ⟨hc, .refl _ s⟩).2
  exact ⟨(search_channel_ne (ne_of_mem_due hw hc hst k hk).symm).trans hu.1,
    hu.2.trans (search_carries (ownSubcarrier_of_channel hu.1 hsc))⟩

theorem search_carries_trunk (tr c : Nat) (s : State) : Carries (.claim (.trunk tr)) s (search c s) := by
  have hmod (f : Channel → Channel) : Carries (.claim (.trunk tr)) s (modChannel c f s) :=
    .of_grows (κ := {}) (modChannel_grows _ _ _) rfl
  cases hc : s.channel c with
  | none =>
    rw [search, show Tab.get s.planner.channels c = none from hc]
    exact .refl _ s
  | some ch =>
    cases hfree : s.freeSubcarrier with
    | some sc =>
      rw [search_found hc hfree]
      exact (hmod _).trans (enqueueFrame_carries (by simp [Payload.key]) _)
    | none =>
      rw [search_starved hc hfree]
      split
      · exact hmod _
      · exact (hmod _).trans (.of_grows (κ := {}) (queueEvent_grows _ _ _) rfl)

theorem searchWaiting_carries_trunk (tr : Nat) (s : State) : Carries (.claim (.trunk tr)) s (searchWaiting [] s) :=
  forEach_carries (fun c _ u => search_carries_trunk tr c u) s

end Searches

/-! ### Own claims announced again (R167) -/

/-- What a claim announced again reads of its channel. -/
structure Claimed where
  state : ChanState
  subcarrier : Option Nat
  confirmed : Bool
  language : Tag

/-- A channel's claim. -/
def Channel.claimed (ch : Channel) : Claimed := ⟨ch.state, ch.subcarrier, ch.confirmed, ch.language⟩

/-- A channel whose claim's window runs again. -/
def Channel.reclaimed (ch : Channel) : Channel := { ch with window := some 600, refresh := none }

section Reannounce

variable {c sc : Nat} {s : State} {ch : Channel}

theorem reannounceChannel_eq (hc : s.channel c = some ch) (hsc : ch.subcarrier = some sc) (hno : ch.confirmed = false) :
    reannounceChannel c s = sendClaim (.subcarrier sc) .claim c ch.language (modChannel c Channel.reclaimed s) := by
  simp only [reannounceChannel, hc, hsc, hno, Bool.false_eq_true, if_false]
  rfl

theorem reannounceChannel_self (hc : s.channel c = some ch) (hsc : ch.subcarrier = some sc) (hno : ch.confirmed = false) :
    (reannounceChannel c s).channel c = some ch.reclaimed
      ∧ s.sends (reannounceChannel c s) 0 (.claim (.subcarrier sc) .claim c ch.language) := by
  rw [reannounceChannel_eq hc hsc hno]
  refine ⟨?_, (modChannel_grows (κ := {}) _ _ s).sends_from (enqueueFrame_sends _ _ _)⟩
  rw [State.channel, sendClaim, enqueueFrame_planner, ← State.channel, modChannel_channel_self, hc]
  rfl

theorem reannounceChannel_ne {j : Nat} (h : c ≠ j) (s : State) : (reannounceChannel j s).channel c = s.channel c := by
  unfold reannounceChannel
  repeat' split
  · rfl
  · rfl
  · rfl
  · rw [State.channel, sendClaim, enqueueFrame_planner, ← State.channel, modChannel_channel_ne h]

/-- An announcement takes back no claim of another subcarrier. -/
theorem reannounceChannel_carries {j : Nat} (h : ∀ x, s.channel j = some x → x.subcarrier ≠ some sc) :
    Carries (.claim (.subcarrier sc)) s (reannounceChannel j s) := by
  unfold reannounceChannel
  split
  · exact .refl _ s
  next x hx =>
    split
    · exact .refl _ s
    next sc' hsc' =>
      split
      · exact .refl _ s
      · refine (Carries.of_grows (κ := {}) (modChannel_grows _ _ _) rfl).trans (enqueueFrame_carries ?_ _)
        intro heq
        simp only [Payload.key, Option.some.injEq, FrameKey.claim.injEq, Resource.subcarrier.injEq] at heq
        exact h x hx (by rw [hsc', heq])

theorem reannounceChannel_claimed (j k : Nat) (s : State) :
    ((reannounceChannel j s).channel k).map Channel.claimed = (s.channel k).map Channel.claimed := by
  by_cases hk : k = j
  · subst hk
    unfold reannounceChannel
    repeat' split
    · rfl
    · rfl
    · rfl
    next _ x hx _ sc' hsc' hno =>
      have hself := (reannounceChannel_self hx hsc' (by simpa using hno)).1
      rw [reannounceChannel_eq hx hsc' (by simpa using hno)] at hself
      have hself' := congrArg (Option.map Channel.claimed) hself
      rw [hx]
      exact hself'
  · rw [reannounceChannel_ne hk]

/-- After the announcements a channel whose claim was unconfirmed runs its window again. -/
theorem reannounceAll_channel (hc : s.channel c = some ch) (hsc : ch.subcarrier = some sc) (hno : ch.confirmed = false) :
    ∃ ch', (forEach (Tab.keys s.planner.channels) reannounceChannel s).channel c = some ch' ∧ ch'.claimed = ch.claimed
      ∧ ch'.window = some 600 := by
  refine forEach_brings (f := reannounceChannel) (k := c)
    (I := fun u => ∃ x, u.channel c = some x ∧ x.claimed = ch.claimed)
    (Q := fun u => ∃ x, u.channel c = some x ∧ x.claimed = ch.claimed ∧ x.window = some 600)
    (fun j u hu => ?_) (fun j u hu => ?_) (fun u hu => ?_) (mem_keys_of_get hc) ⟨ch, hc, rfl⟩
  · obtain ⟨x, hx, hcl⟩ := hu
    have hkept := reannounceChannel_claimed j c u
    rw [hx] at hkept
    obtain ⟨y, hy, hye⟩ := Option.map_eq_some_iff.mp hkept
    exact ⟨y, hy, hye.trans hcl⟩
  · obtain ⟨x, hx, hcl, hwin⟩ := hu
    by_cases hj : c = j
    · subst hj
      have hsub : x.subcarrier = some sc := (congrArg Claimed.subcarrier hcl).trans hsc
      have hconf : x.confirmed = false := (congrArg Claimed.confirmed hcl).trans hno
      exact ⟨_, (reannounceChannel_self hx hsub hconf).1, hcl, rfl⟩
    · exact ⟨x, (reannounceChannel_ne hj u).trans hx, hcl, hwin⟩
  · obtain ⟨x, hx, hcl⟩ := hu
    have hsub : x.subcarrier = some sc := (congrArg Claimed.subcarrier hcl).trans hsc
    have hconf : x.confirmed = false := (congrArg Claimed.confirmed hcl).trans hno
    exact ⟨_, (reannounceChannel_self hx hsub hconf).1, hcl, rfl⟩

/-- After the announcements the unconfirmed claim of a channel is in the queue. -/
theorem reannounceAll_sends {r : State} (hr : Grows .nothing r s) (hc : s.channel c = some ch) (hsc : ch.subcarrier = some sc)
    (hno : ch.confirmed = false) (halone : ∀ k x, s.channel k = some x → x.subcarrier = some sc → k = c) :
    r.sends (forEach (Tab.keys s.planner.channels) reannounceChannel s) 0 (.claim (.subcarrier sc) .claim c ch.language) := by
  have hkeep (j : Nat) (u : State) (hu : Grows .nothing r u
      ∧ ∀ k, (u.channel k).map Channel.claimed = (s.channel k).map Channel.claimed) :
      Grows .nothing r (reannounceChannel j u)
        ∧ ∀ k, ((reannounceChannel j u).channel k).map Channel.claimed = (s.channel k).map Channel.claimed :=
    ⟨hu.1.trans (reannounceChannel_grows rfl j u), fun k => (reannounceChannel_claimed j k u).trans (hu.2 k)⟩
  have hself (u : State) (hu : Grows .nothing r u
      ∧ ∀ k, (u.channel k).map Channel.claimed = (s.channel k).map Channel.claimed) :
      r.sends (reannounceChannel c u) 0 (.claim (.subcarrier sc) .claim c ch.language) := by
    have hcl := hu.2 c
    rw [hc] at hcl
    obtain ⟨x, hx, he⟩ := Option.map_eq_some_iff.mp hcl
    have hsub : x.subcarrier = some sc := (congrArg Claimed.subcarrier he).trans hsc
    have hconf : x.confirmed = false := (congrArg Claimed.confirmed he).trans hno
    have hlang : x.language = ch.language := congrArg Claimed.language he
    have hsends := (reannounceChannel_self hx hsub hconf).2
    rw [hlang] at hsends
    exact hu.1.sends_from hsends
  refine (forEach_brings (f := reannounceChannel) (k := c)
    (I := fun u => Grows .nothing r u ∧ ∀ k, (u.channel k).map Channel.claimed = (s.channel k).map Channel.claimed)
    (Q := fun u => (Grows .nothing r u ∧ ∀ k, (u.channel k).map Channel.claimed = (s.channel k).map Channel.claimed)
      ∧ r.sends u 0 (.claim (.subcarrier sc) .claim c ch.language))
    hkeep (fun j u hu => ?_) (fun u hu => ⟨hkeep c u hu, hself u hu⟩) (mem_keys_of_get hc) ⟨hr, fun _ => rfl⟩).2
  refine ⟨hkeep j u hu.1, ?_⟩
  by_cases hj : j = c
  · rw [hj]
    exact hself u hu.1
  · refine Carries.sends hu.2 hu.1.1 (reannounceChannel_carries fun x hx hxsc => hj ?_) rfl
    have hcl := hu.1.2 j
    rw [hx] at hcl
    obtain ⟨y, hy, he⟩ := Option.map_eq_some_iff.mp hcl.symm
    exact halone j y hy ((congrArg Claimed.subcarrier he).trans hxsc)

/-! Own trunk claims. -/

section Trunks

variable {tr : Nat} {ph : TrunkPhase} {v : TrunkUser} {w r : Option Nat}

theorem reannounceTrunk_eq (h : s.trunk tr = some (.own ph false v w r)) : reannounceTrunk tr s =
    sendTrunkClaim tr .claim v (setTrunk tr (.own ph false v (some 600) none) s) := by
  simp only [reannounceTrunk, h]

theorem reannounceTrunk_self (h : s.trunk tr = some (.own ph false v w r)) :
    (reannounceTrunk tr s).trunk tr = some (.own ph false v (some 600) none)
      ∧ s.sends (reannounceTrunk tr s) 0 (.claim (.trunk tr) .claim (s.trunkLabel v).1 (s.trunkLabel v).2) := by
  rw [reannounceTrunk_eq h]
  refine ⟨?_, ?_⟩
  · rw [trunk_congr (congrArg PlannerBlock.trunks (sendTrunkClaim_planner _ _ _ _))]
    exact setTrunk_self _ _ _
  · have hsends := sendTrunkClaim_sends tr .claim v (setTrunk tr (.own ph false v (some 600) none) s)
    rw [show (setTrunk tr (.own ph false v (some 600) none) s).trunkLabel v = s.trunkLabel v from trunkLabel_congr rfl rfl v] at hsends
    exact (setTrunk_grows (κ := {}) _ _ s).sends_from hsends

theorem reannounceTrunk_ne {j : Nat} (h : tr ≠ j) (s : State) : (reannounceTrunk j s).trunk tr = s.trunk tr := by
  unfold reannounceTrunk
  split
  · rw [trunk_congr (congrArg PlannerBlock.trunks (sendTrunkClaim_planner _ _ _ _))]
    exact tab_get_set_ne _ _ _ _ h
  · rfl

theorem reannounceTrunk_rest (j : Nat) (s : State) : (reannounceTrunk j s).planner.channels = s.planner.channels
    ∧ (reannounceTrunk j s).feed.contexts = s.feed.contexts := by
  have h : SameBut { events := true, trunks := true, lineQueue := true } s (reannounceTrunk j s) :=
    reannounceTrunk_frame rfl rfl rfl j s
  exact ⟨same_planner_channels h rfl rfl rfl, congrArg FeedBlock.contexts (same_feed h rfl rfl)⟩

theorem reannounceTrunk_carries {K : FrameKey} {j : Nat} (h : K ≠ .claim (.trunk j)) (s : State) :
    Carries K s (reannounceTrunk j s) := by
  unfold reannounceTrunk
  split
  · refine (Carries.of_grows (κ := {}) (setTrunk_grows _ _ _) (by cases K <;> rfl)).trans (enqueueFrame_carries ?_ _)
    simpa [Payload.key] using h.symm
  · exact .refl _ s

/-- After the announcements the unconfirmed claim of a trunk runs its window again and is in the queue. -/
theorem reannounceAll_trunk {q : State} (hq : Grows .nothing q s) (h : s.trunk tr = some (.own ph false v w r)) :
    (forEach (Tab.keys s.planner.trunks) reannounceTrunk s).trunk tr = some (.own ph false v (some 600) none)
      ∧ q.sends (forEach (Tab.keys s.planner.trunks) reannounceTrunk s) 0
        (.claim (.trunk tr) .claim (s.trunkLabel v).1 (s.trunkLabel v).2) := by
  have hkeep (j : Nat) (u : State) (hu : Grows .nothing q u ∧ u.planner.channels = s.planner.channels
      ∧ u.feed.contexts = s.feed.contexts) : Grows .nothing q (reannounceTrunk j u)
        ∧ (reannounceTrunk j u).planner.channels = s.planner.channels
        ∧ (reannounceTrunk j u).feed.contexts = s.feed.contexts := by
    obtain ⟨hc, hf⟩ := reannounceTrunk_rest j u
    exact ⟨hu.1.trans (reannounceTrunk_grows rfl j u), hc.trans hu.2.1, hf.trans hu.2.2⟩
  have hself (u : State) (hu : Grows .nothing q u ∧ u.planner.channels = s.planner.channels
      ∧ u.feed.contexts = s.feed.contexts) {w' r' : Option Nat} (ht : u.trunk tr = some (.own ph false v w' r')) :
      (reannounceTrunk tr u).trunk tr = some (.own ph false v (some 600) none)
        ∧ q.sends (reannounceTrunk tr u) 0 (.claim (.trunk tr) .claim (s.trunkLabel v).1 (s.trunkLabel v).2) := by
    obtain ⟨htrunk, hsends⟩ := reannounceTrunk_self ht
    rw [trunkLabel_congr hu.2.1 hu.2.2 v] at hsends
    exact ⟨htrunk, hu.1.sends_from hsends⟩
  refine (forEach_brings (f := reannounceTrunk) (k := tr)
    (I := fun u => (Grows .nothing q u ∧ u.planner.channels = s.planner.channels ∧ u.feed.contexts = s.feed.contexts)
      ∧ ∃ w' r', u.trunk tr = some (.own ph false v w' r'))
    (Q := fun u => (Grows .nothing q u ∧ u.planner.channels = s.planner.channels ∧ u.feed.contexts = s.feed.contexts)
      ∧ u.trunk tr = some (.own ph false v (some 600) none)
      ∧ q.sends u 0 (.claim (.trunk tr) .claim (s.trunkLabel v).1 (s.trunkLabel v).2))
    (fun j u hu => ⟨hkeep j u hu.1, ?_⟩) (fun j u hu => ⟨hkeep j u hu.1, ?_⟩) (fun u hu => ⟨hkeep tr u hu.1, ?_⟩)
    (mem_keys_of_get h) ⟨⟨hq, rfl, rfl⟩, w, r, h⟩).2
  · obtain ⟨w', r', ht⟩ := hu.2
    by_cases hj : tr = j
    · subst hj
      exact ⟨_, _, (hself u hu.1 ht).1⟩
    · exact ⟨w', r', (reannounceTrunk_ne hj u).trans ht⟩
  · by_cases hj : tr = j
    · subst hj
      exact hself u hu.1 hu.2.1
    · exact ⟨(reannounceTrunk_ne hj u).trans hu.2.1,
        Carries.sends hu.2.2 hu.1.1 (reannounceTrunk_carries (by simpa using hj) u) rfl⟩
  · obtain ⟨w', r', ht⟩ := hu.2
    exact hself u hu.1 ht

end Trunks

end Reannounce

end Sys2Proof.Machine

/-! The line's states and the presence timer (R164, R166, R167, R170, R171). -/

namespace Sys2Proof.Machine

/-! ### Announcements of every own claim -/

section Reannounce

variable {c sc : Nat} {s r : State} {ch : Channel}

/-- The own channels' claims announced again. -/
def State.channelsAnnounced (s : State) : State := forEach (Tab.keys s.planner.channels) reannounceChannel s

/-- All own claims announced again. -/
def State.claimsAnnounced (s : State) : State :=
  forEach (Tab.keys s.channelsAnnounced.planner.trunks) reannounceTrunk s.channelsAnnounced

theorem reannounce_eq (s : State) : reannounce s = searchWaiting [] s.claimsAnnounced := rfl

theorem channelsAnnounced_same (s : State) :
    SameBut { events := true, channels := true, lineQueue := true } s s.channelsAnnounced :=
  forEach_frame _ _ (fun c u => reannounceChannel_frame rfl rfl rfl c u) _

theorem claimsAnnounced_same (s : State) :
    SameBut { events := true, trunks := true, lineQueue := true } s.channelsAnnounced s.claimsAnnounced :=
  forEach_frame _ _ (fun t u => reannounceTrunk_frame rfl rfl rfl t u) _

theorem claimsAnnounced_channels (s : State) : s.claimsAnnounced.planner.channels = s.channelsAnnounced.planner.channels :=
  same_planner_channels (claimsAnnounced_same s) rfl rfl rfl

theorem channelsAnnounced_wf (h : Tab.wf s.planner.channels = true) : Tab.wf s.channelsAnnounced.planner.channels = true := by
  have hplan := congrArg Tab.keys (same_channels_plan (channelsAnnounced_same s) rfl)
  rw [tab_keys_mapAll, tab_keys_mapAll] at hplan
  rw [tab_wf_iff] at h ⊢
  rwa [hplan]

theorem channelsAnnounced_grows (s : State) : Grows { claims := false } s s.channelsAnnounced :=
  forEach_grows _ (fun c u => reannounceChannel_grows rfl c u) _

theorem claimsAnnounced_grows (s : State) : Grows { claims := false } s.channelsAnnounced s.claimsAnnounced :=
  forEach_grows _ (fun t u => reannounceTrunk_grows rfl t u) _

theorem reannounce_channel (hw : Tab.wf s.planner.channels = true) (hc : s.channel c = some ch)
    (hsc : ch.subcarrier = some sc) (hno : ch.confirmed = false) (hst : ch.state ≠ .starved) :
    ∃ ch', (reannounce s).channel c = some ch' ∧ ch'.claimed = ch.claimed ∧ ch'.window = some 600 := by
  obtain ⟨ch', hch', hcl, hwin⟩ := reannounceAll_channel hc hsc hno
  change s.channelsAnnounced.channel c = some ch' at hch'
  have hchannels := claimsAnnounced_channels s
  refine ⟨ch', ?_, hcl, hwin⟩
  rw [reannounce_eq]
  refine searchWaiting_channel ?_ ?_ ?_
  · rw [hchannels]
    exact channelsAnnounced_wf hw
  · rw [State.channel, hchannels]
    exact hch'
  · rw [show ch'.state = ch.state from congrArg Claimed.state hcl]
    exact hst

theorem reannounce_sends (hr : Grows .nothing r s) (hw : Tab.wf s.planner.channels = true) (hc : s.channel c = some ch)
    (hsc : ch.subcarrier = some sc) (hno : ch.confirmed = false) (hst : ch.state ≠ .starved)
    (halone : ∀ k x, s.channel k = some x → x.subcarrier = some sc → k = c) :
    r.sends (reannounce s) 0 (.claim (.subcarrier sc) .claim c ch.language) := by
  have hsent : r.sends s.channelsAnnounced 0 (.claim (.subcarrier sc) .claim c ch.language) :=
    reannounceAll_sends hr hc hsc hno halone
  obtain ⟨ch', hch', hcl, -⟩ := reannounceAll_channel hc hsc hno
  change s.channelsAnnounced.channel c = some ch' at hch'
  have hchannels := claimsAnnounced_channels s
  have hcarried : Carries (.claim (.subcarrier sc)) s.channelsAnnounced (reannounce s) := by
    have htrunks : Carries (.claim (.subcarrier sc)) s.channelsAnnounced s.claimsAnnounced :=
      forEach_carries (fun t _ u => reannounceTrunk_carries (by simp) u) _
    rw [reannounce_eq]
    refine htrunks.trans (searchWaiting_carries (c := c) (ch := ch') ?_ ?_ ?_ ?_)
    · rw [hchannels]
      exact channelsAnnounced_wf hw
    · rw [State.channel, hchannels]
      exact hch'
    · rw [show ch'.state = ch.state from congrArg Claimed.state hcl]
      exact hst
    · exact (congrArg Claimed.subcarrier hcl).trans hsc
  exact Carries.sends hsent (hr.trans (channelsAnnounced_grows s).events) hcarried rfl

theorem reannounce_trunk {tr : Nat} {ph : TrunkPhase} {v : TrunkUser} {w w' : Option Nat} (hr : Grows .nothing r s)
    (h : s.trunk tr = some (.own ph false v w w')) :
    (reannounce s).trunk tr = some (.own ph false v (some 600) none)
      ∧ r.sends (reannounce s) 0 (.claim (.trunk tr) .claim (s.trunkLabel v).1 (s.trunkLabel v).2) := by
  have hsame := channelsAnnounced_same s
  have htrunk : s.channelsAnnounced.trunk tr = some (.own ph false v w w') :=
    (trunk_congr (same_planner_trunks hsame rfl) tr).trans h
  have hlabel : s.channelsAnnounced.trunkLabel v = s.trunkLabel v := by
    have hlang := channel_language_of_same (same_channels_plan hsame rfl)
    have hfeed := same_feed hsame rfl rfl
    cases v with
    | exported c => exact congrArg (fun o => (c, o.getD ⟨0, 0, 0⟩)) (hlang c)
    | feed k => simp only [State.trunkLabel, hfeed]
  obtain ⟨htrunk', hsends⟩ := reannounceAll_trunk (hr.trans (channelsAnnounced_grows s).events) htrunk
  rw [hlabel] at hsends
  change s.claimsAnnounced.trunk tr = _ at htrunk'
  change r.sends s.claimsAnnounced 0 _ at hsends
  refine ⟨?_, ?_⟩
  · have hkept := same_planner_trunks (w := Parts.searched) (searchWaiting_frame rfl rfl rfl [] s.claimsAnnounced) rfl
    rw [reannounce_eq]
    exact (trunk_congr hkept tr).trans htrunk'
  · exact Carries.sends hsends ((hr.trans (channelsAnnounced_grows s).events).trans (claimsAnnounced_grows s).events)
      (searchWaiting_carries_trunk tr _) rfl

end Reannounce

/-! ### REJOIN (R167) -/

/-- The line as a station rejoins. -/
def State.lineRejoined (s : State) : State :=
  { s with
    line.state := .joined, line.txScore := 0, line.rxScore := 0, line.sequences := 0
    line.epoch := (s.line.epoch + 1) % 256 }

theorem rejoinLine_eq {s : State} (h : s.line.state = .offLine) :
    rejoinLine s = tellLine (regrant (reannounce (startPresence s.lineRejoined))) := by
  rw [rejoinLine, if_pos h]
  rfl

theorem startPresence_line (s : State) : (startPresence s).line.presence = some 2000 ∧ (startPresence s).line.state = s.line.state
    ∧ (startPresence s).line.txScore = s.line.txScore ∧ (startPresence s).line.rxScore = s.line.rxScore
    ∧ (startPresence s).line.sequences = s.line.sequences ∧ (startPresence s).line.epoch = s.line.epoch := by
  simp [startPresence, queuePresence, Config.presenceMs]

theorem startPresence_sends (s : State) : s.sends (startPresence s) 0 (.presence s.ownEdges) :=
  Grows.sends_from (κ := {}) (Grows.of_same rfl rfl rfl rfl : Grows {} s { s with line.presence := some Config.presenceMs })
    (queuePresence_sends { s with line.presence := some Config.presenceMs })

theorem lineRejoined_grows (κ : Keep) (s : State) : Grows κ s s.lineRejoined :=
  ⟨rfl, fun _ => by simp [State.lineRejoined], List.prefix_rfl, id, fun _ hf _ _ => Or.inl hf⟩

theorem regrant_quiet (s : State) : Quiet s (regrant s) := by
  refine (forEach_quiet queueNotice_quiet _ s).trans (forEach_quiet (fun c u => ?_) _ _)
  split
  · exact forEach_quiet (fun q v => enqueueFrame_quiet q _ v) _ u
  · exact .refl u

/-- What REJOIN brings about (R167). -/
structure State.Rejoined (s t : State) : Prop where
  line : t.line.state = .joined ∧ t.line.txScore = 0 ∧ t.line.rxScore = 0 ∧ t.line.sequences = 0
    ∧ t.line.epoch = (s.line.epoch + 1) % 256 ∧ t.line.presence = some 2000
  presence : s.sends t 0 (.presence s.ownEdges)
  channels : ∀ c ch sc, Tab.wf s.planner.channels = true → s.channel c = some ch → ch.subcarrier = some sc →
    ch.confirmed = false → ch.state ≠ .starved →
    ∃ ch', t.channel c = some ch' ∧ ch'.state = ch.state ∧ ch'.subcarrier = some sc ∧ ch'.window = some 600
  claims : ∀ c ch sc, Tab.wf s.planner.channels = true → s.channel c = some ch → ch.subcarrier = some sc →
    ch.confirmed = false → ch.state ≠ .starved → (∀ k x, s.channel k = some x → x.subcarrier = some sc → k = c) →
    s.sends t 0 (.claim (.subcarrier sc) .claim c ch.language)
  trunks : ∀ tr ph u w r, s.trunk tr = some (.own ph false u w r) →
    t.trunk tr = some (.own ph false u (some 600) none)
      ∧ s.sends t 0 (.claim (.trunk tr) .claim (s.trunkLabel u).1 (s.trunkLabel u).2)
  told : s.tells t .lineState [LineState.joined.code, 0, 0]
  frame : SameBut
    { Parts.settled with channels := true, trunks := true, lineState := true, presence := true, epoch := true } s t

theorem settle_rejoinLine {s : State} (h : s.line.state = .offLine) : s.Rejoined (settle (rejoinLine s)) := by
  have hframe : SameBut
      { Parts.settled with channels := true, trunks := true, lineState := true, presence := true, epoch := true } s
      (rejoinLine s) := by
    apply rejoinLine_frame <;> rfl
  have hbase (κ : Keep) (hp : κ.presence = false) : Grows κ s (startPresence s.lineRejoined) :=
    (lineRejoined_grows κ s).trans (startPresence_grows hp _)
  obtain ⟨hpresence, hstate, htx, hrx, hseq, hepoch⟩ := startPresence_line s.lineRejoined
  have hsends : s.sends (startPresence s.lineRejoined) 0 (.presence s.ownEdges) :=
    (lineRejoined_grows {} s).sends_from (startPresence_sends s.lineRejoined)
  have hplanner : (startPresence s.lineRejoined).planner = s.planner := by
    simp [startPresence, queuePresence, State.lineRejoined]
  have hfeed : (startPresence s.lineRejoined).feed = s.feed := by
    simp [startPresence, queuePresence, State.lineRejoined]
  rw [rejoinLine_eq h] at hframe ⊢
  generalize startPresence s.lineRejoined = u at *
  have hline : SameBut { events := true, channels := true, trunks := true, notices := true, lineQueue := true } u
      (regrant (reannounce u)) := Eq.trans (regrant_frame rfl rfl rfl _) (reannounce_frame rfl rfl rfl rfl u)
  have hregrant : Grows { notices := false } (reannounce u) (regrant (reannounce u)) := regrant_grows rfl _
  have hquiet : Calm (reannounce u) (regrant (reannounce u)) := (regrant_quiet _).toCalm
  have hafter : Grows { notices := false } (reannounce u) (settle (tellLine (regrant (reannounce u)))) :=
    hregrant.trans ((queueEvent_grows _ _ _).trans (settle_grows rfl _))
  have htrunks : (settle (tellLine (regrant (reannounce u)))).planner.trunks = (reannounce u).planner.trunks := by
    have hkept : SameBut { events := true, notices := true, lineQueue := true } (reannounce u) (regrant (reannounce u)) :=
      regrant_frame rfl rfl rfl _
    rw [settle_planner_trunks, tellLine, queueEvent_planner]
    exact same_planner_trunks hkept rfl
  have hcalm : Calm (reannounce u) (settle (tellLine (regrant (reannounce u)))) :=
    hquiet.trans ((queueEvent_quiet _ _ _).trans (settle_quiet _)).toCalm
  have hlabel (v : TrunkUser) : u.trunkLabel v = s.trunkLabel v :=
    trunkLabel_congr (congrArg PlannerBlock.channels hplanner) (congrArg FeedBlock.contexts hfeed) v
  have hchannel (k : Nat) : u.channel k = s.channel k := by
    rw [State.channel, hplanner]
    rfl
  exact
    { line := by
        rw [settle_line_state, settle_line_txScore, settle_line_rxScore, settle_line_sequences, settle_line_epoch,
          settle_line_presence, tellLine, queueEvent_line, same_line_state hline rfl, same_line_txScore hline rfl,
          same_line_rxScore hline rfl, same_line_sequences hline rfl, same_line_epoch hline rfl,
          same_line_presence hline rfl]
        exact ⟨hstate, htx, hrx, hseq, hepoch, hpresence⟩
      presence := by
        have hlast : Grows { claims := false, notices := false } u (settle (tellLine (regrant (reannounce u)))) :=
          (reannounce_grows rfl u).trans ((regrant_grows rfl _).trans ((queueEvent_grows _ _ _).trans (settle_grows rfl _)))
        exact (Grows.refl (κ := .nothing) s).sent_by (hbase .nothing rfl) hlast hsends rfl
      channels := fun c ch sc hw hc hsc hno hst => by
        obtain ⟨ch', hch', hcl, hwin⟩ := reannounce_channel (s := u) (by rw [hplanner]; exact hw) ((hchannel c).trans hc) hsc hno hst
        obtain ⟨ch'', hch'', hq⟩ := hcalm.channel_some hch'
        obtain ⟨hst'', hsc'', hwin''⟩ := state_of_quiet hq
        exact ⟨ch'', hch'', hst''.trans (congrArg Claimed.state hcl),
          hsc''.trans ((congrArg Claimed.subcarrier hcl).trans hsc), hwin''.trans hwin⟩
      claims := fun c ch sc hw hc hsc hno hst halone => by
        have hsent := reannounce_sends (s := u) (hbase .nothing rfl) (by rw [hplanner]; exact hw) ((hchannel c).trans hc) hsc hno hst
          (fun k x hx => halone k x ((hchannel k).symm.trans hx))
        exact (Grows.refl (κ := .nothing) s).sent_by ((hbase .nothing rfl).trans (reannounce_grows rfl u)) hafter hsent rfl
      trunks := fun tr ph v w r htr => by
        have htr' : u.trunk tr = some (.own ph false v w r) := (trunk_congr (congrArg PlannerBlock.trunks hplanner) tr).trans htr
        obtain ⟨htrunk, hsent⟩ := reannounce_trunk (s := u) (hbase .nothing rfl) htr'
        rw [hlabel] at hsent
        exact ⟨(trunk_congr htrunks tr).trans htrunk,
          (Grows.refl (κ := .nothing) s).sent_by ((hbase .nothing rfl).trans (reannounce_grows rfl u)) hafter hsent rfl⟩
      told := by
        have htells := queueEvent_tells .lineState [(regrant (reannounce u)).line.state.code,
          (regrant (reannounce u)).line.txScore, (regrant (reannounce u)).line.rxScore] (regrant (reannounce u))
        rw [tellLine]
        have hcode : [(regrant (reannounce u)).line.state.code, (regrant (reannounce u)).line.txScore,
            (regrant (reannounce u)).line.rxScore] = [LineState.joined.code, 0, 0] := by
          rw [same_line_state hline rfl, same_line_txScore hline rfl, same_line_rxScore hline rfl, hstate, htx, hrx]
          rfl
        rw [hcode] at htells ⊢
        have hbefore : Grows .nothing s (regrant (reannounce u)) :=
          (hbase .nothing rfl).trans ((reannounce_grows rfl u).trans (regrant_grows rfl _))
        exact hbefore.told htells (settle_steady _)
      frame := hframe.settled rfl rfl rfl rfl rfl rfl rfl }

/-! ### The events of the line's states -/

theorem exec_lineJoined {s : State} (hrun : s.running = true) : exec .lineJoined s = .next (settle (joinLine s)) :=
  congrArg Host.Outcome.next (event_of_running _ hrun)

theorem exec_rejoin {s : State} (hrun : s.running = true) : exec .rejoin s = .next (settle (rejoinLine s)) :=
  congrArg Host.Outcome.next (event_of_running _ hrun)

theorem exec_recessiveSequence {s : State} (hrun : s.running = true) :
    exec .recessiveSequence s = .next (settle (countSequence s)) := congrArg Host.Outcome.next (event_of_running _ hrun)

theorem exec_presenceTimer {s : State} (hrun : s.running = true) :
    exec .presenceTimer s = .next (settle (expirePresence s)) := congrArg Host.Outcome.next (event_of_running _ hrun)

theorem joinLine_joining {s : State} (h : s.line.state = .joining) :
    joinLine s = startPresence { s with line.state := .joined } := by rw [joinLine, if_pos h]

theorem joinLine_ignored {s : State} (h : s.line.state ≠ .joining) : joinLine s = s := by rw [joinLine, if_neg h]

theorem rejoinLine_ignored {s : State} (h : s.line.state ≠ .offLine) : rejoinLine s = s := by rw [rejoinLine, if_neg h]

theorem countSequence_ignored {s : State} (h : s.line.state ≠ .offLine) : countSequence s = s := by
  rw [countSequence, if_neg h]

theorem countSequence_last {s : State} (h : s.line.state = .offLine) (h79 : 79 ≤ s.line.sequences) :
    countSequence s = rejoinLine s := by
  simp only [countSequence, if_pos h]
  exact if_pos (by simp only [Config.rejoinSequences]; omega)

theorem countSequence_counts {s : State} (h : s.line.state = .offLine) (h79 : s.line.sequences < 79) :
    countSequence s = { s with line.sequences := s.line.sequences + 1 } := by
  simp only [countSequence, if_pos h]
  exact if_neg (by simp only [Config.rejoinSequences]; omega)

theorem expirePresence_stopped {s : State} (h : s.line.presence = none) : expirePresence s = s := by
  simp [expirePresence, h]

theorem expirePresence_live {s : State} (h : s.line.presence.isSome = true) (hlive : s.line.state.live = true) :
    expirePresence s = queuePresence s := by
  simp [expirePresence, Option.isNone_eq_false_iff.mpr h, hlive]

theorem expirePresence_presence {s : State} (h : s.line.presence.isSome = true) :
    (expirePresence s).line.presence = some 2000 := by
  obtain ⟨x, hx⟩ := Option.isSome_iff_exists.mp h
  cases hlive : s.line.state.live with
  | true =>
    rw [expirePresence_live h hlive]
    simp [queuePresence, hx, Config.presenceMs]
  | false => simp [expirePresence, hx, hlive, Config.presenceMs]

/-- Settles O49: the announcements queue each unconfirmed claim, no later one takes it back, and a rejoined station's
PRESENCE, claims and line state are those that `rejoinLine` leaves. -/
theorem lineStates : Obligations.LineStates := by
  intro s hrun rejoined
  have hrejoined {t : State} (h : s.Rejoined t) : rejoined t := by
    obtain ⟨hstate, htx, hrx, hseq, hepoch, hpresence⟩ := h.line
    exact ⟨hstate, htx, hrx, hseq, hepoch, hpresence, h.presence, h.channels, h.claims,
      fun tr ph u w r _ ht => h.trunks tr ph u w r ht, h.told, h.frame⟩
  refine ⟨fun hj => ⟨_, exec_lineJoined hrun, ?_, ?_, ?_, ?_⟩, fun hj => ⟨_, exec_lineJoined hrun, ?_⟩,
    fun hoff => ⟨⟨_, exec_rejoin hrun, hrejoined (settle_rejoinLine hoff)⟩, fun h79 => ⟨_, exec_recessiveSequence hrun, ?_⟩,
      fun h79 => ⟨_, exec_recessiveSequence hrun, ?_⟩⟩,
    fun hon => ⟨⟨_, exec_rejoin hrun, ?_⟩, ⟨_, exec_recessiveSequence hrun, ?_⟩⟩,
    ⟨_, exec_presenceTimer hrun, fun hp => ?_, fun hp hlive => ?_, ?_, fun hp => ?_⟩⟩
  · rw [settle_line_state, joinLine_joining hj, (startPresence_line _).2.1]
  · rw [settle_line_presence, joinLine_joining hj, (startPresence_line _).1]
  · have hbase : Grows {} s { s with line.state := .joined } :=
      ⟨rfl, fun _ => by simp, List.prefix_rfl, id, fun _ hf _ _ => Or.inl hf⟩
    rw [joinLine_joining hj]
    exact hbase.sent_by (startPresence_grows (κ := .nothing) rfl _) (settle_steady _)
      (startPresence_sends { s with line.state := .joined }) rfl
  · exact SameBut.settled (by apply joinLine_frame <;> rfl) rfl rfl rfl rfl rfl rfl rfl
  · rw [joinLine_ignored hj]
    exact settle_sameBut s
  · rw [countSequence_last hoff h79]
    exact hrejoined (settle_rejoinLine hoff)
  · rw [countSequence_counts hoff h79, settle_line_sequences, settle_line_state]
    refine ⟨rfl, hoff, SameBut.settled ?_ rfl rfl rfl rfl rfl rfl rfl⟩
    simp [SameBut, State.blank]
  · rw [rejoinLine_ignored hon]
    exact settle_sameBut s
  · rw [countSequence_ignored hon]
    exact settle_sameBut s
  · rw [settle_line_presence, expirePresence_presence hp]
  · rw [expirePresence_live hp hlive]
    exact (Grows.refl (κ := .nothing) s).sent_by (queuePresence_grows (κ := .nothing) rfl s) (settle_steady _)
      (queuePresence_sends s) rfl
  · exact SameBut.settled (by apply expirePresence_frame <;> rfl) rfl rfl rfl rfl rfl rfl rfl
  · rw [expirePresence_stopped hp]
    exact settle_sameBut s

end Sys2Proof.Machine

/-! What entering DARK makes of booths and desks (R45, R70). -/

namespace Sys2Proof.Machine

/-- A booth that hears the floor, with no relay. -/
def BoothRelay.floored : BoothRelay := ⟨.floor, .none, none, none⟩

/-- What a booth holds, and its overlap. -/
def Booth.hold (bo : Booth) : Option Nat × Option Nat × Option Nat := (bo.holding, bo.partner, bo.overlap)

/-- Holds end and desks go OFF, and booths that hear the floor go on hearing it; nobody takes hold. -/
structure Releases (s t : State) : Prop where
  desk : ∀ d r, s.desk d = some r → ∃ r', t.desk d = some r' ∧ (r'.core = r.core ∨ r'.state = .off ∧ r'.cough = false)
  booth : ∀ b bo, s.boothRec b = some bo → ∃ bo', t.boothRec b = some bo' ∧ bo'.desks = bo.desks
    ∧ (bo'.hold = bo.hold ∨ bo'.hold = (none, none, none)) ∧ (bo.relayPart = .floored → bo'.relayPart = .floored)
  gone : ∀ b, s.boothRec b = none → t.boothRec b = none

section Releases

variable {r s t : State}

theorem Releases.refl (s : State) : Releases s s :=
  ⟨fun _ r h => ⟨r, h, Or.inl rfl⟩, fun _ bo h => ⟨bo, h, rfl, Or.inl rfl, id⟩, fun _ h => h⟩

theorem Releases.trans (h : Releases r s) (h' : Releases s t) : Releases r t where
  desk d x hx := by
    obtain ⟨x', hx', h1⟩ := h.desk d x hx
    obtain ⟨x'', hx'', h2⟩ := h'.desk d x' hx'
    refine ⟨x'', hx'', ?_⟩
    rcases h2 with h2 | h2
    · rcases h1 with h1 | ⟨hstate, hcough⟩
      · exact Or.inl (h2.trans h1)
      · have hstate' := congrArg Desk.state h2
        have hcough' := congrArg Desk.cough h2
        exact Or.inr ⟨hstate'.trans hstate, hcough'.trans hcough⟩
    · exact Or.inr h2
  booth b bo hb := by
    obtain ⟨bo', hb', hdesks, h1, hrelay⟩ := h.booth b bo hb
    obtain ⟨bo'', hb'', hdesks', h2, hrelay'⟩ := h'.booth b bo' hb'
    refine ⟨bo'', hb'', hdesks'.trans hdesks, ?_, fun hf => hrelay' (hrelay hf)⟩
    rcases h2 with h2 | h2
    · rw [h2]
      exact h1
    · exact Or.inr h2
  gone b hb := h'.gone b (h.gone b hb)

theorem Releases.of_booth (h : t.booth = s.booth) : Releases s t := by
  refine ⟨fun d x hx => ⟨x, ?_, Or.inl rfl⟩, fun b bo hb => ⟨bo, ?_, rfl, Or.inl rfl, id⟩, fun b hb => ?_⟩ <;>
    simp only [State.desk, State.boothRec, h] <;> assumption

theorem Releases.of_same {w : Parts} (h : SameBut w s t) (h1 : w.outputs = false) (h2 : w.booths = false)
    (h3 : w.desks = false) (h4 : w.deskShow = false) : Releases s t := by
  have hbooths := same_booth_booths h h1 h2
  have hdesks := same_booth_desks h h3 h4
  refine .of_booth ?_
  cases hs : s.booth
  cases ht : t.booth
  simp_all

theorem Calm.releases (h : Calm s t) : Releases s t where
  desk d x hx := by
    obtain ⟨x', hx', hq⟩ := h.desk_some hx
    exact ⟨x', hx', Or.inl hq⟩
  booth b bo hb := by
    obtain ⟨bo', hb', hq⟩ := h.booth_some hb
    have hdesks := congrArg Booth.desks hq
    refine ⟨bo', hb', hdesks, Or.inl ?_, fun hf => ?_⟩
    · have hholding := congrArg Booth.holding hq
      have hpartner := congrArg Booth.partner hq
      have hoverlap := congrArg Booth.overlap hq
      exact Prod.ext hholding (Prod.ext hpartner hoverlap)
    · obtain ⟨bo1, hb1, hpart⟩ := h.relay b bo hb
      obtain rfl := Option.some.inj (hb1.symm.trans hb')
      rcases hpart with hpart | ⟨hin, -⟩
      · exact hpart.trans hf
      · exact absurd (congrArg BoothRelay.input hf) hin
  gone b hb := by
    have hq := h.booth b
    rwa [hb, Option.map_none, Option.map_eq_none_iff] at hq

theorem forEach_releases {f : Nat → State → State} (h : ∀ k s, Releases s (f k s)) (l : List Nat) (s : State) :
    Releases s (forEach l f s) :=
  forEach_keeps (Q := Releases s) (fun k u hu => hu.trans (h k u)) l (.refl s)

theorem modDesk_releases {d : Nat} {f : Desk → Desk} (hf : ∀ x, (f x).state = .off ∧ (f x).cough = false) (s : State) :
    Releases s (modDesk d f s) := by
  refine ⟨fun j x hx => ?_, fun b bo hb => ⟨bo, hb, rfl, Or.inl rfl, id⟩, fun _ h => h⟩
  by_cases hj : j = d
  · subst hj
    exact ⟨f x, by rw [modDesk_desk_self, hx]; rfl, Or.inr (hf x)⟩
  · exact ⟨x, (modDesk_desk_ne hj f s).trans hx, Or.inl rfl⟩

theorem modBooth_releases {b : Nat} {f : Booth → Booth} (hdesks : ∀ bo, (f bo).desks = bo.desks)
    (hhold : ∀ bo, (f bo).hold = bo.hold ∨ (f bo).hold = (none, none, none))
    (hrelay : ∀ bo, bo.relayPart = .floored → (f bo).relayPart = .floored) (s : State) : Releases s (modBooth b f s) := by
  refine ⟨fun d x hx => ⟨x, hx, Or.inl rfl⟩, fun j bo hj => ?_, fun j hj => ?_⟩
  · by_cases h : j = b
    · subst h
      exact ⟨f bo, by rw [modBooth_boothRec_self, hj]; rfl, hdesks bo, hhold bo, hrelay bo⟩
    · exact ⟨bo, (modBooth_boothRec_ne h f s).trans hj, rfl, Or.inl rfl, id⟩
  · by_cases h : j = b
    · subst h
      rw [modBooth_boothRec_self, hj]
      rfl
    · exact (modBooth_boothRec_ne h f s).trans hj

end Releases

/-! ### Holds -/

theorem deskOff_releases (d : Nat) (s : State) : Releases s (deskOff d s) := modDesk_releases (fun _ => ⟨rfl, rfl⟩) s

theorem desksOff_releases (b : Nat) (s : State) : Releases s (desksOff b s) := by
  unfold desksOff
  split
  · exact .refl s
  · exact (forEach_releases deskOff_releases _ s).trans
      (modBooth_releases (by intro _; rfl) (by intro _; exact Or.inr rfl) (by intro _ h; exact h) _)

theorem forceOff_releases (b : Nat) (cause : HoldCause) (s : State) : Releases s (forceOff b cause s) := by
  unfold forceOff
  split
  · exact .refl s
  · exact (desksOff_releases b s).trans (queueEvent_quiet _ _ _).toCalm.releases

theorem setHolder_releases (c : Nat) (x : Holder) (s : State) : Releases s (setHolder c x s) :=
  (Releases.of_booth (s := s) (t := modChannel c (Channel.given x) s) rfl).trans (setHolder_calm c x s).releases

theorem leave_releases (h : Option Held) (s : State) : Releases s (leave h s) := by
  rcases h with - | c | k
  · exact .refl s
  · change Releases s (vacate c s)
    unfold vacate
    split
    · split
      · rw [feedTakes_eq]
        exact (Releases.of_booth (s := s) (t := modFeed _ Feed.takes s) rfl).trans (setHolder_releases _ _ _)
      · exact setHolder_releases _ _ _
    · exact setHolder_releases _ _ _
  · exact .of_same (w := { events := true, feeds := true, lineQueue := true })
      (by apply reportUnheld_frame <;> rfl) rfl rfl rfl rfl

/-- One booth's hold ends as the hall leaves SESSION (R45). -/
def releaseBooth (b : Nat) (s : State) : State :=
  match s.boothRec b with
  | none => s
  | some bo => leave bo.target (desksOff b s)

theorem releaseHall_eq (s : State) :
    releaseHall s = forEach (Tab.keys (s.booth.booths.filter fun e => e.2.holding.isSome)) releaseBooth s := rfl

theorem releaseBooth_releases (b : Nat) (s : State) : Releases s (releaseBooth b s) := by
  unfold releaseBooth
  split
  · exact .refl s
  · exact (desksOff_releases b s).trans (leave_releases _ _)

theorem releaseHall_releases (s : State) : Releases s (releaseHall s) := forEach_releases releaseBooth_releases _ s

theorem restFeeds_releases (s : State) : Releases s (restFeeds s) := by
  refine forEach_releases (fun k u => ?_) _ s
  split
  · exact .refl u
  · dsimp only
    split
    · exact (Releases.of_booth (s := u) (t := modFeed k (fun f => { f with state := .routed, blockedWait := none }) u) rfl).trans
        (setHolder_releases _ _ _)
    · exact .of_booth rfl

/-! ### Feeds -/

theorem endReplacement_releases (k b : Nat) (s : State) : Releases s (endReplacement k b s) := by
  simp only [endReplacement]
  split
  · exact .refl s
  · split
    · refine Releases.trans ?_ (modBooth_releases (by intro _; rfl) (by intro _; exact Or.inl rfl) (by intro _ h; exact h) _)
      split
      · exact forceOff_releases _ _ _
      · exact .refl s
    · exact .refl s

theorem releaseTrunk_releases (u : TrunkUser) (s : State) : Releases s (releaseTrunk u s) :=
  .of_same (w := { events := true, trunks := true, lineQueue := true, outbound := true, routes := true })
    (releaseTrunk_frame rfl rfl rfl rfl rfl u s) rfl rfl rfl rfl

theorem contextFreed_releases (k : Nat) (f : Feed) (s : State) : Releases s (contextFreed k f s) := by
  unfold contextFreed
  split
  · exact ((releaseTrunk_releases _ s).trans (endReplacement_releases _ _ _)).trans (.of_booth rfl)
  · split <;> exact .of_booth rfl

theorem endFeedContext_releases (k : Nat) (cause : FeedCause) (partner : Bool) (s : State) :
    Releases s (endFeedContext k cause partner s) := by
  cases hk : s.context k with
  | none =>
    rw [endFeedContext_none hk]
    exact .refl s
  | some f => exact (contextFreed_releases k f s).trans (endFeedContext_calm hk cause partner).releases

theorem endWith_releases (k : Nat) (reason : EndReason) (s : State) : Releases s (endWith k reason s) := by
  unfold endWith
  split
  · exact .refl s
  · exact (enqueueFrame_quiet _ _ _).toCalm.releases.trans (endFeedContext_releases _ _ _ _)

/-! ### Channels that close -/

theorem closeHolders_releases (c : Nat) (s : State) : Releases s (closeHolders c s) := by
  unfold closeHolders
  refine Releases.trans (s := (match (s.channel c).map Channel.holder with
    | some (.desk b _) => forceOff b .closed s
    | _ => s)) ?_ ?_
  · split
    · exact forceOff_releases _ _ _
    · exact .refl s
  · exact (forEach_releases (fun k u => endWith_releases k .closed u) _ _).trans (setHolder_releases _ _ _)

theorem closeRelays_releases (c : Nat) (s : State) : Releases s (closeRelays c s) := by
  have hexport : Releases s (dropExport c s) := (releaseTrunk_releases _ s).trans (.of_booth rfl)
  simp only [closeRelays]
  generalize dropExport c s = u at hexport ⊢
  have hdropped := hexport.trans (dropRelays_quiet .closed (s.listeners (.own c)) u).toCalm.releases
  split
  · exact hdropped
  · exact hdropped.trans (enqueueFrame_quiet _ _ _).toCalm.releases

theorem channelEnded_releases (c : Nat) (s : State) : Releases s (s.channelEnded c) := by
  refine ((closeHolders_releases c s).trans ?_).trans (closeRelays_releases c _)
  exact .of_same (w := { Parts.settled with channels := true, deskShow := false }) (by apply closeClaim_frame <;> rfl)
    rfl rfl rfl rfl

theorem closeAChannel_releases (c : Nat) (s : State) : Releases s (closeAChannel c s) := by
  have haccount : Releases (s.channelEnded c) (closeAccount c (s.channelEnded c)) :=
    .of_same (w := { events := true, account := true }) (closeAccount_frame rfl rfl c _) rfl rfl rfl rfl
  have hgone (u : State) : Releases u (searchWaiting [] (rebuildMap (setRoute (busOutput c) .none (u.channelErased c)))) :=
    ((Releases.of_booth (s := u) (t := u.channelErased c) rfl).trans (setRoute_calm _ _ _).releases).trans
      ((rebuildMap_quiet _).toCalm.releases.trans (.of_same
        (w := { Parts.settled with channels := true, deskShow := false }) (searchWaiting_frame rfl rfl rfl _ _) rfl rfl rfl rfl))
  rw [closeAChannel_eq]
  exact (channelEnded_releases c s).trans (haccount.trans (hgone _))

theorem closeAll_releases (s : State) : Releases s (closeAll s) := forEach_releases closeAChannel_releases _ s

/-! ### Booths that hear the floor (R70) -/

/-- One booth hears the floor as the hall enters DARK (R70). -/
def floorBooth (b : Nat) (s : State) : State :=
  match s.boothRec b with
  | none => s
  | some bo =>
    setRoute (inputOutput b) .floor
      (modBooth b (fun bo => { bo with input := .floor, relay := .none, sourceTrunk := none, answerWait := none })
        (sendRelayRelease b bo.input s))

theorem floorBooths_eq (s : State) : floorBooths s = forEach (Tab.keys s.booth.booths) floorBooth s := rfl

theorem floorBooth_releases (b : Nat) (s : State) : Releases s (floorBooth b s) := by
  unfold floorBooth
  split
  · exact .refl s
  · exact ((sendRelayRelease_quiet _ _ s).toCalm.releases.trans
      (modBooth_releases (by intro _; rfl) (by intro _; exact Or.inl rfl) (by intro _ _; rfl) _)).trans
      (setRoute_calm _ _ _).releases

theorem floorBooths_releases (s : State) : Releases s (floorBooths s) := forEach_releases floorBooth_releases _ s

/-- The booth hears the floor. -/
def State.floored (s : State) (b : Nat) : Prop := ∀ bo, s.boothRec b = some bo → bo.relayPart = .floored

theorem Releases.floored {s t : State} (h : Releases s t) {b : Nat} (hb : s.floored b) : t.floored b := by
  intro bo' hbo'
  cases hs : s.boothRec b with
  | none => simp [h.gone b hs] at hbo'
  | some bo =>
    obtain ⟨bo1, hbo1, -, -, hrelay⟩ := h.booth b bo hs
    obtain rfl := Option.some.inj (hbo1.symm.trans hbo')
    exact hrelay (hb bo hs)

theorem floorBooth_floored (b : Nat) (s : State) : (floorBooth b s).floored b := by
  unfold floorBooth
  split
  next hb =>
    intro bo hbo
    rw [hb] at hbo
    exact absurd hbo (by simp)
  next bo hb =>
    refine (setRoute_calm _ _ _).releases.floored fun bo' hbo' => ?_
    rw [modBooth_boothRec_self] at hbo'
    obtain ⟨bo1, -, rfl⟩ := Option.map_eq_some_iff.mp hbo'
    rfl

theorem floorBooths_floored (b : Nat) (s : State) : (floorBooths s).floored b := by
  cases hb : s.boothRec b with
  | none =>
    intro bo hbo
    simp [(floorBooths_releases s).gone b hb] at hbo
  | some bo =>
    rw [floorBooths_eq]
    exact forEach_brings (I := fun _ => True) (Q := fun u => u.floored b) (fun _ _ _ => trivial)
      (fun k u hu => (floorBooth_releases k u).floored hu) (fun u _ => floorBooth_floored b u) (mem_keys_of_get hb) trivial

/-! ### Holds that end with SESSION (R45) -/

/-- Booth b holds nothing, and those desks of the list that are there and held something are OFF. -/
def State.unheld (s : State) (b : Nat) : Prop := ∀ bo, s.boothRec b = some bo → bo.hold = (none, none, none)

theorem Releases.unheld {s t : State} (h : Releases s t) {b : Nat} (hb : s.unheld b) : t.unheld b := by
  intro bo' hbo'
  cases hs : s.boothRec b with
  | none => simp [h.gone b hs] at hbo'
  | some bo =>
    obtain ⟨bo1, hbo1, -, hhold, -⟩ := h.booth b bo hs
    obtain rfl := Option.some.inj (hbo1.symm.trans hbo')
    rcases hhold with hhold | hhold
    · exact hhold.trans (hb bo hs)
    · exact hhold

theorem releaseBooth_unheld (b : Nat) (s : State) : (releaseBooth b s).unheld b := by
  unfold releaseBooth
  split
  next hb =>
    intro bo hbo
    rw [hb] at hbo
    exact absurd hbo (by simp)
  next bo hb =>
    refine (leave_releases _ _).unheld fun bo' hbo' => ?_
    rw [desksOff_booth hb] at hbo'
    obtain rfl := Option.some.inj hbo'
    rfl

/-- The booths that held something hold nothing (R45). -/
theorem releaseHall_unheld {b : Nat} {s : State} {bo : Booth} (hb : s.boothRec b = some bo)
    (hhold : bo.holding.isSome = true) : (releaseHall s).unheld b := by
  rw [releaseHall_eq]
  exact forEach_brings (I := fun _ => True) (Q := fun u => u.unheld b) (fun _ _ _ => trivial)
    (fun k u hu => (releaseBooth_releases k u).unheld hu) (fun u _ => releaseBooth_unheld b u)
    (mem_keys_filter hb hhold) trivial

/-- No booth holds anything (R45). -/
theorem releaseHall_holding {b : Nat} {s : State} {bo : Booth} (hb : (releaseHall s).boothRec b = some bo) :
    bo.holding = none := by
  have hall := releaseHall_releases s
  cases hs : s.boothRec b with
  | none => simp [hall.gone b hs] at hb
  | some bo0 =>
    cases hhold : bo0.holding.isSome with
    | true => exact congrArg Prod.fst (releaseHall_unheld hs hhold bo hb)
    | false =>
      obtain ⟨bo1, hb1, -, h, -⟩ := hall.booth b bo0 hs
      obtain rfl := Option.some.inj (hb1.symm.trans hb)
      rcases h with h | h
      · exact (congrArg Prod.fst h).trans (Option.not_isSome_iff_eq_none.mp (Bool.eq_false_iff.mp hhold))
      · exact congrArg Prod.fst h

/-- A desk that is OFF. -/
def State.deskRests (s : State) (d : Nat) : Prop := ∃ r, s.desk d = some r ∧ r.state = .off ∧ r.cough = false

theorem Releases.deskRests {s t : State} (h : Releases s t) {d : Nat} (hd : s.deskRests d) : t.deskRests d := by
  obtain ⟨r, hr, hstate, hcough⟩ := hd
  obtain ⟨r', hr', hcore⟩ := h.desk d r hr
  refine ⟨r', hr', ?_⟩
  rcases hcore with hcore | hcore
  · have hstate' := congrArg Desk.state hcore
    have hcough' := congrArg Desk.cough hcore
    exact ⟨hstate'.trans hstate, hcough'.trans hcough⟩
  · exact hcore

/-- What a holding desk of a booth becomes before its booth is released: it stays, or it is OFF. -/
def State.deskHolds (s : State) (d : Nat) : Prop := ∃ r, s.desk d = some r ∧ r.state.holds = true

theorem Releases.deskHolds {s t : State} (h : Releases s t) {d : Nat} (hd : s.deskHolds d ∨ s.deskRests d) :
    t.deskHolds d ∨ t.deskRests d := by
  rcases hd with ⟨r, hr, hholds⟩ | hd
  · obtain ⟨r', hr', hcore⟩ := h.desk d r hr
    rcases hcore with hcore | hcore
    · have hstate := congrArg Desk.state hcore
      exact Or.inl ⟨r', hr', (congrArg DeskState.holds hstate).trans hholds⟩
    · exact Or.inr ⟨r', hr', hcore⟩
  · exact Or.inr (h.deskRests hd)

theorem desksOff_rests {b d : Nat} {s : State} {bo : Booth} (hb : s.boothRec b = some bo) (hd : d ∈ bo.desks)
    (h : s.deskHolds d ∨ s.deskRests d) : (desksOff b s).deskRests d := by
  rcases h with ⟨r, hr, hholds⟩ | h
  · have hmem : d ∈ bo.desks.filter fun d => (Tab.get s.booth.desks d).any fun r => r.state.holds := by
      refine List.mem_filter.mpr ⟨hd, ?_⟩
      rw [show Tab.get s.booth.desks d = some r from hr]
      exact hholds
    have hoff : (forEach (bo.desks.filter fun d => (Tab.get s.booth.desks d).any fun r => r.state.holds) deskOff
        s).deskRests d := by
      refine forEach_brings (I := fun u => (u.desk d).isSome = true) (Q := fun u => u.deskRests d) (fun k u hu => ?_)
        (fun k u hu => (deskOff_releases k u).deskRests hu) (fun u hu => ?_) hmem (by simp [hr])
      · obtain ⟨x, hx⟩ := Option.isSome_iff_exists.mp hu
        obtain ⟨x', hx', -⟩ := (deskOff_releases k u).desk d x hx
        simp [hx']
      · obtain ⟨x, hx⟩ := Option.isSome_iff_exists.mp hu
        exact ⟨_, by rw [deskOff, modDesk_desk_self, hx]; rfl, rfl, rfl⟩
    simp only [desksOff, hb]
    exact hoff
  · exact (desksOff_releases b s).deskRests h

/-- The desks of a booth that held go OFF (R45). -/
theorem releaseHall_desks {b d : Nat} {s : State} {bo : Booth} {r : Desk} (hb : s.boothRec b = some bo)
    (hhold : bo.holding.isSome = true) (hd : d ∈ bo.desks) (hr : s.desk d = some r) (hholds : r.state.holds = true) :
    (releaseHall s).deskRests d := by
  rw [releaseHall_eq]
  refine forEach_brings (I := fun u => (∃ x, u.boothRec b = some x ∧ x.desks = bo.desks) ∧ (u.deskHolds d ∨ u.deskRests d))
    (Q := fun u => u.deskRests d) (fun k u hu => ?_) (fun k u hu => (releaseBooth_releases k u).deskRests hu)
    (fun u hu => ?_) (mem_keys_filter hb hhold) ⟨⟨bo, hb, rfl⟩, Or.inl ⟨r, hr, hholds⟩⟩
  · obtain ⟨⟨x, hx, hdesks⟩, hdesk⟩ := hu
    have hrel := releaseBooth_releases k u
    obtain ⟨x', hx', hdesks', -⟩ := hrel.booth b x hx
    exact ⟨⟨x', hx', hdesks'.trans hdesks⟩, hrel.deskHolds hdesk⟩
  · obtain ⟨⟨x, hx, hdesks⟩, hdesk⟩ := hu
    simp only [releaseBooth, hx]
    exact (leave_releases _ _).deskRests (desksOff_rests hx (hdesks ▸ hd) hdesk)

end Sys2Proof.Machine

/-! What entering DARK makes of trunks (R2, R21). -/

namespace Sys2Proof.Machine

/-- An own claim of trunk k was released on the way from s to t. -/
def State.released (s t : State) (k : Nat) : Prop := ∃ c l, s.sends t 0 (.claim (.trunk k) .release c l)

/-- Trunk k stays as it is with the frames of its claim, or an own claim of it is released. -/
structure Freed (k : Nat) (s t : State) : Prop where
  wf : Tab.wf s.planner.trunks = true → Tab.wf t.planner.trunks = true
  grows : Grows .nothing s t
  moved : (t.trunk k = s.trunk k ∧ Carries (.claim (.trunk k)) s t)
    ∨ (t.trunk k = none ∧ s.released t k
      ∧ (Tab.wf s.planner.trunks = true → ∀ q age, s.trunk k ≠ some (.peer q age)))

section Freed

variable {k : Nat} {r s t : State}

theorem Freed.trans (h : Freed k r s) (h' : Freed k s t) : Freed k r t where
  wf hw := h'.wf (h.wf hw)
  grows := h.grows.trans h'.grows
  moved := by
    rcases h.moved with ⟨hsame, hcarried⟩ | ⟨hnone, ⟨c, l, hsent⟩, hown⟩
    · rcases h'.moved with ⟨hsame', hcarried'⟩ | ⟨hnone', ⟨c, l, hsent⟩, hown⟩
      · exact Or.inl ⟨hsame'.trans hsame, hcarried.trans hcarried'⟩
      · exact Or.inr ⟨hnone', ⟨c, l, h.grows.sends_from hsent⟩, fun hw q age => hsame ▸ hown (h.wf hw) q age⟩
    · rcases h'.moved with ⟨hsame', hcarried'⟩ | ⟨hnone', ⟨c', l', hsent'⟩, -⟩
      · exact Or.inr ⟨hsame'.trans hnone, ⟨c, l, hcarried'.sends hsent h.grows rfl⟩, hown⟩
      · exact Or.inr ⟨hnone', ⟨c', l', h.grows.sends_from hsent'⟩, hown⟩

theorem Freed.of_carries (h : t.planner.trunks = s.planner.trunks) (hc : Carries (.claim (.trunk k)) s t) : Freed k s t :=
  ⟨by rw [h]; exact id, hc.grows, Or.inl ⟨trunk_congr h k, hc⟩⟩

theorem Freed.of_grows {w : Parts} {κ : Keep} (h : SameBut w s t) (hw : w.trunks = false) (hg : Grows κ s t)
    (hκ : κ.claims = true) : Freed k s t := .of_carries (same_planner_trunks h hw) (.of_grows hg hκ)

theorem Freed.refl (k : Nat) (s : State) : Freed k s s := .of_carries rfl (.refl _ s)

theorem forEach_freed {f : Nat → State → State} (h : ∀ j s, Freed k s (f j s)) (l : List Nat) (s : State) :
    Freed k s (forEach l f s) :=
  forEach_keeps (Q := Freed k s) (fun j u hu => hu.trans (h j u)) l (.refl k s)

end Freed

/-! ### Trunks given up -/

section Trunks

variable (k : Nat) (s : State)

theorem giveUpTrunk_trunks (j : Nat) (u : TrunkUser) :
    (giveUpTrunk j u s).planner.trunks = Tab.erase s.planner.trunks j := by
  rw [giveUpTrunk, sendTrunkClaim_planner, setRoute_planner]

theorem giveUpTrunk_freed {j : Nat} {u : TrunkUser}
    (h : Tab.wf s.planner.trunks = true → ∀ q age, s.trunk j ≠ some (.peer q age)) : Freed k s (giveUpTrunk j u s) := by
  have hwf (hw : Tab.wf s.planner.trunks = true) : Tab.wf (giveUpTrunk j u s).planner.trunks = true := by
    rw [giveUpTrunk_trunks]
    exact tab_wf_erase _ _ hw
  have hgrows : Grows .nothing s (giveUpTrunk j u s) := giveUpTrunk_grows rfl j u s
  by_cases hk : j = k
  · subst hk
    exact ⟨hwf, hgrows, Or.inr ⟨giveUpTrunk_trunk_self j u s, ⟨_, _, giveUpTrunk_sends j u s⟩, h⟩⟩
  · exact ⟨hwf, hgrows, Or.inl ⟨giveUpTrunk_trunk_ne (Ne.symm hk) u s, giveUpTrunk_carries hk u s⟩⟩

theorem releaseTrunk_freed (u : TrunkUser) : Freed k s (releaseTrunk u s) := by
  unfold releaseTrunk
  split
  · exact .refl k s
  next j hj => exact giveUpTrunk_freed k s fun hw q age hpeer => trunkOf_ne hw hpeer hj

/-! ### Feeds -/

theorem endFeedContext_freed (j : Nat) (cause : FeedCause) (partner : Bool) :
    Freed k s (endFeedContext j cause partner s) := by
  cases hj : s.context j with
  | none =>
    rw [endFeedContext_none hj]
    exact .refl k s
  | some f =>
    have hreleased : Freed k s (contextReleased j f s) := by
      unfold contextReleased
      split
      · exact releaseTrunk_freed k s _
      · exact .refl k s
    obtain ⟨hsame, hgrow⟩ := endFeedContext_rest hj cause partner
    exact hreleased.trans (.of_grows hsame rfl hgrow rfl)

theorem endWith_freed (j : Nat) (reason : EndReason) : Freed k s (endWith j reason s) := by
  unfold endWith
  split
  · exact .refl k s
  · refine Freed.trans ?_ (endFeedContext_freed k _ _ _ _)
    refine .of_carries ?_ (enqueueFrame_carries (by simp [Payload.key]) _)
    rw [sendFeedState, enqueueFrame_planner]

theorem setHolder_freed (c : Nat) (x : Holder) : Freed k s (setHolder c x s) :=
  .of_grows (w := { Parts.settled with channels := true, booths := true, feeds := true })
    (by apply setHolder_frame <;> rfl) rfl (κ := { notices := false }) (setHolder_grows rfl _ _ _) rfl

/-! ### Channels that close -/

theorem closeHolders_freed (c : Nat) : Freed k s (closeHolders c s) := by
  unfold closeHolders
  refine Freed.trans (s := (match (s.channel c).map Channel.holder with
    | some (.desk b _) => forceOff b .closed s
    | _ => s)) ?_ ?_
  · split
    · exact .of_carries (by rw [forceOff_planner]) (.of_grows (κ := {}) (forceOff_grows _ _ _) rfl)
    · exact .refl k s
  · exact (forEach_freed (fun j u => endWith_freed k u j .closed) _ _).trans (setHolder_freed k _ _ _)

theorem closeClaim_freed (c : Nat) : Freed k s (closeClaim c s) := by
  have hmod (f : Channel → Channel) : Freed k s (syncMask (modChannel c f s)) :=
    .of_carries (by rw [syncMask_planner]; rfl) (.of_grows (κ := {}) ((modChannel_grows _ _ s).trans (syncMask_grows _)) rfl)
  unfold closeClaim
  split
  · exact .refl k s
  · dsimp only
    split
    · refine (hmod _).trans (.of_carries ?_ (enqueueFrame_carries (by simp [Payload.key]) _))
      rw [sendClaim, enqueueFrame_planner]
    · exact hmod _

theorem closeRelays_freed (c : Nat) : Freed k s (closeRelays c s) := by
  have hexport : Freed k s (dropExport c s) :=
    (releaseTrunk_freed k s _).trans (.of_carries rfl (.of_grows (κ := {}) (.of_same rfl rfl rfl rfl) rfl))
  simp only [closeRelays]
  generalize dropExport c s = u at hexport ⊢
  have hdropped : Freed k s (dropRelays .closed (s.listeners (.own c)) u) :=
    hexport.trans (.of_grows (w := { Parts.settled with channels := true, booths := true, feeds := true })
      (by apply dropRelays_frame <;> rfl) rfl (κ := { notices := false }) (dropRelays_grows rfl _ _ _) rfl)
  split
  · exact hdropped
  · refine hdropped.trans (.of_carries ?_ (enqueueFrame_carries (by simp [Payload.key]) _))
    rw [enqueueFrame_planner]

theorem closeAChannel_freed (c : Nat) : Freed k s (closeAChannel c s) := by
  have hended : Freed k s (s.channelEnded c) :=
    ((closeHolders_freed k s c).trans (closeClaim_freed k _ c)).trans (closeRelays_freed k _ c)
  have haccount (u : State) : Freed k u (closeAccount c u) :=
    .of_grows (w := { events := true, account := true }) (closeAccount_frame rfl rfl c u) rfl (κ := {})
      (closeAccount_grows c u) rfl
  have hgone (u : State) : Freed k u (searchWaiting [] (rebuildMap (setRoute (busOutput c) .none (u.channelErased c)))) := by
    have hrebuilt : Freed k u (rebuildMap (setRoute (busOutput c) .none (u.channelErased c))) := by
      refine .of_carries ?_ (.of_grows (κ := {}) ?_ rfl)
      · change (setRoute (busOutput c) .none (u.channelErased c)).planner.trunks = _
        rw [setRoute_planner]
        rfl
      · exact (Grows.of_same rfl rfl rfl rfl : Grows {} u (u.channelErased c)).trans
          ((setRoute_grows _ _ _).trans (rebuildMap_grows _))
    exact hrebuilt.trans (.of_carries (same_planner_trunks (w := { Parts.settled with channels := true })
      (searchWaiting_frame rfl rfl rfl _ _) rfl) (searchWaiting_carries_trunk k _))
  rw [closeAChannel_eq]
  exact hended.trans ((haccount _).trans (hgone _))

/-! ### The trunks that remain (R2) -/

/-- Trunk j's own claim is given up, if there is one. -/
def releaseOwn (j : Nat) (s : State) : State :=
  match s.trunk j with
  | some (.own _ _ u _ _) => giveUpTrunk j u s
  | _ => s

theorem releaseOwnTrunks_eq (s : State) : releaseOwnTrunks s = forEach (Tab.keys s.planner.trunks) releaseOwn s := rfl

theorem releaseOwn_freed (j : Nat) : Freed k s (releaseOwn j s) := by
  unfold releaseOwn
  split
  next u _ _ h => exact giveUpTrunk_freed k s fun _ q age hpeer => by simp [h] at hpeer
  · exact .refl k s

theorem releaseOwnTrunks_freed : Freed k s (releaseOwnTrunks s) := forEach_freed (fun j u => releaseOwn_freed k u j) _ s

/-- Trunk k is not an own one. -/
def State.disowned (s : State) : Prop := ∀ e, s.trunk k = some e → ∃ q age, e = .peer q age

variable {k s}

theorem Freed.disowned {t : State} (h : Freed k s t) (hs : s.disowned k) : t.disowned k := by
  intro e he
  rcases h.moved with ⟨hsame, -⟩ | ⟨hnone, -⟩
  · exact hs e (hsame ▸ he)
  · simp [hnone] at he

variable (k s)

theorem releaseOwn_disowned : (releaseOwn k s).disowned k := by
  intro e he
  cases h : s.trunk k with
  | none => simp [releaseOwn, h] at he
  | some x =>
    cases x with
    | own ph cf u w r => simp [releaseOwn, h, giveUpTrunk_trunk_self] at he
    | peer q age =>
      simp only [releaseOwn, h, Option.some.injEq] at he
      exact ⟨q, age, he.symm⟩

theorem releaseOwnTrunks_disowned : (releaseOwnTrunks s).disowned k := by
  cases h : s.trunk k with
  | none => exact (releaseOwnTrunks_freed k s).disowned fun e he => by simp [h] at he
  | some x =>
    rw [releaseOwnTrunks_eq]
    exact forEach_brings (I := fun _ => True) (Q := fun u => u.disowned k) (fun _ _ _ => trivial)
      (fun j u hu => (releaseOwn_freed k u j).disowned hu) (fun u _ => releaseOwn_disowned k u) (mem_keys_of_get h) trivial

end Trunks

end Sys2Proof.Machine

/-! SET HALL STATE to DARK (R2, R45, R70, R94, R97). -/

namespace Sys2Proof.Machine

/-! ### The gates -/

theorem refreshDesk_desk_self (d : Nat) (s : State) : (refreshDesk d s).desk d =
    (s.desk d).map fun r => { r with gate := s.gateOf r, lamps := s.lampsOf d r } := by
  have hsame (b : Body) (u : State) : (queueMessage b .plain u).desk d = u.desk d := by
    simp only [State.desk, queueMessage_booth]
  unfold refreshDesk
  cases h : s.desk d with
  | none => simp only [show Tab.get s.booth.desks d = none from h, h, Option.map_none]
  | some r =>
    simp only [show Tab.get s.booth.desks d = some r from h]
    split
    next hlamps =>
      split
      next hgate => rw [h, Option.map_some, hgate, hlamps]
      next => rw [hsame, modDesk_desk_self, h, Option.map_some, Option.map_some, hlamps]
    next =>
      split
      next hgate => rw [hsame, modDesk_desk_self, h, Option.map_some, Option.map_some, hgate]
      next => rw [hsame, modDesk_desk_self, hsame, modDesk_desk_self, h]; rfl

theorem refreshDesk_desk_ne {d j : Nat} (hj : j ≠ d) (s : State) : (refreshDesk d s).desk j = s.desk j := by
  have hsame (b : Body) (u : State) : (queueMessage b .plain u).desk j = u.desk j := by
    simp only [State.desk, queueMessage_booth]
  simp only [refreshDesk]
  repeat' split
  all_goals simp only [hsame, modDesk_desk_ne hj]

/-- Desk d is shut, if there is one. -/
def State.shut (s : State) (d : Nat) : Prop := ∀ r, s.desk d = some r → r.gate = false

theorem refreshDesk_shut {d : Nat} {s : State} (h : s.planner.hall ≠ .session) : (refreshDesk d s).shut d := by
  intro r hr
  rw [refreshDesk_desk_self] at hr
  obtain ⟨r0, -, rfl⟩ := Option.map_eq_some_iff.mp hr
  simp [State.gateOf, h]

theorem refreshDesk_keeps_shut {d j : Nat} {s : State} (h : s.planner.hall ≠ .session) (hd : s.shut d) :
    (refreshDesk j s).shut d := by
  by_cases hj : d = j
  · rw [hj]
    exact refreshDesk_shut h
  · intro r hr
    exact hd r ((refreshDesk_desk_ne hj s).symm.trans hr)

/-- Outside SESSION every gate is shut as a step settles (R49). -/
theorem settle_shut {s : State} (h : s.planner.hall ≠ .session) (d : Nat) : (settle s).shut d := by
  have hhall (j : Nat) (u : State) : (refreshDesk j u).planner.hall = u.planner.hall :=
    same_planner_hall (w := { deskShow := true, outbound := true }) (refreshDesk_frame rfl rfl j u) rfl
  have hdesks : (settledDesks s).shut d := by
    have hfloor : (routeFloor s).planner.hall ≠ .session := by
      rw [routeFloor, setRoute_planner]
      exact h
    cases hd : (routeFloor s).desk d with
    | none =>
      have hnone : (settledDesks s).desk d = none :=
        Option.map_eq_none_iff.mp (((forEach_quiet refreshDesk_quiet _ (routeFloor s)).toCalm.desk d).trans (by rw [hd]; rfl))
      intro r hr
      simp [hnone] at hr
    | some r =>
      exact (forEach_brings (f := refreshDesk) (I := fun u => u.planner.hall ≠ .session)
        (Q := fun u => u.planner.hall ≠ .session ∧ u.shut d) (fun j u hu => by rw [hhall]; exact hu)
        (fun j u hu => ⟨by rw [hhall]; exact hu.1, refreshDesk_keeps_shut hu.1 hu.2⟩)
        (fun u hu => ⟨by rw [hhall]; exact hu, refreshDesk_shut hu⟩) (mem_keys_of_get hd) hfloor).2
  have hannounced : (announce (settledDesks s)).booth.desks = (settledDesks s).booth.desks :=
    same_booth_desks (w := { events := true, notices := true, lineQueue := true }) (announce_frame rfl rfl rfl _) rfl rfl
  intro r hr
  refine hdesks r ?_
  rw [State.desk, ← hannounced, ← hr, settle_eq, State.desk, syncMask_booth]
  rfl

/-! ### DARK is entered -/

/-- The hall DARK, nobody holding anything. -/
def State.darkHall (s : State) : State := releaseHall { s with planner.hall := .dark }

/-- Then every booth at the floor. -/
def State.darkBooths (s : State) : State := floorBooths (restFeeds s.darkHall)

/-- Then every channel closed. -/
def State.darkChannels (s : State) : State := closeAll (recomputeBooths (Tab.keys (restFeeds s.darkHall).booth.booths) s.darkBooths)

/-- Then every feed ended. -/
def State.darkFeeds (s : State) : State :=
  forEach (Tab.keys s.darkChannels.feed.contexts) (fun k => endWith k .dark) s.darkChannels

theorem enterDark_eq (s : State) : enterDark s = enterDarkMap (releaseOwnTrunks s.darkFeeds) := by
  simp only [enterDark, State.darkFeeds, State.darkChannels, State.darkBooths, State.darkHall]

theorem enterDarkMap_holdCount (s : State) : (enterDarkMap s).map.holdCount = 0 := by
  simp only [enterDarkMap, setRadiator, sendMaskWord]
  repeat' split
  all_goals rfl

theorem enterDarkMap_rest (s : State) : SameBut { mapBack := true, mapFront := true } s (enterDarkMap s) :=
  enterDarkMap_frame rfl rfl s

/-- The trunks released, and the map off, as the last of the entering of DARK. -/
theorem enterDark_last (s : State) : SameBut
    { Parts.settled with trunks := true, mapFront := true, deskShow := false, notices := false } s.darkFeeds (enterDark s) := by
  rw [enterDark_eq]
  exact Eq.trans (by apply enterDarkMap_frame <;> rfl) (by apply releaseOwnTrunks_frame <;> rfl)

theorem darkFeeds_channels (s : State) : s.darkFeeds.planner.channels = [] := by
  have hclosed := closeAll_channels (recomputeBooths (Tab.keys (restFeeds s.darkHall).booth.booths) s.darkBooths)
  refine tab_eq_nil fun j => ?_
  change s.darkFeeds.channel j = none
  refine (forEach_billed (fun k u => endWith_billed k .dark u) _ s.darkChannels).none ?_
  rw [State.channel, State.darkChannels, hclosed]
  rfl

theorem endWith_context_none {k j : Nat} {s : State} (h : s.context j = none) (reason : EndReason) :
    (endWith k reason s).context j = none := by
  unfold endWith
  split
  · exact h
  · exact endFeedContext_context_none ((sendFeedState_context _ _ _ _).trans h) _ _

theorem darkFeeds_contexts (s : State) : s.darkFeeds.feed.contexts = [] := by
  refine tab_eq_nil fun j => ?_
  change s.darkFeeds.context j = none
  rw [State.darkFeeds]
  cases hj : s.darkChannels.context j with
  | none =>
    exact forEach_keeps (Q := fun u => u.context j = none) (fun k u hu => endWith_context_none hu .dark) _ hj
  | some f =>
    exact forEach_brings (f := fun k => endWith k .dark) (I := fun _ => True) (Q := fun u => u.context j = none) (k := j)
      (fun _ _ _ => trivial) (fun k u hu => endWith_context_none hu .dark) (fun u _ => endWith_context_self j .dark u)
      (mem_keys_of_get hj) trivial

/-- Nothing is open as DARK is entered. -/
theorem enterDark_empty (s : State) : (enterDark s).planner.channels = [] ∧ (enterDark s).feed.contexts = [] := by
  have hlast := enterDark_last s
  refine ⟨?_, ?_⟩
  · rw [same_planner_channels hlast rfl rfl rfl, darkFeeds_channels]
  · rw [same_feed hlast rfl rfl, darkFeeds_contexts]

/-! ### The booths and desks -/

theorem enterDark_afterFloor (s : State) : Releases s.darkBooths (enterDark s) := by
  have hclosed : Releases s.darkBooths s.darkChannels :=
    (recomputeBooths_quiet _ _).toCalm.releases.trans (closeAll_releases _)
  have hended : Releases s.darkChannels s.darkFeeds := forEach_releases (fun k u => endWith_releases k .dark u) _ _
  exact (hclosed.trans hended).trans (.of_same (enterDark_last s) rfl rfl rfl rfl)

theorem enterDark_afterHall (s : State) : Releases s.darkHall (enterDark s) :=
  ((restFeeds_releases _).trans (floorBooths_releases _)).trans (enterDark_afterFloor s)

/-- No booth holds, and every booth hears the floor (R45, R70). -/
theorem enterDark_booths {s : State} {k : Nat} {bo : Booth} (h : (enterDark s).boothRec k = some bo) :
    bo.holding = none ∧ bo.relayPart = .floored := by
  refine ⟨?_, (enterDark_afterFloor s).floored (floorBooths_floored k _) bo h⟩
  cases hb : s.darkHall.boothRec k with
  | none => simp [(enterDark_afterHall s).gone k hb] at h
  | some bo0 =>
    obtain ⟨bo1, hb1, -, hhold, -⟩ := (enterDark_afterHall s).booth k bo0 hb
    obtain rfl := Option.some.inj (hb1.symm.trans h)
    have hnone := releaseHall_holding hb
    rcases hhold with hhold | hhold
    · exact (congrArg Prod.fst hhold).trans hnone
    · exact congrArg Prod.fst hhold

/-- A booth that held has no overlap any more, and its desks that held are OFF (R45). -/
theorem enterDark_held {s : State} {k : Nat} {bo : Booth} (hb : s.boothRec k = some bo) (hhold : bo.holding.isSome = true) :
    (∃ bo', (enterDark s).boothRec k = some bo' ∧ bo'.hold = (none, none, none))
      ∧ ∀ d r, d ∈ bo.desks → s.desk d = some r → r.state.holds = true → (enterDark s).deskRests d := by
  have hafter := enterDark_afterHall s
  refine ⟨?_, fun d r hd hr hholds => hafter.deskRests
    (releaseHall_desks (s := { s with planner.hall := .dark }) hb hhold hd hr hholds)⟩
  obtain ⟨bo1, hb1, -⟩ := (releaseHall_releases { s with planner.hall := .dark }).booth k bo hb
  obtain ⟨bo2, hb2, -⟩ := hafter.booth k bo1 hb1
  exact ⟨bo2, hb2, hafter.unheld (releaseHall_unheld (s := { s with planner.hall := .dark }) hb hhold) bo2 hb2⟩

/-! ### The trunks -/

theorem enterDark_freed (k : Nat) (s : State) : Freed k s (enterDark s) := by
  have hsteady {u v : State} {w : Parts} (h : SameBut w u v) (hw : w.trunks = false) (hg : Grows .steady u v) :
      Freed k u v := .of_grows h hw hg rfl
  have hdark : Freed k s { s with planner.hall := .dark } :=
    .of_carries rfl (.of_grows (κ := {}) (.of_same rfl rfl rfl rfl) rfl)
  have hhall : Freed k s s.darkHall := hdark.trans
    (hsteady (w := { Parts.allButHall with trunks := false }) (by apply releaseHall_frame <;> rfl) rfl (releaseHall_grows rfl _))
  have hbooths : Freed k s.darkHall s.darkBooths :=
    hsteady (w := { Parts.allButHall with trunks := false })
      (Eq.trans (by apply floorBooths_frame <;> rfl) (by apply restFeeds_frame <;> rfl)) rfl
      ((restFeeds_grows rfl _).trans (floorBooths_grows _))
  have hchannels : Freed k s.darkBooths s.darkChannels := Freed.trans
    (hsteady (w := { Parts.allButHall with trunks := false }) (by apply recomputeBooths_frame <;> rfl) rfl
      (recomputeBooths_grows rfl _ _))
    (forEach_freed (fun c u => closeAChannel_freed k u c) _ _)
  have hfeeds : Freed k s.darkChannels s.darkFeeds := forEach_freed (fun j u => endWith_freed k u j .dark) _ _
  rw [enterDark_eq]
  exact (((hhall.trans hbooths).trans hchannels).trans hfeeds).trans ((releaseOwnTrunks_freed k _).trans
    (hsteady (enterDarkMap_rest _) rfl (enterDarkMap_grows _)))

theorem enterDark_disowned (k : Nat) (s : State) : (enterDark s).disowned k := by
  have hsame : (enterDark s).planner.trunks = (releaseOwnTrunks s.darkFeeds).planner.trunks := by
    rw [enterDark_eq, same_planner_trunks (enterDarkMap_rest _) rfl]
  intro e he
  exact releaseOwnTrunks_disowned k s.darkFeeds e ((trunk_congr hsame k).symm.trans he)

/-- An own claim is released (R2). -/
theorem enterDark_released {s : State} {k : Nat} {ph : TrunkPhase} {cf : Bool} {u : TrunkUser} {w r : Option Nat}
    (h : s.trunk k = some (.own ph cf u w r)) : (enterDark s).trunk k = none ∧ s.released (enterDark s) k := by
  rcases (enterDark_freed k s).moved with ⟨hsame, -⟩ | ⟨hnone, hsent, -⟩
  · obtain ⟨q, age, he⟩ := enterDark_disowned k s _ (hsame.trans h)
    simp at he
  · exact ⟨hnone, hsent⟩

/-- A peer's claim stays (R2). -/
theorem enterDark_peer {s : State} {k q age : Nat} (hw : Tab.wf s.planner.trunks = true)
    (h : s.trunk k = some (.peer q age)) : (enterDark s).trunk k = some (.peer q age) := by
  rcases (enterDark_freed k s).moved with ⟨hsame, -⟩ | ⟨-, -, hown⟩
  · exact hsame.trans h
  · exact absurd h (hown hw q age)

/-! ### The statement -/

theorem changeHall_darkens {s : State} (h : s.planner.hall ≠ .dark) : changeHall .dark s = enterDark s := by
  simp [changeHall, Ne.symm h]

theorem stateCode_of_no_channels {s : State} (h : s.planner.channels = []) (c : Nat) : s.stateCode c = 0 := by
  simp only [State.stateCode, State.channel, h]
  rfl

theorem settle_mask_of_no_channels {s : State} (h : s.planner.channels = []) : (settle s).map.mask = [] := by
  rw [settle_mask, State.onAirSubcarriers, settle_channels_of_no_channels h]
  simp

/-- Settles O23: entering DARK releases holds, booths, channels, feeds and trunks in turn. -/
theorem enteringDarkClosesEveryChannel : Obligations.EnteringDarkClosesEveryChannel := by
  intro s b hp hst hlit hb
  have hst' : inR s.clock.station = true := by simp [inR, hst]
  have hact := actSetHallState_named (p := numbers [b]) (h := .dark) (by rw [field_byte]; exact hb) s.sent
  rw [changeHall_darkens (s := s.sent) hlit] at hact
  have hframe : SameBut { Parts.settled with
      hall := true, channels := true, openings := true, trunks := true, booths := true, desks := true
      exported := true, feeds := true, contexts := true, mapFront := true, account := true } s.sent
      (enterDark s.sent) := by
    apply enterDark_frame <;> rfl
  have hhall := enterDark_hall s.sent
  have hradiator := enterDark_radiator s.sent
  have hhold : (enterDark s.sent).map.holdCount = 0 := by rw [enterDark_eq, enterDarkMap_holdCount]
  obtain ⟨hchannels, hcontexts⟩ := enterDark_empty s.sent
  have hbooths (k : Nat) (bo : Booth) (h : (enterDark s.sent).boothRec k = some bo) := enterDark_booths h
  have hheld (k : Nat) (bo : Booth) (h : s.boothRec k = some bo) := enterDark_held (s := s.sent) h
  have hdisowned (k : Nat) := enterDark_disowned k s.sent
  have hreleased (k : Nat) (ph : TrunkPhase) (cf : Bool) (u : TrunkUser) (w r : Option Nat)
      (h : s.trunk k = some (.own ph cf u w r)) := enterDark_released (s := s.sent) h
  have hpeer (k q age : Nat) (hw : Tab.wf s.planner.trunks = true) (h : s.trunk k = some (.peer q age)) :=
    enterDark_peer (s := s.sent) hw h
  have hgrows : Grows .nothing s.sent (enterDark s.sent) := enterDark_grows rfl rfl _
  rw [hhall, stateCode_of_no_channels hchannels] at hact
  refine ⟨_, congrArg Host.Outcome.next (command_accepts hp rfl hst' hact (same_port hframe)), ?_⟩
  have hdone := done_frame (port := s.donePort (b1 HallState.dark.code ++ b1 0)) hframe rfl rfl rfl rfl rfl rfl rfl
  generalize enterDark s.sent = u at *
  have hsettled := settle_quiet u
  have hreleases := hsettled.toCalm.releases
  have hshut (d : Nat) : (settle u).shut d := settle_shut (by rw [hhall]; decide) d
  have hbooths' (k : Nat) (bo : Booth) (h : (settle u).boothRec k = some bo) : bo.holding = none ∧ bo.relayPart = .floored := by
    cases hk : u.boothRec k with
    | none => simp [hreleases.gone k hk] at h
    | some bo0 =>
      obtain ⟨hholding, hfloor⟩ := hbooths k bo0 hk
      obtain ⟨bo1, hbo1, -, hhold, hrelay⟩ := hreleases.booth k bo0 hk
      obtain rfl := Option.some.inj (hbo1.symm.trans h)
      refine ⟨?_, hrelay hfloor⟩
      rcases hhold with hhold | hhold
      · exact (congrArg Prod.fst hhold).trans hholding
      · exact congrArg Prod.fst hhold
  have htrunk (k : Nat) : (settle u).trunk k = u.trunk k := settle_trunk u k
  have hsent (k c : Nat) (l : Tag) (h : s.sent.sends u 0 (.claim (.trunk k) .release c l)) :
      s.sends { settle u with port := s.donePort (b1 HallState.dark.code ++ b1 0) } 0 (.claim (.trunk k) .release c l) :=
    sends_done_by h hgrows rfl
  have hunheld (k : Nat) (bo : Booth) (h : u.boothRec k = some bo) (hno : bo.hold = (none, none, none)) :
      ∃ bo', (settle u).boothRec k = some bo' ∧ bo'.hold = (none, none, none) := by
    obtain ⟨bo', hbo', -, hhold, -⟩ := hreleases.booth k bo h
    exact ⟨bo', hbo', hhold.elim (fun h => h.trans hno) id⟩
  have hrests (d : Nat) (h : u.deskRests d) : (settle u).deskRests d := hreleases.deskRests h
  have hhall' := (settle_planner_hall u).trans hhall
  have hchannels' := settle_channels_of_no_channels hchannels
  have hmask := settle_mask_of_no_channels hchannels
  have hradiator' := (settle_map_radiator u).trans hradiator
  have hhold' := (settle_map_holdCount u).trans hhold
  have hcontexts' := (congrArg FeedBlock.contexts (settle_feed u)).trans hcontexts
  generalize settle u = v at *
  have hledger := same_ledger hdone rfl rfl rfl
  have hdock := same_dock hdone rfl rfl rfl
  have hclaims := same_planner_peerClaims hdone rfl
  have hzone := same_planner_zone hdone rfl
  refine ⟨hhall', hchannels', hmask, hradiator', hhold', hcontexts', fun k bo h => ?_, fun k bo h hholds => ?_, hshut,
    fun k e h => hdisowned k e ((htrunk k).symm.trans h), fun k ph cf us w r h => ?_,
    fun k q age hw h => (htrunk k).trans (hpeer k q age hw h), rfl, hledger, hdock, hclaims, hzone, hdone⟩
  · obtain ⟨hholding, hfloor⟩ := hbooths' k bo h
    simp only [Booth.relayPart, BoothRelay.floored, BoothRelay.mk.injEq] at hfloor
    exact ⟨hholding, hfloor⟩
  · obtain ⟨⟨bo1, hbo1, hno⟩, hoff⟩ := hheld k bo h hholds
    obtain ⟨bo', hbo', hno'⟩ := hunheld k bo1 hbo1 hno
    simp only [Booth.hold, Prod.mk.injEq] at hno'
    exact ⟨⟨bo', hbo', hno'.2⟩, fun d r hd hr hh => hrests d (hoff d r hd hr hh)⟩
  · obtain ⟨hnone, c, l, hsends⟩ := hreleased k ph cf us w r h
    exact ⟨(htrunk k).trans hnone, c, l, hsent k c l hsends⟩

end Sys2Proof.Machine

/-! What a peer that goes leaves behind (R24, R63, R67, R88). -/

namespace Sys2Proof.Machine

/-! ### Its places among the listeners (R67) -/

section Exports

variable {q : Nat}

theorem endExport_exported (c : Nat) (s : State) : (endExport c s).relay.exported = Tab.erase s.relay.exported c := by
  have hnotice : (endExport c s).relay = (dropExport c s).relay :=
    same_relay (w := { notices := true, events := true, lineQueue := true }) (by apply queueNotice_frame <;> rfl) rfl rfl
  have hrelease : (releaseTrunk (.exported c) s).relay = s.relay :=
    same_relay (w := { events := true, trunks := true, lineQueue := true, outbound := true, routes := true })
      (releaseTrunk_frame rfl rfl rfl rfl rfl _ s) rfl rfl
  rw [hnotice, dropExport, hrelease]

theorem leaveExport_exported_ne {b c j : Nat} (hj : j ≠ c) (s : State) :
    Tab.get (leaveExport q c b s).relay.exported j = Tab.get s.relay.exported j := by
  cases he : Tab.get s.relay.exported c with
  | none => rw [leaveExport_none he]
  | some e =>
    have hleft : Tab.get (listenersLeft q c b e s).relay.exported j = Tab.get s.relay.exported j := tab_get_set_ne _ _ _ _ hj
    by_cases hl : dropListener q b e.listeners = []
    · rw [leaveExport_ended he hl, endExport_exported, tab_get_erase_ne _ _ _ hj, hleft]
    · rw [leaveExport_kept he hl, hleft]

/-- Station q is no listener of channel c. -/
def State.unheard (s : State) (q c : Nat) : Prop :=
  ∀ e, Tab.get s.relay.exported c = some e → ∀ l ∈ e.listeners, l.station ≠ q

/-- Channel c has no listener but station q. -/
def State.heardAlone (s : State) (q c : Nat) : Prop :=
  ∀ e, Tab.get s.relay.exported c = some e → ∀ l ∈ e.listeners, l.station = q

theorem leaveExport_unheard (c : Nat) (s : State) : (leaveExport q c 0 s).unheard q c := by
  intro x hx
  cases he : Tab.get s.relay.exported c with
  | none =>
    rw [leaveExport_none he, he] at hx
    exact absurd hx (by simp)
  | some e =>
    by_cases hl : dropListener q 0 e.listeners = []
    · rw [leaveExport_ended he hl, endExport_exported_self] at hx
      exact absurd hx (by simp)
    · rw [leaveExport_kept he hl, listenersLeft, tab_get_set_self, Option.some.injEq] at hx
      rw [← hx]
      exact fun l hmem hq => (dropListener_left (b := 0) e.listeners hmem hq).1 rfl

theorem leaveExport_none_of_alone {c : Nat} {s : State} (h : s.heardAlone q c) :
    Tab.get (leaveExport q c 0 s).relay.exported c = none := by
  cases he : Tab.get s.relay.exported c with
  | none => rw [leaveExport_none he, he]
  | some e =>
    have hl : dropListener q 0 e.listeners = [] := by
      simp only [dropListener, List.filter_eq_nil_iff, List.mem_map]
      rintro x ⟨l, hl, rfl⟩
      simp [h e he l hl]
    rw [leaveExport_ended he hl, endExport_exported_self]

theorem dropPeerListener_unheard (q c : Nat) (s : State) : (dropPeerListener q s).unheard q c := by
  unfold dropPeerListener
  have hkeeps (j : Nat) (u : State) (hu : u.unheard q c) : (leaveExport q j 0 u).unheard q c := by
    by_cases hj : c = j
    · rw [hj]
      exact leaveExport_unheard j u
    · intro e he
      exact hu e ((leaveExport_exported_ne hj u).symm.trans he)
  cases he : Tab.get s.relay.exported c with
  | none => exact forEach_keeps (Q := fun u => u.unheard q c) hkeeps _ fun e h => by simp [he] at h
  | some e =>
    exact forEach_brings (f := fun j => leaveExport q j 0) (I := fun _ => True) (Q := fun u => u.unheard q c)
      (fun _ _ _ => trivial) hkeeps (fun u _ => leaveExport_unheard c u) (mem_keys_of_get he) trivial

theorem dropPeerListener_none {c : Nat} {s : State} (h : s.heardAlone q c) :
    Tab.get (dropPeerListener q s).relay.exported c = none := by
  unfold dropPeerListener
  have hkeeps (j : Nat) (u : State) (hu : Tab.get u.relay.exported c = none) :
      Tab.get (leaveExport q j 0 u).relay.exported c = none := by
    by_cases hj : c = j
    · subst hj
      exact leaveExport_none_of_alone fun e he => by simp [hu] at he
    · exact (leaveExport_exported_ne hj u).trans hu
  have halone (j : Nat) (u : State) (hu : u.heardAlone q c) : (leaveExport q j 0 u).heardAlone q c := by
    by_cases hj : c = j
    · subst hj
      intro e he
      simp [leaveExport_none_of_alone hu] at he
    · intro e he
      exact hu e ((leaveExport_exported_ne hj u).symm.trans he)
  cases he : Tab.get s.relay.exported c with
  | none => exact forEach_keeps (Q := fun u => Tab.get u.relay.exported c = none) hkeeps _ he
  | some e =>
    exact forEach_brings (f := fun j => leaveExport q j 0) (I := fun u => u.heardAlone q c)
      (Q := fun u => Tab.get u.relay.exported c = none) halone hkeeps
      (fun u hu => leaveExport_none_of_alone hu) (mem_keys_of_get he) h

end Exports

/-! ### Its feeds (R88) -/

/-- The contexts by what never changes of them. -/
def State.feedPlans (s : State) : Table Feed := Tab.mapAll s.feed.contexts Feed.plan

theorem tab_erase_mapAll {α : Type} (t : Table α) (f : α → α) (k : Nat) :
    Tab.mapAll (Tab.erase t k) f = Tab.erase (Tab.mapAll t f) k := by
  simp only [Tab.mapAll, Tab.erase, List.filter_map]
  rfl

theorem endFeedContext_feedPlans (k : Nat) (cause : FeedCause) (partner : Bool) (s : State) :
    (endFeedContext k cause partner s).feedPlans = Tab.erase s.feedPlans k := by
  cases hk : s.context k with
  | none =>
    rw [endFeedContext_none hk, State.feedPlans, ← tab_erase_mapAll, tab_erase_of_get_none hk]
  | some f =>
    have hrest : Tab.mapAll (endFeedContext k cause partner s).feed.contexts Feed.plan
        = Tab.mapAll (contextFreed k f s).feed.contexts Feed.plan := by
      cases hside : f.side with
      | sending =>
        rw [endFeedContext_sending hk hside, queueEvent_feed]
        exact same_feeds_plan (w := { Parts.allButHall with contexts := false }) (by apply recheckOutputs_frame <;> rfl) rfl
      | receiving =>
        rw [endFeedContext_receiving hk hside, queueEvent_feed, contextFreed, hside]
        dsimp only
        split
        · exact same_feeds_plan (w := { Parts.allButHall with contexts := false }) (by apply setHolder_frame <;> rfl) rfl
        · rfl
    rw [State.feedPlans, hrest, contextFreed_contexts, tab_erase_mapAll, State.feedPlans]

theorem mem_feedPlans {s : State} {e : Nat × Feed} (h : e ∈ s.feed.contexts) : (e.1, e.2.plan) ∈ s.feedPlans :=
  List.mem_map.mpr ⟨e, h, rfl⟩

theorem mem_tab_erase {α : Type} {t : Table α} {k : Nat} {e : Nat × α} (h : e ∈ Tab.erase t k) : e ∈ t ∧ e.1 ≠ k := by
  simpa [Tab.erase] using h

/-- The feeds of a peer end. -/
theorem endFeeds_partner (q : Nat) (cause : FeedCause) (s : State) :
    ∀ e ∈ (endFeeds (fun f => f.partner = q) cause s).feed.contexts, e.2.partner ≠ q := by
  intro e he hq
  have hmem := mem_feedPlans he
  have hkept : (e.1, e.2.plan) ∈ s.feedPlans :=
    forEach_keeps (Q := fun u => ∀ x ∈ u.feedPlans, x ∈ s.feedPlans) (fun k u hu x hx => by
      rw [endFeedContext_feedPlans] at hx
      exact hu x (mem_tab_erase hx).1) _ (fun _ h => h) _ hmem
  obtain ⟨e0, he0, heq⟩ := List.mem_map.mp hkept
  obtain ⟨hkey, hplan⟩ := Prod.mk.inj heq
  have hpartner : e0.2.partner = q := by
    have h := congrArg Feed.partner hplan
    exact h.trans hq
  have hlist : e.1 ∈ Tab.keys (s.feed.contexts.filter fun e => decide (e.2.partner = q)) :=
    List.mem_map.mpr ⟨e0, List.mem_filter.mpr ⟨he0, by simpa using hpartner⟩, hkey⟩
  have hgone : ∀ x ∈ (endFeeds (fun f => f.partner = q) cause s).feedPlans, x.1 ≠ e.1 :=
    forEach_brings (f := fun k => endFeedContext k cause false) (I := fun _ => True)
      (Q := fun u => ∀ x ∈ u.feedPlans, x.1 ≠ e.1) (k := e.1) (fun _ _ _ => trivial)
      (fun k u hu x hx => by
        rw [endFeedContext_feedPlans] at hx
        exact hu x (mem_tab_erase hx).1)
      (fun u _ x hx => by
        rw [endFeedContext_feedPlans] at hx
        exact (mem_tab_erase hx).2)
      hlist trivial
  exact hgone _ hmem rfl

/-! ### Its trunks (R24) -/

/-- No trunk is claimed anew. -/
def TrunksLeft (s t : State) : Prop := ∀ e ∈ t.planner.trunks, e ∈ s.planner.trunks

theorem TrunksLeft.of_eq {s t : State} (h : t.planner.trunks = s.planner.trunks) : TrunksLeft s t := fun _ he => h ▸ he

theorem TrunksLeft.trans {r s t : State} (h : TrunksLeft r s) (h' : TrunksLeft s t) : TrunksLeft r t :=
  fun e he => h e (h' e he)

theorem forEach_trunksLeft {f : Nat → State → State} (h : ∀ k s, TrunksLeft s (f k s)) (l : List Nat) (s : State) :
    TrunksLeft s (forEach l f s) :=
  forEach_keeps (Q := TrunksLeft s) (fun k u hu => hu.trans (h k u)) l fun _ he => he

theorem releaseTrunk_trunksLeft (u : TrunkUser) (s : State) : TrunksLeft s (releaseTrunk u s) := by
  unfold releaseTrunk
  split
  · exact .of_eq rfl
  · intro e he
    rw [giveUpTrunk_trunks] at he
    exact (mem_tab_erase he).1

theorem leaveExport_trunksLeft (q c b : Nat) (s : State) : TrunksLeft s (leaveExport q c b s) := by
  cases he : Tab.get s.relay.exported c with
  | none =>
    rw [leaveExport_none he]
    exact .of_eq rfl
  | some e =>
    by_cases hl : dropListener q b e.listeners = []
    · rw [leaveExport_ended he hl]
      exact TrunksLeft.trans (s := listenersLeft q c b e s) (.of_eq rfl)
        ((releaseTrunk_trunksLeft (.exported c) _).trans (.of_eq (endExport_trunks c _)))
    · rw [leaveExport_kept he hl]
      exact .of_eq rfl

theorem endFeedContext_trunksLeft (k : Nat) (cause : FeedCause) (partner : Bool) (s : State) :
    TrunksLeft s (endFeedContext k cause partner s) := by
  cases hk : s.context k with
  | none =>
    rw [endFeedContext_none hk]
    exact .of_eq rfl
  | some f =>
    have hreleased : TrunksLeft s (contextReleased k f s) := by
      unfold contextReleased
      split
      · exact releaseTrunk_trunksLeft _ s
      · exact .of_eq rfl
    exact hreleased.trans (.of_eq (same_planner_trunks (endFeedContext_rest hk cause partner).1 rfl))

/-! ### The relays through it (R63) -/

section Relays

variable {b : Nat} {s : State}

theorem desksOff_relayDropped (j : Nat) (h : s.relayDropped b) : (desksOff j s).relayDropped b := by
  obtain ⟨bo, hb, hrest⟩ := h
  by_cases hj : b = j
  · subst hj
    exact ⟨_, desksOff_booth hb, hrest⟩
  · exact ⟨bo, (desksOff_booth_ne hj s).trans hb, hrest⟩

theorem forceOff_relayDropped (j : Nat) (cause : HoldCause) (h : s.relayDropped b) : (forceOff j cause s).relayDropped b := by
  unfold forceOff
  split
  · exact h
  · exact (queueEvent_quiet _ _ _).toCalm.relayDropped (desksOff_relayDropped j h)

theorem endReplacement_relayDropped (k j : Nat) (h : s.relayDropped b) : (endReplacement k j s).relayDropped b := by
  have hmod {u : State} (hu : u.relayDropped b) : (modBooth j (fun bo => { bo with feed := none }) u).relayDropped b := by
    obtain ⟨bo, hb, hrest⟩ := hu
    by_cases hj : b = j
    · subst hj
      exact ⟨{ bo with feed := none }, by rw [modBooth_boothRec_self, hb]; rfl, hrest⟩
    · exact ⟨bo, (modBooth_boothRec_ne hj _ u).trans hb, hrest⟩
  simp only [endReplacement]
  split
  · exact h
  · split
    · refine hmod ?_
      split
      · exact forceOff_relayDropped _ _ h
      · exact h
    · exact h

/-- A relay dropped stays so where the booths are not touched. -/
theorem relayDropped_of_booths {t : State} (h : t.booth.booths = s.booth.booths) (hs : s.relayDropped b) : t.relayDropped b := by
  simpa only [State.relayDropped, State.boothRec, h] using hs

theorem endFeedContext_relayDropped (k : Nat) (cause : FeedCause) (partner : Bool) (h : s.relayDropped b) :
    (endFeedContext k cause partner s).relayDropped b := by
  cases hk : s.context k with
  | none =>
    rw [endFeedContext_none hk]
    exact h
  | some f =>
    refine (endFeedContext_calm hk cause partner).relayDropped ?_
    unfold contextFreed
    split
    · have hreleased := relayDropped_of_booths (releaseTrunk_booth (.feed k) s) h
      exact relayDropped_of_booths rfl (endReplacement_relayDropped k f.booth hreleased)
    · split <;> exact h

end Relays

/-! ### A peer gone -/

/-- Nothing that station q held stays, of what there was in s. -/
structure State.PeerGone (s t : State) (q : Nat) : Prop where
  claims : ∀ e ∈ t.planner.peerClaims, e.station ≠ q
  trunks : ∀ e ∈ t.planner.trunks, ∀ age, e.2 ≠ .peer q age
  directory : ∀ e ∈ t.relay.directory, e.station ≠ q
  feeds : ∀ e ∈ t.feed.contexts, e.2.partner ≠ q
  relays : ∀ b bo c, s.boothRec b = some bo → bo.input = .remote q c → t.relayDropped b
  listeners : ∀ c, t.unheard q c
  exported : ∀ c, s.heardAlone q c → Tab.get t.relay.exported c = none

section Gone

variable (q : Nat) (s : State)

theorem dropPeerClaims_gone : (∀ e ∈ (dropPeerClaims q s).planner.peerClaims, e.station ≠ q)
    ∧ ∀ e ∈ (dropPeerClaims q s).planner.trunks, ∀ age, e.2 ≠ .peer q age := by
  unfold dropPeerClaims
  dsimp only
  generalize hu : ({ s with
    planner.peerClaims := s.planner.peerClaims.filter fun e => e.station ≠ q
    planner.trunks := s.planner.trunks.filter fun e => !(match e.2 with
      | .peer p _ => decide (p = q)
      | .own .. => false) } : State) = u
  have hsame : SameBut Parts.rezoned u (searchWaiting [] (recomputeZone u)) :=
    (searchWaiting_frame (w := Parts.rezoned) rfl rfl rfl _ _).trans (recomputeZone_rezoned u)
  rw [same_planner_peerClaims hsame rfl, same_planner_trunks hsame rfl, ← hu]
  refine ⟨fun e he => by simpa using (List.mem_filter.mp he).2, fun e he age hpeer => ?_⟩
  have hheld := (List.mem_filter.mp he).2
  rw [hpeer] at hheld
  simp at hheld

theorem dropPeerClaims_rest : SameBut { Parts.rezoned with claims := true, trunks := true } s (dropPeerClaims q s) := by
  apply dropPeerClaims_frame <;> rfl

theorem dropPeerEntries_gone : (∀ e ∈ (dropPeerEntries q s).relay.directory, e.station ≠ q)
    ∧ ∀ b bo c, s.boothRec b = some bo → bo.input = .remote q c → (dropPeerEntries q s).relayDropped b := by
  simp only [dropPeerEntries]
  refine ⟨?_, fun b bo c hb hin => ?_⟩
  · rw [same_relay (w := { Parts.allButHall with directory := false, exported := false }) (by apply dropRelays_frame <;> rfl)
      rfl rfl]
    exact fun e he => by simpa using (List.mem_filter.mp he).2
  · exact dropRelays_drops (s := { s with relay.directory := s.relay.directory.filter fun e => e.station ≠ q })
      (mem_keys_filter hb (by simp [fromStation, hin])) _ hb hin

theorem dropPeerEntries_rest : SameBut { Parts.settled with channels := true, booths := true, directory := true, feeds := true }
    s (dropPeerEntries q s) := by apply dropPeerEntries_frame <;> rfl

theorem dropPeerListener_rest : SameBut { Parts.settled with trunks := true, exported := true, deskShow := false }
    s (dropPeerListener q s) := by apply dropPeerListener_frame <;> rfl

theorem endFeeds_rest (p : Feed → Bool) (cause : FeedCause) : SameBut { Parts.settled with
    channels := true, trunks := true, booths := true, desks := true, feeds := true, contexts := true } s (endFeeds p cause s) := by
  apply endFeeds_frame <;> rfl

theorem dropPeer_gone : s.PeerGone (dropPeer q s) q := by
  have h1 := dropPeerClaims_rest q s
  obtain ⟨hclaims, htrunks⟩ := dropPeerClaims_gone q s
  have hbooths := same_booth_booths h1 rfl rfl
  have hexported := same_relay_exported h1 rfl
  unfold dropPeer
  generalize dropPeerClaims q s = u1 at *
  have h2 := dropPeerEntries_rest q u1
  obtain ⟨hdirectory, hrelays⟩ := dropPeerEntries_gone q u1
  have hclaims2 := same_planner_peerClaims h2 rfl
  have htrunks2 := same_planner_trunks h2 rfl
  have hexported2 := same_relay_exported h2 rfl
  generalize dropPeerEntries q u1 = u2 at *
  have h3 := dropPeerListener_rest q u2
  have hclaims3 := same_planner_peerClaims h3 rfl
  have htrunks3 : TrunksLeft u2 (dropPeerListener q u2) := forEach_trunksLeft (fun c u => leaveExport_trunksLeft q c 0 u) _ u2
  have hdirectory3 := same_relay_directory h3 rfl
  have hbooths3 := same_booth_booths h3 rfl rfl
  have hunheard (c : Nat) := dropPeerListener_unheard q c u2
  have hnone (c : Nat) (h : u2.heardAlone q c) := dropPeerListener_none h
  generalize dropPeerListener q u2 = u3 at *
  have h4 := endFeeds_rest u3 (fun f => f.partner = q) .peerLost
  have hrelay4 := same_relay h4 rfl rfl
  refine
    { claims := by rw [same_planner_peerClaims h4 rfl, hclaims3, hclaims2]; exact hclaims
      trunks := fun e he => htrunks e ?_
      directory := by rw [hrelay4, hdirectory3]; exact hdirectory
      feeds := endFeeds_partner q .peerLost u3
      relays := fun b bo c hb hin => ?_
      listeners := fun c => by unfold State.unheard; rw [hrelay4]; exact hunheard c
      exported := fun c h => by
        rw [hrelay4]
        refine hnone c ?_
        unfold State.heardAlone
        rw [hexported2, hexported]
        exact h }
  · rw [← htrunks2]
    exact htrunks3 e (forEach_trunksLeft (fun k u => endFeedContext_trunksLeft k .peerLost false u) _ u3 e he)
  · have hdropped := hrelays b bo c (by rw [State.boothRec, hbooths]; exact hb) hin
    exact forEach_keeps (Q := fun u => u.relayDropped b) (fun k u hu => endFeedContext_relayDropped k .peerLost false hu) _
      (relayDropped_of_booths hbooths3 hdropped)

end Gone

end Sys2Proof.Machine

/-! Peers come and go (R24, R63, R67, R88, R172 to R174). -/

namespace Sys2Proof.Machine

/-! ### A peer stays gone -/

section Stays

variable {q : Nat} {r s t : State}

/-- What moves none of the tables a peer holds a place in. -/
theorem State.PeerGone.of_same {w : Parts} (h : s.PeerGone t q) {u : State} (hu : SameBut w t u) (h1 : w.claims = false)
    (h2 : w.trunks = false) (h3 : w.directory = false) (h4 : w.exported = false) (h5 : w.contexts = false)
    (h6 : w.feeds = false) (h7 : w.outputs = false) (h8 : w.booths = false) : s.PeerGone u q where
  claims := by rw [same_planner_peerClaims hu h1]; exact h.claims
  trunks := by rw [same_planner_trunks hu h2]; exact h.trunks
  directory := by rw [same_relay_directory hu h3]; exact h.directory
  feeds := by rw [same_feed hu h5 h6]; exact h.feeds
  relays b bo c hb hin := relayDropped_of_booths (same_booth_booths hu h7 h8) (h.relays b bo c hb hin)
  listeners c := by unfold State.unheard; rw [same_relay_exported hu h4]; exact h.listeners c
  exported c hc := by rw [same_relay_exported hu h4]; exact h.exported c hc

theorem State.PeerGone.settled (h : s.PeerGone t q) : s.PeerGone (settle t) q where
  claims := by rw [settle_planner_peerClaims]; exact h.claims
  trunks := by rw [settle_planner_trunks]; exact h.trunks
  directory := by rw [settle_relay]; exact h.directory
  feeds := by rw [settle_feed]; exact h.feeds
  relays b bo c hb hin := (settle_quiet t).toCalm.relayDropped (h.relays b bo c hb hin)
  listeners c := by unfold State.unheard; rw [settle_relay]; exact h.listeners c
  exported c hc := by rw [settle_relay]; exact h.exported c hc

/-- What there was of the peer is read of booths and exports alone. -/
theorem State.PeerGone.of_before (h : s.PeerGone t q) (hb : s.booth.booths = r.booth.booths)
    (hx : s.relay.exported = r.relay.exported) : r.PeerGone t q :=
  { h with
    relays := fun b bo c h' hin => h.relays b bo c (by rw [State.boothRec, hb]; exact h') hin
    exported := fun c hc => h.exported c (by unfold State.heardAlone; rw [hx]; exact hc) }

end Stays

/-! ### A peer is lost (R174) -/

section Lost

variable {q : Nat} {s : State} {p : Peer}

/-- Peer q's entry gone, with what it held. -/
def State.peerDropped (s : State) (q : Nat) (peers : Table Peer) : State := dropPeer q { s with line.peers := peers }

theorem losePeer_none (h : Tab.get s.line.peers q = none) : losePeer q s = s := by simp only [losePeer, h]

theorem losePeer_heard (h : Tab.get s.line.peers q = some p) (hage : p.age < 7000) : losePeer q s = s := by
  simp only [losePeer, h, Config.peerLostMs, if_pos hage]

theorem losePeer_lost (h : Tab.get s.line.peers q = some p) (hage : 7000 ≤ p.age) : losePeer q s =
    queueEvent .peerLost [q, p.epoch] (loseOrphans q (s.peerDropped q (Tab.erase s.line.peers q))) := by
  simp only [losePeer, h, Config.peerLostMs, if_neg (Nat.not_lt.mpr hage), State.peerDropped]

variable (q s) (peers : Table Peer)

theorem peerDropped_gone : s.PeerGone (s.peerDropped q peers) q :=
  (dropPeer_gone q { s with line.peers := peers }).of_before rfl rfl

theorem peerDropped_peers : (s.peerDropped q peers).line.peers = peers :=
  same_line_peers (w := { Parts.allButHall with peers := false }) (s := { s with line.peers := peers })
    (by apply dropPeer_frame <;> rfl) rfl

theorem peerDropped_grows : Grows .nothing s (s.peerDropped q peers) :=
  (Grows.of_same rfl rfl rfl rfl : Grows .nothing s { s with line.peers := peers }).trans (dropPeer_grows rfl rfl q _)

end Lost

/-! ### A frame of a station that is not known as it stands (R172, R173) -/

section Noted

variable {q epoch : Nat} {s : State} {p : Peer}

/-- The peers with a fresh entry for q. -/
def State.peersNoted (s : State) (q epoch : Nat) : Table Peer := Tab.set s.line.peers q ⟨epoch, [], 0⟩

theorem notePeer_unknown (h : Tab.get s.line.peers q = none) : notePeer q epoch s =
    queueEvent .peerJoined [q, epoch] (joinOrphans q { s with line.peers := s.peersNoted q epoch }) := by
  simp only [notePeer, h, State.peersNoted]

theorem notePeer_epoch (h : Tab.get s.line.peers q = some p) (he : p.epoch ≠ epoch) : notePeer q epoch s =
    queueEvent .peerJoined [q, epoch] (refreshOrphans q (s.peerDropped q (s.peersNoted q epoch))) := by
  simp only [notePeer, h, if_neg he, State.peerDropped, State.peersNoted]

end Noted

/-- A frame with no payload for this station, from another one, is taken by the peer table alone. -/
theorem exec_unaddressed {s : State} {f : LineFrame} (hrun : s.running = true) (hlive : s.line.state.live = true)
    (hok : stationOk f.source = true) (hother : f.source ≠ s.self) (htaken : takenBy s.self f = none) :
    exec (.frameForOtherStation f) s = .next (settle (notePeer f.source f.epoch (countGood s))) := by
  have hreceive : receive f.sender f.kind (deliverFrame s.self f) s = notePeer f.source f.epoch (countGood s) := by
    have hself : ¬f.sender.station = (countGood s).self := by
      rw [countGood_self]
      exact hother
    simp only [receive, hlive, Bool.not_true, Bool.false_eq_true, if_false, hself, show stationOk f.sender.station = true from hok,
      deliverFrame, htaken]
    rfl
  rw [exec_frameForOther, event_of_running _ hrun, hreceive]

/-- What the peer table makes of a frame stays as the step settles, and is told. -/
theorem settled_peers {k : EventKind} {fields : List Nat} {s v : State} {peers : Table Peer}
    (hgrow : Grows .nothing s v) (hpeers : v.line.peers = peers) :
    (settle (queueEvent k fields v)).line.peers = peers ∧ s.tells (settle (queueEvent k fields v)) k fields := by
  refine ⟨?_, ?_⟩
  · rw [settle_line_peers, queueEvent_line, hpeers]
  · exact (settle_steady _).tells (hgrow.tells_from (queueEvent_tells _ _ _))

/-- What peers and orphans make of a peer gone. -/
theorem State.PeerGone.told {q : Nat} {s v u : State} (h : s.PeerGone v q) (hu : SameBut
    { events := true, orphans := true, lineQueue := true } v u) (k : EventKind) (fields : List Nat) : s.PeerGone (settle (queueEvent k fields u)) q :=
  (h.of_same ((queueEvent_frame rfl k fields u).trans hu) rfl rfl rfl rfl rfl rfl rfl rfl).settled

/-- Settles O47: all that a peer held goes in `dropPeer`, table by table. -/
theorem peersComeAndGo : Obligations.PeersComeAndGo := by
  intro s f q hrun gone all
  have hgone {t : State} {j : Nat} (h : s.PeerGone t j) : gone t j :=
    ⟨h.claims, h.trunks, h.directory, h.feeds, h.relays, h.listeners, fun c e he hl => h.exported c fun e' he' => by
      rwa [← Option.some.inj (he.symm.trans he')]⟩
  have hlose : exec (.peerLost q) s = .next (settle (losePeer q s)) := congrArg Host.Outcome.next (event_of_running _ hrun)
  refine ⟨fun hlive htx hok hother htaken => ?_, fun p hp hage => ⟨_, hlose, ?_⟩, fun p hp hage => ⟨_, hlose, ?_⟩,
    fun hnone => ⟨_, hlose, ?_⟩⟩
  · have hexec := exec_unaddressed hrun hlive hok hother htaken
    have hpeers : (countGood s).line.peers = s.line.peers := by rw [countGood_eq hlive htx]
    have hbooths : (countGood s).booth.booths = s.booth.booths := by rw [countGood_eq hlive htx]
    have hexported : (countGood s).relay.exported = s.relay.exported := by rw [countGood_eq hlive htx]
    have hgood : Grows .nothing s (countGood s) := countGood_grows_of_low hlive htx
    have hsame {w : Parts} (h1 : w.events = true) (h2 : w.lineState = true) : SameBut w s (countGood s) :=
      countGood_line_frame hlive htx h1 h2
    generalize countGood s = u at *
    have hfresh : Tab.get (u.peersNoted f.source f.epoch) f.source = some ⟨f.epoch, [], 0⟩ := tab_get_set_self _ _ _
    have hnoted : Grows .nothing u { u with line.peers := u.peersNoted f.source f.epoch } := .of_same rfl rfl rfl rfl
    refine ⟨fun hnone => ⟨_, hexec, ?_⟩, fun p hp he => ⟨_, hexec, ?_⟩⟩
    · have hjoin : SameBut { Parts.heard with orphans := true } u (notePeer f.source f.epoch u) := by
        rw [notePeer_unknown (hpeers ▸ hnone)]
        exact (queueEvent_frame rfl _ _ _).trans ((joinOrphans_frame rfl rfl rfl _ _).trans (blank_line_peers rfl _ _))
      rw [notePeer_unknown (hpeers ▸ hnone)] at hjoin ⊢
      obtain ⟨hpeers', htells⟩ := settled_peers (k := .peerJoined) (fields := [f.source, f.epoch])
        (hgood.trans (hnoted.trans (joinOrphans_grows f.source _)))
        (same_line_peers (w := { events := true, lineQueue := true, orphans := true })
          (joinOrphans_frame rfl rfl rfl f.source _) rfl)
      have hrest : SameBut { Parts.heard with orphans := true } s _ :=
        SameBut.settled (hjoin.trans (hsame rfl rfl)) rfl rfl rfl rfl rfl rfl rfl
      exact ⟨by rw [hpeers', hfresh], htells, hrest⟩
    · have hdrop : SameBut all u (notePeer f.source f.epoch u) := by apply notePeer_frame <;> rfl
      rw [notePeer_epoch (hpeers ▸ hp) he] at hdrop ⊢
      have horphans : SameBut { events := true, orphans := true, lineQueue := true }
          (u.peerDropped f.source (u.peersNoted f.source f.epoch))
          (refreshOrphans f.source (u.peerDropped f.source (u.peersNoted f.source f.epoch))) :=
        refreshOrphans_frame rfl rfl rfl _ _
      obtain ⟨hpeers', htells⟩ := settled_peers (k := .peerJoined) (fields := [f.source, f.epoch])
        (hgood.trans ((peerDropped_grows f.source u (u.peersNoted f.source f.epoch)).trans (refreshOrphans_grows f.source _)))
        ((same_line_peers horphans rfl).trans (peerDropped_peers _ _ _))
      have hleft := ((peerDropped_gone f.source u (u.peersNoted f.source f.epoch)).of_before hbooths hexported).told horphans
        .peerJoined [f.source, f.epoch]
      have hrest : SameBut all s _ := SameBut.settled (hdrop.trans (hsame rfl rfl)) rfl rfl rfl rfl rfl rfl rfl
      exact ⟨by rw [hpeers', hfresh], hgone hleft, htells, hrest⟩
  · have hdrop : SameBut { all with lineState := false } s (losePeer q s) := by apply losePeer_frame <;> rfl
    rw [losePeer_lost hp hage] at hdrop ⊢
    have horphans : SameBut { events := true, orphans := true, lineQueue := true }
        (s.peerDropped q (Tab.erase s.line.peers q)) (loseOrphans q (s.peerDropped q (Tab.erase s.line.peers q))) :=
      loseOrphans_frame rfl rfl _ _
    obtain ⟨hpeers', htells⟩ := settled_peers (k := .peerLost) (fields := [q, p.epoch])
      ((peerDropped_grows q s (Tab.erase s.line.peers q)).trans (loseOrphans_grows q _))
      ((same_line_peers horphans rfl).trans (peerDropped_peers _ _ _))
    exact ⟨by rw [hpeers']; exact tab_get_erase_self _ _, fun j hj => by rw [hpeers']; exact tab_get_erase_ne _ _ _ hj,
      hgone ((peerDropped_gone q s _).told horphans _ _), htells,
      SameBut.settled hdrop rfl rfl rfl rfl rfl rfl rfl⟩
  · rw [losePeer_heard hp hage]
    exact settle_sameBut s
  · rw [losePeer_none hnone]
    exact settle_sameBut s

end Sys2Proof.Machine

/-! What the messages queued keep through every change of holds, relays and desks (R106, R107). -/

namespace Sys2Proof.Machine

/-- A property of the messages queued that others may join. -/
structure Joins (Q : State → Prop) : Prop where
  same : ∀ s t, t.panel.outbound = s.panel.outbound → t.panel.deferred = s.panel.deferred →
    t.panel.drops = s.panel.drops → t.clock = s.clock → Q s → Q t
  queue : ∀ b o s, Q s → Q (queueMessage b o s)

namespace Joins

variable {Q : State → Prop} (hQ : Joins Q)
include hQ

/-- An operation that queues no message. -/
theorem of_same {w : Parts} {s t : State} (h : SameBut w s t) (h1 : w.outbound = false) (h2 : w.drops = false) (hs : Q s) :
    Q t :=
  hQ.same s t (same_panel_outbound h h1) (same_panel_deferred h h1) (same_panel_drops h h2) (same_clock h) hs

theorem of_panel {s t : State} (hp : t.panel = s.panel) (hc : t.clock = s.clock) (hs : Q s) : Q t :=
  hQ.same s t (by rw [hp]) (by rw [hp]) (by rw [hp]) hc hs

theorem queueEvent {s : State} (k : EventKind) (fields : List Nat) (hs : Q s) : Q (queueEvent k fields s) :=
  hQ.of_panel (by simp) (by simp) hs

theorem enqueueFrame {s : State} (dest : Nat) (p : Payload) (hs : Q s) : Q (enqueueFrame dest p s) :=
  hQ.of_panel (by simp) (by simp) hs

theorem setRoute {s : State} (o : Nat) (src : Source) (hs : Q s) : Q (setRoute o src s) := by
  unfold Machine.setRoute
  split
  · exact hs
  · exact hQ.queue _ _ _ (hQ.same s _ rfl rfl rfl rfl hs)

/-! ### Relays and pedigrees -/

theorem dropRelay {s : State} (cause : LostCause) (b : Nat) (hs : Q s) : Q (dropRelay cause b s) := by
  have hdropped (f : Booth → Booth) (fields : List Nat) :
      Q (Machine.queueEvent .relayLost fields (Machine.setRoute (inputOutput b) .floor (modBooth b f s))) :=
    hQ.queueEvent _ _ (hQ.setRoute _ _ (hQ.same s _ rfl rfl rfl rfl hs))
  unfold Machine.dropRelay
  split
  · exact hs
  · split
    · exact hs
    · dsimp only
      split
      · exact hQ.of_same (w := { events := true, lineQueue := true }) (sendRelayRelease_frame rfl rfl _ _ _) rfl rfl
          (hdropped _ _)
      · exact hdropped _ _

theorem recheckBooth {s : State} (src : Selection) (b : Nat) (hs : Q s) : Q (recheckBooth src b s) := by
  simp only [Machine.recheckBooth]
  split
  · exact hQ.dropRelay .loop b hs
  · split
    · exact hQ.dropRelay .depth b hs
    · exact hs

theorem storePedigree {s : State} (c : Nat) (hs : Q s) : Q (storePedigree c s) :=
  hQ.of_same (w := { events := true, notices := true, channels := true, lineQueue := true })
    (storePedigree_frame rfl rfl rfl rfl c s) rfl rfl hs

theorem storeFeedPedigree {s : State} (k : Nat) (hs : Q s) : Q (storeFeedPedigree k s) :=
  hQ.of_same (w := { events := true, feeds := true, lineQueue := true }) (storeFeedPedigree_frame rfl rfl rfl k s) rfl rfl hs

theorem followChanges (n : Nat) (l : List Selection) {s : State} (hs : Q s) : Q (followChanges n l s) := by
  induction n generalizing l s with
  | zero => exact hs
  | succ n ih =>
    cases l with
    | nil => exact hs
    | cons src rest =>
      simp only [Machine.followChanges]
      exact ih _ (forEach_keeps (Q := Q) (fun k _ => hQ.storeFeedPedigree k) _ (forEach_keeps (Q := Q) (fun c _ => hQ.storePedigree c) _
        (forEach_keeps (Q := Q) (fun b _ => hQ.recheckBooth src b) _ hs)))

theorem recompute {s : State} (which : Nat → Channel → Bool) (booths : List Nat) (hs : Q s) : Q (recompute which booths s) := by
  simp only [Machine.recompute]
  exact hQ.followChanges _ _ (forEach_keeps (Q := Q) (fun k _ => hQ.storeFeedPedigree k) _ (forEach_keeps (Q := Q) (fun c _ => hQ.storePedigree c) _ hs))

/-! ### Holds -/

theorem setHolder {s : State} (c : Nat) (x : Holder) (hs : Q s) : Q (setHolder c x s) := by
  cases hc : s.channel c with
  | none =>
    rw [setHolder_none hc]
    exact hs
  | some ch =>
    have hgiven : Q (modChannel c (Channel.given x) s) := hQ.same s _ rfl rfl rfl rfl hs
    rw [setHolder_some hc]
    split
    · exact hgiven
    · exact hQ.recompute _ _ (hQ.setRoute _ _ hgiven)

theorem feedTakes {s : State} (k c : Nat) (hs : Q s) : Q (feedTakes k c s) := by
  rw [feedTakes_eq]
  exact hQ.setHolder _ _ (hQ.same s _ rfl rfl rfl rfl hs)

theorem vacate {s : State} (c : Nat) (hs : Q s) : Q (vacate c s) := by
  unfold Machine.vacate
  split
  · split
    · exact hQ.feedTakes _ _ hs
    · exact hQ.setHolder _ _ hs
  · exact hQ.setHolder _ _ hs

theorem leave {s : State} (h : Option Held) (hs : Q s) : Q (leave h s) := by
  rcases h with - | c | k
  · exact hs
  · exact hQ.vacate c hs
  · exact hQ.of_same (w := { events := true, feeds := true, lineQueue := true }) (reportUnheld_frame rfl rfl rfl k s) rfl rfl hs

theorem gain {s : State} (b d : Nat) (h : Option Held) (hs : Q s) : Q (gain b d h s) := by
  rcases h with - | c | k
  · exact hs
  · exact hQ.setHolder c _ hs
  · exact hQ.of_same (w := { events := true, feeds := true, lineQueue := true }) (reportHeld_frame rfl rfl rfl k s) rfl rfl hs

theorem forceOff {s : State} (b : Nat) (cause : HoldCause) (hs : Q s) : Q (forceOff b cause s) :=
  hQ.of_same (w := { events := true, booths := true, desks := true }) (forceOff_frame rfl rfl rfl b cause s) rfl rfl hs

theorem modDesk {s : State} (d : Nat) (f : Desk → Desk) (hs : Q s) : Q (modDesk d f s) := hQ.same s _ rfl rfl rfl rfl hs

theorem nameHolder {s : State} (b d : Nat) (hs : Q s) : Q (nameHolder b d s) := by
  unfold Machine.nameHolder
  split
  · exact hs
  · have hnamed : Q (modBooth b (fun bo => { bo with holding := some d }) s) := hQ.same s _ rfl rfl rfl rfl hs
    dsimp only
    split
    · exact hQ.setHolder _ _ hnamed
    · exact hnamed

theorem endOverlap {s : State} (b : Nat) (hs : Q s) : Q (endOverlap b s) := by
  have hstopped : Q (stopOverlap b s) := hQ.same s _ rfl rfl rfl rfl hs
  unfold Machine.endOverlap
  split
  · exact hs
  · split
    · exact hQ.nameHolder _ _ (hQ.modDesk _ _ (hQ.modDesk _ _ hstopped))
    · exact hs

theorem cancelOverlap {s : State} (b : Nat) (hs : Q s) : Q (cancelOverlap b s) := by
  have hstopped : Q (stopOverlap b s) := hQ.same s _ rfl rfl rfl rfl hs
  unfold Machine.cancelOverlap
  split
  · exact hs
  · split
    · exact hQ.modDesk _ _ (hQ.modDesk _ _ hstopped)
    · exact hs

theorem endHold {s : State} (b d : Nat) (hs : Q s) : Q (endHold b d s) := by
  unfold Machine.endHold
  split
  · exact hs
  · have hended : Q (modBooth b (fun bo => { bo with holding := none }) s) := hQ.same s _ rfl rfl rfl rfl hs
    exact hQ.leave _ (hQ.modDesk _ _ hended)

theorem keyRelease {s : State} (d : Nat) (r : Desk) (hs : Q s) : Q (keyRelease d r s) := by
  unfold Machine.keyRelease
  split
  · exact hQ.endOverlap _ hs
  · exact hQ.cancelOverlap _ hs
  · exact hQ.endHold _ _ hs
  · exact hQ.endHold _ _ hs
  · exact hs

theorem deskOffline {s : State} (d : Nat) (hs : Q s) : Q (deskOffline d s) := by
  simp only [Machine.deskOffline]
  split
  · exact hs
  · refine hQ.modDesk _ _ (hQ.keyRelease _ _ ?_)
    split
    · split
      · exact hQ.queueEvent _ _ hs
      · exact hs
    · exact hs

/-! ### Settling -/

theorem refreshDesk {s : State} (d : Nat) (hs : Q s) : Q (refreshDesk d s) := by
  simp only [Machine.refreshDesk]
  split
  · exact hs
  · split
    · split
      · exact hs
      · exact hQ.queue _ _ _ (hQ.modDesk _ _ hs)
    · split
      · exact hQ.queue _ _ _ (hQ.modDesk _ _ hs)
      · exact hQ.queue _ _ _ (hQ.modDesk _ _ (hQ.queue _ _ _ (hQ.modDesk _ _ hs)))

theorem settle {s : State} (hs : Q s) : Q (settle s) := by
  have hdesks : Q (settledDesks s) := forEach_keeps (Q := Q) (fun d _ => hQ.refreshDesk d) _ (hQ.setRoute _ _ hs)
  have hpanel : (Machine.settle s).panel = (settledDesks s).panel := settle_panel s
  have hclock : (Machine.settle s).clock = (settledDesks s).clock :=
    (settle_clock s).trans (same_clock (settledDesks_frame s)).symm
  exact hQ.of_panel hpanel hclock hdesks

end Joins

/-! ### What joins keep -/

/-- No message is queued for drop a, which is OFFLINE. -/
def State.hushed (a : Nat) (s : State) : Prop := s.dropOnline a = false ∧ ∀ m ∈ s.panel.outbound, m.body.drop ≠ a

theorem queueMessage_dropOnline (b : Body) (o : Origin) (s : State) (a : Nat) :
    (queueMessage b o s).dropOnline a = s.dropOnline a := by simp only [State.dropOnline, queueMessage_panel_drops]

theorem mem_queueMessage {b : Body} {o : Origin} {s : State} {m : Message} (h : m ∈ (queueMessage b o s).panel.outbound) :
    m ∈ s.panel.outbound ∨ m.body = b ∧ s.dropOnline b.drop = true := by
  unfold queueMessage at h
  dsimp only at h
  split at h
  · exact Or.inl h
  next hon =>
    have hon' : s.dropOnline b.drop = true := by
      simp only [Bool.or_eq_true, Bool.not_eq_true', not_or, Bool.not_eq_false] at hon
      exact hon.2
    split at h
    · obtain ⟨n, hn, rfl⟩ := List.mem_map.mp h
      by_cases hsame : sameQueued b.target n = true
      · rw [if_pos hsame]
        exact Or.inr ⟨rfl, hon'⟩
      · rw [if_neg hsame]
        exact Or.inl hn
    split at h
    · exact Or.inl h
    split at h
    · rcases List.mem_append.mp h with h | h
      · exact Or.inl h
      · exact Or.inr ⟨by rw [List.mem_singleton.mp h], hon'⟩
    split at h
    · exact Or.inl h
    split at h
    · rw [deferTarget_outbound] at h
      rcases List.mem_append.mp h with h | h
      · exact Or.inl (mem_of_mem_dropLastMatch h)
      · exact Or.inr ⟨by rw [List.mem_singleton.mp h], hon'⟩
    · rw [deferTarget_outbound] at h
      exact Or.inl h

theorem hushed_joins (a : Nat) : Joins (State.hushed a) where
  same s t hq _ hd _ := by
    rintro ⟨hoff, hno⟩
    exact ⟨by simp only [State.dropOnline, hd] at hoff ⊢; exact hoff, by rw [hq]; exact hno⟩
  queue b o s := by
    rintro ⟨hoff, hno⟩
    refine ⟨(queueMessage_dropOnline b o s a).trans hoff, fun m hm => ?_⟩
    rcases mem_queueMessage hm with h | ⟨rfl, hon⟩
    · exact hno m h
    · rintro rfl
      rw [hoff] at hon
      exact absurd hon (by simp)

/-- A message that no later one replaces stays wanted. -/
theorem wants_joins {b : Body} (hb : b.target.replaced = false) : Joins (fun s => s.wants b) where
  same s t hq hd _ _ := (wants_congr hq hd).mpr
  queue b' o s h := wants_queueMessage h o fun ht hr => by rw [ht, hb] at hr; exact absurd hr (by simp)

/-! ### The room filled -/

theorem hushed_refill {a : Nat} (n : Nat) {s : State} (h : s.hushed a) : (refill n s).hushed a := by
  induction n generalizing s with
  | zero => exact h
  | succ n ih =>
    unfold refill
    split
    · split
      · exact h
      · dsimp only
        split
        · exact ih ((hushed_joins a).queue _ _ _ h)
        · exact ih (s := { s with panel.deferred := _ }) h
    · exact h

theorem hushed_fillRoom {a : Nat} {s : State} (h : s.hushed a) : (fillRoom s).hushed a := hushed_refill _ h

theorem hushed_removeMessages {a : Nat} {s : State} (h : s.hushed a) (p : Message → Bool) : (removeMessages p s).hushed a :=
  hushed_refill (s := { s with panel.outbound := s.panel.outbound.filter fun m => !p m }) _
    ⟨h.1, fun m hm => h.2 m (List.mem_filter.mp hm).1⟩

theorem hushed_discardMessages {a : Nat} {s : State} (h : s.hushed a) (t : Target) : (discardMessages t s).hushed a :=
  hushed_removeMessages (s := { s with panel.deferred := s.panel.deferred.erase t }) h _

end Sys2Proof.Machine

/-! Silent exchanges (R105, R109). -/

namespace Sys2Proof.Machine

/-! ### The silence counted -/

/-- A silence counted against a drop. -/
def Drop.silenced (x : Drop) : Drop := { x with silences := min (x.silences + 1) 3 }

/-- What drop a's OFFLINE leaves before its owner is told: its messages gone. -/
def State.dropLost (a : Nat) (kind : DropKind) (s : State) : State :=
  let s := queueEvent .dropOffline [a, kind.code] (modDrop a (fun d => { d with online := false }) s)
  removeMessages (fun m => m.body.drop = a) { s with panel.deferred := s.panel.deferred.filter fun t => t.drop ≠ a }

theorem dropGoesOffline_eq (a : Nat) (kind : DropKind) (s : State) : dropGoesOffline a kind s =
    match kind with
    | .desk => deskOffline a (s.dropLost a .desk)
    | .slot => slotOffline (a - 31) (s.dropLost a .slot)
    | .matrix => s.dropLost a .matrix := by
  cases kind <;> simp only [dropGoesOffline, State.dropLost]

section Count

variable {a : Nat} {s : State} {dr : Drop} (hd : Tab.get s.panel.drops a = some dr)
include hd

theorem countSilence_offline (h : dr.online = false) : countSilence a s = s := by
  simp [countSilence, hd, h]

theorem countSilence_below (hon : dr.online = true) (h : dr.silences < 2) : countSilence a s = modDrop a Drop.silenced s := by
  have h3 : ¬3 ≤ dr.silences + 1 := by omega
  simp only [countSilence, hd, hon, Bool.not_true, Bool.false_eq_true, if_false, h3]
  rfl

theorem countSilence_third (hon : dr.online = true) (h : 2 ≤ dr.silences) :
    countSilence a s = dropGoesOffline a dr.kind (modDrop a Drop.silenced s) := by
  have h3 : 3 ≤ dr.silences + 1 := by omega
  simp only [countSilence, hd, hon, Bool.not_true, Bool.false_eq_true, if_false, h3, if_true]
  rfl

theorem silenced_below (h : dr.silences < 2) (f : State → State) (hf : (f (modDrop a Drop.silenced s)).panel.drops
    = (modDrop a Drop.silenced s).panel.drops) :
    Tab.get (f (modDrop a Drop.silenced s)).panel.drops a = some { dr with silences := dr.silences + 1 } := by
  have hmin : min (dr.silences + 1) 3 = dr.silences + 1 := by omega
  rw [hf, modDrop_drop_self, hd, Option.map_some, Drop.silenced, hmin]

end Count

/-! ### A drop lost -/

section Lost

variable (a : Nat) (kind : DropKind) (s : State)

theorem dropLost_rest : SameBut { events := true, outbound := true, drops := true } s (s.dropLost a kind) := by
  unfold State.dropLost
  exact (removeMessages_frame rfl _ _).trans ((blank_panel_deferred rfl _ _).trans
    ((queueEvent_frame rfl _ _ _).trans (modDrop_frame rfl _ _ _)))

theorem dropLost_tells : s.tells (s.dropLost a kind) .dropOffline [a, kind.code] := by
  have htold := (modDrop_grows (κ := {}) a (fun d => { d with online := false }) s).tells_from
    (queueEvent_tells .dropOffline [a, kind.code] _)
  unfold State.dropLost
  generalize queueEvent .dropOffline [a, kind.code] (modDrop a (fun d => { d with online := false }) s) = u at htold ⊢
  exact ((Grows.of_same rfl rfl rfl rfl : Grows {} u
    { u with panel.deferred := u.panel.deferred.filter fun t => t.drop ≠ a }).trans (removeMessages_grows _ _)).tells htold

theorem dropLost_grows {κ : Keep} : Grows κ s (s.dropLost a kind) := by
  have htold : Grows κ s (queueEvent .dropOffline [a, kind.code] (modDrop a (fun d => { d with online := false }) s)) :=
    (modDrop_grows _ _ s).trans (queueEvent_grows _ _ _)
  unfold State.dropLost
  generalize queueEvent .dropOffline [a, kind.code] (modDrop a (fun d => { d with online := false }) s) = u at htold ⊢
  exact htold.trans ((Grows.of_same rfl rfl rfl rfl : Grows κ u
    { u with panel.deferred := u.panel.deferred.filter fun t => t.drop ≠ a }).trans (removeMessages_grows _ _))

theorem dropLost_drop : Tab.get (s.dropLost a kind).panel.drops a
    = (Tab.get s.panel.drops a).map fun d => { d with online := false } := by
  have hrest (p : Message → Bool) (u : State) : (removeMessages p u).panel.drops = u.panel.drops :=
    same_panel_drops (w := { outbound := true }) (removeMessages_frame rfl p u) rfl
  unfold State.dropLost
  rw [hrest]
  simp only [queueEvent_panel]
  exact modDrop_drop_self a _ s

theorem dropLost_hushed : (s.dropLost a kind).hushed a := by
  have hoff : (s.dropLost a kind).dropOnline a = false := by
    rw [State.dropOnline, dropLost_drop]
    cases Tab.get s.panel.drops a <;> rfl
  refine ⟨hoff, ?_⟩
  unfold State.dropLost at hoff ⊢
  dsimp only at hoff ⊢
  generalize hu : ({ queueEvent .dropOffline [a, kind.code] (modDrop a (fun d => { d with online := false }) s) with
    panel.deferred := _ } : State) = u at hoff ⊢
  have hdrops : (removeMessages (fun m => decide (m.body.drop = a)) u).dropOnline a = u.dropOnline a := by
    simp only [State.dropOnline, same_panel_drops (w := { outbound := true }) (removeMessages_frame rfl _ u) rfl]
  refine (hushed_refill (a := a) (s := { u with panel.outbound := u.panel.outbound.filter fun m => !decide (m.body.drop = a) })
    u.panel.deferred.length ⟨hdrops.symm.trans hoff, fun m hm => ?_⟩).2
  simpa using (List.mem_filter.mp hm).2

end Lost

/-! ### A slot lost (R116) -/

theorem slotOffline_slot {k : Nat} {s : State} {sl : Slot} (h : s.slot k = some sl) :
    (slotOffline k s).slot k = some { Slot.empty with state := .offline, cause := some .link }
      ∧ s.tells (slotOffline k s) .slotFault [k, SlotCause.link.code, 0] := by
  have hslots (n : Nat) (u : State) : (endIssue n k u).dock.slots = u.dock.slots :=
    same_dock_slots (w := { outbound := true, issues := true }) (endIssue_frame rfl rfl n k u) rfl
  have hlast (u : State) (hu : u.dock.slots = s.dock.slots) (hgrow : Grows {} s u) :
      (queueEvent .slotFault [k, SlotCause.link.code, 0]
        (modSlot k (fun _ => { Slot.empty with state := .offline, cause := some .link }) (leaveReady k u))).slot k
          = some { Slot.empty with state := .offline, cause := some .link }
      ∧ s.tells (queueEvent .slotFault [k, SlotCause.link.code, 0]
        (modSlot k (fun _ => { Slot.empty with state := .offline, cause := some .link }) (leaveReady k u)))
          .slotFault [k, SlotCause.link.code, 0] := by
    have hsl : (leaveReady k u).slot k = some sl := by
      rw [← h, State.slot, State.slot, ← hu]
      rfl
    refine ⟨?_, ((hgrow.trans (leaveReady_grows _ _)).trans (modSlot_grows _ _ _)).tells_from (queueEvent_tells _ _ _)⟩
    rw [State.slot, queueEvent_dock]
    exact (slot_modSlot_self k _ _).trans (by rw [hsl]; rfl)
  simp only [slotOffline, h]
  refine hlast _ ?_ ?_
  · split
    · split
      · rw [queueEvent_dock, hslots]
      · rfl
    · rfl
  · split
    · split
      · exact (endIssue_grows _ _ _).trans (queueEvent_grows _ _ _)
      · exact .refl s
    · exact .refl s

theorem hushed_slotOffline {a k : Nat} {s : State} (h : s.hushed a) : (slotOffline k s).hushed a := by
  have hend (n : Nat) : (endIssue n k s).hushed a := by
    refine hushed_discardMessages (s := disownMessages n { s with dock.issues := Tab.erase s.dock.issues n }) ⟨h.1, ?_⟩ _
    intro m hm
    obtain ⟨m0, hm0, rfl⟩ := List.mem_map.mp hm
    have hdrop := h.2 m0 hm0
    split
    · exact hdrop
    · exact hdrop
  have hlast (u : State) (hu : u.hushed a) : (queueEvent .slotFault [k, SlotCause.link.code, 0]
      (modSlot k (fun _ => { Slot.empty with state := .offline, cause := some .link }) (leaveReady k u))).hushed a :=
    (hushed_joins a).queueEvent _ _ ((hushed_joins a).same u _ rfl rfl rfl rfl hu)
  simp only [slotOffline]
  split
  · exact h
  · refine hlast _ ?_
    split
    · split
      · exact (hushed_joins a).queueEvent _ _ (hend _)
      · exact h
    · exact h

/-! ### A desk lost (R44) -/

section Desk

variable {d : Nat} {s : State} {r : Desk}

theorem releases_holding {t : State} (h : Releases s t) {b : Nat} {bo : Booth} (hb : s.boothRec b = some bo)
    (hnone : bo.holding = none) : ∃ bo', t.boothRec b = some bo' ∧ bo'.holding = none := by
  obtain ⟨bo', hb', -, hhold, -⟩ := h.booth b bo hb
  refine ⟨bo', hb', ?_⟩
  rcases hhold with hhold | hhold
  · exact (congrArg Prod.fst hhold).trans hnone
  · exact congrArg Prod.fst hhold

/-- The sole holding desk gives up the hold (R39). -/
theorem endHold_holding {b : Nat} {bo : Booth} (hb : s.boothRec b = some bo) (d : Nat) :
    ∃ bo', (endHold b d s).boothRec b = some bo' ∧ bo'.holding = none := by
  simp only [endHold, hb]
  exact releases_holding (leave_releases _ _) (bo := { bo with holding := none })
    ((modBooth_boothRec_self b (fun bo => { bo with holding := none }) s).trans (by rw [hb]; rfl)) rfl

theorem stopOverlap_booth {b : Nat} {bo : Booth} (hb : s.boothRec b = some bo) :
    (stopOverlap b s).boothRec b = some { bo with partner := none, overlap := none } :=
  (modBooth_boothRec_self b _ s).trans (by rw [hb]; rfl)

/-- The IN desk holds (R36). -/
theorem endOverlap_booth {b out inn : Nat} {bo : Booth} (hb : s.boothRec b = some bo) (hout : bo.holding = some out)
    (hin : bo.partner = some inn) : ∃ bo', (endOverlap b s).boothRec b = some bo' ∧ bo'.holding = some inn
      ∧ bo'.partner = none ∧ bo'.overlap = none := by
  have hstopped : (settleDesk inn (deskOff out (stopOverlap b s))).boothRec b
      = some { bo with partner := none, overlap := none } := stopOverlap_booth hb
  simp only [endOverlap, hb, hout, hin]
  generalize settleDesk inn (deskOff out (stopOverlap b s)) = u at hstopped
  have hnamed : (modBooth b (fun bo => { bo with holding := some inn }) u).boothRec b
      = some { bo with partner := none, overlap := none, holding := some inn } :=
    (modBooth_boothRec_self b _ u).trans (by rw [hstopped]; rfl)
  simp only [nameHolder, hstopped]
  split
  next c _ =>
    obtain ⟨bo', hb', -, hhold, -⟩ := (setHolder_releases c (.desk b inn) _).booth b _ hnamed
    have hquiet := (setHolder_calm c (.desk b inn) (modBooth b (fun bo => { bo with holding := some inn }) u)).booth_some hnamed
    obtain ⟨bo1, hb1, hq⟩ := hquiet
    have hholding := congrArg Booth.holding hq
    have hpartner := congrArg Booth.partner hq
    have hoverlap := congrArg Booth.overlap hq
    exact ⟨bo1, hb1, hholding, hpartner, hoverlap⟩
  · exact ⟨_, hnamed, rfl, rfl, rfl⟩

/-- The OUT desk holds (R37). -/
theorem cancelOverlap_booth {b out inn : Nat} {bo : Booth} (hb : s.boothRec b = some bo) (hout : bo.holding = some out)
    (hin : bo.partner = some inn) : ∃ bo', (cancelOverlap b s).boothRec b = some bo' ∧ bo'.holding = some out
      ∧ bo'.partner = none ∧ bo'.overlap = none := by
  have heq : cancelOverlap b s = settleDesk out (deskOff inn (stopOverlap b s)) := by simp only [cancelOverlap, hb, hout, hin]
  rw [heq]
  exact ⟨_, stopOverlap_booth hb, hout, rfl, rfl⟩

/-- The state in which a desk that goes OFFLINE is released: HOLD LOST told where it held alone. -/
def State.holdTold (r : Desk) (s : State) : State :=
  match s.boothRec r.booth with
  | some bo =>
    if r.state = .live || r.state = .cough then queueEvent .holdLost [r.booth, heldCode bo.target, HoldCause.offline.code] s
    else s
  | none => s

theorem deskOffline_eq (h : s.desk d = some r) : deskOffline d s =
    modDesk d (fun r => { r with state := .offline, cough := false }) (keyRelease d r (s.holdTold r)) := by
  simp only [deskOffline, h, State.holdTold] <;> rfl

theorem holdTold_frame {w : Parts} (h1 : w.events = true) (r : Desk) (s : State) : SameBut w s (s.holdTold r) := by
  unfold State.holdTold
  split
  · split
    · exact queueEvent_frame h1 _ _ s
    · rfl
  · rfl

theorem holdTold_grows {κ : Keep} (r : Desk) (s : State) : Grows κ s (s.holdTold r) := by
  unfold State.holdTold
  split
  · split
    · exact queueEvent_grows _ _ s
    · exact .refl s
  · exact .refl s

theorem holdTold_booth (r : Desk) (s : State) : (s.holdTold r).booth.booths = s.booth.booths :=
  same_booth_booths (w := { events := true }) (holdTold_frame rfl r s) rfl rfl

/-- The desk is OFFLINE, its cough mark cleared. -/
theorem deskOffline_desk (h : s.desk d = some r) :
    ∃ r', (deskOffline d s).desk d = some r' ∧ r'.state = .offline ∧ r'.cough = false := by
  have hplan : Tab.mapAll (keyRelease d r (s.holdTold r)).booth.desks Desk.plan = Tab.mapAll s.booth.desks Desk.plan :=
    same_desks_plan (w := Parts.allButHall) (Eq.trans (by apply keyRelease_frame <;> rfl) (holdTold_frame rfl r s))
  have hget := congrArg (Tab.get · d) hplan
  simp only [tab_get_mapAll, show Tab.get s.booth.desks d = some r from h, Option.map_some, Option.map_eq_some_iff] at hget
  obtain ⟨x, hx, -⟩ := hget
  rw [deskOffline_eq h]
  exact ⟨_, (modDesk_desk_self d _ _).trans (by rw [show (keyRelease d r (s.holdTold r)).desk d = some x from hx]; rfl), rfl, rfl⟩

/-- A desk that held alone leaves its booth holding nothing (R44). -/
theorem deskOffline_sole {bo : Booth} (h : s.desk d = some r) (hb : s.boothRec r.booth = some bo)
    (hst : r.state = .live ∨ r.state = .cough) :
    s.tells (deskOffline d s) .holdLost [r.booth, heldCode bo.target, HoldCause.offline.code]
      ∧ ∃ bo', (deskOffline d s).boothRec r.booth = some bo' ∧ bo'.holding = none := by
  have htold : s.holdTold r = queueEvent .holdLost [r.booth, heldCode bo.target, HoldCause.offline.code] s := by
    rcases hst with hst | hst <;> simp [State.holdTold, hb, hst]
  have hrelease (u : State) : keyRelease d r u = endHold r.booth d u := by
    rcases hst with hst | hst <;> simp [keyRelease, hst]
  rw [deskOffline_eq h, htold, hrelease]
  refine ⟨?_, endHold_holding (bo := bo) ((congrArg (Tab.get · r.booth) (by rw [queueEvent_booth])).trans hb) d⟩
  exact ((endHold_grows (κ := .steady) rfl _ _ _).trans (modDesk_grows _ _ _)).tells (queueEvent_tells _ _ _)

/-- The overlap goes on in the IN desk (R44). -/
theorem deskOffline_out {bo : Booth} {inn : Nat} (h : s.desk d = some r) (hb : s.boothRec r.booth = some bo)
    (hst : r.state = .overlapOut) (hout : bo.holding = some d) (hin : bo.partner = some inn) :
    ∃ bo', (deskOffline d s).boothRec r.booth = some bo' ∧ bo'.holding = some inn ∧ bo'.partner = none ∧ bo'.overlap = none := by
  have hrelease (u : State) : keyRelease d r u = endOverlap r.booth u := by simp [keyRelease, hst]
  rw [deskOffline_eq h, hrelease]
  exact endOverlap_booth (s := s.holdTold r) ((congrArg (Tab.get · r.booth) (holdTold_booth r s)).trans hb) hout hin

/-- The overlap ends in the OUT desk (R44). -/
theorem deskOffline_in {bo : Booth} {out : Nat} (h : s.desk d = some r) (hb : s.boothRec r.booth = some bo)
    (hst : r.state = .overlapIn) (hout : bo.holding = some out) (hin : bo.partner = some d) :
    ∃ bo', (deskOffline d s).boothRec r.booth = some bo' ∧ bo'.holding = some out ∧ bo'.partner = none ∧ bo'.overlap = none := by
  have hrelease (u : State) : keyRelease d r u = cancelOverlap r.booth u := by simp [keyRelease, hst]
  rw [deskOffline_eq h, hrelease]
  exact cancelOverlap_booth (s := s.holdTold r) ((congrArg (Tab.get · r.booth) (holdTold_booth r s)).trans hb) hout hin

end Desk

end Sys2Proof.Machine

/-! Silent exchanges: the statement (R105, R109, R116, R120). -/

namespace Sys2Proof.Machine

/-! ### What a silence leaves, and what the step does after it -/

section After

variable {s u : State}

/-- The records as a step leaves them that fills the room and settles. -/
theorem afterRoom_drop (u : State) (a : Nat) : Tab.get (settle (fillRoom u)).panel.drops a = Tab.get u.panel.drops a := by
  rw [same_panel_drops (settle_sameBut (fillRoom u)) rfl, fillRoom_panel_drops]

theorem afterRoom_booth {b : Nat} {bo : Booth} (hb : u.boothRec b = some bo) :
    ∃ bo', (settle (fillRoom u)).boothRec b = some bo' ∧ bo'.quiet = bo.quiet :=
  (settle_quiet _).toCalm.booth_some (by rw [State.boothRec, fillRoom_booth]; exact hb)

theorem afterRoom_desk {d : Nat} {r : Desk} (hd : u.desk d = some r) :
    ∃ r', (settle (fillRoom u)).desk d = some r' ∧ r'.core = r.core :=
  (settle_quiet _).toCalm.desk_some (by rw [State.desk, fillRoom_booth]; exact hd)

theorem afterRoom_hushed {a : Nat} (h : u.hushed a) : ∀ m ∈ (settle (fillRoom u)).panel.outbound, m.body.drop ≠ a :=
  ((hushed_joins a).settle (hushed_fillRoom h)).2

theorem afterRoom_grows (u : State) : Grows .steady u (settle (fillRoom u)) := (fillRoom_grows u).trans (settle_steady _)

theorem afterRoom_frame {w : Parts} (h : SameBut w s u) (h1 : w.events = true) (h2 : w.notices = true)
    (h3 : w.deskShow = true) (h4 : w.mapBack = true) (h5 : w.lineQueue = true) (h6 : w.outbound = true) (h7 : w.routes = true) :
    SameBut w s (settle (fillRoom u)) := SameBut.settled ((fillRoom_frame h6 u).trans h) h1 h2 h3 h4 h5 h6 h7

end After

/-! ### The poll -/

section Poll

variable {s : State} {a : Nat}

theorem silent_poll (hfree : s.panel.exchange = none) : silent a .poll s = fillRoom (countSilence a (endExchange .poll s)) := by
  simp only [silent, State.ending, hfree, if_true]

theorem exec_exchangeSilent (hrun : s.running = true) (kind : MsgKind) :
    exec (.exchangeSilent a kind) s = .next (settle (silent a kind s)) := congrArg Host.Outcome.next (event_of_running _ hrun)

end Poll

/-- The third silence in a row: the drop OFFLINE, its messages gone, and its owner told (R105). -/
structure State.Lost (s : State) (a : Nat) (dr : Drop) (u : State) : Prop where
  drop : Tab.get u.panel.drops a = some { dr with silences := 3, online := false }
  told : s.tells u .dropOffline [a, dr.kind.code]
  hushed : u.hushed a
  slot : ∀ sl, dr.kind = .slot → s.slot (a - 31) = some sl →
    u.slot (a - 31) = some { Slot.empty with state := .offline, cause := some .link }
      ∧ s.tells u .slotFault [a - 31, SlotCause.link.code, 0]
  desk : ∀ r, dr.kind = .desk → s.desk a = some r →
    (∃ r', u.desk a = some r' ∧ r'.state = .offline ∧ r'.cough = false)
    ∧ ∀ bo, s.boothRec r.booth = some bo →
      (r.state = .live ∨ r.state = .cough →
        s.tells u .holdLost [r.booth, heldCode bo.target, HoldCause.offline.code]
          ∧ ∃ bo', u.boothRec r.booth = some bo' ∧ bo'.holding = none)
      ∧ (∀ inn, r.state = .overlapOut → bo.holding = some a → bo.partner = some inn →
          ∃ bo', u.boothRec r.booth = some bo' ∧ bo'.holding = some inn ∧ bo'.partner = none ∧ bo'.overlap = none)
      ∧ (∀ out, r.state = .overlapIn → bo.holding = some out → bo.partner = some a →
          ∃ bo', u.boothRec r.booth = some bo' ∧ bo'.holding = some out ∧ bo'.partner = none ∧ bo'.overlap = none)

/-- A drop that went OFFLINE, its owner not yet told. -/
structure State.Gone (s : State) (a : Nat) (dr : Drop) (v : State) : Prop where
  drop : Tab.get v.panel.drops a = some { dr with silences := 3, online := false }
  told : s.tells v .dropOffline [a, dr.kind.code]
  hushed : v.hushed a
  booth : v.booth = s.booth
  dock : v.dock = s.dock
  grows : Grows .steady s v

theorem silenced_gone {s : State} {a : Nat} {dr : Drop} (hd : Tab.get s.panel.drops a = some dr) (h : 2 ≤ dr.silences) :
    s.Gone a dr ((modDrop a Drop.silenced s).dropLost a dr.kind) := by
  generalize hu : modDrop a Drop.silenced s = u
  have hdrop : Tab.get u.panel.drops a = some { dr with silences := 3 } := by
    have hmin : min (dr.silences + 1) 3 = 3 := by omega
    rw [← hu, modDrop_drop_self, hd, Option.map_some, Drop.silenced, hmin]
  have hgrow : Grows .steady s u := hu ▸ modDrop_grows _ _ _
  have hbooth : u.booth = s.booth := hu ▸ rfl
  have hdock : u.dock = s.dock := hu ▸ rfl
  have hrest := dropLost_rest a dr.kind u
  exact
    { drop := by rw [dropLost_drop, hdrop]; rfl
      told := hgrow.tells_from (dropLost_tells a dr.kind u)
      hushed := dropLost_hushed a dr.kind u
      booth := (congrArg State.booth hrest :).trans hbooth
      dock := (same_dock hrest rfl rfl rfl).trans hdock
      grows := hgrow.trans (dropLost_grows a dr.kind u) }

/-- Its owner is told. -/
theorem State.Gone.lost {s v : State} {a : Nat} {dr : Drop} (h : s.Gone a dr v) : s.Lost a dr
    (match dr.kind with
      | .desk => deskOffline a v
      | .slot => slotOffline (a - 31) v
      | .matrix => v) := by
  have hdesk (d : Nat) : v.desk d = s.desk d := by rw [State.desk, h.booth]; rfl
  have hbooth (b : Nat) : v.boothRec b = s.boothRec b := by rw [State.boothRec, h.booth]; rfl
  cases hk : dr.kind with
  | matrix =>
    exact
      { drop := h.drop, told := h.told, hushed := h.hushed
        slot := fun sl hkind => by simp [hk] at hkind
        desk := fun r hkind => by simp [hk] at hkind }
  | slot =>
    dsimp only
    have hdrops : (slotOffline (a - 31) v).panel.drops = v.panel.drops :=
      same_panel_drops (w := { Parts.allButHall with drops := false }) (by apply slotOffline_frame <;> rfl) rfl
    exact
      { drop := by rw [hdrops]; exact h.drop
        told := (slotOffline_grows (κ := .steady) _ v).tells h.told
        hushed := hushed_slotOffline h.hushed
        slot := fun sl _ hsl => by
          obtain ⟨hslot, htold⟩ := slotOffline_slot (k := a - 31) (s := v) (sl := sl) (by rw [State.slot, h.dock]; exact hsl)
          exact ⟨hslot, h.grows.tells_from htold⟩
        desk := fun r hkind => by simp [hk] at hkind }
  | desk =>
    dsimp only
    have hdrops : (deskOffline a v).panel.drops = v.panel.drops :=
      same_panel_drops (w := { Parts.allButHall with drops := false }) (by apply deskOffline_frame <;> rfl) rfl
    refine
      { drop := by rw [hdrops]; exact h.drop
        told := (deskOffline_grows (κ := .steady) rfl _ v).tells h.told
        hushed := (hushed_joins a).deskOffline a h.hushed
        slot := fun sl hkind => by simp [hk] at hkind
        desk := fun r _ hr => ⟨deskOffline_desk ((hdesk a).trans hr), fun bo hb => ?_⟩ }
    have hr' := (hdesk a).trans hr
    have hb' := (hbooth r.booth).trans hb
    refine ⟨fun hst => ?_, fun inn hst hout hin => deskOffline_out hr' hb' hst hout hin,
      fun out hst hout hin => deskOffline_in hr' hb' hst hout hin⟩
    obtain ⟨htold, hnone⟩ := deskOffline_sole hr' hb' hst
    exact ⟨h.grows.tells_from htold, hnone⟩

theorem countSilence_lost {s : State} {a : Nat} {dr : Drop} (hd : Tab.get s.panel.drops a = some dr) (hon : dr.online = true)
    (h : 2 ≤ dr.silences) : s.Lost a dr (countSilence a s) := by
  have hlost := (silenced_gone hd h).lost
  rw [countSilence_third hd hon h, dropGoesOffline_eq]
  cases hk : dr.kind <;> simpa only [hk] using hlost

end Sys2Proof.Machine

/-! A desk's gate and lamps stay ordered as they stand while a step settles (R50, R107). -/

namespace Sys2Proof.Machine

/-- A message of another desk leaves a message wanted. -/
theorem wants_refreshDesk_ne {b : Body} {j : Nat} {s : State} (h : s.wants b) (hg : b.target ≠ .gate j)
    (hl : b.target ≠ .lamps j) : (refreshDesk j s).wants b := by
  have hgate {u : State} (hu : u.wants b) (x : Bool) (f : Desk → Desk) :
      (queueMessage (.gate j x) .plain (modDesk j f u)).wants b :=
    wants_queueMessage (s := modDesk j f u) hu _ fun ht => absurd ht.symm hg
  have hlamps {u : State} (hu : u.wants b) (x : Lamps) (f : Desk → Desk) :
      (queueMessage (.lamps j x none) .plain (modDesk j f u)).wants b :=
    wants_queueMessage (s := modDesk j f u) hu _ fun ht => absurd ht.symm hl
  simp only [refreshDesk]
  split
  · exact h
  · split
    · split
      · exact h
      · exact hgate h _ _
    · split
      · exact hlamps h _ _
      · exact hlamps (hgate h _ _) _ _

/-- Drop d is ONLINE in a running station. -/
def State.reached (s : State) (d : Nat) : Prop := s.clock.station = .running ∧ s.dropOnline d = true

/-- Desk d's gate is ordered as it stands. -/
def State.gateWanted (s : State) (d : Nat) : Prop := ∀ r, s.desk d = some r → s.wants (.gate d r.gate)

/-- Desk d's lamps are ordered as they stand. -/
def State.lampsWanted (s : State) (d : Nat) : Prop := ∀ r, s.desk d = some r → s.wants (.lamps d r.lamps none)

section Reached

variable {s : State} {d : Nat}

theorem reached_of_same {w : Parts} {t : State} (h : SameBut w s t) (hw : w.drops = false) (hs : s.reached d) : t.reached d := by
  obtain ⟨hr, hd⟩ := hs
  refine ⟨by rw [same_clock h]; exact hr, ?_⟩
  simp only [State.dropOnline, same_panel_drops h hw]
  exact hd

theorem refreshDesk_reached (j : Nat) (h : s.reached d) : (refreshDesk j s).reached d :=
  reached_of_same (w := { deskShow := true, outbound := true }) (refreshDesk_frame rfl rfl j s) rfl h

theorem refreshDesk_gateWanted (h : s.reached d) (hg : s.gateWanted d) (j : Nat) : (refreshDesk j s).gateWanted d := by
  by_cases hj : d = j
  · subst hj
    intro r' hr'
    rw [refreshDesk_desk_self] at hr'
    obtain ⟨r, hr, rfl⟩ := Option.map_eq_some_iff.mp hr'
    have hlamps {u : State} {x : Bool} (hu : u.wants (.gate d x)) (l : Lamps) (f : Desk → Desk) :
        (queueMessage (.lamps d l none) .plain (modDesk d f u)).wants (.gate d x) :=
      wants_queueMessage (s := modDesk d f u) hu _ fun ht => by simp [Body.target] at ht
    have hgate (f : Desk → Desk) (x : Bool) : (queueMessage (.gate d x) .plain (modDesk d f s)).wants (.gate d x) :=
      queueMessage_wants (b := .gate d x) (s := modDesk d f s) h.1 h.2 _
    have hold := hg r hr
    simp only [refreshDesk, show Tab.get s.booth.desks d = some r from hr]
    split
    · split
      next heq => rw [heq]; exact hold
      · exact hgate _ _
    · split
      next heq => rw [heq]; exact hlamps hold _ _
      · exact hlamps (hgate _ _) _ _
  · intro r hr
    rw [refreshDesk_desk_ne hj] at hr
    exact wants_refreshDesk_ne (hg r hr) (by simpa [Body.target] using hj) (by simp [Body.target])

theorem refreshDesk_lampsWanted (h : s.reached d) (hl : s.lampsWanted d) (j : Nat) : (refreshDesk j s).lampsWanted d := by
  by_cases hj : d = j
  · subst hj
    intro r' hr'
    rw [refreshDesk_desk_self] at hr'
    obtain ⟨r, hr, rfl⟩ := Option.map_eq_some_iff.mp hr'
    have hgate {u : State} {x : Lamps} (hu : u.wants (.lamps d x none)) (g : Bool) (f : Desk → Desk) :
        (queueMessage (.gate d g) .plain (modDesk d f u)).wants (.lamps d x none) :=
      wants_queueMessage (s := modDesk d f u) hu _ fun ht => by simp [Body.target] at ht
    have hlamps {u : State} (hu : u.reached d) (f : Desk → Desk) (x : Lamps) :
        (queueMessage (.lamps d x none) .plain (modDesk d f u)).wants (.lamps d x none) :=
      queueMessage_wants (b := .lamps d x none) (s := modDesk d f u) hu.1 hu.2 _
    have hshown (g : Bool) (f : Desk → Desk) : (queueMessage (.gate d g) .plain (modDesk d f s)).reached d :=
      ⟨by rw [queueMessage_clock]; exact h.1, by rw [queueMessage_dropOnline]; exact h.2⟩
    have hold := hl r hr
    simp only [refreshDesk, show Tab.get s.booth.desks d = some r from hr]
    split
    next heq =>
      split
      · rw [heq]; exact hold
      · rw [heq]; exact hgate hold _ _
    next =>
      split
      · exact hlamps h _ _
      · exact hlamps (hshown _ _) _ _
  · intro r hr
    rw [refreshDesk_desk_ne hj] at hr
    exact wants_refreshDesk_ne (hl r hr) (by simp [Body.target]) (by simpa [Body.target] using hj)

/-- What is read of desks and messages alone stays from the refreshed desks on. -/
theorem settle_wants_iff (s : State) (b : Body) : (settle s).wants b ↔ (settledDesks s).wants b :=
  wants_congr (by rw [settle_panel]) (by rw [settle_panel])

theorem settle_desk (s : State) (d : Nat) : (settle s).desk d = (settledDesks s).desk d := by
  have hdesks : (announce (settledDesks s)).booth.desks = (settledDesks s).booth.desks :=
    same_booth_desks (w := { events := true, notices := true, lineQueue := true }) (announce_frame rfl rfl rfl _) rfl rfl
  rw [settle_eq, State.desk, syncMask_booth, State.desk, ← hdesks]
  rfl

theorem routeFloor_reached (h : s.reached d) : (routeFloor s).reached d :=
  reached_of_same (w := { outbound := true, routes := true }) (setRoute_frame rfl rfl _ _ s) rfl h

theorem routeFloor_desk (s : State) (d : Nat) : (routeFloor s).desk d = s.desk d := by
  rw [routeFloor, State.desk, setRoute_booth]
  rfl

theorem settle_gateWanted (h : s.reached d) (hg : s.gateWanted d) : (settle s).gateWanted d := by
  have hfloor : (routeFloor s).gateWanted d := fun r hr => wants_setRoute (hg r ((routeFloor_desk s d).symm.trans hr)) _ _
  have hdesks : (settledDesks s).reached d ∧ (settledDesks s).gateWanted d :=
    forEach_keeps (Q := fun u => u.reached d ∧ u.gateWanted d)
      (fun j u hu => ⟨refreshDesk_reached j hu.1, refreshDesk_gateWanted hu.1 hu.2 j⟩) _ ⟨routeFloor_reached h, hfloor⟩
  intro r hr
  exact (settle_wants_iff s _).mpr (hdesks.2 r ((settle_desk s d).symm.trans hr))

theorem settle_lampsWanted (h : s.reached d) (hl : s.lampsWanted d) : (settle s).lampsWanted d := by
  have hfloor : (routeFloor s).lampsWanted d := fun r hr => wants_setRoute (hl r ((routeFloor_desk s d).symm.trans hr)) _ _
  have hdesks : (settledDesks s).reached d ∧ (settledDesks s).lampsWanted d :=
    forEach_keeps (Q := fun u => u.reached d ∧ u.lampsWanted d)
      (fun j u hu => ⟨refreshDesk_reached j hu.1, refreshDesk_lampsWanted hu.1 hu.2 j⟩) _ ⟨routeFloor_reached h, hfloor⟩
  intro r hr
  exact (settle_wants_iff s _).mpr (hdesks.2 r ((settle_desk s d).symm.trans hr))

end Reached

end Sys2Proof.Machine

/-! Silent exchanges: the statement (R105, R107, R109, R120). -/

namespace Sys2Proof.Machine

section Message

variable {s : State} {m : Message}

theorem silent_issue {n : Nat} {i : Issue} {kind : MsgKind} (hfree : s.panel.exchange = none) (hkind : kind ≠ .poll)
    (hfound : s.panel.outbound.find? (fun x => x.body.drop = m.body.drop && x.body.kind = kind) = some m)
    (hi : s.issueFor m = some (n, i)) (hrep : repeated m = false) :
    silent m.body.drop kind s = fillRoom (countSilence m.body.drop (failIssue n i kind (endExchange (.message m) s))) := by
  have hi' : (endExchange (.message m) s).issueFor m = some (n, i) := hi
  simp only [silent, State.ending, hfree, if_neg hkind, hfound, Option.map_some, hi', hrep, Bool.false_and, Bool.false_eq_true,
    if_false]

/-- A target's message made afresh from its owner's state (R107). -/
def State.requeued (t : Target) (s : State) : State :=
  match messageFor s t with
  | some (b, o) => queueMessage b o s
  | none => s

theorem silent_plain (hfree : s.panel.exchange = none) (hkind : m.body.kind ≠ .poll) (hplain : m.origin = .plain)
    (hpreset : m.body.kind ≠ .preset)
    (hfound : s.panel.outbound.find? (fun x => x.body.drop = m.body.drop && x.body.kind = m.body.kind) = some m)
    (hon : (countSilence m.body.drop (endExchange (.message m) s)).dropOnline m.body.drop = true) :
    silent m.body.drop m.body.kind s
      = fillRoom ((countSilence m.body.drop (endExchange (.message m) s)).requeued m.body.target) := by
  have hi : (endExchange (.message m) s).issueFor m = none := by simp [State.issueFor, hplain]
  have hrep : repeated m = true := by simp [repeated, hplain, hpreset]
  simp only [silent, State.ending, hfree, if_neg hkind, hfound, Option.map_some, hi, hrep, hon, Bool.and_self, if_true,
    State.requeued] <;> rfl

end Message

theorem body_kind_ne_poll (b : Body) : b.kind ≠ .poll := by cases b <;> simp [Body.kind]

section Requeued

variable {s : State} {t : Target}

theorem requeued_frame {w : Parts} (h : w.outbound = true) (t : Target) (s : State) : SameBut w s (s.requeued t) := by
  unfold State.requeued
  split
  · exact queueMessage_frame h _ _ s
  · rfl

/-- What an owner's state makes of a target is wanted, and stays so while the room is filled. -/
theorem requeued_wants {b : Body} {o : Origin} (hr : s.reached b.drop) (hm : messageFor s b.target = some (b, o)) :
    (fillRoom (s.requeued b.target)).wants b := by
  have heq : s.requeued b.target = queueMessage b o s := by simp only [State.requeued, hm]
  rw [heq]
  refine wants_refill (o := o) _ (queueMessage_wants hr.1 hr.2 o) (by rw [queueMessage_clock]; exact hr.1)
    (by rw [queueMessage_dropOnline]; exact hr.2) ?_
  rw [messageFor_congr (s := s) (by simp) (by simp) (by simp)]
  exact hm

theorem requeued_reached {d : Nat} (t : Target) (h : s.reached d) : (fillRoom (s.requeued t)).reached d :=
  reached_of_same (w := { outbound := true }) ((fillRoom_frame rfl _).trans (requeued_frame rfl t s)) rfl h

theorem requeued_desk (t : Target) (s : State) (d : Nat) : (fillRoom (s.requeued t)).desk d = s.desk d := by
  have h := same_booth_desks (w := { outbound := true }) ((fillRoom_frame rfl _).trans (requeued_frame rfl t s)) rfl rfl
  simp only [State.desk, h]

theorem settle_requeued_gate {d : Nat} {r : Desk} (h : s.reached d) (hr : (settle (fillRoom (s.requeued (.gate d)))).desk d = some r) :
    (settle (fillRoom (s.requeued (.gate d)))).wants (.gate d r.gate) := by
  refine settle_gateWanted (requeued_reached _ h) (fun x hx => ?_) r hr
  rw [requeued_desk] at hx
  exact requeued_wants (b := .gate d x.gate) (o := .plain) h (by
    simp only [Body.target, messageFor, show Tab.get s.booth.desks d = some x from hx, Option.map_some])

theorem settle_requeued_lamps {d : Nat} {r : Desk} (h : s.reached d)
    (hr : (settle (fillRoom (s.requeued (.lamps d)))).desk d = some r) :
    (settle (fillRoom (s.requeued (.lamps d)))).wants (.lamps d r.lamps none) := by
  refine settle_lampsWanted (requeued_reached _ h) (fun x hx => ?_) r hr
  rw [requeued_desk] at hx
  exact requeued_wants (b := .lamps d x.lamps none) (o := .plain) h (by
    simp only [Body.target, messageFor, show Tab.get s.booth.desks d = some x from hx, Option.map_some])

theorem settle_requeued {b : Body} {o : Origin} (h : s.reached b.drop) (hm : messageFor s b.target = some (b, o))
    (hb : b.shown = false) : (settle (fillRoom (s.requeued b.target))).wants b :=
  wants_settle (requeued_wants h hm) hb

end Requeued

/-! ### The failed issue (R120) -/

section Failed

variable (n : Nat) (i : Issue) (kind : MsgKind) (s : State)

theorem failIssue_issues : Tab.get (failIssue n i kind s).dock.issues n = none := by
  have hslot (f : Slot → Slot) (u : State) : (modSlot i.slot f u).dock.issues = u.dock.issues := rfl
  simp only [failIssue, endIssue, queueEvent_dock, hslot, discardMessages_dock, disownMessages_dock, tab_get_erase_self]

theorem failIssue_slot : (failIssue n i kind s).slot i.slot
    = (s.slot i.slot).map fun sl => { sl with state := .fault, cause := some .link, latchOpen := false } := by
  have hslots : (endIssue n i.slot s).dock.slots = s.dock.slots :=
    same_dock_slots (w := { outbound := true, issues := true }) (endIssue_frame rfl rfl n i.slot s) rfl
  simp only [failIssue, State.slot, queueEvent_dock]
  rw [← State.slot, slot_modSlot_self, State.slot, hslots]

theorem failIssue_tells : s.tells (failIssue n i kind s) .issueFailed [n, i.slot, i.serial, kind.code] :=
  ((endIssue_grows (κ := {}) _ _ _).trans (modSlot_grows _ _ _)).tells_from (queueEvent_tells _ _ _)

theorem failIssue_drops : (failIssue n i kind s).panel.drops = s.panel.drops :=
  same_panel_drops (w := { events := true, outbound := true, slots := true, issues := true })
    (failIssue_frame rfl rfl rfl rfl n i kind s) rfl

end Failed

/-- What the third silence leaves, as the step ends. -/
theorem third_silence {s u : State} {a : Nat} {dr : Drop} (h : s.Lost a dr u) :
    Tab.get (settle (fillRoom u)).panel.drops a = some { dr with silences := 3, online := false }
    ∧ s.tells (settle (fillRoom u)) .dropOffline [a, dr.kind.code]
    ∧ (∀ m ∈ (settle (fillRoom u)).panel.outbound, m.body.drop ≠ a)
    ∧ (∀ sl, dr.kind = .slot → s.slot (a - 31) = some sl →
        (settle (fillRoom u)).slot (a - 31) = some { Slot.empty with state := .offline, cause := some .link }
          ∧ s.tells (settle (fillRoom u)) .slotFault [a - 31, SlotCause.link.code, 0])
    ∧ (∀ r, dr.kind = .desk → s.desk a = some r →
        (∃ r', (settle (fillRoom u)).desk a = some r' ∧ r'.state = .offline ∧ r'.cough = false)
        ∧ ∀ bo, s.boothRec r.booth = some bo →
          (r.state = .live ∨ r.state = .cough →
            s.tells (settle (fillRoom u)) .holdLost [r.booth, heldCode bo.target, HoldCause.offline.code]
              ∧ ∃ bo', (settle (fillRoom u)).boothRec r.booth = some bo' ∧ bo'.holding = none)
          ∧ (∀ inn, r.state = .overlapOut → bo.holding = some a → bo.partner = some inn →
              ∃ bo', (settle (fillRoom u)).boothRec r.booth = some bo' ∧ bo'.holding = some inn ∧ bo'.partner = none
                ∧ bo'.overlap = none)
          ∧ (∀ out, r.state = .overlapIn → bo.holding = some out → bo.partner = some a →
              ∃ bo', (settle (fillRoom u)).boothRec r.booth = some bo' ∧ bo'.holding = some out ∧ bo'.partner = none
                ∧ bo'.overlap = none)) := by
  have hgrow := afterRoom_grows u
  have hbooth {b : Nat} {bo : Booth} (hb : u.boothRec b = some bo) :
      ∃ bo', (settle (fillRoom u)).boothRec b = some bo' ∧ bo'.holding = bo.holding ∧ bo'.partner = bo.partner
        ∧ bo'.overlap = bo.overlap := by
    obtain ⟨bo', hb', hq⟩ := afterRoom_booth hb
    have h1 := congrArg Booth.holding hq
    have h2 := congrArg Booth.partner hq
    have h3 := congrArg Booth.overlap hq
    exact ⟨bo', hb', h1, h2, h3⟩
  have hpartners {b d : Nat} : (∃ bo', u.boothRec b = some bo' ∧ bo'.holding = some d ∧ bo'.partner = none ∧ bo'.overlap = none) →
      ∃ bo', (settle (fillRoom u)).boothRec b = some bo' ∧ bo'.holding = some d ∧ bo'.partner = none ∧ bo'.overlap = none := by
    rintro ⟨bo, hb, h1, h2, h3⟩
    obtain ⟨bo', hb', g1, g2, g3⟩ := hbooth hb
    exact ⟨bo', hb', g1.trans h1, g2.trans h2, g3.trans h3⟩
  refine ⟨(afterRoom_drop u a).trans h.drop, hgrow.tells h.told, afterRoom_hushed h.hushed, fun sl hkind hsl => ?_,
    fun r hkind hr => ?_⟩
  · obtain ⟨hslot, htold⟩ := h.slot sl hkind hsl
    exact ⟨(settle_fillRoom_slot u _).trans hslot, hgrow.tells htold⟩
  · obtain ⟨⟨x, hx, hoff, hcough⟩, hhold⟩ := h.desk r hkind hr
    obtain ⟨r', hr', hcore⟩ := afterRoom_desk hx
    have hstate := congrArg Desk.state hcore
    have hmark := congrArg Desk.cough hcore
    refine ⟨⟨r', hr', hstate.trans hoff, hmark.trans hcough⟩, fun bo hb => ?_⟩
    obtain ⟨hsole, hout, hin⟩ := hhold bo hb
    refine ⟨fun hst => ?_, fun inn h1 h2 h3 => hpartners (hout inn h1 h2 h3), fun out h1 h2 h3 => hpartners (hin out h1 h2 h3)⟩
    obtain ⟨htold, bo1, hb1, hnone⟩ := hsole hst
    obtain ⟨bo', hb', hhold', -⟩ := hbooth hb1
    exact ⟨hgrow.tells htold, bo', hb', hhold'.trans hnone⟩

/-- A plain message of a drop still ONLINE is queued again from its owner's state. -/
theorem silent_requeued {s : State} {a : Nat} {dr : Drop} {m : Message} (hrun : s.running = true)
    (hfree : s.panel.exchange = none) (hd : Tab.get s.panel.drops a = some dr) (ha : m.body.drop = a)
    (hplain : m.origin = .plain) (hpreset : m.body.kind ≠ .preset) (hon : dr.online = true) (h : dr.silences < 2)
    (hfound : s.panel.outbound.find? (fun x => x.body.drop = a && x.body.kind = m.body.kind) = some m) :
    let t := settle (silent a m.body.kind s)
    Tab.get t.panel.drops a = some { dr with silences := dr.silences + 1 }
    ∧ (∀ o, m.body = .route o → s.orders t (.route o))
    ∧ (∀ d b r, m.body = .gate d b → t.desk d = some r → s.orders t (.gate d r.gate))
    ∧ (∀ d l fl r, m.body = .lamps d l fl → t.desk d = some r → s.orders t (.lamps d r.lamps none))
    ∧ (∀ k, m.body = .identify k → s.slotOccupied k = true → s.orders t (.identify k))
    ∧ (∀ k b sl, m.body = .latch k b → s.slot k = some sl → sl.state ≠ .offline → s.orders t (.latch k sl.latchOpen))
    ∧ (∀ k sl, m.body = .clearMark k → s.slot k = some sl → sl.clearMark = true → s.orders t (.clearMark k))
    ∧ SameBut { Parts.settled with panelLine := true, drops := true } s t := by
  subst ha
  have hcount := countSilence_below (s := endExchange (.message m) s) hd hon h
  have hdrop : Tab.get (countSilence m.body.drop (endExchange (.message m) s)).panel.drops m.body.drop
      = some { dr with silences := dr.silences + 1 } := by
    rw [hcount]
    exact silenced_below (s := endExchange (.message m) s) hd h id rfl
  have hframe : SameBut { Parts.settled with panelLine := true, drops := true } s
      (countSilence m.body.drop (endExchange (.message m) s)) := by
    rw [hcount]
    exact (modDrop_frame rfl _ _ _).trans (endExchange_frame rfl rfl _ s)
  have hdock : (countSilence m.body.drop (endExchange (.message m) s)).dock = s.dock := by rw [hcount]; rfl
  have hclock := same_clock hframe
  have honline : (countSilence m.body.drop (endExchange (.message m) s)).dropOnline m.body.drop = true := by
    rw [State.dropOnline, hdrop]
    exact hon
  have hrunning : s.clock.station = .running := by
    simp only [State.running, Bool.and_eq_true, decide_eq_true_eq] at hrun
    exact hrun.1
  rw [silent_plain hfree (body_kind_ne_poll _) hplain hpreset hfound honline]
  generalize countSilence m.body.drop (endExchange (.message m) s) = v at *
  have hr : v.reached m.body.drop := ⟨by rw [hclock]; exact hrunning, honline⟩
  have hslot (k : Nat) : v.slot k = s.slot k := by rw [State.slot, hdock]; rfl
  dsimp only
  refine ⟨?_, fun o hb => orders_of_wants ?_, fun d b r hb hd => orders_of_wants ?_, fun d l fl r hb hd => orders_of_wants ?_,
    fun k hb hocc => orders_of_wants ?_, fun k b sl hb hsl hst => orders_of_wants ?_, fun k sl hb hsl hmark => orders_of_wants ?_,
    afterRoom_frame ((requeued_frame rfl _ v).trans hframe) rfl rfl rfl rfl rfl rfl rfl⟩
  · rw [afterRoom_drop, same_panel_drops (requeued_frame (w := { outbound := true }) rfl m.body.target v) rfl]
    exact hdrop
  · rw [hb] at hr ⊢
    exact settle_requeued (b := .route o) (o := .plain) hr rfl rfl
  · rw [hb] at hr hd ⊢
    exact settle_requeued_gate hr hd
  · rw [hb] at hr hd ⊢
    exact settle_requeued_lamps hr hd
  · rw [hb] at hr ⊢
    have hocc' : v.slotOccupied k = true := by rw [State.slotOccupied, hdock]; exact hocc
    exact settle_requeued (b := .identify k) (o := .plain) hr (if_pos hocc') rfl
  · rw [hb] at hr ⊢
    have hmsg : ∃ o, messageFor v (.latch k) = some (.latch k sl.latchOpen, o) := by
      simp only [messageFor, show Tab.get v.dock.slots k = some sl from (hslot k).trans hsl, if_neg hst]
      split <;> exact ⟨_, rfl⟩
    obtain ⟨o, hmsg⟩ := hmsg
    exact settle_requeued (b := .latch k sl.latchOpen) hr hmsg rfl
  · rw [hb] at hr ⊢
    have hmsg : messageFor v (.clearMark k) = some (.clearMark k, .plain) := by
      simp only [messageFor, show Tab.get v.dock.slots k = some sl from (hslot k).trans hsl, hmark, if_true]
    exact settle_requeued (b := .clearMark k) hr hmsg rfl

/-- Settles O59: the silence counted, and what becomes of its message. -/
theorem silentExchanges : Obligations.SilentExchanges := by
  intro s a dr hrun hfree hd all
  refine ⟨⟨_, exec_exchangeSilent hrun .poll, fun hoff => ?_, fun hon h => ?_, fun hon h => ?_, ?_⟩,
    fun m n i k sl tag q hbody ha horigin hfound hi hik hsl hon h => ?_,
    fun m ha hplain hpreset hon h hfound => ?_⟩
  · rw [silent_poll hfree, countSilence_offline (s := endExchange .poll s) hd hoff]
    exact ⟨(afterRoom_drop _ a).trans hd,
      afterRoom_frame (endExchange_frame rfl rfl .poll s) rfl rfl rfl rfl rfl rfl rfl⟩
  · rw [silent_poll hfree, countSilence_below (s := endExchange .poll s) hd hon h]
    exact ⟨(afterRoom_drop _ a).trans (silenced_below (s := endExchange .poll s) hd h id rfl),
      afterRoom_frame ((modDrop_frame rfl a _ _).trans (endExchange_frame rfl rfl .poll s)) rfl rfl rfl rfl rfl rfl rfl⟩
  · rw [silent_poll hfree]
    have hlost := countSilence_lost (s := endExchange .poll s) hd hon h
    exact third_silence ⟨hlost.drop, hlost.told, hlost.hushed, hlost.slot, hlost.desk⟩
  · exact SameBut.settled (by apply silent_frame <;> rfl) rfl rfl rfl rfl rfl rfl rfl
  · subst hik
    have hdrop : m.body.drop = a := by rw [hbody, ha]; rfl
    subst hdrop
    refine ⟨_, exec_exchangeSilent hrun .preset, ?_⟩
    have hissue : s.issueFor m = some (n, i) := by simp [State.issueFor, horigin, hi]
    have hrep : repeated m = false := by simp [repeated, hbody, Body.kind]
    have hframe : SameBut all s (settle (silent m.body.drop .preset s)) :=
      SameBut.settled (by apply silent_frame <;> rfl) rfl rfl rfl rfl rfl rfl rfl
    have hcount := countSilence_below (s := failIssue n i .preset (endExchange (.message m) s))
      (by rw [failIssue_drops]; exact hd) hon h
    have hslot := failIssue_slot n i .preset (endExchange (.message m) s)
    rw [show (endExchange (.message m) s).slot i.slot = some sl from hsl] at hslot
    have hdrops := silenced_below (s := failIssue n i .preset (endExchange (.message m) s))
      (by rw [failIssue_drops]; exact hd) h id rfl
    have htold := failIssue_tells n i .preset (endExchange (.message m) s)
    have hissues := failIssue_issues n i .preset (endExchange (.message m) s)
    rw [silent_issue hfree (by simp) hfound hissue hrep, hcount] at hframe ⊢
    generalize failIssue n i .preset (endExchange (.message m) s) = u at *
    refine ⟨?_, (settle_fillRoom_slot _ _).trans hslot, ?_, (afterRoom_drop _ _).trans hdrops, hframe⟩
    · rw [same_dock_issues (w := Parts.settled) ((afterRoom_frame (w := Parts.settled) rfl) rfl rfl rfl rfl rfl rfl rfl) rfl]
      exact hissues
    · exact (afterRoom_grows _).tells ((modDrop_grows (κ := {}) _ _ _).tells htold)
  · exact ⟨_, exec_exchangeSilent hrun _, silent_requeued hrun hfree hd ha hplain hpreset hon h hfound⟩

end Sys2Proof.Machine

/-! Live seconds (R150): no operation but the count of a second tick raises them. -/

namespace Sys2Proof.Machine

/-- The live seconds of channel c: none while it is closed. -/
def State.liveTime (s : State) (c : Nat) : Nat := ((s.channel c).map Channel.liveSeconds).getD 0

theorem liveTime_of_channel {s : State} {c : Nat} {ch : Channel} (h : s.channel c = some ch) : s.liveTime c = ch.liveSeconds := by
  rw [State.liveTime, h]
  rfl

/-- No channel's live seconds have risen. -/
def Unraised (s t : State) : Prop := ∀ c, t.liveTime c ≤ s.liveTime c

section Unraised

variable {r s t : State}

theorem Unraised.refl (s : State) : Unraised s s := fun _ => Nat.le_refl _

theorem Unraised.trans (h : Unraised r s) (h' : Unraised s t) : Unraised r t := fun c => (h' c).trans (h c)

theorem Unraised.of_channels (h : t.planner.channels = s.planner.channels) : Unraised s t := fun c => by
  simp only [State.liveTime, State.channel, h, Nat.le_refl]

theorem Unraised.of_no_channels (h : t.planner.channels = []) : Unraised s t := fun c => by
  simp only [State.liveTime, State.channel, h]
  exact Nat.zero_le _

theorem liveTime_of_history {c : Nat} (h : (t.channel c).map Channel.history = (s.channel c).map Channel.history) :
    t.liveTime c = s.liveTime c := by
  have hlive := congrArg (fun x => (Option.map Channel.liveSeconds x).getD 0) h
  simp only [Option.map_map] at hlive
  exact hlive

theorem Billed.unraised (h : Billed s t) : Unraised s t := fun c => (liveTime_of_history (h c)).le

theorem Unraised.of_same {w : Parts} (h : SameBut w s t) (hw : w.openings = false) : Unraised s t := fun c => by
  have hplan := congrArg (fun x => (Option.map Channel.liveSeconds (Tab.get x c)).getD 0) (same_channels_plan h hw)
  simp only [tab_get_mapAll, Option.map_map] at hplan
  exact Nat.le_of_eq hplan

theorem Unraised.settled (h : Unraised s t) : Unraised s (settle t) :=
  h.trans (.of_same (w := Parts.settled) (settle_sameBut t) rfl)

end Unraised

/-! ### Channels that open and close -/

theorem openAChannel_unraised (c : Nat) (l : Tag) (account : Nat) (s : State) : Unraised s (openAChannel c l account s) := by
  have hentry : Unraised s (s.entryMade c l account) := fun j => by
    by_cases hj : j = c
    · rw [hj, liveTime_of_channel (entryMade_channel c l account s)]
      exact Nat.zero_le _
    · rw [State.liveTime, entryMade_channel_ne c l account s hj]
      exact Nat.le_refl _
  rw [openAChannel_eq]
  exact hentry.trans ((((queueNotice_quiet _ _).toCalm.billed.trans (search_billed _ _)).trans
    (forEach_quiet recheckOutputs_quiet _ _).toCalm.billed).unraised)

theorem closeAChannel_unraised (c : Nat) (s : State) : Unraised s (closeAChannel c s) := fun j => by
  by_cases hj : j = c
  · rw [hj, State.liveTime, closeAChannel_channel_self]
    exact Nat.zero_le _
  · exact (liveTime_of_history ((closeAChannel_history c s j).trans (if_neg hj))).le

theorem changeFloor_unraised (l : Tag) (s : State) : Unraised s (changeFloor l s) := by
  have hspeak (u : State) : Unraised u (modChannel 0 (Channel.speaking l) u) := fun j => by
    by_cases hj : j = 0
    · rw [hj, State.liveTime, modChannel_channel_self, Option.map_map]
      exact Nat.le_refl _
    · rw [State.liveTime, modChannel_channel_ne hj]
      exact Nat.le_refl _
  have htold : Unraised s (s.floorTold l) := by
    have hstored : Unraised s (refreshClaim 0 (modChannel 0 (Channel.speaking l) { s with planner.floorTag := l })) :=
      (Unraised.of_channels (t := { s with planner.floorTag := l }) rfl).trans
        ((hspeak _).trans (.of_same (w := Parts.steady) (refreshClaim_frame rfl rfl rfl 0 _) rfl))
    unfold State.floorTold
    split
    · exact .of_channels rfl
    · dsimp only
      split
      · exact hstored
      · exact hstored.trans (queueNotice_quiet 0 _).toCalm.billed.unraised
  rw [changeFloor_eq]
  exact htold.trans (recompute_quiet _ _ _).toCalm.billed.unraised

theorem leaveDarkMap_planner (s : State) : (leaveDarkMap s).planner = s.planner := by
  rw [leaveDarkMap, switchMap, setRadiator_planner]
  rfl

theorem leaveDark_unraised (h : HallState) (s : State) : Unraised s (leaveDark h s) := by
  have hlit : Unraised s { s with planner.hall := h } := .of_channels rfl
  rw [leaveDark_eq]
  exact hlit.trans ((openAChannel_unraised 0 s.planner.floorTag 0 _).trans (.of_channels (by rw [leaveDarkMap_planner]; rfl)))

theorem changeHall_unraised (h : HallState) (s : State) : Unraised s (changeHall h s) := by
  unfold changeHall
  split
  · exact .refl s
  split
  · exact .of_no_channels (enterDark_empty s).1
  · exact leaveDark_unraised _ s
  · exact .of_same (w := { Parts.steady with hall := true }) (by apply enterRecess_frame <;> rfl) rfl
  · have hlit : Unraised s { s with planner.hall := .session } := .of_channels rfl
    exact hlit.trans (.of_same (w := Parts.steady) (by apply wakeFeeds_frame <;> rfl) rfl)

/-! ### Verdicts and steps -/

/-- What a verdict leaves behind raises no channel's live seconds. -/
def Verdict.unraised (v : Verdict) (s : State) : Prop :=
  match v with
  | .refuse _ | .tell _ => True
  | .took _ u | .accept _ u => Unraised s u

theorem unraised_require {ok : Bool} {r : Result} {v : Verdict} {s : State} (hv : v.unraised s) :
    (require ok r v).unraised s := by
  unfold require
  split
  · exact hv
  · trivial

theorem Verdict.steady.unraised {v : Verdict} {s : State} (h : v.steady s) : v.unraised s := by
  cases v with
  | refuse r => trivial
  | tell data => trivial
  | took data u => exact .of_same (w := { events := true }) h rfl
  | accept data u => exact .of_same (w := Parts.steady) h rfl

theorem shiftOut_unraised (bytes : List Byte) (s : State) : Unraised s (shiftOut bytes s) := by
  unfold shiftOut
  repeat' split
  all_goals exact .of_channels rfl

theorem command_unraised {len : Nat} {taken : StationState → Bool} {act : List Nat → State → Verdict}
    (hact : ∀ p u, (act p u).unraised u) (params : List Byte) (s : State) : Unraised s (command len taken act params s) := by
  have ht := shiftOut_unraised [s.statusByte] s
  simp only [command]
  generalize shiftOut [s.statusByte] s = t at ht ⊢
  have hact := hact (numbers params) t
  have hport {u : State} (hu : Unraised s u) (r : Result) (data : List Byte) : Unraised s (putAnswer r data u) :=
    hu.trans (.of_channels rfl)
  split
  · exact ht
  split
  · exact hport ht _ _
  split
  · exact hport ht _ _
  split
  · exact hport ht _ _
  · exact hport ht _ _
  next data u hu => rw [hu] at hact; exact hport (ht.trans hact) _ _
  next data u hu => rw [hu] at hact; exact hport (ht.trans (Unraised.settled hact)) _ _

theorem event_unraised {f : State → State} (hf : ∀ u, Unraised u (f u)) (s : State) : Unraised s (event f s) := by
  unfold event
  split
  · exact (hf s).settled
  · exact .refl s

theorem SteadyStep.unraised {s t : State} (h : SteadyStep s t) : Unraised s t := by
  cases h with
  | event hf => exact event_unraised (fun u => .of_same (w := Parts.steady) (hf u) rfl) s
  | command hact => exact command_unraised (fun p u => (hact p u).unraised) _ s

/-! ### The commands that are not steady -/

theorem actConfigure_unraised (p : List Nat) (s : State) : (actConfigure p s).unraised s :=
  unraised_require (.of_no_channels rfl)

theorem actSetClock_unraised (p : List Nat) (s : State) : (actSetClock p s).unraised s := by
  have hset (m n : Nat) : Unraised s (setClockTo m n s) := by
    have hclock : Unraised s { s with clock.minute := m, clock.second := n } := .of_channels rfl
    exact hclock.trans (.of_same (w := Parts.steady) (by apply testAllOverdue_frame <;> rfl) rfl)
  exact unraised_require (unraised_require (hset _ _))

theorem actSetFloorLanguage_unraised (p : List Nat) (s : State) : (actSetFloorLanguage p s).unraised s :=
  unraised_require (changeFloor_unraised _ s)

theorem actOpenChannel_unraised (p : List Nat) (s : State) : (actOpenChannel p s).unraised s :=
  unraised_require (unraised_require (unraised_require (openAChannel_unraised _ _ _ s)))

theorem actCloseChannel_unraised (p : List Nat) (s : State) : (actCloseChannel p s).unraised s :=
  unraised_require (unraised_require (closeAChannel_unraised _ s))

theorem actStart_unraised (p : List Nat) (s : State) : (actStart p s).unraised s := by
  have hbegan := (beginRunning_began { s with clock.runMark := true, dock.warmMinute := none }).rest
  exact (Unraised.of_channels (t := State.atStart { s with clock.runMark := true, dock.warmMinute := none }) rfl).trans
    (.of_same (w := Parts.started) hbegan rfl)

theorem actSetHallState_unraised (p : List Nat) (s : State) : (actSetHallState p s).unraised s := by
  simp only [actSetHallState]
  split
  · trivial
  · exact changeHall_unraised _ s

/-! ### The supply and the restarts -/

theorem halted_unraised (s : State) : Unraised s s.halted := by
  unfold State.halted
  split
  · exact .of_no_channels (settle_stopBlocks s).blocks.2.1
  · exact .refl s

theorem restart_unraised (cause : WarmCause) (check : Bool) (s : State) : Unraised s (restart cause check s) := by
  unfold restart
  split
  · exact .of_no_channels (warmStart_warm cause s).planner.2.1
  · exact .of_no_channels rfl

theorem enterRetainState_unraised (s : State) : Unraised s (enterRetainState s) := by
  by_cases h : s.clock.station = .retain
  · rw [enterRetainState_retain h]
    exact .refl s
  · rw [enterRetainState_eq h]
    exact (halted_unraised s).trans (.of_channels rfl)

theorem assertReset_unraised (s : State) : Unraised s (assertReset s) := by
  unfold assertReset
  split
  · exact .refl s
  split
  · exact .of_no_channels rfl
  · exact (halted_unraised s).trans (.of_channels rfl)

theorem supplyRises_unraised (check : Bool) (s : State) : Unraised s (supplyRises check s) := by
  unfold supplyRises
  split
  · exact restart_unraised _ _ s
  · exact .of_channels rfl

theorem supplyFalls_unraised (s : State) : Unraised s (supplyFalls s) := by
  unfold supplyFalls
  split
  · exact .refl s
  · exact .of_channels (by rw [queueEvent_planner])

theorem releaseReset_unraised (check : Bool) (s : State) : Unraised s (releaseReset check s) := by
  unfold releaseReset
  split
  · exact restart_unraised _ _ s
  · exact .refl s

theorem applyPower_unraised (above present : Bool) (s : State) : Unraised s (applyPower above present s) := by
  simp only [applyPower]
  split
  · exact .of_channels rfl
  · exact .of_no_channels rfl

theorem tickMinute_unraised (s : State) : Unraised s (tickMinute s) := by
  unfold tickMinute
  split
  · have hclock : Unraised s { s with clock.minute := s.clock.minute + 1, clock.second := 0 } := .of_channels rfl
    exact hclock.trans (event_unraised (fun u => .of_channels (minuteWork_channels u)) _)
  · exact .refl s

end Sys2Proof.Machine

/-! Live seconds rise at second ticks alone (R150). -/

namespace Sys2Proof.Machine

section Special

variable {s t : State}

theorem endCycle_unraised (s : State) : Unraised s (endCycle s) := by
  simp only [endCycle]
  split
  · exact .of_channels rfl
  · exact .of_channels rfl

theorem mapCycle_unraised (c : State → Bool) (s : State) : Unraised s (event (fun s => if c s then endCycle s else s) s) :=
  event_unraised (fun u => by
    split
    · exact endCycle_unraised u
    · exact .refl u) s

theorem endMaskWord_unraised (s : State) : Unraised s (endMaskWord s) := by
  unfold endMaskWord
  split
  · exact .refl s
  · exact .of_channels rfl

theorem maskWordSent_unraised (s : State) :
    Unraised s (if s.portDriven && !s.running then endMaskWord s else event endMaskWord s) := by
  split
  · exact endMaskWord_unraised s
  · exact event_unraised endMaskWord_unraised s

theorem answerTransfer_unraised (n : Nat) (s : State) : Unraised s (answerTransfer n s) := by
  have hshift (bytes : List Byte) := shiftOut_unraised bytes s
  simp only [answerTransfer]
  split
  · exact (hshift _).trans (.of_channels rfl)
  · exact hshift _

theorem unknownCode_unraised (s : State) :
    Unraised s (if !s.portDriven || s.port.answer.isSome then shiftOut [s.statusByte] s
      else putAnswer .unknown [] (shiftOut [s.statusByte] s)) := by
  have hshift := shiftOut_unraised [s.statusByte] s
  split
  · exact hshift
  · exact hshift.trans (.of_channels rfl)

/-- No step but a second tick raises the live seconds of a channel. -/
theorem exec_unraised {i : Instr} (hi : i ≠ .secondTick) (h : exec i s = .next t) : Unraised s t := by
  cases hs : special i with
  | false => exact (exec_steady hs h).unraised
  | true =>
    cases i with
    | configure p =>
      cases h
      exact command_unraised actConfigure_unraised p s
    | setClock p =>
      cases h
      exact command_unraised actSetClock_unraised p s
    | setFloorLanguage p =>
      cases h
      exact command_unraised actSetFloorLanguage_unraised p s
    | openChannel p =>
      cases h
      exact command_unraised actOpenChannel_unraised p s
    | closeChannel p =>
      cases h
      exact command_unraised actCloseChannel_unraised p s
    | start p =>
      cases h
      exact command_unraised actStart_unraised p s
    | setHallState p =>
      cases h
      exact command_unraised actSetHallState_unraised p s
    | answerTransfer n =>
      cases h
      exact answerTransfer_unraised n s
    | incompleteTransfer _ =>
      cases h
      exact shiftOut_unraised _ s
    | unknownCommandCode _ _ =>
      cases h
      exact unknownCode_unraised s
    | wallInputChange n o =>
      cases h
      exact .of_channels rfl
    | secondTick => exact absurd rfl hi
    | minuteTick =>
      cases h
      exact tickMinute_unraised s
    | mapCycleEnd =>
      cases h
      exact mapCycle_unraised (fun s => s.map.radiator) s
    | retuneHoldExpiry =>
      cases h
      exact mapCycle_unraised (fun s => s.map.radiator && s.map.holdCount = 1) s
    | maskWordSent =>
      cases h
      exact maskWordSent_unraised s
    | supplyLow =>
      cases h
      exact supplyFalls_unraised s
    | supplyRiseAboveWarn m =>
      cases h
      exact supplyRises_unraised m s
    | enterRetain =>
      cases h
      exact enterRetainState_unraised s
    | resetAsserted =>
      cases h
      exact assertReset_unraised s
    | resetReleased m =>
      cases h
      exact releaseReset_unraised m s
    | mainPowerApplied a r =>
      cases h
      exact applyPower_unraised a r s
    | retentionSupplyFails =>
      cases h
      exact .of_channels rfl
    | _ => nomatch hs

end Special

/-- A second tick raises the live seconds of a held channel that is ON AIR, and of no other. -/
theorem tickSecond_raises {s : State} {c : Nat} {ch ch' : Channel} (hc : s.channel c = some ch)
    (hc' : (tickSecond s).channel c = some ch') (hlt : ch.liveSeconds < ch'.liveSeconds) :
    s.running = true ∧ s.channelHeld c ch = true ∧ ch.state = .onAir := by
  obtain ⟨-, -, hlive, -, -, -, hstopped⟩ := tickSecond_shows s
  cases hrun : s.running with
  | false =>
    have hsame : (tickSecond s).channel c = s.channel c := by rw [hstopped hrun]; rfl
    rw [hsame, hc] at hc'
    cases hc'
    exact absurd hlt (Nat.lt_irrefl _)
  | true =>
    have h := hlive hrun c
    rw [hc, hc', Option.map_some, Option.map_some, Option.some.injEq] at h
    have hseconds := congrArg Channel.liveSeconds h
    by_cases hheld : s.channelHeld c ch = true ∧ ch.state = .onAir
    · exact ⟨rfl, hheld⟩
    · have hkept : ch'.liveSeconds = ch.liveSeconds := hseconds.trans (if_neg hheld)
      omega

/-- Settles O6: no other step raises them, and a second tick does in SESSION alone. -/
theorem liveSecondsRiseOnlyAtSecondTicks : Obligations.LiveSecondsRiseOnlyAtSecondTicks := by
  intro i s t c ch ch' h hc hc' hlt
  by_cases hi : i = .secondTick
  · subst hi
    cases h
    obtain ⟨hrun, hheld, hair⟩ := tickSecond_raises hc hc' hlt
    have hhall : s.planner.hall = .session := by
      simp only [State.channelHeld, Bool.and_eq_true, decide_eq_true_eq] at hheld
      exact hheld.1
    exact ⟨rfl, hrun, hhall, hheld, hair⟩
  · have hle := exec_unraised hi h c
    rw [liveTime_of_channel hc, liveTime_of_channel hc'] at hle
    omega

end Sys2Proof.Machine

/-! A removal (R115): what it leaves of the slot, its issue and its hire. -/

namespace Sys2Proof.Machine

section Empty

variable {k : Nat} {s : State}

theorem emptySlot_dock (k : Nat) (s : State) : (emptySlot k s).dock = (clearSlot k s).dock := by
  rw [emptySlot, discardMessages_dock]
  rfl

theorem emptySlot_slot_self {sl : Slot} (h : s.slot k = some sl) : (emptySlot k s).slot k = some Slot.empty := by
  rw [State.slot, emptySlot_dock]
  exact (slot_modSlot_self k _ s).trans (by rw [h]; rfl)

theorem emptySlot_slot_ne {j : Nat} (hj : j ≠ k) : (emptySlot k s).slot j = s.slot j := by
  rw [State.slot, emptySlot_dock]
  exact slot_modSlot_ne hj _ s

theorem emptySlot_ledger (k : Nat) (s : State) : (emptySlot k s).ledger = s.ledger :=
  same_ledger (w := { outbound := true, slots := true }) (emptySlot_frame rfl rfl k s) rfl rfl rfl

theorem emptySlot_account (k : Nat) (s : State) : (emptySlot k s).account = s.account :=
  same_account (w := { outbound := true, slots := true }) (emptySlot_frame rfl rfl k s) rfl

theorem emptySlot_issues (k : Nat) (s : State) : (emptySlot k s).dock.issues = s.dock.issues := by
  rw [emptySlot_dock]
  rfl

theorem emptySlot_ready (k : Nat) (s : State) : (emptySlot k s).dock.ready = s.dock.ready := by
  rw [emptySlot_dock]
  rfl

/-- Slot k as its receiver is gone, and the other slots. -/
theorem emptySlot_slots {u : State} {sl : Slot} (hu : u.dock.slots = s.dock.slots) (h : s.slot k = some sl) :
    (emptySlot k u).slot k = some Slot.empty ∧ ∀ j, j ≠ k → (emptySlot k u).slot j = s.slot j :=
  ⟨emptySlot_slot_self ((slot_congr hu k).trans h), fun j hj => (emptySlot_slot_ne hj).trans (slot_congr hu j)⟩

end Empty

/-! ### The issue and the hire of a receiver that has gone -/

section Gone

variable (n k : Nat) (i : Issue) (s : State)

theorem endIssue_dock : (endIssue n k s).dock = { s.dock with issues := Tab.erase s.dock.issues n } := by
  rw [endIssue, discardMessages_dock, disownMessages_dock]

theorem endIssue_ledger : (endIssue n k s).ledger = s.ledger := by
  rw [endIssue, discardMessages_ledger, disownMessages_ledger]

theorem endIssue_account : (endIssue n k s).account = s.account := by
  rw [endIssue, discardMessages_account, disownMessages_account]

theorem endIssue_clock : (endIssue n k s).clock = s.clock := by
  rw [endIssue, discardMessages_clock, disownMessages_clock]

theorem openHire_hire : Tab.get (openHire i s).ledger.hires i.serial
    = some ⟨i.account, i.tariff, i.tag, i.deposit, s.clock.minute, false, none⟩ := tab_get_set_self _ _ _

theorem openHire_account {a : Account} (h : Tab.get s.account.accounts i.account = some a) :
    Tab.get (openHire i s).account.accounts i.account = some { a with depositsHeld := a.depositsHeld + i.deposit } :=
  (tab_get_modify_self s.account.accounts i.account fun r => { r with depositsHeld := r.depositsHeld + i.deposit }).trans
    (by rw [h]; rfl)

theorem openHire_dock : (openHire i s).dock = s.dock := rfl

end Gone

/-- What a removal leaves (R115). -/
def State.removed (s : State) (k : Nat) (sl : Slot) (t : State) : Prop :=
  (sl.state ≠ .empty → sl.state ≠ .offline → t.slot k = some Slot.empty)
  ∧ (sl.state = .reading → s.tells t .slotCleared [k, SlotState.reading.code])
  ∧ (sl.state = .charging → s.tells t .unissuedRemoval [k, sl.serial.getD 0])
  ∧ (sl.state = .ready → s.tells t .unissuedRemoval [k, sl.serial.getD 0] ∧ ∀ e ∈ t.dock.ready, e.slot ≠ k)
  ∧ (sl.state = .fault → s.tells t .slotCleared [k, SlotState.fault.code, (sl.cause.map SlotCause.code).getD 0])
  ∧ (∀ n i, sl.state = .issuing → s.issueOf k = some (n, i) →
      Tab.get t.dock.issues n = none
      ∧ (i.phase = .presetting → s.tells t .unissuedRemoval [k, i.serial] ∧ t.ledger.hires = s.ledger.hires)
      ∧ (i.phase ≠ .presetting →
          Tab.get t.ledger.hires i.serial
            = some ⟨i.account, i.tariff, i.tag, i.deposit, s.clock.minute, false, none⟩
          ∧ s.tells t .issued [n, k, i.serial, i.account]
          ∧ ∀ a, Tab.get s.account.accounts i.account = some a → Tab.get t.account.accounts i.account
              = some { a with depositsHeld := a.depositsHeld + i.deposit }))
  ∧ ∀ j, j ≠ k → t.slot j = s.slot j

/-- What settles nothing of dock, ledger and accounts leaves a removal as it is. -/
theorem State.removed.later {s t u : State} {k : Nat} {sl : Slot} (h : s.removed k sl t) (hgrow : Grows .steady t u)
    (hdock : u.dock = t.dock) (hledger : u.ledger = t.ledger) (haccount : u.account = t.account) : s.removed k sl u := by
  have hslot (j : Nat) : u.slot j = t.slot j := slot_congr (congrArg DockBlock.slots hdock) j
  obtain ⟨hempty, hreading, hcharging, hready, hfault, hissuing, hothers⟩ := h
  refine ⟨fun h1 h2 => (hslot k).trans (hempty h1 h2), fun h => hgrow.tells (hreading h), fun h => hgrow.tells (hcharging h),
    fun h => ?_, fun h => hgrow.tells (hfault h), fun n i h hi => ?_, fun j hj => (hslot j).trans (hothers j hj)⟩
  · obtain ⟨htold, hleft⟩ := hready h
    rw [hdock]
    exact ⟨hgrow.tells htold, hleft⟩
  · obtain ⟨hnone, hpreset, hopened⟩ := hissuing n i h hi
    rw [hdock, hledger, haccount]
    refine ⟨hnone, fun hph => ?_, fun hph => ?_⟩
    · obtain ⟨htold, hhires⟩ := hpreset hph
      exact ⟨hgrow.tells htold, hhires⟩
    · obtain ⟨hhire, htold, hacc⟩ := hopened hph
      exact ⟨hhire, hgrow.tells htold, hacc⟩

section Remove

variable {k : Nat} {s : State} {sl : Slot} (hsl : s.slot k = some sl)
include hsl

theorem removeReceiver_nothing (h : sl.state = .empty ∨ sl.state = .offline) : removeReceiver k s = s := by
  rcases h with h | h <;> simp only [removeReceiver, hsl, h]

theorem removeReceiver_reading (h : sl.state = .reading) : removeReceiver k s =
    queueEvent .slotCleared [k, SlotState.reading.code] (emptySlot k (discardMessages (.identify k) s)) := by
  simp only [removeReceiver, hsl, h]

theorem removeReceiver_charging (h : sl.state = .charging) : removeReceiver k s =
    queueEvent .unissuedRemoval [k, sl.serial.getD 0] (emptySlot k s) := by
  simp only [removeReceiver, hsl, h]

theorem removeReceiver_ready (h : sl.state = .ready) : removeReceiver k s =
    queueEvent .unissuedRemoval [k, sl.serial.getD 0] (emptySlot k (leaveReady k s)) := by
  simp only [removeReceiver, hsl, h]

theorem removeReceiver_fault (h : sl.state = .fault) : removeReceiver k s =
    queueEvent .slotCleared [k, SlotState.fault.code, (sl.cause.map SlotCause.code).getD 0] (emptySlot k s) := by
  simp only [removeReceiver, hsl, h]

theorem removeReceiver_unissued (h : sl.state = .issuing) (hi : s.issueOf k = none) : removeReceiver k s = emptySlot k s := by
  simp only [removeReceiver, hsl, h, hi]

theorem removeReceiver_presetting {n : Nat} {i : Issue} (h : sl.state = .issuing) (hi : s.issueOf k = some (n, i))
    (hph : i.phase = .presetting) : removeReceiver k s =
    queueEvent .unissuedRemoval [k, i.serial] (emptySlot k (endIssue n k s)) := by
  simp only [removeReceiver, hsl, h, hi, hph, if_true]

theorem removeReceiver_issued {n : Nat} {i : Issue} (h : sl.state = .issuing) (hi : s.issueOf k = some (n, i))
    (hph : i.phase ≠ .presetting) : removeReceiver k s =
    queueEvent .issued [n, k, i.serial, i.account] (emptySlot k (openHire i (endIssue n k s))) := by
  simp only [removeReceiver, hsl, h, hi, if_neg hph]

omit hsl in
theorem queueEvent_slot (kind : EventKind) (fields : List Nat) (j : Nat) : (queueEvent kind fields s).slot j = s.slot j := by
  rw [State.slot, queueEvent_dock]
  rfl

omit hsl in
/-- An event about an emptied slot. -/
theorem emptied_tells {u : State} (hgrow : Grows .steady s u) (k : Nat) (kind : EventKind) (fields : List Nat) :
    s.tells (queueEvent kind fields (emptySlot k u)) kind fields :=
  (hgrow.trans (emptySlot_grows k u)).tells_from (queueEvent_tells kind fields _)

theorem removeReceiver_removed : s.removed k sl (removeReceiver k s) := by
  have hslots {u : State} (hu : u.dock.slots = s.dock.slots) (kind : EventKind) (fields : List Nat) :
      (queueEvent kind fields (emptySlot k u)).slot k = some Slot.empty
        ∧ ∀ j, j ≠ k → (queueEvent kind fields (emptySlot k u)).slot j = s.slot j := by
    simp only [queueEvent_slot]
    exact emptySlot_slots hu hsl
  cases hst : sl.state with
  | empty =>
    rw [removeReceiver_nothing hsl (.inl hst)]
    exact ⟨fun h => absurd hst h, by simp [hst], by simp [hst], by simp [hst], by simp [hst], by simp [hst], fun _ _ => rfl⟩
  | offline =>
    rw [removeReceiver_nothing hsl (.inr hst)]
    exact ⟨fun _ h => absurd hst h, by simp [hst], by simp [hst], by simp [hst], by simp [hst], by simp [hst], fun _ _ => rfl⟩
  | reading =>
    rw [removeReceiver_reading hsl hst]
    obtain ⟨hself, hothers⟩ := hslots (u := discardMessages (.identify k) s) (by rw [discardMessages_dock]) .slotCleared
      [k, SlotState.reading.code]
    exact ⟨fun _ _ => hself, fun _ => emptied_tells (discardMessages_grows _ _) _ _ _, by simp [hst], by simp [hst],
      by simp [hst], by simp [hst], hothers⟩
  | charging =>
    rw [removeReceiver_charging hsl hst]
    obtain ⟨hself, hothers⟩ := hslots (u := s) rfl .unissuedRemoval [k, sl.serial.getD 0]
    exact ⟨fun _ _ => hself, by simp [hst], fun _ => emptied_tells (.refl s) _ _ _, by simp [hst], by simp [hst],
      by simp [hst], hothers⟩
  | ready =>
    rw [removeReceiver_ready hsl hst]
    obtain ⟨hself, hothers⟩ := hslots (u := leaveReady k s) rfl .unissuedRemoval [k, sl.serial.getD 0]
    refine ⟨fun _ _ => hself, by simp [hst], by simp [hst], fun _ => ⟨emptied_tells (leaveReady_grows _ _) _ _ _, ?_⟩,
      by simp [hst], by simp [hst], hothers⟩
    rw [queueEvent_dock, emptySlot_ready]
    intro e he
    simpa using (List.mem_filter.mp he).2
  | fault =>
    rw [removeReceiver_fault hsl hst]
    obtain ⟨hself, hothers⟩ := hslots (u := s) rfl .slotCleared [k, SlotState.fault.code, (sl.cause.map SlotCause.code).getD 0]
    exact ⟨fun _ _ => hself, by simp [hst], by simp [hst], by simp [hst], fun _ => emptied_tells (.refl s) _ _ _,
      by simp [hst], hothers⟩
  | issuing =>
    cases hi : s.issueOf k with
    | none =>
      rw [removeReceiver_unissued hsl hst hi]
      obtain ⟨hself, hothers⟩ := emptySlot_slots rfl hsl
      exact ⟨fun _ _ => hself, by simp [hst], by simp [hst], by simp [hst], by simp [hst], by simp [hi], hothers⟩
    | some x =>
      obtain ⟨n, i⟩ := x
      by_cases hph : i.phase = .presetting
      · rw [removeReceiver_presetting hsl hst hi hph]
        obtain ⟨hself, hothers⟩ := hslots (u := endIssue n k s) (by rw [endIssue_dock]) .unissuedRemoval [k, i.serial]
        refine ⟨fun _ _ => hself, by simp [hst], by simp [hst], by simp [hst], by simp [hst], fun n' i' _ h => ?_, hothers⟩
        cases hi.symm.trans h
        refine ⟨?_, fun _ => ⟨emptied_tells (endIssue_grows _ _ _) _ _ _, ?_⟩, fun h => absurd hph h⟩
        · rw [queueEvent_dock, emptySlot_issues, endIssue_dock]
          exact tab_get_erase_self _ _
        · rw [queueEvent_ledger, emptySlot_ledger, endIssue_ledger]
      · rw [removeReceiver_issued hsl hst hi hph]
        obtain ⟨hself, hothers⟩ := hslots (u := openHire i (endIssue n k s)) (by rw [openHire_dock, endIssue_dock]) .issued
          [n, k, i.serial, i.account]
        refine ⟨fun _ _ => hself, by simp [hst], by simp [hst], by simp [hst], by simp [hst], fun n' i' _ h => ?_, hothers⟩
        cases hi.symm.trans h
        refine ⟨?_, fun h => absurd h hph, fun _ => ⟨?_, ?_, fun a ha => ?_⟩⟩
        · rw [queueEvent_dock, emptySlot_issues, openHire_dock, endIssue_dock]
          exact tab_get_erase_self _ _
        · rw [queueEvent_ledger, emptySlot_ledger, openHire_hire, endIssue_clock]
        · exact emptied_tells ((endIssue_grows _ _ _).trans (openHire_grows _ _)) _ _ _
        · rw [queueEvent_account, emptySlot_account]
          exact openHire_account i _ (by rw [endIssue_account]; exact ha)

end Remove

end Sys2Proof.Machine

/-! A slot's polls answered (R112, R115, R116). -/

namespace Sys2Proof.Machine

/-! ### The exchange answered by an ONLINE drop -/

/-- The line free and the drop's silences cleared, before the drop's owner takes the reply. -/
def State.heardBy (s : State) (a : Nat) (e : Ended) : State :=
  modDrop a (fun d => { d with online := true, silences := 0 }) (endExchange e s)

section Heard

variable {s : State} {a : Nat} {e : Ended}

theorem answered_heardBy {kind : MsgKind} (he : s.ending a kind = some e) (hon : s.dropOnline a = true)
    (act : Ended → State → State) : answered a kind act s = fillRoom (act e (s.heardBy a e)) := by
  have hdrops : (endExchange e s).panel.drops = s.panel.drops := by cases e <;> rfl
  simp only [State.dropOnline] at hon
  simp only [answered, he, dropAnswers, hdrops]
  cases hd : Tab.get s.panel.drops a with
  | none => simp [hd] at hon
  | some d =>
    have hd' : d.online = true := by simpa [hd] using hon
    simp only [hd', if_true, State.heardBy]

/-- All but the panel is as it was. -/
theorem heardBy_eq : s.heardBy a e = { s with panel := (s.heardBy a e).panel } := by cases e <;> rfl

theorem heardBy_online (h : s.dropOnline a = true) : (s.heardBy a e).dropOnline a = true := by
  have hdrops : (endExchange e s).panel.drops = s.panel.drops := by cases e <;> rfl
  simp only [State.dropOnline] at h ⊢
  rw [State.heardBy, modDrop_drop_self, hdrops]
  cases hd : Tab.get s.panel.drops a with
  | none => simp [hd] at h
  | some d => rfl

end Heard

theorem ending_poll {s : State} {a : Nat} (h : s.panel.exchange = none ∨ s.panel.exchange = some (.poll a)) :
    s.ending a .poll = some .poll := by
  rcases h with h | h <;> simp [State.ending, h]

theorem ending_identify {s : State} {k : Nat} (hfree : s.panel.exchange = none)
    (h : ∃ m ∈ s.panel.outbound, m.body = .identify k) :
    ∃ e, s.ending (slotAddress k) .identify = some e := by
  obtain ⟨m, hm, hb⟩ := h
  have hsome : (s.panel.outbound.find? fun m => m.body.drop = slotAddress k && m.body.kind = .identify).isSome = true := by
    rw [List.find?_isSome]
    exact ⟨m, hm, by simp [hb, Body.drop, Body.kind]⟩
  obtain ⟨x, hx⟩ := Option.isSome_iff_exists.mp hsome
  exact ⟨.message x, by simp only [State.ending, hfree, hx]; rfl⟩

/-! ### The latch corrected (R116) -/

section Latch

variable {k : Nat} {s : State}

theorem correctLatch_rest (k : Nat) (latch before : Bool) (s : State) :
    SameBut { outbound := true } s (correctLatch k latch before s) := correctLatch_frame rfl k latch before s

theorem correctLatch_dock (k : Nat) (latch before : Bool) (s : State) : (correctLatch k latch before s).dock = s.dock :=
  same_dock (w := { outbound := true }) (correctLatch_rest k latch before s) rfl rfl rfl

theorem wants_correctLatch {b : Body} (h : s.wants b) (hb : b.target ≠ .latch k) (latch before : Bool) :
    (correctLatch k latch before s).wants b := by
  unfold correctLatch
  split
  · exact h
  · split
    · exact h
    · exact wants_queueMessage h _ fun ht => absurd ht.symm hb

theorem correctLatch_wants {sl : Slot} (hr : s.reached (slotAddress k)) (hsl : s.slot k = some sl) {latch : Bool}
    (hne : latch ≠ sl.latchOpen) (hno : ∀ m ∈ s.panel.outbound, m.body.target ≠ .latch k) :
    (correctLatch k latch sl.latchOpen s).wants (.latch k sl.latchOpen) := by
  have hany : (s.panel.outbound.any fun m => decide (m.body.target = .latch k)) = false := by
    rw [List.any_eq_false]
    intro m hm
    simpa using hno m hm
  have heq : correctLatch k latch sl.latchOpen s = queueMessage (.latch k sl.latchOpen) .plain s := by
    simp [correctLatch, hsl, hne, hany]
  rw [heq]
  exact queueMessage_wants (b := .latch k sl.latchOpen) hr.1 hr.2 _

end Latch

/-! ### Messages that stay wanted as the room is filled -/

section Filled

variable {s : State} {k : Nat}

theorem wants_fillRoom {b : Body} {o : Origin} (hr : s.reached b.drop) (hw : s.wants b)
    (hm : messageFor s b.target = some (b, o)) : (fillRoom s).wants b := wants_refill _ hw hr.1 hr.2 hm

theorem messageFor_identify {sl : Slot} (hsl : s.slot k = some sl) (h : sl.state ≠ .empty) (h' : sl.state ≠ .offline) :
    messageFor s (.identify k) = some (.identify k, .plain) := by
  have hocc : s.slotOccupied k = true := by
    simp only [State.slotOccupied, show Tab.get s.dock.slots k = some sl from hsl]
    simp [h, h']
  exact if_pos hocc

theorem messageFor_latch {sl : Slot} (hsl : s.slot k = some sl) (h : sl.state ≠ .offline) :
    ∃ o, messageFor s (.latch k) = some (.latch k sl.latchOpen, o) := by
  simp only [messageFor, show Tab.get s.dock.slots k = some sl from hsl, if_neg h]
  split <;> exact ⟨_, rfl⟩

theorem messageFor_clearMark {sl : Slot} (hsl : s.slot k = some sl) (h : sl.clearMark = true) :
    messageFor s (.clearMark k) = some (.clearMark k, .plain) := by
  simp only [messageFor, show Tab.get s.dock.slots k = some sl from hsl, h, if_true]

end Filled

/-! ### An answered slot poll -/

section Poll

variable {k : Nat} {s : State} {sl : Slot} (hsl : s.slot k = some sl) (latch : Bool)
include hsl

theorem hearSlotPoll_empty_occupied (h : sl.state = .empty) :
    hearSlotPoll k true latch s = correctLatch k latch sl.latchOpen (insertReceiver k s) := by
  simp only [hearSlotPoll, hsl, h, if_true]

theorem hearSlotPoll_empty (h : sl.state = .empty) :
    hearSlotPoll k false latch s = correctLatch k latch sl.latchOpen (modSlot k (fun sl => { sl with startUp := false }) s) := by
  simp only [hearSlotPoll, hsl, h, Bool.false_eq_true, if_false]

theorem hearSlotPoll_offline (h : sl.state = .offline) (occupied : Bool) :
    hearSlotPoll k occupied latch s = correctLatch k latch sl.latchOpen (slotBack k occupied s) := by
  simp only [hearSlotPoll, hsl, h]

theorem hearSlotPoll_occupied (h : sl.state ≠ .empty) (h' : sl.state ≠ .offline) :
    hearSlotPoll k true latch s = correctLatch k latch sl.latchOpen s := by
  cases hst : sl.state with
  | empty => exact absurd hst h
  | offline => exact absurd hst h'
  | _ => simp only [hearSlotPoll, hsl, hst, if_true]

theorem hearSlotPoll_gone (h : sl.state ≠ .empty) (h' : sl.state ≠ .offline) :
    hearSlotPoll k false latch s = correctLatch k latch sl.latchOpen (removeReceiver k s) := by
  cases hst : sl.state with
  | empty => exact absurd hst h
  | offline => exact absurd hst h'
  | _ => simp only [hearSlotPoll, hsl, hst, Bool.false_eq_true, if_false]

theorem startReading_slot : (startReading k s).slot k = some { sl with state := .reading } :=
  (slot_modSlot_self k _ s).trans (by rw [hsl]; rfl)

omit hsl in
theorem startReading_slot_ne {j : Nat} (hj : j ≠ k) : (startReading k s).slot j = s.slot j := slot_modSlot_ne hj _ s

omit hsl in
theorem insertReceiver_dock (k : Nat) (s : State) : (insertReceiver k s).dock = (startReading k s).dock := by
  rw [insertReceiver, queueMessage_dock]

theorem slotBack_slot (occupied : Bool) : (slotBack k occupied s).slot k =
    some (if occupied then { Slot.empty with state := .fault, cause := some .link } else Slot.empty) :=
  (slot_modSlot_self k _ s).trans (by rw [hsl]; rfl)

omit hsl in
theorem slotBack_slot_ne (occupied : Bool) {j : Nat} (hj : j ≠ k) : (slotBack k occupied s).slot j = s.slot j :=
  slot_modSlot_ne hj _ s

/-- The receiver found is to be identified (R112). -/
theorem insertReceiver_wants (hr : s.reached (slotAddress k)) :
    (fillRoom (correctLatch k latch sl.latchOpen (insertReceiver k s))).wants (.identify k) := by
  have hins : (insertReceiver k s).wants (.identify k) :=
    queueMessage_wants (b := .identify k) (s := startReading k s) hr.1 hr.2 _
  have hins' : (insertReceiver k s).reached (slotAddress k) :=
    reached_of_same (w := { outbound := true, slots := true })
      ((queueMessage_frame rfl _ _ _).trans (modSlot_frame rfl _ _ s) : SameBut _ s (insertReceiver k s)) rfl hr
  refine wants_fillRoom (b := .identify k) (o := .plain)
    (reached_of_same (w := { outbound := true }) (correctLatch_rest _ _ _ _) rfl hins')
    (wants_correctLatch hins (by simp [Body.target]) _ _) ?_
  refine messageFor_identify (sl := { sl with state := .reading }) ?_ (by simp) (by simp)
  rw [State.slot, correctLatch_dock, insertReceiver_dock]
  exact startReading_slot hsl

theorem occupied_wants (hr : s.reached (slotAddress k)) (h : sl.state ≠ .offline) (hne : latch ≠ sl.latchOpen)
    (hno : ∀ m ∈ s.panel.outbound, m.body.target ≠ .latch k) :
    (fillRoom (correctLatch k latch sl.latchOpen s)).wants (.latch k sl.latchOpen) := by
  obtain ⟨o, ho⟩ := messageFor_latch (s := correctLatch k latch sl.latchOpen s)
    ((slot_congr (congrArg DockBlock.slots (correctLatch_dock k latch sl.latchOpen s)) k).trans hsl) h
  exact wants_fillRoom (b := .latch k sl.latchOpen) (reached_of_same (w := { outbound := true }) (correctLatch_rest _ _ _ _)
    rfl hr) (correctLatch_wants hr hsl hne hno) ho

end Poll

end Sys2Proof.Machine

/-! A docked receiver decided (R112, R124, R125, R127, R129 to R131). -/

namespace Sys2Proof.Machine

/-! ### Slots without a hold stay as records leave the table (R128) -/

section Holds

variable {s : State} {j : Nat} (h : ∀ sl, s.slot j = some sl → sl.hold = none)
include h

theorem endHolds_slot (serial : Nat) : (endHolds serial s).slot j = s.slot j := by
  refine forEach_keeps (Q := fun u => u.slot j = s.slot j) (fun k u hu => ?_) _ rfl
  rw [State.slot, queueMessage_dock, ← State.slot]
  by_cases hj : j = k
  · subst hj
    rw [slot_modSlot_self, hu]
    cases hsl : s.slot j with
    | none => rfl
    | some sl =>
      have hnone := h sl hsl
      obtain ⟨_, _, _, _, _, _, _, _, _, _, hold⟩ := sl
      cases hnone
      rfl
  · rw [slot_modSlot_ne hj, hu]

theorem hireLeaves_slot (serial : Nat) : (hireLeaves serial s).slot j = s.slot j := by
  unfold hireLeaves
  split
  · rfl
  · exact endHolds_slot (s := modAccount _ _ { s with ledger.hires := Tab.erase s.ledger.hires serial }) h serial

omit h in
theorem book_dock (a : Nat) (f : Total) (n : Nat) (s : State) : (book a f n s).dock = s.dock :=
  same_dock (w := { events := true, account := true }) (book_frame rfl rfl a f n s) rfl rfl rfl

omit h in
theorem enterLog_dock (st : Settlement) (s : State) : (enterLog st s).dock = s.dock := by
  simp only [enterLog]
  split
  · rw [queueEvent_dock]
  · rfl

theorem closeHire_slot (serial : Nat) (kind : HireKind) (asked : Nat) (at_ : Option Nat) :
    (closeHire serial kind asked at_ s).slot j = s.slot j := by
  simp only [closeHire]
  split
  · rfl
  · split
    · have hdock (u : State) (hu : u.dock = s.dock) (st : Settlement) :
          (hireLeaves serial (enterLog st u)).slot j = s.slot j := by
        have hslot : (enterLog st u).slot j = s.slot j := slot_congr (by rw [enterLog_dock, hu]) j
        rw [hireLeaves_slot fun sl hsl => h sl (hslot.symm.trans hsl)]
        exact hslot
      exact hdock _ (by simp only [book_dock]) _
    · exact slot_congr (by simp only [book_dock]) j

theorem decideRecords_slot (k serial minute : Nat) (mark : HireMark) :
    (decideRecords k serial minute mark s).slot j = s.slot j := by
  unfold decideRecords
  split
  · rw [queueEvent_slot]
    exact closeHire_slot h _ _ _ _
  · rw [queueEvent_slot]
    exact slot_congr (same_dock_slots (w := { events := true, lost := true, account := true })
      (recoverLost_frame rfl rfl rfl _ _ s) rfl) j
  · rfl

end Holds

/-! ### Own records decide first -/

section Records

variable {k serial minute : Nat} {mark : HireMark} {s : State}

theorem decideRecords_open {h : Hire} (hh : Tab.get s.ledger.hires serial = some h) (hc : h.closing = none) :
    decideRecords k serial minute mark s = queueEvent .receiverReturned [k, serial, h.account, mark.station]
      (closeHire serial .ret minute (some s.self) s) := by
  obtain ⟨account, tariff, tag, deposit, start, overdue, closing⟩ := h
  cases hc
  simp only [decideRecords, hh]

theorem decideRecords_lost {e : Lost} (hh : Tab.get s.ledger.hires serial = none) (he : s.lostEntry serial = some e) :
    decideRecords k serial minute mark s =
      queueEvent .receiverRecovered [k, serial, e.account, e.declared] (recoverLost e minute s) := by
  simp only [decideRecords, hh, he]

theorem decideRecords_unknown (hh : Tab.get s.ledger.hires serial = none) (he : s.lostEntry serial = none) :
    decideRecords k serial minute mark s = s := by
  simp only [decideRecords, hh, he]

/-- What the records' decision leaves of hall, clock and configuration. -/
theorem decideRecords_clock : (decideRecords k serial minute mark s).clock = s.clock :=
  same_clock (w := Parts.steady) (by apply decideRecords_frame <;> rfl)

theorem recoverLost_log {e : Lost} (hlog : s.logOpen = true) : (recoverLost e minute s).account.log
    = s.account.log ++ [⟨s.account.nextNumber, .recovery e.serial e.account minute⟩] := by
  have hopen : (removeLost e.serial s).logOpen = true := hlog
  simp only [recoverLost, settleRecovery, hopen, if_true, enterLog_log]
  rfl

theorem recoverLost_hires (e : Lost) : (recoverLost e minute s).ledger.hires = s.ledger.hires :=
  same_ledger_hires (w := { events := true, lost := true, account := true }) (recoverLost_frame rfl rfl rfl e minute s) rfl

theorem recoverLost_lost (e : Lost) : ∀ x ∈ (recoverLost e minute s).ledger.lost, x.serial ≠ e.serial := by
  have h := recoverLost_entry e minute s
  rw [State.lostEntry, List.find?_eq_none] at h
  intro x hx
  simpa using h x hx

end Records

/-! ### The mark decides next -/

section Mark

variable {k serial battery minute : Nat} {mark : HireMark} {known : Bool} {s : State}

theorem decideMark_rest : SameBut { events := true, lineQueue := true, orphans := true } s
    (decideMark k serial battery minute mark known s) := decideMark_frame rfl rfl rfl k serial battery minute mark known s

theorem decideMark_none (h : mark.station = 0) : decideMark k serial battery minute mark known s = s := if_pos h

theorem decideMark_remote (h : mark.station ≠ 0) (h' : mark.station ≠ s.self) :
    decideMark k serial battery minute mark known s = remoteReturn k mark.station serial minute battery s := by
  rw [decideMark, if_neg h, if_neg h']

/-- A new orphan, not yet queried. -/
def newOrphan (serial q minute battery : Nat) : Orphan :=
  { serial, owner := q, minute, battery, queries := 0, answerWait := none }

/-- The orphan made and told of. -/
def State.orphanMade (slot q serial minute battery : Nat) (s : State) : State :=
  queueEvent .remoteReturn [slot, serial, q, minute]
    { s with ledger.orphans := s.ledger.orphans ++ [newOrphan serial q minute battery] }

variable {slot q : Nat} (hnone : s.orphan serial = none) (hroom : s.ledger.orphans.length < 16)
include hnone hroom

theorem remoteReturn_eq : remoteReturn slot q serial minute battery s =
    if Tab.has s.line.peers q then queryOrphan (newOrphan serial q minute battery) (s.orphanMade slot q serial minute battery)
    else s.orphanMade slot q serial minute battery := by
  have hcap : ¬Config.orphanCapacity ≤ s.ledger.orphans.length := Nat.not_le.mpr hroom
  have hpeers : (s.orphanMade slot q serial minute battery).line = s.line := by rw [State.orphanMade, queueEvent_line]
  simp only [remoteReturn, hnone, Option.isSome_none, Bool.false_eq_true, if_false]
  rw [← hpeers]
  cases horphans : s.ledger.orphans with
  | nil => simp only [State.orphanMade, newOrphan, horphans]
  | cons oldest rest =>
    rw [horphans] at hcap
    simp only [State.orphanMade, newOrphan, horphans, if_neg hcap]

end Mark

end Sys2Proof.Machine

/-! A docked receiver decided: its slot (R112, R117, R128). -/

namespace Sys2Proof.Machine

/-- A slot's record as its identification is complete (R112). -/
def State.completed (s : State) (sl : Slot) (serial battery : Nat) (mark : HireMark) : Slot :=
  { sl with
    state := if s.cfg.readyLevel ≤ battery then .ready else .charging
    serial := some serial, battery := some battery, mark := some mark
    chargeStart := if s.cfg.readyLevel ≤ battery then none else some s.clock.minute
    low := decide (battery < 5), cause := none, startUp := false, hold := none }

theorem joinReady_slot (k : Nat) (startUp : Bool) (s : State) (j : Nat) : (joinReady k startUp s).slot j = s.slot j := rfl

theorem leaveReady_slot (k : Nat) (s : State) (j : Nat) : (leaveReady k s).slot j = s.slot j := rfl

section Complete

variable {k serial battery : Nat} {mark : HireMark} {s : State} {sl : Slot} (hsl : s.slot k = some sl)
include hsl

theorem completeSlot_slot : (completeSlot k serial battery mark s).slot k = some (s.completed sl serial battery mark) := by
  have hself (f : Slot → Slot) : (modSlot k f s).slot k = some (f sl) := (slot_modSlot_self k f s).trans (by rw [hsl]; rfl)
  simp only [completeSlot, hsl]
  split
  next h =>
    rw [joinReady_slot, hself]
    simp only [State.completed, h, if_true]
  next h =>
    rw [hself]
    simp only [State.completed, h, if_false]

theorem completeSlot_slot_ne {j : Nat} (hj : j ≠ k) : (completeSlot k serial battery mark s).slot j = s.slot j := by
  simp only [completeSlot, hsl]
  split
  · rw [joinReady_slot, slot_modSlot_ne hj]
  · exact slot_modSlot_ne hj _ s

theorem completeSlot_ready (h : s.cfg.readyLevel ≤ battery) (hstart : sl.startUp = false) :
    (completeSlot k serial battery mark s).dock.ready = s.dock.ready ++ [⟨k, false⟩] := by
  simp only [completeSlot, hsl, h, if_true, joinReady, hstart, Bool.false_eq_true, if_false]
  rfl

theorem completeSlot_panel : (completeSlot k serial battery mark s).panel = s.panel := by
  simp only [completeSlot, hsl]
  split
  · rfl
  · rfl

end Complete

/-! ### A battery reading (R113) -/

section Reading

variable {k battery : Nat} {s : State} {sl : Slot} (hsl : s.slot k = some sl)
include hsl

omit hsl in
theorem readBattery_slot_ne {j : Nat} (hj : j ≠ k) : (readBattery k battery sl s).slot j = s.slot j := by
  have hread : (modSlot k (fun sl => { sl with battery := some battery }) s).slot j = s.slot j := slot_modSlot_ne hj _ s
  simp only [readBattery]
  split
  · split
    · rw [joinReady_slot, slot_modSlot_ne hj, hread]
    · exact hread
  · split
    · rw [leaveReady_slot, slot_modSlot_ne hj, hread]
    · exact hread
  · exact hread

theorem read_slot : (modSlot k (fun sl => { sl with battery := some battery }) s).slot k = some { sl with battery := some battery } :=
  (slot_modSlot_self k _ s).trans (by rw [hsl]; rfl)

theorem readBattery_charging (h : sl.state = .charging) :
    (s.cfg.readyLevel ≤ battery →
      (readBattery k battery sl s).slot k = some { sl with battery := some battery, state := .ready, chargeStart := none }
        ∧ (readBattery k battery sl s).dock.ready = s.dock.ready ++ [⟨k, false⟩])
    ∧ (battery < s.cfg.readyLevel → (readBattery k battery sl s).slot k = some { sl with battery := some battery }) := by
  have hread := read_slot (battery := battery) hsl
  have hcfg : (modSlot k (fun sl => { sl with battery := some battery }) s).cfg = s.cfg := rfl
  refine ⟨fun hready => ?_, fun hlow => ?_⟩
  · simp only [readBattery, h, hcfg, hready, if_true]
    exact ⟨by rw [joinReady_slot, slot_modSlot_self, hread]; rfl, rfl⟩
  · simp only [readBattery, h, hcfg, if_neg (Nat.not_le.mpr hlow)]
    exact hread.trans (by rw [h])

theorem readBattery_ready (h : sl.state = .ready) :
    (battery < s.cfg.readyLevel - 10 →
      (readBattery k battery sl s).slot k = some { sl with
        battery := some battery, state := .charging, chargeStart := some s.clock.minute }
        ∧ ∀ e ∈ (readBattery k battery sl s).dock.ready, e.slot ≠ k)
    ∧ (s.cfg.readyLevel - 10 ≤ battery → (readBattery k battery sl s).slot k = some { sl with battery := some battery }) := by
  have hread := read_slot (battery := battery) hsl
  have hcfg : (modSlot k (fun sl => { sl with battery := some battery }) s).cfg = s.cfg := rfl
  refine ⟨fun hlow => ?_, fun hkept => ?_⟩
  · simp only [readBattery, h, hcfg, hlow, if_true]
    refine ⟨by rw [leaveReady_slot, slot_modSlot_self, hread]; rfl, fun e he => ?_⟩
    simpa using (List.mem_filter.mp he).2
  · simp only [readBattery, h, hcfg, if_neg (Nat.not_lt.mpr hkept)]
    exact hread.trans (by rw [h])

end Reading

/-! ### The decision as a whole -/

/-- Own records have decided. -/
def State.recordsDecided (k serial : Nat) (mark : HireMark) (sl : Slot) (s : State) : State :=
  decideRecords k serial (s.returnMinute sl) mark s

/-- Records and mark have decided, and a CLEAR MARK is owed where there is a mark. -/
def State.judged (k serial battery : Nat) (mark : HireMark) (sl : Slot) (s : State) : State :=
  let known := Tab.has s.ledger.hires serial || (s.lostEntry serial).isSome
  let u := decideMark k serial battery (s.returnMinute sl) mark known (s.recordsDecided k serial mark sl)
  if mark.station = 0 then u else oweClearMark k u

/-- What follows the records' decision may write. -/
def Parts.judged : Parts := { events := true, lineQueue := true, outbound := true, slots := true, orphans := true }

section Decide

variable {k serial battery : Nat} {mark : HireMark} {s : State} {sl : Slot} (hsl : s.slot k = some sl)

theorem judged_rest : SameBut Parts.judged (s.recordsDecided k serial mark sl) (s.judged k serial battery mark sl) := by
  simp only [State.judged]
  split
  · exact decideMark_frame rfl rfl rfl _ _ _ _ _ _ _
  · exact (oweClearMark_frame rfl rfl _ _).trans (decideMark_frame rfl rfl rfl _ _ _ _ _ _ _)

theorem judged_grows : Grows .steady (s.recordsDecided k serial mark sl) (s.judged k serial battery mark sl) := by
  simp only [State.judged]
  split
  · exact decideMark_grows _ _ _ _ _ _ _
  · exact (decideMark_grows _ _ _ _ _ _ _).trans (oweClearMark_grows _ _)

theorem recordsDecided_rest : SameBut { events := true, outbound := true, slots := true, hires := true, lost := true, account := true }
    s (s.recordsDecided k serial mark sl) := by
  unfold State.recordsDecided
  apply decideRecords_frame <;> rfl

theorem recordsDecided_grows : Grows .steady s (s.recordsDecided k serial mark sl) := decideRecords_grows _ _ _ _ s

theorem judged_clock : (s.judged k serial battery mark sl).clock = s.clock :=
  (same_clock (w := Parts.judged) judged_rest).trans (same_clock recordsDecided_rest)

theorem judged_ready : (s.judged k serial battery mark sl).dock.ready = s.dock.ready :=
  (same_dock_ready (w := Parts.judged) judged_rest rfl).trans (same_dock_ready recordsDecided_rest rfl)

theorem oweClearMark_slot : (oweClearMark k s).slot k = (s.slot k).map fun sl => { sl with clearMark := true } := by
  rw [oweClearMark, State.slot, queueMessage_dock]
  exact slot_modSlot_self k _ s

theorem oweClearMark_slot_ne {j : Nat} (hj : j ≠ k) : (oweClearMark k s).slot j = s.slot j := by
  rw [oweClearMark, State.slot, queueMessage_dock]
  exact slot_modSlot_ne hj _ s

/-- A slot with no hold stays as the receiver is decided. -/
theorem markDecided_slot {j : Nat} (h : ∀ x, s.slot j = some x → x.hold = none) (known : Bool) :
    (decideMark k serial battery (s.returnMinute sl) mark known (s.recordsDecided k serial mark sl)).slot j = s.slot j :=
  (slot_congr (same_dock_slots (w := { events := true, lineQueue := true, orphans := true })
    (decideMark_frame rfl rfl rfl _ _ _ _ _ _ _) rfl) j).trans (decideRecords_slot h k serial _ mark)

theorem judged_slot_ne {j : Nat} (hj : j ≠ k) (h : ∀ x, s.slot j = some x → x.hold = none) :
    (s.judged k serial battery mark sl).slot j = s.slot j := by
  simp only [State.judged]
  split
  · exact markDecided_slot h _
  · exact (oweClearMark_slot_ne hj).trans (markDecided_slot h _)

theorem hireClosing_judged : (s.judged k serial battery mark sl).hireClosing serial
    = (s.recordsDecided k serial mark sl).hireClosing serial := by
  simp only [State.hireClosing, same_ledger_hires (w := Parts.judged) judged_rest rfl]

include hsl

theorem judged_slot (h : sl.hold = none) : (s.judged k serial battery mark sl).slot k
    = some { sl with clearMark := sl.clearMark || decide (mark.station ≠ 0) } := by
  have hkept (known : Bool) := (markDecided_slot (k := k) (serial := serial) (battery := battery) (mark := mark) (sl := sl)
    (fun x hx => by cases hsl.symm.trans hx; exact h) known).trans hsl
  simp only [State.judged]
  split
  next hz =>
    rw [hkept]
    simp [hz]
  next hz =>
    rw [oweClearMark_slot, hkept]
    simp [hz]

theorem decideReceiver_eq : decideReceiver k serial battery mark s =
    if (s.judged k serial battery mark sl).hireClosing serial then queueEvent .returnHeld [k, serial]
      (modSlot k (fun sl => { sl with hold := some ⟨serial, mark, false⟩ }) (s.judged k serial battery mark sl))
    else completeSlot k serial battery mark (s.judged k serial battery mark sl) := by
  simp only [decideReceiver, hsl] <;> rfl

/-- The receiver's hire waits as CLOSING: the slot holds it (R128). -/
theorem decideReceiver_held (h : (s.recordsDecided k serial mark sl).hireClosing serial = true) :
    decideReceiver k serial battery mark s = queueEvent .returnHeld [k, serial]
      (modSlot k (fun sl => { sl with hold := some ⟨serial, mark, false⟩ }) (s.judged k serial battery mark sl)) := by
  rw [decideReceiver_eq hsl, hireClosing_judged, if_pos h]

theorem decideReceiver_completed (h : (s.recordsDecided k serial mark sl).hireClosing serial = false) :
    decideReceiver k serial battery mark s = completeSlot k serial battery mark (s.judged k serial battery mark sl) := by
  rw [decideReceiver_eq hsl, hireClosing_judged, h, if_neg (by decide)]

end Decide

end Sys2Proof.Machine

/-! What the decision of a docked receiver comes to (R112, R124, R125, R127 to R131). -/

namespace Sys2Proof.Machine

/-! ### After the records' decision -/

/-- What the decision writes once the records have decided. -/
def Parts.decided : Parts := { Parts.judged with ready := true }

section Decided

variable {k serial battery : Nat} {mark : HireMark} {s : State} {sl : Slot} (hsl : s.slot k = some sl)
include hsl

theorem decideReceiver_after : SameBut Parts.decided (s.recordsDecided k serial mark sl) (decideReceiver k serial battery mark s)
    ∧ Grows .steady (s.recordsDecided k serial mark sl) (decideReceiver k serial battery mark s) := by
  have hrest : SameBut Parts.decided (s.recordsDecided k serial mark sl) (s.judged k serial battery mark sl) := by
    simp only [State.judged]
    split
    · exact decideMark_frame rfl rfl rfl _ _ _ _ _ _ _
    · exact (oweClearMark_frame rfl rfl _ _).trans (decideMark_frame rfl rfl rfl _ _ _ _ _ _ _)
  rw [decideReceiver_eq hsl]
  split
  · exact ⟨(queueEvent_frame rfl _ _ _).trans ((modSlot_frame rfl _ _ _).trans hrest),
      judged_grows.trans ((modSlot_grows _ _ _).trans (queueEvent_grows _ _ _))⟩
  · exact ⟨(completeSlot_frame rfl rfl _ _ _ _ _).trans hrest, judged_grows.trans (completeSlot_grows _ _ _ _ _)⟩

/-- A receiver that no record knows, without a mark (R112). -/
theorem decideReceiver_stock (hz : mark.station = 0) (hh : Tab.get s.ledger.hires serial = none)
    (he : s.lostEntry serial = none) : decideReceiver k serial battery mark s = completeSlot k serial battery mark s := by
  have hrecords : s.recordsDecided k serial mark sl = s := decideRecords_unknown hh he
  have hjudged : s.judged k serial battery mark sl = s := by
    simp only [State.judged, hz, if_true, decideMark_none hz, hrecords]
  have hopen : (s.recordsDecided k serial mark sl).hireClosing serial = false := by
    rw [hrecords, State.hireClosing, hh]
    rfl
  rw [decideReceiver_completed hsl hopen, hjudged]

/-- The receiver of an OPEN hire: it is returned (R124, R125). -/
theorem decideReceiver_returned {h : Hire} (hh : Tab.get s.ledger.hires serial = some h) (hc : h.closing = none) :
    s.tells (decideReceiver k serial battery mark s) .receiverReturned [k, serial, h.account, mark.station]
    ∧ (s.logOpen = true → Tab.get (decideReceiver k serial battery mark s).ledger.hires serial = none)
    ∧ (s.logOpen = false → sl.hold = none →
        Tab.get (decideReceiver k serial battery mark s).ledger.hires serial
          = some { h with closing := some (s.closingOf h .ret (s.returnMinute sl) (some s.self)) }
        ∧ (decideReceiver k serial battery mark s).slot k = some { sl with
            clearMark := sl.clearMark || decide (mark.station ≠ 0), hold := some ⟨serial, mark, false⟩ }
        ∧ s.tells (decideReceiver k serial battery mark s) .returnHeld [k, serial]) := by
  obtain ⟨hrest, hgrow⟩ := decideReceiver_after (serial := serial) (battery := battery) (mark := mark) hsl
  have hrecords : s.recordsDecided k serial mark sl = queueEvent .receiverReturned [k, serial, h.account, mark.station]
      (closeHire serial .ret (s.returnMinute sl) (some s.self) s) := decideRecords_open hh hc
  have hhires : Tab.get (s.recordsDecided k serial mark sl).ledger.hires serial = if s.logOpen then none
      else some { h with closing := some (s.closingOf h .ret (s.returnMinute sl) (some s.self)) } := by
    rw [hrecords, queueEvent_ledger]
    exact closeHire_get_self hh _ _ _
  have hafter : Tab.get (decideReceiver k serial battery mark s).ledger.hires serial = if s.logOpen then none
      else some { h with closing := some (s.closingOf h .ret (s.returnMinute sl) (some s.self)) } := by
    rw [same_ledger_hires (w := Parts.decided) hrest rfl, hhires]
  refine ⟨hgrow.tells ?_, fun hlog => by rw [hafter, if_pos hlog], fun hlog hhold => ?_⟩
  · rw [hrecords]
    exact (closeHire_grows (κ := .steady) _ _ _ _ s).tells_from (queueEvent_tells _ _ _)
  · rw [hlog] at hhires hafter
    have hclosing : (s.recordsDecided k serial mark sl).hireClosing serial = true := by
      rw [State.hireClosing, hhires]
      rfl
    refine ⟨hafter, ?_, ?_⟩
    · rw [decideReceiver_held hsl hclosing, queueEvent_slot, slot_modSlot_self, judged_slot hsl hhold]
      rfl
    · rw [decideReceiver_held hsl hclosing]
      exact ((recordsDecided_grows.trans judged_grows).trans (modSlot_grows _ _ _)).tells_from (queueEvent_tells _ _ _)

/-- A lost receiver: it is recovered (R127). -/
theorem decideReceiver_recovered {e : Lost} (hh : Tab.get s.ledger.hires serial = none) (he : s.lostEntry serial = some e) :
    s.tells (decideReceiver k serial battery mark s) .receiverRecovered [k, serial, e.account, e.declared]
    ∧ (∀ x ∈ (decideReceiver k serial battery mark s).ledger.lost, x.serial ≠ serial)
    ∧ (s.logOpen = true → (decideReceiver k serial battery mark s).account.log
        = s.account.log ++ [⟨s.account.nextNumber, .recovery serial e.account (s.returnMinute sl)⟩]) := by
  obtain ⟨hrest, hgrow⟩ := decideReceiver_after (serial := serial) (battery := battery) (mark := mark) hsl
  have hserial : e.serial = serial := by simpa using List.find?_some he
  have hrecords : s.recordsDecided k serial mark sl = queueEvent .receiverRecovered [k, serial, e.account, e.declared]
      (recoverLost e (s.returnMinute sl) s) := decideRecords_lost hh he
  refine ⟨hgrow.tells ?_, ?_, fun hlog => ?_⟩
  · rw [hrecords]
    exact (recoverLost_grows (κ := .steady) _ _ s).tells_from (queueEvent_tells _ _ _)
  · rw [same_ledger_lost (w := Parts.decided) hrest rfl, hrecords, queueEvent_ledger]
    exact hserial ▸ recoverLost_lost e
  · rw [same_account (w := Parts.decided) hrest rfl, hrecords, queueEvent_account, recoverLost_log hlog, hserial]

/-- The receiver of another station, whose record no one here has: an orphan and a query (R129 to R131). -/
theorem decideReceiver_orphan (hz : mark.station ≠ 0) (hself : mark.station ≠ s.self)
    (hh : Tab.get s.ledger.hires serial = none) (he : s.lostEntry serial = none) :
    decideReceiver k serial battery mark s = completeSlot k serial battery mark
      (oweClearMark k (remoteReturn k mark.station serial (s.returnMinute sl) battery s)) := by
  have hrecords : s.recordsDecided k serial mark sl = s := decideRecords_unknown hh he
  have hopen : (s.recordsDecided k serial mark sl).hireClosing serial = false := by
    rw [hrecords, State.hireClosing, hh]
    rfl
  rw [decideReceiver_completed hsl hopen]
  simp only [State.judged, hrecords, if_neg hz, decideMark_remote hz hself]

end Decided

/-! ### Orphans -/

section Orphan

variable {slot q serial minute battery : Nat} {s : State} (hnone : s.orphan serial = none)
  (hroom : s.ledger.orphans.length < 16)
include hnone hroom

theorem remoteReturn_tells : s.tells (remoteReturn slot q serial minute battery s) .remoteReturn [slot, serial, q, minute] := by
  have hmade : s.tells (s.orphanMade slot q serial minute battery) .remoteReturn [slot, serial, q, minute] :=
    queueEvent_tells .remoteReturn [slot, serial, q, minute]
      { s with ledger.orphans := s.ledger.orphans ++ [newOrphan serial q minute battery] }
  rw [remoteReturn_eq hnone hroom]
  split
  · exact (queryOrphan_grows (κ := .steady) _ _).tells hmade
  · exact hmade

theorem remoteReturn_queried (hp : Tab.has s.line.peers q = true) :
    (remoteReturn slot q serial minute battery s).ledger.orphans
        = s.ledger.orphans ++ [⟨serial, q, minute, battery, 1, some 3000⟩]
      ∧ s.sends (remoteReturn slot q serial minute battery s) q (.returnQuery serial minute battery) := by
  have horphans : (s.orphanMade slot q serial minute battery).ledger.orphans
      = s.ledger.orphans ++ [newOrphan serial q minute battery] := by
    rw [State.orphanMade, queueEvent_ledger]
  have hothers : ∀ x ∈ s.ledger.orphans, x.serial ≠ serial := by
    rw [State.orphan, List.find?_eq_none] at hnone
    intro x hx
    simpa using hnone x hx
  rw [remoteReturn_eq hnone hroom, if_pos hp]
  refine ⟨?_, ?_⟩
  · rw [queryOrphan, enqueueFrame_ledger]
    simp only [modOrphan, horphans, List.map_append, newOrphan, List.map_cons, List.map_nil, if_true]
    refine congrArg (· ++ _) ?_
    exact (List.map_congr_left fun x hx => if_neg (hothers x hx)).trans (List.map_id _)
  · have hgrow : Grows .steady s (modOrphan serial
        (fun o => { o with queries := o.queries + 1, answerWait := some Config.orphanAnswerMs })
        (s.orphanMade slot q serial minute battery)) :=
      ((Grows.of_same rfl rfl rfl rfl : Grows .steady s
        { s with ledger.orphans := s.ledger.orphans ++ [newOrphan serial q minute battery] }).trans
        (queueEvent_grows _ _ _)).trans (modOrphan_grows _ _ _)
    exact hgrow.sends_from (enqueueFrame_sends q (.returnQuery serial minute battery) _)

theorem remoteReturn_unqueried (hp : Tab.has s.line.peers q = false) :
    (remoteReturn slot q serial minute battery s).ledger.orphans
        = s.ledger.orphans ++ [⟨serial, q, minute, battery, 0, none⟩] := by
  rw [remoteReturn_eq hnone hroom, hp, if_neg (by decide), State.orphanMade, queueEvent_ledger]
  rfl

end Orphan

end Sys2Proof.Machine

/-! A receiver's answer to IDENTIFY (R112, R113, R128). -/

namespace Sys2Proof.Machine

/-! ### The answer by the slot's state -/

section Hear

variable {k : Nat} {r : Receiver} {s : State} {sl : Slot} (hsl : s.slot k = some sl)
include hsl

theorem hearIdentify_offline (h : sl.state = .offline) (x : Option Receiver) : hearIdentify k x s = slotBack k x.isSome s := by
  simp [hearIdentify, hsl, h]

theorem hearIdentify_none (h : sl.state ≠ .offline) : hearIdentify k none s = removeReceiver k s := by
  simp [hearIdentify, hsl, h]

theorem hearIdentify_some (h : sl.state ≠ .offline) : hearIdentify k (some r) s = hearReceiver k r s := by
  simp [hearIdentify, hsl, h]

theorem hearReceiver_kept (h : sl.state = .empty ∨ sl.state = .issuing) : hearReceiver k r s = s := by
  rcases h with h | h <;> simp only [hearReceiver, hsl, h]

theorem hearReceiver_reading (h : sl.state = .reading) (hhold : sl.hold = none) :
    hearReceiver k r s = identifySlot k r.serial r.battery (markRead r) s := by
  simp only [hearReceiver, hsl, h, hhold]

theorem hearReceiver_held {x : SlotHold} (h : sl.state = .reading) (hhold : sl.hold = some x) (hserial : x.serial = r.serial) :
    hearReceiver k r s = if x.released then completeSlot k r.serial r.battery x.mark s else s := by
  simp only [hearReceiver, hsl, h, hhold, hserial, ne_eq, not_true_eq_false, if_false]

theorem hearReceiver_same (h : sl.state = .charging ∨ sl.state = .ready) (hserial : sl.serial = some r.serial) :
    hearReceiver k r s = readBattery k r.battery sl s := by
  rcases h with h | h <;> simp only [hearReceiver, hsl, h, hserial, if_true]

theorem identifySlot_duplicate {serial battery : Nat} {mark : HireMark} (h : s.dockedElsewhere k serial = true) :
    (identifySlot k serial battery mark s).slot k = some { sl with
        state := .fault, cause := some .duplicate, serial := some serial, battery := some battery
        startUp := false, hold := none }
      ∧ s.tells (identifySlot k serial battery mark s) .slotFault [k, SlotCause.duplicate.code, serial] := by
  simp only [identifySlot, h, if_true]
  refine ⟨?_, (modSlot_grows (κ := .steady) _ _ _).tells_from (queueEvent_tells _ _ _)⟩
  rw [queueEvent_slot, slot_modSlot_self, hsl]
  rfl

omit hsl in
theorem identifySlot_decided {serial battery : Nat} {mark : HireMark} (h : s.dockedElsewhere k serial = false) :
    identifySlot k serial battery mark s = decideReceiver k serial battery mark s := by
  simp only [identifySlot, h, Bool.false_eq_true, if_false]

end Hear

/-! ### The other slots -/

/-- No slot holds a receiver. -/
def State.holdless (s : State) : Prop := ∀ j x, s.slot j = some x → x.hold = none

theorem holdless_of_all {s : State} (h : (s.dock.slots.all fun e => e.2.hold.isNone) = true) : s.holdless := by
  intro j x hx
  simpa using List.all_eq_true.mp h (j, x) (mem_of_tab_get hx)

section Others

variable {k j : Nat} (hj : j ≠ k) {s : State} (h : s.holdless)
include hj h

theorem decideReceiver_slot_ne {serial battery : Nat} {mark : HireMark} :
    (decideReceiver k serial battery mark s).slot j = s.slot j := by
  cases hsl : s.slot k with
  | none => simp only [decideReceiver, hsl]
  | some sl =>
    have hjudged := judged_slot_ne (k := k) (serial := serial) (battery := battery) (mark := mark) (sl := sl) hj (h j)
    have hself := judged_slot (serial := serial) (battery := battery) (mark := mark) hsl (h k sl hsl)
    rw [decideReceiver_eq hsl]
    split
    · rw [queueEvent_slot, slot_modSlot_ne hj, hjudged]
    · rw [completeSlot_slot_ne hself hj, hjudged]

theorem identifySlot_slot_ne {serial battery : Nat} {mark : HireMark} :
    (identifySlot k serial battery mark s).slot j = s.slot j := by
  unfold identifySlot
  split
  · rw [queueEvent_slot, slot_modSlot_ne hj]
  · exact decideReceiver_slot_ne hj h

theorem exchangeReceiver_slot_ne {serial battery : Nat} {mark : HireMark} {sl : Slot} (hsl : s.slot k = some sl)
    (hocc : sl.state ≠ .empty) (hon : sl.state ≠ .offline) :
    (exchangeReceiver k serial battery mark s).slot j = s.slot j := by
  obtain ⟨hempty, -, -, -, -, -, hothers⟩ := removeReceiver_removed hsl
  have hreading := startReading_slot (hempty hocc hon)
  have hless : (startReading k (removeReceiver k s)).holdless := by
    intro i x hx
    by_cases hi : i = k
    · rw [hi, hreading] at hx
      cases hx
      rfl
    · rw [startReading_slot_ne hi, hothers i hi] at hx
      exact h i x hx
  rw [exchangeReceiver, identifySlot_slot_ne hj hless, startReading_slot_ne hj, hothers j hj]

theorem hearReceiver_slot_ne {r : Receiver} : (hearReceiver k r s).slot j = s.slot j := by
  unfold hearReceiver
  split
  · rfl
  next sl hsl =>
    split
    · rfl
    · rfl
    · rfl
    next hst =>
      split
      · exact identifySlot_slot_ne hj h
      next x hx => exact absurd (h k sl hsl) (by rw [hx]; nofun)
    next hst =>
      split
      · exact readBattery_slot_ne hj
      · exact exchangeReceiver_slot_ne hj h hsl (by simp [hst]) (by simp [hst])
    next hst =>
      split
      · exact readBattery_slot_ne hj
      · exact exchangeReceiver_slot_ne hj h hsl (by simp [hst]) (by simp [hst])
    next hst =>
      split
      · exact readBattery_slot_ne hj
      split
      · exact exchangeReceiver_slot_ne hj h hsl (by simp [hst]) (by simp [hst])
      · rfl

theorem hearIdentify_slot_ne {x : Option Receiver} : (hearIdentify k x s).slot j = s.slot j := by
  unfold hearIdentify
  split
  · exact slotBack_slot_ne _ hj
  split
  · cases hsl : s.slot k with
    | none => simp only [removeReceiver, hsl]
    | some sl =>
      obtain ⟨-, -, -, -, -, -, hothers⟩ := removeReceiver_removed hsl
      exact hothers j hj
  · exact hearReceiver_slot_ne hj h

end Others

/-! ### The CLEAR MARK owed (R112) -/

section Owed

variable {k serial battery : Nat} {mark : HireMark} {s u : State} {sl : Slot}

theorem remoteReturn_rest (slot q serial minute battery : Nat) (s : State) :
    SameBut { events := true, lineQueue := true, orphans := true } s (remoteReturn slot q serial minute battery s) :=
  remoteReturn_frame rfl rfl rfl slot q serial minute battery s

/-- The CLEAR MARK of a receiver decided stays wanted as the room is filled. -/
theorem owed_wants (hr : u.reached (slotAddress k)) (hsl : u.slot k = some sl) :
    (fillRoom (completeSlot k serial battery mark (oweClearMark k u))).wants (.clearMark k) := by
  have howed : (oweClearMark k u).wants (.clearMark k) :=
    queueMessage_wants (b := .clearMark k) (s := modSlot k (fun sl => { sl with clearMark := true }) u) hr.1 hr.2 _
  have hself : (oweClearMark k u).slot k = some { sl with clearMark := true } := by
    rw [oweClearMark_slot, hsl]
    rfl
  have hwants : (completeSlot k serial battery mark (oweClearMark k u)).wants (.clearMark k) :=
    (wants_congr (by rw [completeSlot_panel hself]) (by rw [completeSlot_panel hself])).mpr howed
  have hreached : (completeSlot k serial battery mark (oweClearMark k u)).reached (slotAddress k) :=
    reached_of_same (w := { outbound := true, slots := true, ready := true })
      ((completeSlot_frame rfl rfl _ _ _ _ _).trans (oweClearMark_frame rfl rfl _ _)) rfl hr
  exact wants_fillRoom (b := .clearMark k) hreached hwants
    (messageFor_clearMark (completeSlot_slot hself) rfl)

end Owed

end Sys2Proof.Machine

/-! SLOT_POLL_REPLY and IDENTIFY_REPLY: the statement (R104, R112, R113, R115, R116, R119, R123). -/

namespace Sys2Proof.Machine

/-- What a slot's reply may write. -/
def Parts.slotReply : Parts :=
  { Parts.settled with
    desks := true, panelLine := true, drops := true, slots := true, ready := true, issues := true, hires := true
    account := true }

section Step

variable {s : State} {k : Nat} (hrun : s.running = true) (hon : s.dropOnline (slotAddress k) = true)
include hrun hon

theorem slotPoll_step (hex : s.panel.exchange = none ∨ s.panel.exchange = some (.poll (slotAddress k)))
    (occupied latch : Bool) : ∃ p : PanelBlock, ∃ v : State, v = { s with panel := p } ∧ v.reached (slotAddress k)
      ∧ v.panel.outbound = s.panel.outbound ∧ v.panel.exchange = none
      ∧ exec (.slotPollReply k occupied latch) s = .next (settle (fillRoom (hearSlotPoll k occupied latch v)))
      ∧ SameBut Parts.slotReply s (settle (fillRoom (hearSlotPoll k occupied latch v))) := by
  have hstation : s.clock.station = .running := by
    simp only [State.running, Bool.and_eq_true, decide_eq_true_eq] at hrun
    exact hrun.1
  have heq := answered_heardBy (ending_poll hex) hon fun _ => hearSlotPoll k occupied latch
  refine ⟨_, s.heardBy (slotAddress k) .poll, heardBy_eq, ⟨hstation, heardBy_online hon⟩, rfl, rfl,
    congrArg Host.Outcome.next ((event_of_running _ hrun).trans (congrArg settle heq)), ?_⟩
  rw [← heq]
  refine SameBut.settled ?_ rfl rfl rfl rfl rfl rfl rfl
  exact answered_frame rfl rfl rfl rfl rfl _ _ _ (fun _ u => by apply hearSlotPoll_frame <;> rfl) s

omit hrun hon in
theorem heardBy_frame {w : Parts} (h1 : w.outbound = true) (h2 : w.panelLine = true) (h3 : w.drops = true) (a : Nat)
    (e : Ended) (s : State) : SameBut w s (s.heardBy a e) := (modDrop_frame h3 _ _ _).trans (endExchange_frame h1 h2 e s)

theorem identify_step {x : Option Receiver} (hx : x.any impossible = false) (hfree : s.panel.exchange = none)
    (hm : ∃ m ∈ s.panel.outbound, m.body = .identify k) : ∃ p : PanelBlock, ∃ v : State, v = { s with panel := p }
      ∧ v.reached (slotAddress k)
      ∧ (∀ w : Parts, w.outbound = true → w.panelLine = true → w.drops = true → SameBut w s v)
      ∧ exec (.identifyReply k x) s = .next (settle (fillRoom (hearIdentify k x v))) := by
  have hstation : s.clock.station = .running := by
    simp only [State.running, Bool.and_eq_true, decide_eq_true_eq] at hrun
    exact hrun.1
  obtain ⟨e, he⟩ := ending_identify hfree hm
  have heq := answered_heardBy he hon fun _ => hearIdentify k x
  have hexec : exec (.identifyReply k x) s =
      .next (settle (answered (slotAddress k) .identify (fun _ => hearIdentify k x) s)) := by
    refine (congrArg Host.Outcome.next (event_of_running _ hrun)).trans ?_
    rw [hx, if_neg (by decide)]
  exact ⟨_, s.heardBy (slotAddress k) e, heardBy_eq, ⟨by rw [heardBy_eq]; exact hstation, heardBy_online hon⟩,
    fun w h1 h2 h3 => heardBy_frame h1 h2 h3 _ e s, hexec.trans (congrArg (fun u => Host.Outcome.next (settle u)) heq)⟩

end Step

section After

variable (u : State)

theorem afterRoom_dock : (settle (fillRoom u)).dock = u.dock := by rw [settle_dock, fillRoom_dock]

theorem afterRoom_ledger : (settle (fillRoom u)).ledger = u.ledger := by rw [settle_ledger, fillRoom_ledger]

theorem afterRoom_account : (settle (fillRoom u)).account = u.account := by rw [settle_account, fillRoom_account]

end After

/-- An EMPTY slot and one in OFFLINE lose nothing. -/
theorem removed_nothing {s t : State} {k : Nat} {sl : Slot} (h : sl.state = .empty ∨ sl.state = .offline)
    (hothers : ∀ j, j ≠ k → t.slot j = s.slot j) : s.removed k sl t := by
  rcases h with h | h
  · exact ⟨fun h' => absurd h h', by simp [h], by simp [h], by simp [h], by simp [h], by simp [h], hothers⟩
  · exact ⟨fun _ h' => absurd h h', by simp [h], by simp [h], by simp [h], by simp [h], by simp [h], hothers⟩

theorem removed_afterRoom {s u : State} {k : Nat} {sl : Slot} (h : s.removed k sl u) : s.removed k sl (settle (fillRoom u)) :=
  h.later (afterRoom_grows u) (afterRoom_dock u) (afterRoom_ledger u) (afterRoom_account u)

theorem correctLatch_removed {s u : State} {k : Nat} {sl : Slot} (h : s.removed k sl u) (latch before : Bool) :
    s.removed k sl (correctLatch k latch before u) :=
  h.later (correctLatch_grows _ _ _ _) (correctLatch_dock _ _ _ _)
    (same_ledger (w := { outbound := true }) (correctLatch_rest _ _ _ _) rfl rfl rfl)
    (same_account (w := { outbound := true }) (correctLatch_rest _ _ _ _) rfl)

theorem markRead_none {r : Receiver} (h : r.markStation = 0 ∨ 48 < r.markStation) : markRead r = ⟨0, r.markTag⟩ := by
  rcases h with h | h <;> simp [markRead, h]

theorem markRead_within {r : Receiver} (h : r.markStation ≤ 48) : markRead r = ⟨r.markStation, r.markTag⟩ := by
  simp [markRead, Nat.not_lt.mpr h]

end Sys2Proof.Machine

/-! SLOT_POLL_REPLY and IDENTIFY_REPLY: the statement (R104, R112, R113, R115, R116, R119, R123). -/

namespace Sys2Proof.Machine

section Identified

variable {k : Nat} {r : Receiver} {s u : State} {sl : Slot}

/-- A stock receiver charges, or is READY and joins the queue (R112). -/
theorem identified_stock (hsl : s.slot k = some sl) (h : sl.state = .reading) (hhold : sl.hold = none)
    (hnew : s.dockedElsewhere k r.serial = false) (hmark : r.markStation = 0 ∨ 48 < r.markStation)
    (hh : Tab.get s.ledger.hires r.serial = none) (he : s.lostEntry r.serial = none)
    (hu : u = hearIdentify k (some r) s) :
    (settle (fillRoom u)).slot k = some (s.completed sl r.serial r.battery ⟨0, r.markTag⟩)
    ∧ (s.cfg.readyLevel ≤ r.battery → sl.startUp = false →
        (settle (fillRoom u)).dock.ready = s.dock.ready ++ [⟨k, false⟩])
    ∧ (settle (fillRoom u)).ledger = s.ledger := by
  have heq : u = completeSlot k r.serial r.battery ⟨0, r.markTag⟩ s := by
    rw [hu, hearIdentify_some hsl (by simp [h]), hearReceiver_reading hsl h hhold, identifySlot_decided hnew, markRead_none hmark,
      decideReceiver_stock hsl rfl hh he]
  refine ⟨?_, fun hready hstart => ?_, ?_⟩
  · rw [settle_fillRoom_slot, heq, completeSlot_slot hsl]
  · rw [afterRoom_dock, heq, completeSlot_ready hsl hready hstart]
  · rw [afterRoom_ledger, heq, same_ledger (w := { slots := true, ready := true }) (completeSlot_frame rfl rfl _ _ _ _ _) rfl rfl rfl]

/-- A receiver of another station that no record here knows (R129 to R131). -/
theorem identified_remote (hr : s.reached (slotAddress k)) (hsl : s.slot k = some sl) (h : sl.state = .reading)
    (hhold : sl.hold = none)
    (hnew : s.dockedElsewhere k r.serial = false) (hm : 1 ≤ r.markStation) (hm' : r.markStation ≤ 48)
    (hself : r.markStation ≠ s.self) (hh : Tab.get s.ledger.hires r.serial = none) (he : s.lostEntry r.serial = none)
    (ho : s.orphan r.serial = none) (hroom : s.ledger.orphans.length < 16) (hu : u = hearIdentify k (some r) s) :
    s.tells (settle (fillRoom u)) .remoteReturn [k, r.serial, r.markStation, s.returnMinute sl]
    ∧ (settle (fillRoom u)).slot k = some
        { s.completed sl r.serial r.battery ⟨r.markStation, r.markTag⟩ with clearMark := true }
    ∧ (settle (fillRoom u)).wants (.clearMark k)
    ∧ (Tab.has s.line.peers r.markStation = true →
        (settle (fillRoom u)).ledger.orphans = s.ledger.orphans
            ++ [⟨r.serial, r.markStation, s.returnMinute sl, r.battery, 1, some 3000⟩]
          ∧ s.sends (settle (fillRoom u)) r.markStation (.returnQuery r.serial (s.returnMinute sl) r.battery))
    ∧ (Tab.has s.line.peers r.markStation = false →
        (settle (fillRoom u)).ledger.orphans = s.ledger.orphans
          ++ [⟨r.serial, r.markStation, s.returnMinute sl, r.battery, 0, none⟩]) := by
  have hrest := remoteReturn_rest k r.markStation r.serial (s.returnMinute sl) r.battery s
  have htells := remoteReturn_tells (slot := k) (q := r.markStation) (minute := s.returnMinute sl) (battery := r.battery) ho hroom
  have hqueried := remoteReturn_queried (slot := k) (q := r.markStation) (minute := s.returnMinute sl) (battery := r.battery) ho
    hroom
  have hunqueried := remoteReturn_unqueried (slot := k) (q := r.markStation) (minute := s.returnMinute sl) (battery := r.battery)
    ho hroom
  have hgrow0 : Grows .steady s (remoteReturn k r.markStation r.serial (s.returnMinute sl) r.battery s) := remoteReturn_grows _ _ _ _ _ _
  have heq : u = completeSlot k r.serial r.battery ⟨r.markStation, r.markTag⟩
      (oweClearMark k (remoteReturn k r.markStation r.serial (s.returnMinute sl) r.battery s)) := by
    rw [hu, hearIdentify_some hsl (by simp [h]), hearReceiver_reading hsl h hhold, identifySlot_decided hnew, markRead_within hm',
      decideReceiver_orphan hsl (Nat.one_le_iff_ne_zero.mp hm) hself hh he]
  generalize remoteReturn k r.markStation r.serial (s.returnMinute sl) r.battery s = v at *
  have hclock : v.clock = s.clock := same_clock (w := { events := true, lineQueue := true, orphans := true }) hrest
  have hslot : v.slot k = some sl := (slot_congr
    (same_dock_slots (w := { events := true, lineQueue := true, orphans := true }) hrest rfl) k).trans hsl
  have howed : (oweClearMark k v).slot k = some { sl with clearMark := true } := by
    rw [oweClearMark_slot, hslot]
    rfl
  have hlater : SameBut { outbound := true, slots := true, ready := true } v u := by
    rw [heq]
    exact (completeSlot_frame rfl rfl _ _ _ _ _).trans (oweClearMark_frame rfl rfl _ _)
  have hledger : (settle (fillRoom u)).ledger = v.ledger := by
    rw [afterRoom_ledger]
    exact same_ledger (w := { outbound := true, slots := true, ready := true }) hlater rfl rfl rfl
  have hgrow : Grows .steady v (settle (fillRoom u)) := by
    refine Grows.trans ?_ (afterRoom_grows u)
    rw [heq]
    exact (oweClearMark_grows _ _).trans (completeSlot_grows _ _ _ _ _)
  refine ⟨hgrow.tells htells, ?_, ?_, fun hp => ?_, fun hp => ?_⟩
  · rw [settle_fillRoom_slot, heq, completeSlot_slot howed]
    have howedClock : (oweClearMark k v).clock = s.clock :=
      (same_clock (w := { outbound := true, slots := true }) (oweClearMark_frame rfl rfl k v)).trans hclock
    unfold State.completed State.cfg
    rw [howedClock]
  · refine wants_settle ?_ rfl
    rw [heq]
    exact owed_wants (reached_of_same (w := { events := true, lineQueue := true, orphans := true }) hrest rfl hr) hslot
  · obtain ⟨horphans, hsent⟩ := hqueried hp
    rw [hledger]
    exact ⟨horphans, hgrow.sends hgrow0 rfl hsent⟩
  · rw [hledger]
    exact hunqueried hp

/-- The receiver of an OPEN hire, and a lost one (R124, R127). -/
theorem identified_known (hsl : s.slot k = some sl) (h : sl.state = .reading) (hhold : sl.hold = none)
    (hnew : s.dockedElsewhere k r.serial = false) (hu : u = hearIdentify k (some r) s) :
    (∀ h, Tab.get s.ledger.hires r.serial = some h → h.closing = none → r.markStation ≤ 48 →
      s.tells (settle (fillRoom u)) .receiverReturned [k, r.serial, h.account, r.markStation]
      ∧ (s.logOpen = true → Tab.get (settle (fillRoom u)).ledger.hires r.serial = none)
      ∧ (s.logOpen = false → Tab.get (settle (fillRoom u)).ledger.hires r.serial
          = some { h with closing := some (s.closingOf h .ret (s.returnMinute sl) (some s.self)) }
        ∧ (settle (fillRoom u)).slot k = some { sl with
            clearMark := sl.clearMark || decide (r.markStation ≠ 0)
            hold := some ⟨r.serial, ⟨r.markStation, r.markTag⟩, false⟩ }
        ∧ s.tells (settle (fillRoom u)) .returnHeld [k, r.serial]))
    ∧ (∀ e, Tab.get s.ledger.hires r.serial = none → s.lostEntry r.serial = some e →
      s.tells (settle (fillRoom u)) .receiverRecovered [k, r.serial, e.account, e.declared]
      ∧ (∀ x ∈ (settle (fillRoom u)).ledger.lost, x.serial ≠ r.serial)
      ∧ (s.logOpen = true → (settle (fillRoom u)).account.log
          = s.account.log ++ [⟨s.account.nextNumber, .recovery r.serial e.account (s.returnMinute sl)⟩])) := by
  have heq : u = decideReceiver k r.serial r.battery (markRead r) s := by
    rw [hu, hearIdentify_some hsl (by simp [h]), hearReceiver_reading hsl h hhold, identifySlot_decided hnew]
  have hgrow := afterRoom_grows u
  refine ⟨fun h hh hc hm => ?_, fun e hh he => ?_⟩
  · obtain ⟨htold, hlogged, hwaits⟩ := decideReceiver_returned (battery := r.battery) (mark := markRead r) hsl hh hc
    rw [← heq] at htold hlogged hwaits
    rw [markRead_within hm] at htold hwaits
    rw [settle_fillRoom_slot, afterRoom_ledger]
    refine ⟨hgrow.tells htold, hlogged, fun hlog => ?_⟩
    obtain ⟨hhire, hslot, hheld⟩ := hwaits hlog hhold
    exact ⟨hhire, hslot, hgrow.tells hheld⟩
  · obtain ⟨htold, hlost, hlogged⟩ := decideReceiver_recovered (battery := r.battery) (mark := markRead r) hsl hh he
    rw [← heq] at htold hlost hlogged
    rw [afterRoom_ledger, afterRoom_account]
    exact ⟨hgrow.tells htold, hlost, hlogged⟩

/-- A docked receiver that answers again, and a slot whose answer is not for it (R113, R116, R128). -/
theorem identified_docked (hsl : s.slot k = some sl) (hu : u = hearIdentify k (some r) s) :
    (∀ x, sl.state = .reading → sl.hold = some x → x.serial = r.serial →
      (x.released = true → (settle (fillRoom u)).slot k = some (s.completed sl r.serial r.battery x.mark))
      ∧ (x.released = false → (settle (fillRoom u)).slot k = some sl))
    ∧ (sl.state = .charging → sl.serial = some r.serial →
      (s.cfg.readyLevel ≤ r.battery →
        (settle (fillRoom u)).slot k = some { sl with battery := some r.battery, state := .ready, chargeStart := none }
          ∧ (settle (fillRoom u)).dock.ready = s.dock.ready ++ [⟨k, false⟩])
      ∧ (r.battery < s.cfg.readyLevel → (settle (fillRoom u)).slot k = some { sl with battery := some r.battery }))
    ∧ (sl.state = .ready → sl.serial = some r.serial →
      (r.battery < s.cfg.readyLevel - 10 →
        (settle (fillRoom u)).slot k = some { sl with
          battery := some r.battery, state := .charging, chargeStart := some s.clock.minute }
          ∧ ∀ e ∈ (settle (fillRoom u)).dock.ready, e.slot ≠ k)
      ∧ (s.cfg.readyLevel - 10 ≤ r.battery → (settle (fillRoom u)).slot k = some { sl with battery := some r.battery }))
    ∧ (sl.state = .empty ∨ sl.state = .issuing → (settle (fillRoom u)).slot k = some sl)
    ∧ (sl.state = .offline → (settle (fillRoom u)).slot k = some { Slot.empty with state := .fault, cause := some .link }) := by
  rw [settle_fillRoom_slot, afterRoom_dock, hu]
  refine ⟨fun x hst hhold hserial => ?_, fun hst hserial => ?_, fun hst hserial => ?_, fun hst => ?_, fun hst => ?_⟩
  · rw [hearIdentify_some hsl (by simp [hst]), hearReceiver_held hsl hst hhold hserial]
    refine ⟨fun hrel => ?_, fun hrel => ?_⟩
    · rw [if_pos hrel, completeSlot_slot hsl]
    · rw [hrel, if_neg (by decide)]
      exact hsl
  · rw [hearIdentify_some hsl (by simp [hst]), hearReceiver_same hsl (.inl hst) hserial]
    exact readBattery_charging hsl hst
  · rw [hearIdentify_some hsl (by simp [hst]), hearReceiver_same hsl (.inr hst) hserial]
    exact readBattery_ready hsl hst
  · have hon : sl.state ≠ .offline := by rcases hst with hst | hst <;> simp [hst]
    rw [hearIdentify_some hsl hon, hearReceiver_kept hsl hst]
    exact hsl
  · rw [hearIdentify_offline hsl hst]
    exact slotBack_slot hsl true

theorem identified_duplicate (hsl : s.slot k = some sl) (h : sl.state = .reading) (hhold : sl.hold = none)
    (hdouble : s.dockedElsewhere k r.serial = true) (hu : u = hearIdentify k (some r) s) :
    (settle (fillRoom u)).slot k = some { sl with
        state := .fault, cause := some .duplicate, serial := some r.serial, battery := some r.battery
        startUp := false, hold := none }
      ∧ s.tells (settle (fillRoom u)) .slotFault [k, SlotCause.duplicate.code, r.serial] := by
  have heq : u = identifySlot k r.serial r.battery (markRead r) s := by
    rw [hu, hearIdentify_some hsl (by simp [h]), hearReceiver_reading hsl h hhold]
  obtain ⟨hslot, htold⟩ := identifySlot_duplicate (battery := r.battery) (mark := markRead r) hsl hdouble
  rw [settle_fillRoom_slot, heq]
  exact ⟨hslot, (afterRoom_grows _).tells htold⟩

end Identified

/-- Settles O57: the exchange ends, the slot takes its reply by its state, and what it orders stays ordered as the room
is filled. -/
theorem slotReplies : Obligations.SlotReplies := by
  intro s k sl hrun hsl hon hex poll others removed complete
  have hnone {latch : Bool} {u v : State} {p : PanelBlock} (hv : v = { s with panel := p })
      (hu : u = correctLatch k latch sl.latchOpen (removeReceiver k v)) : removed (settle (fillRoom u)) := by
    subst hv hu
    exact removed_afterRoom (correctLatch_removed (removeReceiver_removed (s := { s with panel := p }) hsl) _ _)
  refine ⟨fun latch hst => ?_, fun latch hst hst' => ?_, fun latch hst => ?_, fun latch => ?_, fun hfree hm => ?_,
    fun r hserial hbattery hfree hm => ?_⟩
  · obtain ⟨p, v, rfl, hr, -, hline, hexec, hframe⟩ := slotPoll_step hrun hon hex true latch
    have hheard := hearSlotPoll_empty_occupied (s := { s with panel := p }) hsl latch hst
    have hdock := (correctLatch_dock k latch sl.latchOpen _).trans (insertReceiver_dock k { s with panel := p })
    have hwants := insertReceiver_wants (s := { s with panel := p }) hsl latch hr
    have hend : (hearSlotPoll k true latch { s with panel := p }).panel.exchange = none :=
      (same_panel_exchange (w := { Parts.slotReply with panelLine := false }) (by apply hearSlotPoll_frame <;> rfl) rfl).trans hline
    rw [← hheard] at hdock hwants
    generalize hearSlotPoll k true latch { s with panel := p } = u at *
    refine ⟨_, hexec, ?_, orders_of_wants (wants_settle hwants rfl), fun j hj => ?_, ?_, hframe⟩
    · rw [settle_fillRoom_slot, State.slot, hdock]
      exact startReading_slot (s := { s with panel := p }) hsl
    · rw [settle_fillRoom_slot, State.slot, hdock]
      exact startReading_slot_ne (s := { s with panel := p }) hj
    · rw [settle_panel_exchange, fillRoom_panel_exchange]
      exact hend
  · obtain ⟨p, v, rfl, hr, hout, -, hexec, hframe⟩ := slotPoll_step hrun hon hex true latch
    have hheard := hearSlotPoll_occupied (s := { s with panel := p }) hsl latch hst hst'
    have hdock := correctLatch_dock k latch sl.latchOpen { s with panel := p }
    have hwants := occupied_wants (s := { s with panel := p }) hsl latch hr hst'
    rw [← hheard] at hdock hwants
    generalize hearSlotPoll k true latch { s with panel := p } = u at *
    refine ⟨_, hexec, ?_, fun j hj => ?_, fun hne hno => ?_, hframe⟩
    · rw [settle_fillRoom_slot, State.slot, hdock]
      exact hsl
    · rw [settle_fillRoom_slot, State.slot, hdock]
      rfl
    · exact orders_of_wants (wants_settle (hwants hne (hout ▸ hno)) rfl)
  · obtain ⟨p, v, rfl, -, -, -, hexec, hframe⟩ := slotPoll_step hrun hon hex true latch
    have hheard := hearSlotPoll_offline (s := { s with panel := p }) hsl latch hst true
    refine ⟨_, hexec, ?_, fun j hj => ?_, hframe⟩
    · rw [settle_fillRoom_slot, hheard, State.slot, correctLatch_dock]
      exact slotBack_slot (s := { s with panel := p }) hsl true
    · rw [settle_fillRoom_slot, hheard, State.slot, correctLatch_dock]
      exact slotBack_slot_ne (s := { s with panel := p }) true hj
  · obtain ⟨p, v, rfl, -, -, -, hexec, hframe⟩ := slotPoll_step hrun hon hex false latch
    by_cases hst : sl.state = .empty
    · have hheard := hearSlotPoll_empty (s := { s with panel := p }) hsl latch hst
      refine ⟨_, hexec, fun _ => ?_, fun h => by simp [hst] at h, removed_nothing (.inl hst) fun j hj => ?_, hframe⟩
      · rw [settle_fillRoom_slot, hheard, State.slot, correctLatch_dock, ← State.slot, slot_modSlot_self,
          show ({ s with panel := p } : State).slot k = some sl from hsl]
        rfl
      · rw [settle_fillRoom_slot, hheard, State.slot, correctLatch_dock, ← State.slot, slot_modSlot_ne hj]
        rfl
    by_cases hst' : sl.state = .offline
    · have hheard := hearSlotPoll_offline (s := { s with panel := p }) hsl latch hst' false
      refine ⟨_, hexec, fun h => absurd h hst, fun _ => ?_, removed_nothing (.inr hst') fun j hj => ?_, hframe⟩
      · rw [settle_fillRoom_slot, hheard, State.slot, correctLatch_dock]
        exact slotBack_slot (s := { s with panel := p }) hsl false
      · rw [settle_fillRoom_slot, hheard, State.slot, correctLatch_dock]
        exact slotBack_slot_ne (s := { s with panel := p }) false hj
    · exact ⟨_, hexec, fun h => absurd h hst, fun h => absurd h hst',
        hnone rfl (hearSlotPoll_gone (s := { s with panel := p }) hsl latch hst hst'), hframe⟩
  · obtain ⟨p, v, rfl, -, hv, hexec⟩ := identify_step (x := none) hrun hon rfl hfree hm
    have hsame {u : State} (hu : SameBut poll { s with panel := p } u) : SameBut poll s (settle (fillRoom u)) :=
      afterRoom_frame (hu.trans (hv poll rfl rfl rfl)) rfl rfl rfl rfl rfl rfl rfl
    have hframe : SameBut poll s (settle (fillRoom (hearIdentify k none { s with panel := p }))) := by
      refine hsame ?_
      by_cases hst : sl.state = .offline
      · rw [hearIdentify_offline (s := { s with panel := p }) hsl hst]
        exact slotBack_frame rfl _ _ _
      · rw [hearIdentify_none (s := { s with panel := p }) hsl hst]
        apply removeReceiver_frame <;> rfl
    by_cases hst : sl.state = .offline
    · have hheard := hearIdentify_offline (s := { s with panel := p }) hsl hst none
      refine ⟨_, hexec, fun h => by simp [hst] at h, fun _ => ?_, removed_nothing (.inr hst) fun j hj => ?_, hframe⟩
      · rw [settle_fillRoom_slot, hheard]
        exact slotBack_slot (s := { s with panel := p }) hsl false
      · rw [settle_fillRoom_slot, hheard]
        exact slotBack_slot_ne (s := { s with panel := p }) false hj
    · have hheard := hearIdentify_none (s := { s with panel := p }) hsl hst
      refine ⟨_, hexec, fun hempty => ?_, fun h => absurd h hst, ?_, hframe⟩
      · rw [settle_fillRoom_slot, hheard, removeReceiver_nothing (s := { s with panel := p }) hsl (.inl hempty)]
        exact hsl
      · rw [hheard]
        exact removed_afterRoom (removeReceiver_removed (s := { s with panel := p }) hsl)
  · have himpossible : (some r).any impossible = false := by
      simp [impossible]
      omega
    obtain ⟨p, v, rfl, hr, hv, hexec⟩ := identify_step hrun hon himpossible hfree hm
    have hframe : SameBut { poll with lost := true, orphans := true } s
        (settle (fillRoom (hearIdentify k (some r) { s with panel := p }))) :=
      afterRoom_frame (Eq.trans (by apply hearIdentify_frame <;> rfl) (hv _ rfl rfl rfl)) rfl rfl rfl rfl rfl rfl rfl
    have hothers (j : Nat) (hj : j ≠ k) (hall : (s.dock.slots.all fun e => e.2.hold.isNone) = true) :
        (settle (fillRoom (hearIdentify k (some r) { s with panel := p }))).slot j = s.slot j :=
      (settle_fillRoom_slot _ j).trans (hearIdentify_slot_ne (s := { s with panel := p }) hj (holdless_of_all hall))
    generalize hu : hearIdentify k (some r) { s with panel := p } = u at *
    obtain ⟨hheld, hcharging, hready, hkept, hback⟩ := identified_docked (s := { s with panel := p }) hsl hu.symm
    refine ⟨_, hexec, hothers, fun h hhold hdouble => ?_, fun h hhold hnew hmark hh he => ?_,
      fun x h hhold hnew hh hc hmark => ?_, fun e h hhold hnew hh he => ?_,
      fun h hhold hnew h1 h48 hself hh he ho hroom => ?_, fun x h hhold hsame => hheld x h hhold hsame, hcharging, hready,
      hkept, hback, hframe⟩
    · exact identified_duplicate (s := { s with panel := p }) hsl h hhold hdouble hu.symm
    · exact identified_stock (s := { s with panel := p }) hsl h hhold hnew hmark hh he hu.symm
    · obtain ⟨hreturned, -⟩ := identified_known (s := { s with panel := p }) hsl h hhold hnew hu.symm
      exact hreturned x hh hc hmark
    · obtain ⟨-, hrecovered⟩ := identified_known (s := { s with panel := p }) hsl h hhold hnew hu.symm
      exact hrecovered e hh he
    · obtain ⟨htold, hslot, hwants, hqueried, hunqueried⟩ :=
        identified_remote (s := { s with panel := p }) hr hsl h hhold hnew h1 h48 hself hh he ho hroom hu.symm
      exact ⟨htold, hslot, orders_of_wants hwants, hqueried, hunqueried⟩

end Sys2Proof.Machine

/-! Desk keys (R32, R49, R50): what the end of the step shows of desks, holders and routes. -/

namespace Sys2Proof.Machine

/-! ### Gates and live lamps as a step settles -/

/-- The live lamp of a desk (R50). -/
def State.liveLamp (s : State) (r : Desk) : LampValue :=
  if s.gateOf r then .steady else if r.state = .cough || r.cough then .blinking else .dark

theorem gateOf_congr {s t : State} (h : t.planner.hall = s.planner.hall) (r : Desk) : t.gateOf r = s.gateOf r := by
  simp only [State.gateOf, h]

theorem liveLamp_congr {s t : State} (h : t.planner.hall = s.planner.hall) (r : Desk) : t.liveLamp r = s.liveLamp r := by
  simp only [State.liveLamp, gateOf_congr h]

theorem lampsOf_live {s : State} {r : Desk} {bo : Booth} (h : s.boothRec r.booth = some bo) (d : Nat) :
    (s.lampsOf d r).live = s.liveLamp r := by
  simp only [State.lampsOf, h, State.liveLamp]

/-- Desk d shows its gate and its live lamp. -/
def State.showing (s : State) (d : Nat) : Prop := ∀ r, s.desk d = some r →
  r.gate = s.gateOf r ∧ ∀ bo, s.boothRec r.booth = some bo → r.lamps.live = s.liveLamp r

theorem showing_congr {s t : State} {d : Nat} (hd : t.desk d = s.desk d) (hh : t.planner.hall = s.planner.hall)
    (hb : t.booth.booths = s.booth.booths) (h : s.showing d) : t.showing d := by
  intro r hr
  obtain ⟨hgate, hlamp⟩ := h r (hd.symm.trans hr)
  refine ⟨hgate.trans (gateOf_congr hh r).symm, fun bo hbo => ?_⟩
  rw [liveLamp_congr hh]
  exact hlamp bo ((congrArg (Tab.get · r.booth) hb).symm.trans hbo)

theorem refreshDesk_same (j : Nat) (s : State) : (refreshDesk j s).planner.hall = s.planner.hall
    ∧ (refreshDesk j s).booth.booths = s.booth.booths := by
  have h : SameBut { deskShow := true, outbound := true } s (refreshDesk j s) := refreshDesk_frame rfl rfl j s
  exact ⟨same_planner_hall h rfl, same_booth_booths h rfl rfl⟩

theorem refreshDesk_showing_self (d : Nat) (s : State) : (refreshDesk d s).showing d := by
  obtain ⟨hhall, hbooths⟩ := refreshDesk_same d s
  intro r hr
  rw [refreshDesk_desk_self] at hr
  obtain ⟨r0, -, rfl⟩ := Option.map_eq_some_iff.mp hr
  refine ⟨(gateOf_congr hhall _).symm, fun bo hbo => ?_⟩
  rw [liveLamp_congr hhall]
  exact lampsOf_live ((congrArg (Tab.get · r0.booth) hbooths).symm.trans hbo) d

theorem refreshDesk_showing {d : Nat} {s : State} (h : s.showing d) (j : Nat) : (refreshDesk j s).showing d := by
  obtain ⟨hhall, hbooths⟩ := refreshDesk_same j s
  by_cases hj : d = j
  · rw [hj]
    exact refreshDesk_showing_self j s
  · exact showing_congr (refreshDesk_desk_ne hj s) hhall hbooths h

theorem settle_showing (s : State) (d : Nat) : (settle s).showing d := by
  have hdesks : (settledDesks s).showing d := by
    cases hd : (routeFloor s).desk d with
    | none =>
      have hnone : (settledDesks s).desk d = none :=
        Option.map_eq_none_iff.mp (((forEach_quiet refreshDesk_quiet _ (routeFloor s)).toCalm.desk d).trans (by rw [hd]; rfl))
      intro r hr
      simp [hnone] at hr
    | some r =>
      exact forEach_brings (f := refreshDesk) (I := fun _ => True) (Q := fun u => u.showing d) (fun _ _ _ => trivial)
        (fun j u hu => refreshDesk_showing hu j) (fun u _ => refreshDesk_showing_self d u) (mem_keys_of_get hd) trivial
  refine showing_congr (settle_desk s d) ?_ ?_ hdesks
  · rw [settle_planner_hall]
    exact (same_planner_hall (settledDesks_frame s) rfl).symm
  · rw [settle_booth_booths]
    exact (same_booth_booths (settledDesks_frame s) rfl rfl).symm

/-! ### The end of a desk's reply -/

/-- A key taken is settled, the room is filled, and the step settles (R32). -/
def keyEnd (u : State) : State := settle (fillRoom (settle u))

section End

variable (u : State)

theorem keyEnd_quiet : Quiet u (keyEnd u) := by
  have hroom : Quiet (settle u) (fillRoom (settle u)) :=
    .of_same (by rw [fillRoom_planner]) (fillRoom_booth _) (fillRoom_feed _) (fillRoom_panel_routes _)
  exact ((settle_quiet u).trans hroom).trans (settle_quiet _)

theorem keyEnd_grows : Grows .steady u (keyEnd u) := ((settle_steady u).trans (fillRoom_grows _)).trans (settle_steady _)

theorem keyEnd_boothRec (b : Nat) : (keyEnd u).boothRec b = u.boothRec b := by
  rw [keyEnd, settle_boothRec, State.boothRec, fillRoom_booth]
  exact settle_boothRec u b

theorem keyEnd_hall : (keyEnd u).planner.hall = u.planner.hall := by
  rw [keyEnd, settle_planner_hall, fillRoom_planner, settle_planner_hall]

theorem keyEnd_route {c : Nat} (h : 1 ≤ c) : (keyEnd u).route (busOutput c) = u.route (busOutput c) := by
  rw [keyEnd, settle_route (busOutput_ne_floor h), route_congr (fillRoom_panel_routes _), settle_route (busOutput_ne_floor h)]

theorem keyEnd_context (k : Nat) : (keyEnd u).context k = u.context k := by
  rw [keyEnd, settle_context, State.context, fillRoom_feed]
  exact settle_context u k

theorem keyEnd_exchange : (keyEnd u).panel.exchange = u.panel.exchange := by
  rw [keyEnd, settle_panel_exchange, fillRoom_panel_exchange, settle_panel_exchange]

theorem keyEnd_channel (c : Nat) : ((keyEnd u).channel c).map Channel.core = (u.channel c).map Channel.core := by
  rw [keyEnd, settle_channel_core, State.channel, fillRoom_planner]
  exact settle_channel_core

theorem keyEnd_frame {w : Parts} {s : State} {u : State} (h : SameBut w s u) (h1 : w.events = true) (h2 : w.notices = true)
    (h3 : w.deskShow = true) (h4 : w.mapBack = true) (h5 : w.lineQueue = true) (h6 : w.outbound = true)
    (h7 : w.routes = true) : SameBut w s (keyEnd u) :=
  afterRoom_frame (SameBut.settled h h1 h2 h3 h4 h5 h6 h7) h1 h2 h3 h4 h5 h6 h7

/-- A desk as the step ends: as the key left it, with its gate and its live lamp. -/
theorem keyEnd_desk {d : Nat} {r : Desk} (h : u.desk d = some r) : ∃ r', (keyEnd u).desk d = some r' ∧ r'.core = r.core
    ∧ r'.gate = u.gateOf r ∧ ∀ bo, u.boothRec r.booth = some bo → r'.lamps.live = u.liveLamp r := by
  obtain ⟨r', hr', hcore⟩ := (keyEnd_quiet u).toCalm.desk_some h
  have hstate := congrArg Desk.state hcore
  have hcough := congrArg Desk.cough hcore
  have hbooth := congrArg Desk.booth hcore
  have hstate' : r'.state = r.state := hstate
  have hcough' : r'.cough = r.cough := hcough
  have hbooth' : r'.booth = r.booth := hbooth
  have hgateOf : (keyEnd u).gateOf r' = u.gateOf r := by
    simp only [State.gateOf, keyEnd_hall, hstate', hcough']
  obtain ⟨hgate, hlamp⟩ := settle_showing (fillRoom (settle u)) d r' hr'
  refine ⟨r', hr', hcore, hgate.trans hgateOf, fun bo hbo => ?_⟩
  have hlive := hlamp bo (by rw [hbooth']; exact (keyEnd_boothRec u r.booth).trans hbo)
  refine hlive.trans ?_
  have hgateOf' : (settle (fillRoom (settle u))).gateOf r' = u.gateOf r := hgateOf
  simp only [State.liveLamp, hgateOf', hstate', hcough']

theorem keyEnd_desk_core (d : Nat) : ((keyEnd u).desk d).map Desk.core = (u.desk d).map Desk.core :=
  (keyEnd_quiet u).toCalm.desk d

end End

/-! ### A desk's reply -/

/-- A state but for its panel. -/
abbrev State.onPanel (s : State) (p : PanelBlock) : State := { s with panel := p }

/-- Desk d's reply is heard in s; its keys are taken with the panel p (R32). -/
structure Heard (s : State) (d : Nat) (p : PanelBlock) : Prop where
  reach : (s.onPanel p).reached d
  deferred : p.deferred = s.panel.deferred
  exchange : p.exchange = none
  routes : p.routes = s.panel.routes
  frame : ∀ w : Parts, w.outbound = true → w.panelLine = true → w.drops = true → SameBut w s (s.onPanel p)
  empty : exec (.deskPollReply d []) s = .next (settle (fillRoom (s.onPanel p)))
  key : ∀ k, exec (.deskPollReply d [k]) s = .next (keyEnd (takeKey d k (s.onPanel p)))

/-- The state in which an ONLINE desk's keys are taken differs in the panel alone (R32). -/
theorem heard_of_online {s : State} {d : Nat} (hrun : s.running = true) (hon : s.dropOnline d = true)
    (hex : s.panel.exchange = none ∨ s.panel.exchange = some (.poll d)) : ∃ p, Heard s d p := by
  have hstation : s.clock.station = .running := by
    simp only [State.running, Bool.and_eq_true, decide_eq_true_eq] at hrun
    exact hrun.1
  have hexec (ks : List Key) : exec (.deskPollReply d ks) s = .next (settle (fillRoom (takeKeys d ks (s.heardBy d .poll)))) := by
    have heq := answered_heardBy (ending_poll hex) hon fun _ => takeKeys d ks
    have hheard : hearDesk d ks s = fillRoom (takeKeys d ks (s.heardBy d .poll)) := by
      simp only [hearDesk, hon, Bool.not_true, Bool.false_eq_true, if_false]
      exact heq
    rw [← hheard]
    exact congrArg Host.Outcome.next (event_of_running _ hrun)
  exact ⟨(s.heardBy d .poll).panel,
    { reach := ⟨hstation, heardBy_online (e := .poll) hon⟩
      deferred := rfl
      exchange := rfl
      routes := rfl
      frame := fun w h1 h2 h3 => heardBy_frame h1 h2 h3 d .poll s
      empty := hexec []
      key := fun k => hexec [k] }⟩

section Key

variable {s : State} {d : Nat} {r : Desk} {bo : Booth} (hr : s.desk d = some r) (hb : s.boothRec r.booth = some bo)
include hr hb

theorem takeKey_take : takeKey d .take s = keyTake d r bo s := by simp only [takeKey, hr, hb]

theorem takeKey_release : takeKey d .release s = keyRelease d r s := by simp only [takeKey, hr, hb]

theorem takeKey_coughOn : takeKey d .coughOn s = keyCough d true r s := by simp only [takeKey, hr, hb]

theorem takeKey_coughOff : takeKey d .coughOff s = keyCough d false r s := by simp only [takeKey, hr, hb]

theorem takeKey_outputA : takeKey d .outputA s = keyOutput d .a r bo s := by simp only [takeKey, hr, hb]

theorem takeKey_outputB : takeKey d .outputB s = keyOutput d .b r bo s := by simp only [takeKey, hr, hb]

theorem takeKey_relay (src : Selection) : takeKey d (.relay src) s = keyRelay d src r bo s := by simp only [takeKey, hr, hb]

end Key

end Sys2Proof.Machine

/-! A refused key (R51): the flash stays ordered to the end of the step. -/

namespace Sys2Proof.Machine

/-! ### A deferred list that waits for a full queue (R107) -/

/-- Nothing is deferred but where the outbound queue is full. -/
def State.crowded (s : State) : Prop := s.panel.deferred ≠ [] → 48 ≤ s.panel.outbound.length

theorem length_dropLastMatch {α : Type} (p : α → Bool) (l : List α) : l.length ≤ (dropLastMatch p l).length + 1 := by
  rw [dropLastMatch, List.length_reverse, List.length_eraseP]
  split
  · rw [List.length_reverse]
    omega
  · rw [List.length_reverse]
    omega

theorem queueMessage_crowded (b : Body) (o : Origin) {s : State} (h : s.crowded) : (queueMessage b o s).crowded := by
  unfold queueMessage
  dsimp only
  split
  · exact h
  split
  · intro hd
    rw [List.length_map]
    exact h hd
  split
  · exact h
  split
  · intro hd
    have := h hd
    rw [List.length_append]
    omega
  next hroom =>
    have hfull : 48 ≤ s.panel.outbound.length := Nat.not_lt.mp hroom
    split
    · exact h
    split
    next n hlast =>
      intro _
      have herase := length_dropLastMatch (fun n : Message => b.cls < n.body.cls && !n.sending) s.panel.outbound
      rw [deferTarget_panel_outbound, List.length_append, List.length_singleton]
      omega
    · intro _
      rw [deferTarget_panel_outbound]
      exact hfull

theorem crowded_joins : Joins State.crowded where
  same s t ho hd _ _ h := by
    simp only [State.crowded, ho, hd]
    exact h
  queue b o s h := queueMessage_crowded b o h

/-- There is no room to fill. -/
theorem fillRoom_crowded {s : State} (h : s.crowded) : fillRoom s = s := by
  unfold fillRoom
  cases hd : s.panel.deferred with
  | nil => rfl
  | cons t rest =>
    have hfull := h (by rw [hd]; simp)
    have hno : ¬s.panel.outbound.length < 48 := Nat.not_lt.mpr hfull
    simp only [List.length_cons, refill]
    exact if_neg hno

/-! ### A desk whose gate and lamps are as they should be -/

theorem heldElsewhere_congr {s t : State} (hh : t.planner.hall = s.planner.hall)
    (hc : ∀ c, (t.channel c).map Channel.core = (s.channel c).map Channel.core) (b c : Nat) :
    t.heldElsewhere b c = s.heldElsewhere b c := by
  have hcore := hc c
  simp only [State.heldElsewhere, State.channelHeld, hh]
  cases hs : s.channel c with
  | none =>
    rw [hs, Option.map_none, Option.map_eq_none_iff] at hcore
    rw [hcore]
  | some ch =>
    rw [hs] at hcore
    obtain ⟨ch', hch', hq⟩ := Option.map_eq_some_iff.mp hcore
    have hholder := congrArg Channel.holder hq
    have hholder' : ch'.holder = ch.holder := hholder
    simp only [hch', hholder']

theorem offAir_congr {s t : State} (hc : ∀ c, (t.channel c).map Channel.core = (s.channel c).map Channel.core)
    (hf : t.feed = s.feed) (x : Option Held) : t.offAir x = s.offAir x := by
  cases x with
  | none => rfl
  | some y =>
    cases y with
    | feed k => simp only [State.offAir, hf]
    | channel c =>
      have hcore := congrArg (fun o => o.any fun ch : Channel => decide (ch.state = .onAir)) (hc c)
      simp only [Option.any_map] at hcore
      exact congrArg (!·) hcore

theorem lampsOf_congr {s t : State} (hh : t.planner.hall = s.planner.hall)
    (hc : ∀ c, (t.channel c).map Channel.core = (s.channel c).map Channel.core) (hb : t.booth.booths = s.booth.booths)
    (hf : t.feed = s.feed) (d : Nat) (r : Desk) : t.lampsOf d r = s.lampsOf d r := by
  simp only [State.lampsOf, State.boothRec, hb, gateOf_congr hh, offAir_congr hc hf, State.handOffDue, hf,
    heldElsewhere_congr hh hc]

/-- Desk d shows what it should. -/
structure State.current (s : State) (d : Nat) (r : Desk) : Prop where
  desk : s.desk d = some r
  gate : s.gateOf r = r.gate
  lamps : s.lampsOf d r = r.lamps

theorem State.current.of_same {s t : State} {d : Nat} {r : Desk} (h : s.current d r) (hd : t.desk d = s.desk d)
    (hh : t.planner.hall = s.planner.hall) (hc : ∀ c, (t.channel c).map Channel.core = (s.channel c).map Channel.core)
    (hb : t.booth.booths = s.booth.booths) (hf : t.feed = s.feed) : t.current d r where
  desk := hd.trans h.desk
  gate := (gateOf_congr hh r).trans h.gate
  lamps := (lampsOf_congr hh hc hb hf d r).trans h.lamps

section Current

variable {s : State} {d : Nat} {r : Desk}

/-- There is nothing to bring up to date. -/
theorem refreshDesk_current (h : s.current d r) : refreshDesk d s = s := by
  simp only [refreshDesk, show Tab.get s.booth.desks d = some r from h.desk, h.gate, h.lamps, if_true]

theorem refreshDesk_keeps_current (h : s.current d r) (j : Nat) : (refreshDesk j s).current d r := by
  by_cases hj : d = j
  · rw [← hj, refreshDesk_current h]
    exact h
  · have hsame : SameBut { deskShow := true, outbound := true } s (refreshDesk j s) := refreshDesk_frame rfl rfl j s
    obtain ⟨hhall, hbooths⟩ := refreshDesk_same j s
    exact h.of_same (refreshDesk_desk_ne hj s) hhall (channel_core_of_same (same_channels_core hsame rfl rfl)) hbooths
      (same_feed hsame rfl rfl)

/-- A flash ordered of a desk that shows what it should. -/
def State.flashes (s : State) (d : Nat) (r : Desk) (l : Lamp) : Prop :=
  s.crowded ∧ s.current d r ∧ s.wants (.lamps d r.lamps (some l))

theorem refreshDesk_flashes {l : Lamp} (h : s.flashes d r l) (j : Nat) : (refreshDesk j s).flashes d r l := by
  obtain ⟨hcrowd, hcur, hwants⟩ := h
  refine ⟨crowded_joins.refreshDesk j hcrowd, refreshDesk_keeps_current hcur j, ?_⟩
  by_cases hj : d = j
  · rw [← hj, refreshDesk_current hcur]
    exact hwants
  · exact wants_refreshDesk_ne hwants (by simp [Body.target]) (by simpa [Body.target] using hj)

theorem settle_flashes {l : Lamp} (h : s.flashes d r l) : (settle s).flashes d r l := by
  obtain ⟨hcrowd, hcur, hwants⟩ := h
  have hfloor : (routeFloor s).flashes d r l := by
    refine ⟨crowded_joins.setRoute _ _ hcrowd, ?_, wants_setRoute hwants _ _⟩
    exact hcur.of_same (routeFloor_desk s d) (by rw [routeFloor, setRoute_planner])
      (fun c => by rw [State.channel, routeFloor, setRoute_planner]; rfl) (by rw [routeFloor, setRoute_booth])
      (by rw [routeFloor, setRoute_feed])
  obtain ⟨-, hcur', hwants'⟩ : (settledDesks s).flashes d r l :=
    forEach_keeps (Q := fun u => u.flashes d r l) (fun j u hu => refreshDesk_flashes hu j) _ hfloor
  refine ⟨crowded_joins.settle hcrowd, ?_, (settle_wants_iff s _).mpr hwants'⟩
  refine hcur'.of_same (settle_desk s d) ?_ (fun c => ?_) ?_ ?_
  · rw [settle_planner_hall]
    exact (same_planner_hall (settledDesks_frame s) rfl).symm
  · rw [settle_channel_core, State.channel, State.channel, settledDesks_channels]
  · rw [settle_booth_booths]
    exact (same_booth_booths (settledDesks_frame s) rfl rfl).symm
  · rw [settle_feed]
    exact (same_feed (settledDesks_frame s) rfl rfl).symm

/-- The flash of a refused key outlasts the step. -/
theorem flash_wants (hreach : s.reached d) (hdef : s.panel.deferred = []) (h : s.current d r) (l : Lamp) :
    (keyEnd (flash d l s)).wants (.lamps d r.lamps (some l)) := by
  have heq : flash d l s = queueMessage (.lamps d r.lamps (some l)) .plain s := by simp only [flash, h.desk]
  have hflash : (flash d l s).flashes d r l := by
    rw [heq]
    refine ⟨queueMessage_crowded _ _ fun hne => absurd hdef hne, ?_, queueMessage_wants (b := .lamps d r.lamps (some l))
      hreach.1 hreach.2 _⟩
    exact h.of_same (by rw [State.desk, queueMessage_booth]; rfl) (by rw [queueMessage_planner])
      (fun c => by rw [State.channel, queueMessage_planner]; rfl) (by rw [queueMessage_booth]) (by rw [queueMessage_feed])
  have hsettled := settle_flashes hflash
  obtain ⟨-, -, hwants⟩ := settle_flashes hsettled
  rw [keyEnd, fillRoom_crowded hsettled.1]
  exact hwants

end Current

end Sys2Proof.Machine

/-! Desk keys: what each does in the case it is taken in (R33 to R42). -/

namespace Sys2Proof.Machine

/-! ### Interlock (R30, R34) -/

section Interlock

variable {s : State} {b c : Nat} {ch : Channel} (hc : s.channel c = some ch)
include hc

theorem heldElsewhere_free (h1 : 1 ≤ c) (h : ch.holder = .none) : s.heldElsewhere b c = false := by
  have h0 : c ≠ 0 := Nat.one_le_iff_ne_zero.mp h1
  simp [State.heldElsewhere, hc, State.channelHeld, h, h0]

theorem heldElsewhere_own {d : Nat} (h : ch.holder = .desk b d) : s.heldElsewhere b c = false := by
  simp [State.heldElsewhere, hc, h]

theorem heldElsewhere_desk {j x : Nat} (hall : s.planner.hall = .session) (h : ch.holder = .desk j x) (hj : j ≠ b) :
    s.heldElsewhere b c = true := by
  simp [State.heldElsewhere, hc, State.channelHeld, hall, h, hj]

theorem heldElsewhere_feed {k : Nat} (hall : s.planner.hall = .session) (h : ch.holder = .feed k) :
    s.heldElsewhere b c = true := by
  simp [State.heldElsewhere, hc, State.channelHeld, hall, h]

theorem nothingToHold_channel : s.nothingToHold (some (.channel c)) = false := by simp [State.nothingToHold, hc]

omit hc in
theorem interlock_free (h : s.heldElsewhere b c = false) : s.interlock b (some (.channel c)) = .free := by
  simp [State.interlock, h]

omit hc in
theorem interlock_refuse (h : s.heldElsewhere b c = true) (hcfg : s.cfg.interlock = .refuse) :
    s.interlock b (some (.channel c)) = .refused .engaged := by
  simp [State.interlock, h, hcfg]

omit hc in
theorem interlock_takeOver (h : s.heldElsewhere b c = true) (hcfg : s.cfg.interlock = .takeOver) :
    s.interlock b (some (.channel c)) = .takeOver c := by
  simp [State.interlock, h, hcfg]

end Interlock

/-! ### TAKE (R33 to R36) -/

section Take

variable {s : State} {d : Nat} {r : Desk} {bo : Booth}

theorem keyTake_ignored (h : r.state ≠ .off) : keyTake d r bo s = s := if_pos h

section Off

variable (hoff : r.state = .off)
include hoff

theorem keyTake_dark (hall : s.planner.hall ≠ .session) : keyTake d r bo s = flash d .offAir s := by
  simp [keyTake, hoff, hall]

variable (hall : s.planner.hall = .session)
include hall

theorem keyTake_overlap (hsome : bo.overlap.isSome = true) (hsth : s.nothingToHold bo.target = false) :
    keyTake d r bo s = flash d .boothBusy s := by
  simp [keyTake, hoff, hall, hsome, hsth]

variable {c : Nat} {ch : Channel} (ht : bo.target = some (.channel c)) (hc : s.channel c = some ch) (hov : bo.overlap = none)
include ht hc hov

theorem keyTake_passes (h : s.heldElsewhere r.booth c = false) : keyTake d r bo s = handOver r.booth d bo s := by
  simp only [keyTake, hoff, hall, ht, nothingToHold_channel hc, hov, interlock_free h, makeWay]
  simp

theorem keyTake_engaged (h : s.heldElsewhere r.booth c = true) (hcfg : s.cfg.interlock = .refuse) :
    keyTake d r bo s = flash d .engaged s := by
  simp only [keyTake, hoff, hall, ht, nothingToHold_channel hc, hov, interlock_refuse h hcfg]
  simp

theorem keyTake_ousts (h : s.heldElsewhere r.booth c = true) (hcfg : s.cfg.interlock = .takeOver) :
    keyTake d r bo s = handOver r.booth d bo (oust c r.booth s) := by
  simp only [keyTake, hoff, hall, ht, nothingToHold_channel hc, hov, interlock_takeOver h hcfg, makeWay]
  simp

end Off

/-- The state in which a desk that takes its booth's hold is to be given the channel. -/
def State.seated (b d : Nat) (s : State) : State :=
  modDesk d (fun r => { r with state := .live }) (modBooth b (fun bo => { bo with holding := some d }) s)

theorem handOver_free {b c : Nat} (hhold : bo.holding = none) (ht : bo.target = some (.channel c)) :
    handOver b d bo s = setHolder c (.desk b d) (s.seated b d) := by
  simp only [handOver, hhold, ht, gain, State.seated]

theorem handOver_interlock {b h : Nat} (hhold : bo.holding = some h) (hmode : bo.mode = .interlock) :
    handOver b d bo s = flash d .boothBusy s := by
  simp only [handOver, hhold, hmode]

theorem handOver_overlap {b h : Nat} (hhold : bo.holding = some h) (hmode : bo.mode = .overlap) :
    handOver b d bo s = modBooth b (fun bo => { bo with partner := some d, overlap := some bo.overlapMs })
        (modDesk d (fun r => { r with state := .overlapIn })
          (modDesk h (fun r => { r with cough := r.state = .cough, state := .overlapOut }) s)) := by
  simp only [handOver, hhold, hmode]

theorem handOver_takeOver {b c h : Nat} (hb : s.boothRec b = some bo) (hhold : bo.holding = some h)
    (hmode : bo.mode = .takeOver) (ht : bo.target = some (.channel c)) :
    handOver b d bo s = setHolder c (.desk b d) (modBooth b (fun bo => { bo with holding := some d })
      (modDesk d (fun r => { r with state := .live }) (deskOff h s))) := by
  have hb' : (modDesk d (fun r => { r with state := .live }) (deskOff h s)).boothRec b = some bo := hb
  simp only [handOver, hhold, hmode, nameHolder, hb', ht]

end Take

/-! ### RELEASE, the COUGH keys and the OUTPUT keys (R37 to R42) -/

section Others

variable {s : State} {d : Nat} {r : Desk} {bo : Booth}

theorem keyRelease_holds (h : r.state = .live ∨ r.state = .cough) : keyRelease d r s = endHold r.booth d s := by
  rcases h with h | h <;> simp only [keyRelease, h]

theorem keyRelease_out (h : r.state = .overlapOut) : keyRelease d r s = endOverlap r.booth s := by simp only [keyRelease, h]

theorem keyRelease_in (h : r.state = .overlapIn) : keyRelease d r s = cancelOverlap r.booth s := by simp only [keyRelease, h]

theorem keyCough_sole (h : r.state = .live ∨ r.state = .cough) (on : Bool) :
    keyCough d on r s = modDesk d (fun r => { r with state := if on then .cough else .live }) s := by
  rcases h with h | h <;> simp only [keyCough, h]

theorem keyCough_overlap (h : r.state = .overlapOut ∨ r.state = .overlapIn) (on : Bool) :
    keyCough d on r s = modDesk d (fun r => { r with cough := on }) s := by
  rcases h with h | h <;> simp only [keyCough, h]

variable {o : Output} (ho : bo.selected ≠ o)
include ho

theorem keyOutput_overlap (h : bo.overlap.isSome = true) : keyOutput d o r bo s = flash d .boothBusy s := by
  simp only [keyOutput, ho, h, if_false, if_true]

variable (hov : bo.overlap = none)
include hov

theorem keyOutput_free (h : bo.holding = none) :
    keyOutput d o r bo s = modBooth r.booth (fun bo => { bo with selected := o }) s := by
  simp only [keyOutput, ho, hov, h, Option.isSome_none, Bool.false_eq_true, if_false]

theorem keyOutput_busy {h : Nat} (hhold : bo.holding = some h) (hne : h ≠ d) :
    keyOutput d o r bo s = flash d .boothBusy s := by
  simp only [keyOutput, ho, hov, hhold, Option.isSome_none, Bool.false_eq_true, if_false, if_pos hne]

theorem keyOutput_empty (hhold : bo.holding = some d) (hnone : s.nothingToHold (bo.denotes o) = true) :
    keyOutput d o r bo s = flash d .offAir s := by
  simp only [keyOutput, ho, hov, hhold, hnone, Option.isSome_none, Bool.false_eq_true, if_false, ne_eq, not_true_eq_false,
    if_true]

theorem keyOutput_moves {c : Nat} {ch : Channel} (hhold : bo.holding = some d) (hden : bo.denotes o = some (.channel c))
    (hc : s.channel c = some ch) (hfree : s.heldElsewhere r.booth c = false) :
    keyOutput d o r bo s = setHolder c (.desk r.booth d)
      (leave bo.target (modBooth r.booth (fun bo => { bo with selected := o }) s)) := by
  simp only [keyOutput, ho, hov, hhold, hden, nothingToHold_channel hc, interlock_free hfree, makeWay, gain,
    Option.isSome_none, Bool.false_eq_true, if_false, ne_eq, not_true_eq_false]

end Others

end Sys2Proof.Machine

/-! Desk keys: a desk of a booth that comes to hold a channel, and the end of its step (R30, R31, R33, R49, R50). -/

namespace Sys2Proof.Machine

theorem modBooth_boothRec_some {s : State} {b : Nat} {bo : Booth} (h : s.boothRec b = some bo) (f : Booth → Booth) :
    (modBooth b f s).boothRec b = some (f bo) := by
  rw [modBooth_boothRec_self, h, Option.map_some]

theorem modDesk_desk_some {s : State} {d : Nat} {r : Desk} (h : s.desk d = some r) (f : Desk → Desk) :
    (modDesk d f s).desk d = some (f r) := by
  rw [modDesk_desk_self, h, Option.map_some]

theorem modBooth_desk (b : Nat) (f : Booth → Booth) (s : State) (d : Nat) : (modBooth b f s).desk d = s.desk d := rfl

/-! ### Bus routes under a holder change (R31) -/

theorem busOutput_ne_input {c : Nat} (h : c ≤ 31) (b : Nat) : busOutput c ≠ inputOutput b := by
  simp only [busOutput, inputOutput]
  omega

theorem busSource_modChannel (c : Nat) (f : Channel → Channel) (x : Holder) (s : State) :
    (modChannel c f s).busSource x = s.busSource x := by
  cases x <;> rfl

theorem modChannel_route (c : Nat) (f : Channel → Channel) (o : Nat) (s : State) : (modChannel c f s).route o = s.route o := rfl

section Routes

variable {c : Nat} {s : State} {x : Holder}

theorem setHolder_route_self {ch : Channel} (hc : s.channel c = some ch) (hx : ch.holder.sameHolder x = false) (h1 : 1 ≤ c)
    (h31 : c ≤ 31) : (setHolder c x s).route (busOutput c) = s.busSource x := by
  rw [setHolder_some hc, hx, if_neg Bool.false_ne_true,
    (recomputeChannel_quiet c _).route _ (busOutput_ne_floor h1) (busOutput_ne_input h31), setRoute_route_self,
    busSource_modChannel]

/-- A change of desk within the booth moves no route. -/
theorem setHolder_route_within {ch : Channel} (hc : s.channel c = some ch) (hx : ch.holder.sameHolder x = true) (o : Nat) :
    (setHolder c x s).route o = s.route o := by
  rw [setHolder_some hc, hx, if_pos rfl]
  rfl

theorem setHolder_route_ne {j : Nat} (hj : j ≠ c) (h1 : 1 ≤ j) (h31 : j ≤ 31) :
    (setHolder c x s).route (busOutput j) = s.route (busOutput j) := by
  cases hc : s.channel c with
  | none => rw [setHolder_none hc]
  | some ch =>
    cases hx : ch.holder.sameHolder x with
    | true => exact setHolder_route_within hc hx _
    | false =>
      have hne : busOutput j ≠ busOutput c := hj
      rw [setHolder_some hc, hx, if_neg Bool.false_ne_true,
        (recomputeChannel_quiet c _).route _ (busOutput_ne_floor h1) (busOutput_ne_input h31), setRoute_route_ne hne,
        modChannel_route]

end Routes

/-! ### A desk that holds -/

/-- Desk d of booth b holds channel c, in a booth record that is bo but for its relay. -/
structure State.holdsAt (t : State) (b d c : Nat) (bo : Booth) : Prop where
  desk : ∃ r, t.desk d = some r ∧ r.state = .live ∧ r.booth = b
  booth : ∃ bo', t.boothRec b = some bo' ∧ bo'.quiet = bo.quiet
  channel : ∃ ch, t.channel c = some ch ∧ ch.holder = .desk b d
  route : t.route (busOutput c) = .mic b

/-- So it does, and its gate and lamp show it. -/
structure State.speaksAt (t : State) (b d c : Nat) (bo : Booth) : Prop where
  desk : ∃ r, t.desk d = some r ∧ r.state = .live ∧ r.gate = true ∧ r.lamps.live = .steady
  booth : ∃ bo', t.boothRec b = some bo' ∧ bo'.quiet = bo.quiet
  channel : ∃ ch, t.channel c = some ch ∧ ch.holder = .desk b d
  route : t.route (busOutput c) = .mic b

theorem gateOf_live {s : State} {r : Desk} (hall : s.planner.hall = .session) (h : r.state = .live) : s.gateOf r = true := by
  simp [State.gateOf, hall, h]

theorem gateOf_cough {s : State} {r : Desk} (h : r.state = .cough) : s.gateOf r = false := by simp [State.gateOf, h]

theorem keyEnd_speaks {u : State} {b d c : Nat} {bo : Booth} (h : u.holdsAt b d c bo) (hall : u.planner.hall = .session)
    (h1 : 1 ≤ c) : (keyEnd u).speaksAt b d c bo := by
  obtain ⟨r, hr, hlive, hbooth⟩ := h.desk
  obtain ⟨bo', hb, hquiet⟩ := h.booth
  obtain ⟨ch, hc, hholder⟩ := h.channel
  obtain ⟨r', hr', hcore, hgate, hlamp⟩ := keyEnd_desk u hr
  have hstate := congrArg Desk.state hcore
  have hstate' : r'.state = r.state := hstate
  have hgateOf := gateOf_live hall hlive
  refine ⟨⟨r', hr', hstate'.trans hlive, hgate.trans hgateOf, ?_⟩, ⟨bo', (keyEnd_boothRec u b).trans hb, hquiet⟩, ?_,
    (keyEnd_route u h1).trans h.route⟩
  · rw [hlamp bo' (by rw [hbooth]; exact hb), State.liveLamp, hgateOf, if_pos rfl]
  · obtain ⟨ch', hc', hh⟩ := (keyEnd_quiet u).toCalm.holder hc
    exact ⟨ch', hc', hh.trans hholder⟩

section Given

variable {s : State} {b d c : Nat} {r : Desk} {bo : Booth} {ch : Channel} (hr : s.desk d = some r) (hlive : r.state = .live)
  (hbooth : r.booth = b) (hb : s.boothRec b = some bo) (hc : s.channel c = some ch)
include hr hlive hbooth hb hc

theorem setHolder_holdsAt (hroute : (setHolder c (.desk b d) s).route (busOutput c) = .mic b) :
    (setHolder c (.desk b d) s).holdsAt b d c bo := by
  have hcalm := setHolder_calm c (.desk b d) s
  obtain ⟨r', hr', hcore⟩ := hcalm.desk_some hr
  obtain ⟨ch', hc', hq⟩ := setHolder_channel hc (.desk b d)
  have hstate := congrArg Desk.state hcore
  have hdeskBooth := congrArg Desk.booth hcore
  have hholder := congrArg Channel.holder hq
  have hstate' : r'.state = r.state := hstate
  have hdeskBooth' : r'.booth = r.booth := hdeskBooth
  have hholder' : ch'.holder = .desk b d := hholder
  exact ⟨⟨r', hr', hstate'.trans hlive, hdeskBooth'.trans hbooth⟩, hcalm.booth_some hb, ⟨ch', hc', hholder'⟩, hroute⟩

/-- From another holder. -/
theorem setHolder_holdsAt_new (hx : ch.holder.sameHolder (.desk b d) = false) (h1 : 1 ≤ c) (h31 : c ≤ 31) :
    (setHolder c (.desk b d) s).holdsAt b d c bo :=
  setHolder_holdsAt hr hlive hbooth hb hc (setHolder_route_self hc hx h1 h31)

/-- From another desk of the booth. -/
theorem setHolder_holdsAt_within (hx : ch.holder.sameHolder (.desk b d) = true) (hroute : s.route (busOutput c) = .mic b) :
    (setHolder c (.desk b d) s).holdsAt b d c bo :=
  setHolder_holdsAt hr hlive hbooth hb hc ((setHolder_route_within hc hx _).trans hroute)

end Given

theorem setHolder_desk_core (c : Nat) (x : Holder) (s : State) (d : Nat) :
    ((setHolder c x s).desk d).map Desk.core = (s.desk d).map Desk.core := (setHolder_calm c x s).desk d

theorem setHolder_hall (c : Nat) (x : Holder) (s : State) : (setHolder c x s).planner.hall = s.planner.hall :=
  same_planner_hall (w := { Parts.settled with channels := true, booths := true, feeds := true })
    (by apply setHolder_frame <;> rfl) rfl

/-- A desk whose record is known but for its gate and lamps. -/
theorem desk_some_of_core {t : State} {d : Nat} {r : Desk} (h : (t.desk d).map Desk.core = some r.core) :
    ∃ r', t.desk d = some r' ∧ r'.state = r.state ∧ r'.cough = r.cough := by
  obtain ⟨r', hr', hcore⟩ := Option.map_eq_some_iff.mp h
  have hstate := congrArg Desk.state hcore
  have hcough := congrArg Desk.cough hcore
  exact ⟨r', hr', hstate, hcough⟩

/-! ### A desk seated in its booth's hold -/

section Seated

variable {s : State} {b d c : Nat} {r : Desk} {bo : Booth} {ch : Channel} (hr : s.desk d = some r) (hbooth : r.booth = b)
  (hb : s.boothRec b = some bo)
include hr hbooth hb

theorem seated_holdsAt (hc : s.channel c = some ch) (hx : ch.holder.sameHolder (.desk b d) = false) (h1 : 1 ≤ c)
    (h31 : c ≤ 31) : (setHolder c (.desk b d) (s.seated b d)).holdsAt b d c { bo with holding := some d } := by
  refine setHolder_holdsAt_new (r := { r with state := .live }) ?_ rfl hbooth ?_ hc hx h1 h31
  · exact modDesk_desk_some (s := modBooth b (fun bo => { bo with holding := some d }) s) hr _
  · exact modBooth_boothRec_some hb fun bo => { bo with holding := some d }

end Seated

theorem seated_desk_ne {s : State} {b d j : Nat} (h : j ≠ d) : (s.seated b d).desk j = s.desk j := by
  rw [State.seated, modDesk_desk_ne h]
  rfl

theorem seated_hall (s : State) (b d : Nat) : (s.seated b d).planner.hall = s.planner.hall := rfl

end Sys2Proof.Machine

/-! Desk keys: the reply that brings them, a refused key, and TAKE (R32 to R36, R51). -/

namespace Sys2Proof.Machine

/-- The parts that a key which changes a hold may move. -/
def Parts.byHold : Parts :=
  { Parts.settled with desks := true, panelLine := true, drops := true, channels := true, booths := true, feeds := true }

/-- The parts that a refused key may move. -/
def Parts.byReply : Parts := { Parts.settled with panelLine := true, drops := true }

/-- The other desks are as they were, but for gates and lamps. -/
def State.othersKept (s t : State) (d : Nat) : Prop :=
  ∀ d', d' ≠ d → (t.desk d').map Desk.core = (s.desk d').map Desk.core

/-- A desk's key is refused with a flash, where the desk shows what it should and nothing waits to be sent. -/
def State.keyRefused (s : State) (d : Nat) (r : Desk) (k : Key) (l : Lamp) : Prop :=
  s.panel.outbound = [] → s.panel.deferred = [] → s.gateOf r = r.gate → s.lampsOf d r = r.lamps →
    ∃ t, exec (.deskPollReply d [k]) s = .next t ∧ s.orders t (.lamps d r.lamps (some l)) ∧ SameBut Parts.byReply s t

section Reply

variable {s : State} {d : Nat} {p : PanelBlock} (h : Heard s d p)
include h

theorem Heard.emptyReply : ∃ t, exec (.deskPollReply d []) s = .next t ∧ t.panel.exchange = none
    ∧ SameBut Parts.byReply s t := by
  refine ⟨_, h.empty, ?_, afterRoom_frame (h.frame Parts.byReply rfl rfl rfl) rfl rfl rfl rfl rfl rfl rfl⟩
  rw [settle_panel_exchange, fillRoom_panel_exchange]
  exact h.exchange

/-- What a key writes and what the end of its step writes. -/
theorem Heard.key_frame {w : Parts} {k : Key} (hk : SameBut w (s.onPanel p) (takeKey d k (s.onPanel p)))
    (h1 : w.events = true) (h2 : w.notices = true) (h3 : w.deskShow = true) (h4 : w.mapBack = true)
    (h5 : w.lineQueue = true) (h6 : w.outbound = true) (h7 : w.routes = true) (h8 : w.panelLine = true)
    (h9 : w.drops = true) : SameBut w s (keyEnd (takeKey d k (s.onPanel p))) :=
  keyEnd_frame (hk.trans (h.frame w h6 h8 h9)) h1 h2 h3 h4 h5 h6 h7

theorem Heard.hold_frame (k : Key) : SameBut Parts.byHold s (keyEnd (takeKey d k (s.onPanel p))) :=
  h.key_frame (by apply takeKey_frame <;> rfl) rfl rfl rfl rfl rfl rfl rfl rfl rfl

variable {r : Desk} (hr : s.desk d = some r)
include hr

theorem Heard.refused {k : Key} {l : Lamp} (heq : takeKey d k (s.onPanel p) = flash d l (s.onPanel p)) :
    s.keyRefused d r k l := by
  intro _ hdef hgate hlamps
  have hcurrent : (s.onPanel p).current d r := ⟨hr, hgate, hlamps⟩
  refine ⟨_, h.key k, ?_, ?_⟩
  · rw [heq]
    exact orders_of_wants (flash_wants h.reach (h.deferred.trans hdef) hcurrent l)
  · refine h.key_frame ?_ rfl rfl rfl rfl rfl rfl rfl rfl rfl
    rw [heq]
    exact flash_frame rfl d l _

omit hr in
/-- A key that has no effect. -/
theorem Heard.ignored {k : Key} (heq : takeKey d k (s.onPanel p) = s.onPanel p) :
    ∃ t, exec (.deskPollReply d [k]) s = .next t ∧ SameBut Parts.byReply s t := by
  refine ⟨_, h.key k, h.key_frame ?_ rfl rfl rfl rfl rfl rfl rfl rfl rfl⟩
  rw [heq]
  rfl

end Reply

/-! ### TAKE of a free channel, and within a booth (R33, R35, R36) -/

section Take

variable {s : State} {d : Nat} {p : PanelBlock} {r : Desk} {bo : Booth} (h : Heard s d p) (hr : s.desk d = some r)
  (hb : s.boothRec r.booth = some bo)
include h hr hb

theorem Heard.take_ignored (hon : r.state ≠ .off) :
    ∃ t, exec (.deskPollReply d [.take]) s = .next t ∧ SameBut Parts.byReply s t :=
  h.ignored ((takeKey_take (s := s.onPanel p) hr hb).trans (keyTake_ignored hon))

theorem Heard.take_dark (hoff : r.state = .off) (hall : s.planner.hall ≠ .session) : s.keyRefused d r .take .offAir :=
  h.refused hr ((takeKey_take (s := s.onPanel p) hr hb).trans (keyTake_dark (s := s.onPanel p) hoff hall))

theorem Heard.take_overlap (hoff : r.state = .off) (hall : s.planner.hall = .session) (hov : bo.overlap.isSome = true)
    (hsth : s.nothingToHold bo.target = false) : s.keyRefused d r .take .boothBusy :=
  h.refused hr ((takeKey_take (s := s.onPanel p) hr hb).trans (keyTake_overlap (s := s.onPanel p) hoff hall hov hsth))

variable {c : Nat} {ch : Channel} (hall : s.planner.hall = .session) (hoff : r.state = .off)
  (ht : bo.target = some (.channel c)) (hc : s.channel c = some ch) (hov : bo.overlap = none)
include hall hoff ht hc hov

omit h in
theorem take_passes (hfree : s.heldElsewhere r.booth c = false) :
    takeKey d .take (s.onPanel p) = handOver r.booth d bo (s.onPanel p) :=
  (takeKey_take (s := s.onPanel p) hr hb).trans (keyTake_passes (s := s.onPanel p) hoff hall ht hc hov hfree)

theorem Heard.take_free (hnone : ch.holder = .none) (hhold : bo.holding = none) (h1 : 1 ≤ c) (h31 : c ≤ 31) :
    ∃ t, exec (.deskPollReply d [.take]) s = .next t ∧ t.speaksAt r.booth d c { bo with holding := some d }
      ∧ s.othersKept t d ∧ SameBut Parts.byHold s t := by
  have heq := (take_passes (p := p) hr hb hall hoff ht hc hov (heldElsewhere_free hc h1 hnone)).trans
    (handOver_free (b := r.booth) hhold ht)
  have hheld := seated_holdsAt (s := s.onPanel p) hr rfl hb hc (by simp [hnone, Holder.sameHolder]) h1 h31
  have hframe := h.hold_frame .take
  refine ⟨_, h.key .take, ?_, fun d' hd' => (keyEnd_desk_core _ d').trans ?_, hframe⟩
  · rw [heq]
    exact keyEnd_speaks hheld ((setHolder_hall _ _ _).trans hall) h1
  · rw [heq, setHolder_desk_core, seated_desk_ne hd']
    rfl

/-- Another desk of the booth holds. -/
theorem Heard.take_interlock {x : Nat} (hown : ch.holder = .desk r.booth x) (hhold : bo.holding = some x)
    (hmode : bo.mode = .interlock) : s.keyRefused d r .take .boothBusy :=
  h.refused hr ((take_passes (p := p) hr hb hall hoff ht hc hov (heldElsewhere_own hc hown)).trans (handOver_interlock hhold hmode))

theorem Heard.take_takeOver {x : Nat} {y : Desk} (hown : ch.holder = .desk r.booth x) (hhold : bo.holding = some x)
    (hne : x ≠ d) (hy : s.desk x = some y) (h1 : 1 ≤ c) (hmode : bo.mode = .takeOver)
    (hroute : s.route (busOutput c) = .mic r.booth) :
    ∃ t y', exec (.deskPollReply d [.take]) s = .next t ∧ t.speaksAt r.booth d c { bo with holding := some d }
      ∧ t.desk x = some y' ∧ y'.state = .off ∧ y'.cough = false ∧ SameBut Parts.byHold s t := by
  have heq := (take_passes (p := p) hr hb hall hoff ht hc hov (heldElsewhere_own hc hown)).trans
    (handOver_takeOver (s := s.onPanel p) (d := d) hb hhold hmode ht)
  have hframe := h.hold_frame .take
  have hrunning := h.key .take
  rw [heq] at hframe hrunning
  generalize hw : modBooth r.booth (fun bo => { bo with holding := some d })
    (modDesk d (fun r => { r with state := .live }) (deskOff x (s.onPanel p))) = w at hframe hrunning
  have hdesk : w.desk d = some { r with state := .live } := by
    rw [← hw, modBooth_desk, modDesk_desk_self, deskOff, modDesk_desk_ne hne.symm]
    exact congrArg (Option.map _) hr
  have hout : w.desk x = some { y with state := .off, cough := false } := by
    rw [← hw, modBooth_desk, modDesk_desk_ne hne, deskOff, modDesk_desk_self]
    exact congrArg (Option.map _) hy
  have hbooth : w.boothRec r.booth = some { bo with holding := some d } := by
    rw [← hw]
    exact modBooth_boothRec_some hb fun bo => { bo with holding := some d }
  have hchannel : w.channel c = some ch := by
    rw [← hw]
    exact hc
  have hhall : w.planner.hall = .session := by
    rw [← hw]
    exact hall
  have hbus : w.route (busOutput c) = .mic r.booth := by
    rw [← hw]
    exact (route_congr h.routes _).trans hroute
  have hheld := setHolder_holdsAt_within hdesk rfl rfl hbooth hchannel (by simp [hown, Holder.sameHolder]) hbus
  obtain ⟨y', hy', hstate, hcough⟩ := desk_some_of_core (d := x) (r := { y with state := .off, cough := false })
    ((keyEnd_desk_core (setHolder c (.desk r.booth d) w) x).trans ((setHolder_desk_core _ _ _ _).trans (by rw [hout]; rfl)))
  exact ⟨_, y', hrunning, keyEnd_speaks hheld ((setHolder_hall _ _ _).trans hhall) h1, hy', hstate, hcough, hframe⟩

theorem Heard.take_overlaps {x : Nat} {y : Desk} (hown : ch.holder = .desk r.booth x) (hhold : bo.holding = some x)
    (hne : x ≠ d) (hy : s.desk x = some y) (hmode : bo.mode = .overlap) :
    ∃ t r' y' bo' ch', exec (.deskPollReply d [.take]) s = .next t
      ∧ t.desk d = some r' ∧ r'.state = .overlapIn ∧ r'.cough = r.cough
      ∧ t.desk x = some y' ∧ y'.state = .overlapOut ∧ y'.cough = decide (y.state = .cough)
      ∧ t.boothRec r.booth = some bo' ∧ bo'.holding = some x ∧ bo'.partner = some d
      ∧ bo'.overlap = some bo.overlapMs
      ∧ t.channel c = some ch' ∧ ch'.holder = .desk r.booth x ∧ SameBut Parts.byHold s t := by
  have heq := (take_passes (p := p) hr hb hall hoff ht hc hov (heldElsewhere_own hc hown)).trans
    (handOver_overlap (s := s.onPanel p) (b := r.booth) (d := d) hhold hmode)
  have hframe := h.hold_frame .take
  have hrunning := h.key .take
  rw [heq] at hframe hrunning
  generalize hw : modBooth r.booth (fun bo => { bo with partner := some d, overlap := some bo.overlapMs })
    (modDesk d (fun r => { r with state := .overlapIn })
      (modDesk x (fun r => { r with cough := r.state = .cough, state := .overlapOut }) (s.onPanel p))) = w at hframe hrunning
  have hdesk : w.desk d = some { r with state := .overlapIn } := by
    rw [← hw, modBooth_desk, modDesk_desk_self, modDesk_desk_ne hne.symm]
    exact congrArg (Option.map _) hr
  have hout : w.desk x = some { y with cough := y.state = .cough, state := .overlapOut } := by
    rw [← hw, modBooth_desk, modDesk_desk_ne hne, modDesk_desk_self]
    exact congrArg (Option.map _) hy
  have hbooth : w.boothRec r.booth = some { bo with partner := some d, overlap := some bo.overlapMs } := by
    rw [← hw]
    exact modBooth_boothRec_some hb fun bo => { bo with partner := some d, overlap := some bo.overlapMs }
  have hchannel : w.channel c = some ch := by
    rw [← hw]
    exact hc
  obtain ⟨r', hr', hstate, hcough⟩ := desk_some_of_core ((keyEnd_desk_core w d).trans (congrArg (Option.map Desk.core) hdesk))
  obtain ⟨y', hy', hstate', hcough'⟩ := desk_some_of_core ((keyEnd_desk_core w x).trans (congrArg (Option.map Desk.core) hout))
  obtain ⟨ch', hc', hholder⟩ := (keyEnd_quiet w).toCalm.holder hchannel
  exact ⟨_, r', y', _, ch', hrunning, hr', hstate, hcough, hy', hstate', hcough', (keyEnd_boothRec w _).trans hbooth, hhold,
    rfl, rfl, hc', hholder.trans hown, hframe⟩

end Take

end Sys2Proof.Machine

/-! Desk keys: TAKE of a channel that another booth or a feed holds (R34, R83). -/

namespace Sys2Proof.Machine

/-! ### The other holder forced off -/

theorem desksOff_desk_ne {s : State} {b d : Nat} {bo : Booth} (hb : s.boothRec b = some bo) (h : d ∉ bo.desks) :
    (desksOff b s).desk d = s.desk d := by
  simp only [desksOff, hb]
  rw [modBooth_desk]
  have hoff (l : List Nat) (hl : d ∉ l) (u : State) : (forEach l deskOff u).desk d = u.desk d := by
    induction l generalizing u with
    | nil => rfl
    | cons j l ih =>
      obtain ⟨hj, hl⟩ := not_or.mp (mt List.mem_cons.mpr hl)
      exact (ih hl _).trans (modDesk_desk_ne hj _ u)
  exact hoff _ (fun hmem => h (List.mem_of_mem_filter hmem)) s

theorem forceOff_desk_ne {s : State} {b d : Nat} {bo : Booth} (hb : s.boothRec b = some bo) (h : d ∉ bo.desks)
    (cause : HoldCause) : (forceOff b cause s).desk d = s.desk d := by
  rw [forceOff_some hb, State.desk, queueEvent_booth]
  exact desksOff_desk_ne hb h

theorem forceOff_booth_ne {s : State} {b j : Nat} (h : j ≠ b) (cause : HoldCause) :
    (forceOff b cause s).boothRec j = s.boothRec j := by
  unfold forceOff
  split
  · rfl
  · rw [State.boothRec, queueEvent_booth]
    exact desksOff_booth_ne h s

section Oust

variable {s : State} {c b : Nat} {ch : Channel} (hc : s.channel c = some ch)
include hc

theorem oust_desk {x y : Nat} (h : ch.holder = .desk x y) : oust c b s = forceOff x .takeOver s := by
  simp only [oust, hc, Option.map_some, h]

theorem oust_feed {k : Nat} (h : ch.holder = .feed k) :
    oust c b s = queueEvent .feedPreempted [k, c, b] (modFeed k (fun f => { f with state := .routed }) s) := by
  simp only [oust, hc, Option.map_some, h]

end Oust

/-! ### TAKE against another holder -/

section Take

variable {s : State} {d : Nat} {p : PanelBlock} {r : Desk} {bo : Booth} (h : Heard s d p) (hr : s.desk d = some r)
  (hb : s.boothRec r.booth = some bo) {c : Nat} {ch : Channel} (hall : s.planner.hall = .session) (hoff : r.state = .off)
  (ht : bo.target = some (.channel c)) (hc : s.channel c = some ch) (hov : bo.overlap = none)
include h hr hb hall hoff ht hc hov

theorem Heard.take_engaged (hheld : s.heldElsewhere r.booth c = true) (hcfg : s.cfg.interlock = .refuse) :
    s.keyRefused d r .take .engaged :=
  h.refused hr ((takeKey_take (s := s.onPanel p) hr hb).trans
    (keyTake_engaged (s := s.onPanel p) hoff hall ht hc hov hheld hcfg))

/-- The channel as the way is made, and what has been told by then. -/
theorem Heard.take_ousts (hhold : bo.holding = none) (hheld : s.heldElsewhere r.booth c = true)
    (hcfg : s.cfg.interlock = .takeOver) (hx : ch.holder.sameHolder (.desk r.booth d) = false) (h1 : 1 ≤ c) (h31 : c ≤ 31)
    {u : State} (hu : oust c r.booth (s.onPanel p) = u) (hdesk : u.desk d = some r) (hbooth : u.boothRec r.booth = some bo)
    (hplanner : u.planner = s.planner) :
    ∃ w, Calm (modChannel c (Channel.given (.desk r.booth d)) (u.seated r.booth d)) w ∧ Grows .steady u w
      ∧ exec (.deskPollReply d [.take]) s = .next w ∧ w.speaksAt r.booth d c { bo with holding := some d }
      ∧ SameBut Parts.byHold s w := by
  have heq := ((takeKey_take (s := s.onPanel p) hr hb).trans
    (keyTake_ousts (s := s.onPanel p) hoff hall ht hc hov hheld hcfg)).trans
      ((congrArg (handOver r.booth d bo) hu).trans (handOver_free hhold ht))
  have hframe := h.hold_frame .take
  have hrunning := h.key .take
  have hholds := seated_holdsAt hdesk rfl hbooth ((congrArg (fun q : PlannerBlock => Tab.get q.channels c) hplanner).trans hc)
    hx h1 h31
  have hcalm := setHolder_calm c (.desk r.booth d) (u.seated r.booth d)
  have hgrows : Grows .steady u (setHolder c (.desk r.booth d) (u.seated r.booth d)) :=
    ((modBooth_grows _ _ _).trans (modDesk_grows _ _ _)).trans (setHolder_grows rfl _ _ _)
  have hhall : (setHolder c (.desk r.booth d) (u.seated r.booth d)).planner.hall = .session :=
    (setHolder_hall _ _ _).trans ((congrArg PlannerBlock.hall hplanner).trans hall)
  rw [heq] at hframe hrunning
  exact ⟨_, hcalm.trans (keyEnd_quiet _).toCalm, hgrows.trans (keyEnd_grows _), hrunning, keyEnd_speaks hholds hhall h1, hframe⟩

theorem Heard.take_overBooth {b x : Nat} {other : Booth} (hhold : bo.holding = none) (hother : ch.holder = .desk b x)
    (hne : b ≠ r.booth) (hbo : s.boothRec b = some other) (hcfg : s.cfg.interlock = .takeOver) (hd : d ∉ other.desks)
    (h1 : 1 ≤ c) (h31 : c ≤ 31) :
    ∃ t other', exec (.deskPollReply d [.take]) s = .next t ∧ t.speaksAt r.booth d c { bo with holding := some d }
      ∧ s.tells t .holdLost [b, heldCode other.target, HoldCause.takeOver.code]
      ∧ t.boothRec b = some other' ∧ other'.holding = none ∧ SameBut Parts.byHold s t := by
  have htold := forceOff_tells (s := s.onPanel p) hbo .takeOver
  have hreleased := forceOff_booth (s := s.onPanel p) hbo .takeOver
  have hu := oust_desk (s := s.onPanel p) (b := r.booth) hc hother
  have hdesk := (forceOff_desk_ne (s := s.onPanel p) hbo hd .takeOver).trans hr
  have hbooth := (forceOff_booth_ne (s := s.onPanel p) hne.symm .takeOver).trans hb
  have hplanner := forceOff_planner b .takeOver (s.onPanel p)
  generalize forceOff b .takeOver (s.onPanel p) = u at *
  obtain ⟨w, hcalm, hgrows, hrunning, hspeaks, hframe⟩ := h.take_ousts hr hb hall hoff ht hc hov hhold
    (heldElsewhere_desk hc hall hother hne) hcfg (by simp [hother, Holder.sameHolder, hne]) h1 h31 hu hdesk hbooth hplanner
  have hseated : (u.seated r.booth d).boothRec b = some other.released :=
    (modBooth_boothRec_ne hne (fun bo => { bo with holding := some d }) u).trans hreleased
  obtain ⟨other', hother', hq⟩ := hcalm.booth_some hseated
  have hholding := congrArg Booth.holding hq
  exact ⟨w, other', hrunning, hspeaks, hgrows.tells htold, hother', hholding, hframe⟩

theorem Heard.take_overFeed {k : Nat} {x : Feed} (hhold : bo.holding = none) (hfeed : ch.holder = .feed k)
    (hk : s.context k = some x) (hside : x.side = .receiving) (hcfg : s.cfg.interlock = .takeOver) (h1 : 1 ≤ c)
    (h31 : c ≤ 31) :
    ∃ t, exec (.deskPollReply d [.take]) s = .next t ∧ t.speaksAt r.booth d c { bo with holding := some d }
      ∧ s.tells t .feedPreempted [k, c, r.booth]
      ∧ (Tab.wf s.feed.contexts = true → t.context k = some { x with state := .routed })
      ∧ SameBut Parts.byHold s t := by
  have hu := oust_feed (s := s.onPanel p) (b := r.booth) hc hfeed
  generalize hmod : modFeed k (fun f => { f with state := .routed }) (s.onPanel p) = m at hu
  have hgrow : Grows {} s m := hmod ▸ Grows.of_same rfl rfl rfl rfl
  have hrecord : m.context k = some { x with state := .routed } := by
    rw [← hmod, modFeed_context_self]
    exact congrArg (Option.map _) hk
  have hwf : Tab.wf s.feed.contexts = true → Tab.wf m.feed.contexts = true := fun hw => by
    rw [← hmod]
    exact modFeed_wf k _ (s := s.onPanel p) hw
  have htold := hgrow.tells_from (queueEvent_tells .feedPreempted [k, c, r.booth] m)
  have hbooths : (queueEvent .feedPreempted [k, c, r.booth] m).booth = s.booth := by
    rw [queueEvent_booth, ← hmod]
    rfl
  have hplanner : (queueEvent .feedPreempted [k, c, r.booth] m).planner = s.planner := by
    rw [queueEvent_planner, ← hmod]
    rfl
  have hctx : (queueEvent .feedPreempted [k, c, r.booth] m).feed = m.feed := queueEvent_feed _ _ _
  generalize queueEvent .feedPreempted [k, c, r.booth] m = u at *
  obtain ⟨w, hcalm, hgrows, hrunning, hspeaks, hframe⟩ := h.take_ousts hr hb hall hoff ht hc hov hhold
    (heldElsewhere_feed hc hall hfeed) hcfg (by simp [hfeed, Holder.sameHolder]) h1 h31 hu
    ((congrArg (fun q : BoothBlock => Tab.get q.desks d) hbooths).trans hr)
    ((congrArg (fun q : BoothBlock => Tab.get q.booths r.booth) hbooths).trans hb) hplanner
  refine ⟨w, hrunning, hspeaks, hgrows.tells htold, fun hw => ?_, hframe⟩
  refine hcalm.receiving ?_ k _ ?_ hside
  · exact (congrArg (fun q : FeedBlock => Tab.wf q.contexts) hctx).trans (hwf hw)
  · exact (congrArg (fun q : FeedBlock => Tab.get q.contexts k) hctx).trans hrecord

end Take

end Sys2Proof.Machine

/-! Desk keys: the COUGH keys, RELEASE, the OUTPUT keys and RELAY (R39 to R42, R56). -/

namespace Sys2Proof.Machine

/-- The parts that a COUGH key may move. -/
def Parts.byCough : Parts := { Parts.settled with desks := true, panelLine := true, drops := true }

/-- The parts that a booth's own choice may move. -/
def Parts.byChoice : Parts := { Parts.settled with booths := true, panelLine := true, drops := true }

section Cough

variable {s : State} {d : Nat} {p : PanelBlock} {r : Desk} {bo : Booth} (h : Heard s d p) (hr : s.desk d = some r)
  (hb : s.boothRec r.booth = some bo)
include h hr hb

/-- A key that writes the record of its desk alone. -/
theorem Heard.cough {k : Key} {f : Desk → Desk} (heq : takeKey d k (s.onPanel p) = modDesk d f (s.onPanel p))
    (hplan : ∀ x, (f x).plan = x.plan) :
    ∃ t r', exec (.deskPollReply d [k]) s = .next t ∧ t.desk d = some r' ∧ r'.state = (f r).state ∧ r'.cough = (f r).cough
      ∧ r'.gate = s.gateOf (f r) ∧ r'.lamps.live = s.liveLamp (f r) ∧ s.othersKept t d ∧ SameBut Parts.byCough s t := by
  have hframe := h.key_frame (w := Parts.byCough) (k := k) (by rw [heq]; exact modDesk_frame rfl d f hplan _)
    rfl rfl rfl rfl rfl rfl rfl rfl rfl
  have hrunning := h.key k
  rw [heq] at hframe hrunning
  have hdesk : (modDesk d f (s.onPanel p)).desk d = some (f r) := modDesk_desk_some (s := s.onPanel p) hr f
  have hbooth : (modDesk d f (s.onPanel p)).boothRec (f r).booth = some bo := by
    have hsame := congrArg Desk.booth (hplan r)
    have hsame' : (f r).booth = r.booth := hsame
    rw [hsame']
    exact hb
  have hothers (d' : Nat) (hd' : d' ≠ d) : (modDesk d f (s.onPanel p)).desk d' = s.desk d' := modDesk_desk_ne hd' f (s.onPanel p)
  have hhall : (modDesk d f (s.onPanel p)).planner.hall = s.planner.hall := rfl
  generalize modDesk d f (s.onPanel p) = u at *
  obtain ⟨r', hr', hcore, hgate, hlamp⟩ := keyEnd_desk u hdesk
  have hstate := congrArg Desk.state hcore
  have hcough := congrArg Desk.cough hcore
  refine ⟨_, r', hrunning, hr', hstate, hcough, hgate.trans (gateOf_congr hhall _),
    (hlamp bo hbooth).trans (liveLamp_congr hhall _), fun d' hd' => ?_, hframe⟩
  exact (keyEnd_desk_core u d').trans (congrArg (Option.map Desk.core) (hothers d' hd'))

theorem Heard.coughOn (hlive : r.state = .live) :
    ∃ t r', exec (.deskPollReply d [.coughOn]) s = .next t ∧ t.desk d = some r' ∧ r'.state = .cough ∧ r'.gate = false
      ∧ r'.lamps.live = .blinking ∧ s.othersKept t d ∧ SameBut Parts.byCough s t := by
  obtain ⟨t, r', hrunning, hr', hstate, -, hgate, hlamp, hothers, hframe⟩ := h.cough hr hb
    ((takeKey_coughOn (s := s.onPanel p) hr hb).trans (keyCough_sole (.inl hlive) true)) fun _ => rfl
  refine ⟨t, r', hrunning, hr', hstate, hgate.trans (gateOf_cough rfl), hlamp.trans ?_, hothers, hframe⟩
  simp [State.liveLamp, State.gateOf]

theorem Heard.coughOff (hcough : r.state = .cough) (hall : s.planner.hall = .session) :
    ∃ t r', exec (.deskPollReply d [.coughOff]) s = .next t ∧ t.desk d = some r' ∧ r'.state = .live ∧ r'.gate = true
      ∧ r'.lamps.live = .steady ∧ s.othersKept t d ∧ SameBut Parts.byCough s t := by
  obtain ⟨t, r', hrunning, hr', hstate, -, hgate, hlamp, hothers, hframe⟩ := h.cough hr hb
    ((takeKey_coughOff (s := s.onPanel p) hr hb).trans (keyCough_sole (.inr hcough) false)) fun _ => rfl
  refine ⟨t, r', hrunning, hr', hstate, hgate.trans (gateOf_live hall rfl), hlamp.trans ?_, hothers, hframe⟩
  simp [State.liveLamp, State.gateOf, hall]

variable (hov : r.state = .overlapOut ∨ r.state = .overlapIn)
include hov

/-- In an overlap the mark alone is set (R38). -/
theorem Heard.coughOn_overlap :
    ∃ t r', exec (.deskPollReply d [.coughOn]) s = .next t ∧ t.desk d = some r' ∧ r'.state = r.state ∧ r'.cough = true
      ∧ r'.gate = false ∧ s.othersKept t d ∧ SameBut Parts.byCough s t := by
  obtain ⟨t, r', hrunning, hr', hstate, hcough, hgate, -, hothers, hframe⟩ := h.cough hr hb
    ((takeKey_coughOn (s := s.onPanel p) hr hb).trans (keyCough_overlap hov true)) fun _ => rfl
  refine ⟨t, r', hrunning, hr', hstate, hcough, hgate.trans ?_, hothers, hframe⟩
  rcases hov with hst | hst <;> simp [State.gateOf, hst]

theorem Heard.coughOff_overlap :
    ∃ t r', exec (.deskPollReply d [.coughOff]) s = .next t ∧ t.desk d = some r' ∧ r'.state = r.state ∧ r'.cough = false
      ∧ r'.gate = decide (s.planner.hall = .session) ∧ s.othersKept t d ∧ SameBut Parts.byCough s t := by
  obtain ⟨t, r', hrunning, hr', hstate, hcough, hgate, -, hothers, hframe⟩ := h.cough hr hb
    ((takeKey_coughOff (s := s.onPanel p) hr hb).trans (keyCough_overlap hov false)) fun _ => rfl
  refine ⟨t, r', hrunning, hr', hstate, hcough, hgate.trans ?_, hothers, hframe⟩
  rcases hov with hst | hst <;> simp [State.gateOf, hst]

end Cough

/-! ### A channel left (R39, R82) -/

theorem vacate_unclaimed {s : State} {c : Nat} (h : s.waitingFeed c = none) : vacate c s = setHolder c .none s := by
  simp only [vacate, h]

theorem leave_channel {s : State} {c : Nat} (h : s.waitingFeed c = none) :
    leave (some (.channel c)) s = setHolder c .none s := vacate_unclaimed h

section Release

variable {s : State} {d : Nat} {p : PanelBlock} {r : Desk} {bo : Booth} (h : Heard s d p) (hr : s.desk d = some r)
  (hb : s.boothRec r.booth = some bo)
include h hr hb

theorem Heard.release {c : Nat} {ch : Channel} (hst : r.state = .live ∨ r.state = .cough)
    (ht : bo.target = some (.channel c)) (hc : s.channel c = some ch) (h1 : 1 ≤ c) (h31 : c ≤ 31)
    (hheld : ch.holder = .desk r.booth d) (hwait : s.waitingFeed c = none) :
    ∃ t r' bo' ch', exec (.deskPollReply d [.release]) s = .next t
      ∧ t.desk d = some r' ∧ r'.state = .off ∧ r'.cough = false ∧ t.boothRec r.booth = some bo' ∧ bo'.holding = none
      ∧ t.channel c = some ch' ∧ ch'.holder = .none ∧ ch'.state = ch.state
      ∧ t.route (busOutput c) = .none ∧ s.othersKept t d ∧ SameBut Parts.byHold s t := by
  have heq := (takeKey_release (s := s.onPanel p) hr hb).trans (keyRelease_holds hst)
  have hend : endHold r.booth d (s.onPanel p) = leave bo.target
      (deskOff d (modBooth r.booth (fun bo => { bo with holding := none }) (s.onPanel p))) := by
    simp only [endHold, show (s.onPanel p).boothRec r.booth = some bo from hb]
  have hframe := h.hold_frame .release
  have hrunning := h.key .release
  rw [heq, hend, ht] at hframe hrunning
  generalize hw : deskOff d (modBooth r.booth (fun bo => { bo with holding := none }) (s.onPanel p)) = w at hframe hrunning
  have hdesk : w.desk d = some { r with state := .off, cough := false } := by
    rw [← hw]
    exact modDesk_desk_some (s := modBooth r.booth _ (s.onPanel p)) hr _
  have hother (d' : Nat) (hd' : d' ≠ d) : w.desk d' = s.desk d' := by
    rw [← hw]
    exact modDesk_desk_ne hd' _ _
  have hbooth : w.boothRec r.booth = some { bo with holding := none } := by
    rw [← hw]
    exact modBooth_boothRec_some (s := s.onPanel p) hb fun bo => { bo with holding := none }
  have hchannel : w.channel c = some ch := by
    rw [← hw]
    exact hc
  have hleft : leave (some (.channel c)) w = setHolder c .none w := by
    refine leave_channel ?_
    rw [← hw]
    exact hwait
  rw [hleft] at hframe hrunning
  have hcalm := (setHolder_calm c .none w).trans (keyEnd_quiet (setHolder c .none w)).toCalm
  obtain ⟨r', hr', hcore⟩ := hcalm.desk_some hdesk
  obtain ⟨bo', hbo', hbq⟩ := hcalm.booth_some hbooth
  obtain ⟨ch', hch', hcq⟩ := hcalm.channel_some ((modChannel_channel_self c (Channel.given .none) w).trans
    (congrArg (Option.map (Channel.given .none)) hchannel))
  have hstate := congrArg Desk.state hcore
  have hcough := congrArg Desk.cough hcore
  have hholding := congrArg Booth.holding hbq
  have hholder := congrArg Channel.holder hcq
  have hchState := congrArg Channel.state hcq
  have hroute : (setHolder c .none w).route (busOutput c) = .none :=
    setHolder_route_self hchannel (by simp [hheld, Holder.sameHolder]) h1 h31
  exact ⟨_, r', bo', ch', hrunning, hr', hstate, hcough, hbo', hholding, hch', hholder, hchState,
    (keyEnd_route _ h1).trans hroute, fun d' hd' => (hcalm.desk d').trans (congrArg (Option.map Desk.core) (hother d' hd')),
    hframe⟩

end Release

/-! ### The OUTPUT keys (R41, R42) -/

/-- The key that selects an output. -/
def Output.key : Output → Key
  | .a => .outputA
  | .b => .outputB

theorem takeKey_output {s : State} {d : Nat} {r : Desk} {bo : Booth} (hr : s.desk d = some r)
    (hb : s.boothRec r.booth = some bo) (o : Output) : takeKey d o.key s = keyOutput d o r bo s := by
  cases o
  · exact takeKey_outputA hr hb
  · exact takeKey_outputB hr hb

section Output

variable {s : State} {d : Nat} {p : PanelBlock} {r : Desk} {bo : Booth} (h : Heard s d p) (hr : s.desk d = some r)
  (hb : s.boothRec r.booth = some bo) {o : Output} (ho : bo.selected ≠ o)
include h hr hb ho

theorem Heard.output_overlap (hov : bo.overlap.isSome = true) : s.keyRefused d r o.key .boothBusy :=
  h.refused hr ((takeKey_output (s := s.onPanel p) hr hb o).trans (keyOutput_overlap ho hov))

variable (hov : bo.overlap = none)
include hov

theorem Heard.output_free (hhold : bo.holding = none) :
    ∃ t, exec (.deskPollReply d [o.key]) s = .next t ∧ t.boothRec r.booth = some { bo with selected := o }
      ∧ SameBut Parts.byChoice s t := by
  have heq := (takeKey_output (s := s.onPanel p) hr hb o).trans (keyOutput_free ho hov hhold)
  refine ⟨_, h.key o.key, ?_, h.key_frame ?_ rfl rfl rfl rfl rfl rfl rfl rfl rfl⟩
  · rw [heq, keyEnd_boothRec]
    exact modBooth_boothRec_some (s := s.onPanel p) hb fun bo => { bo with selected := o }
  · rw [heq]
    exact modBooth_frame rfl r.booth (fun bo => { bo with selected := o }) (fun _ => rfl) _

theorem Heard.output_busy {x : Nat} (hhold : bo.holding = some x) (hne : x ≠ d) : s.keyRefused d r o.key .boothBusy :=
  h.refused hr ((takeKey_output (s := s.onPanel p) hr hb o).trans (keyOutput_busy ho hov hhold hne))

theorem Heard.output_empty (hhold : bo.holding = some d) (hden : bo.denotes o = none) :
    s.keyRefused d r o.key .offAir :=
  h.refused hr ((takeKey_output (s := s.onPanel p) hr hb o).trans (keyOutput_empty ho hov hhold (by simp [hden, State.nothingToHold])))

/-- The holding desk takes the hold along to the other output. -/
theorem Heard.output_moves {a c : Nat} {cha ch : Channel} (hall : s.planner.hall = .session) (hlive : r.state = .live)
    (ht : bo.target = some (.channel a)) (hden : bo.denotes o = some (.channel c)) (hne : a ≠ c) (hhold : bo.holding = some d)
    (ha : s.channel a = some cha) (hheld : cha.holder = .desk r.booth d) (hwait : s.waitingFeed a = none)
    (hc : s.channel c = some ch) (hfree : ch.holder = .none) (ha1 : 1 ≤ a) (ha31 : a ≤ 31) (h1 : 1 ≤ c) (h31 : c ≤ 31) :
    ∃ t bo' cha', exec (.deskPollReply d [o.key]) s = .next t ∧ t.speaksAt r.booth d c { bo with selected := o }
      ∧ t.boothRec r.booth = some bo' ∧ bo'.selected = o ∧ bo'.holding = some d
      ∧ t.channel a = some cha' ∧ cha'.holder = .none ∧ t.route (busOutput a) = .none
      ∧ s.othersKept t d ∧ SameBut Parts.byHold s t := by
  have heq := (takeKey_output (s := s.onPanel p) hr hb o).trans
    (keyOutput_moves (s := s.onPanel p) ho hov hhold hden hc (heldElsewhere_free hc h1 hfree))
  have hframe := h.hold_frame o.key
  have hrunning := h.key o.key
  rw [heq, ht] at hframe hrunning
  generalize hw : modBooth r.booth (fun bo => { bo with selected := o }) (s.onPanel p) = w at hframe hrunning
  have hdesk (d' : Nat) : w.desk d' = s.desk d' := by
    rw [← hw]
    rfl
  have hbooth : w.boothRec r.booth = some { bo with selected := o } := by
    rw [← hw]
    exact modBooth_boothRec_some (s := s.onPanel p) hb fun bo => { bo with selected := o }
  have hchannel (j : Nat) : w.channel j = s.channel j := by
    rw [← hw]
    rfl
  have hhall : w.planner.hall = .session := by
    rw [← hw]
    exact hall
  have hleft : leave (some (.channel a)) w = setHolder a .none w := by
    refine leave_channel ?_
    rw [← hw]
    exact hwait
  rw [hleft] at hframe hrunning
  have hcalm := setHolder_calm a .none w
  obtain ⟨r1, hr1, hcore⟩ := hcalm.desk_some ((hdesk d).trans hr)
  obtain ⟨bo1, hbo1, hbq⟩ := hcalm.booth_some hbooth
  obtain ⟨cha1, hcha1, haq⟩ := setHolder_channel ((hchannel a).trans ha) .none
  obtain ⟨ch1, hch1, hcq⟩ := hcalm.channel_some ((modChannel_channel_ne hne.symm (Channel.given .none) w).trans
    ((hchannel c).trans hc))
  have hroute : (setHolder a .none w).route (busOutput a) = .none :=
    setHolder_route_self ((hchannel a).trans ha) (by simp [hheld, Holder.sameHolder]) ha1 ha31
  have hothers (d' : Nat) : ((setHolder a .none w).desk d').map Desk.core = (s.desk d').map Desk.core :=
    (hcalm.desk d').trans (congrArg (Option.map Desk.core) (hdesk d'))
  have hhall1 := (setHolder_hall a .none w).trans hhall
  have hstate := congrArg Desk.state hcore
  have hdeskBooth := congrArg Desk.booth hcore
  have hholder := congrArg Channel.holder hcq
  have haHolder := congrArg Channel.holder haq
  have hstate' : r1.state = r.state := hstate
  have hdeskBooth' : r1.booth = r.booth := hdeskBooth
  have hholder' : ch1.holder = ch.holder := hholder
  have haHolder' : cha1.holder = .none := haHolder
  generalize setHolder a .none w = u at *
  have hholds := setHolder_holdsAt_new hr1 (hstate'.trans hlive) hdeskBooth' hbo1 hch1
    (by simp [hholder', hfree, Holder.sameHolder]) h1 h31
  have hcalm' := (setHolder_calm c (.desk r.booth d) u).trans (keyEnd_quiet (setHolder c (.desk r.booth d) u)).toCalm
  obtain ⟨bo2, hbo2, hbq2⟩ := hcalm'.booth_some hbo1
  obtain ⟨cha2, hcha2, haq2⟩ := hcalm'.channel_some ((modChannel_channel_ne hne (Channel.given (.desk r.booth d)) u).trans hcha1)
  have hspeaks := keyEnd_speaks hholds ((setHolder_hall _ _ _).trans hhall1) h1
  have hselected := congrArg Booth.selected (hbq2.trans hbq)
  have hholding := congrArg Booth.holding (hbq2.trans hbq)
  have haHolder2 := congrArg Channel.holder haq2
  have hselected' : bo2.selected = o := hselected
  have hholding' : bo2.holding = bo.holding := hholding
  have haHolder2' : cha2.holder = cha1.holder := haHolder2
  refine ⟨_, bo2, cha2, hrunning, ⟨hspeaks.desk, ⟨bo2, hbo2, hbq2.trans hbq⟩, hspeaks.channel, hspeaks.route⟩, hbo2, hselected',
    hholding'.trans hhold, hcha2, haHolder2'.trans haHolder', ?_, fun d' _ => ?_, hframe⟩
  · rw [keyEnd_route _ ha1, setHolder_route_ne hne ha1 ha31, hroute]
  · exact (keyEnd_desk_core _ d').trans ((setHolder_desk_core _ _ _ _).trans (hothers d'))

end Output

end Sys2Proof.Machine

/-! Desk keys: RELAY, and the end of an overlap (R36, R37, R56). -/

namespace Sys2Proof.Machine

section Relay

variable {s : State} {d : Nat} {p : PanelBlock} {r : Desk} {bo : Booth} (h : Heard s d p) (hr : s.desk d = some r)
  (hb : s.boothRec r.booth = some bo) {src : Selection}
include h hr hb

theorem Heard.relay_refused (hbad : s.accepts r.booth bo src = false) : s.keyRefused d r (.relay src) .relayLost := by
  refine h.refused hr ((takeKey_relay (s := s.onPanel p) hr hb src).trans ?_)
  have hbad' : (s.onPanel p).accepts r.booth bo src = false := hbad
  simp only [keyRelay, hbad', Bool.false_eq_true, if_false]

variable (hok : s.accepts r.booth bo src = true)
include hok

omit h in
theorem takeKey_relay_accepted : takeKey d (.relay src) (s.onPanel p) = applySelection r.booth src (s.onPanel p) := by
  have hok' : (s.onPanel p).accepts r.booth bo src = true := hok
  rw [takeKey_relay (s := s.onPanel p) hr hb src, keyRelay, if_pos hok']

theorem Heard.relay_same (hsame : src = bo.input) (hst : bo.relay = .relayed ∨ bo.relay = .waiting) :
    ∃ t, exec (.deskPollReply d [.relay src]) s = .next t ∧ SameBut Parts.byReply s t := by
  have hhas : bo.hasInput src = true := by
    rcases hst with hst | hst <;> simp [Booth.hasInput, hsame, hst]
  exact h.ignored ((takeKey_relay_accepted hr hb hok).trans (applySelection_same (s := s.onPanel p) hb hhas))

/-- A booth that speaks into nothing has no pedigree to follow. -/
theorem Heard.relay_mute (hmute : s.boothMute r.booth) (hnew : ¬(src = bo.input ∧ (bo.relay = .relayed ∨ bo.relay = .waiting))) :
    ∃ t, exec (.deskPollReply d [.relay src]) s = .next t ∧ t.boothRec r.booth = some (bo.taking src)
      ∧ (∀ q c, src = .remote q c → s.sends t q (.relayRequest c r.booth)) ∧ SameBut Parts.byChoice s t := by
  have hfresh : bo.hasInput src = false := by
    rw [Bool.eq_false_iff, ne_eq, Booth.hasInput, Bool.and_eq_true, Bool.or_eq_true]
    simp only [decide_eq_true_eq]
    exact fun hhas => hnew ⟨hhas.1.symm, hhas.2⟩
  have heq : takeKey d (.relay src) (s.onPanel p) = (s.onPanel p).selected r.booth bo.input src := by
    rw [takeKey_relay_accepted hr hb hok, applySelection_eq (s := s.onPanel p) hb hfresh]
    exact recomputeBooths_mute (selected_mute (s := s.onPanel p) hmute bo.input src)
  obtain ⟨hgrows, hrequest, -⟩ := selected_sends r.booth bo.input src (s.onPanel p)
  have hframe : SameBut Parts.byChoice (s.onPanel p) ((s.onPanel p).selected r.booth bo.input src) :=
    selected_frame rfl rfl rfl rfl rfl r.booth bo.input src _
  have hrecord := (selected_boothRec r.booth bo.input src (s.onPanel p)).trans (congrArg (Option.map (Booth.taking src)) hb)
  have hrunning := h.key (.relay src)
  have hend := h.key_frame (heq ▸ hframe) rfl rfl rfl rfl rfl rfl rfl rfl rfl
  rw [heq] at hrunning hend
  generalize (s.onPanel p).selected r.booth bo.input src = u at *
  refine ⟨_, hrunning, (keyEnd_boothRec u _).trans hrecord, fun q c hq => ?_, hend⟩
  exact (keyEnd_grows u).sends hgrows rfl (hrequest q c hq)

end Relay

/-! ### The end of an overlap (R36, R37) -/

/-- A desk that has given its hold up. -/
def Desk.ended (r : Desk) : Desk := { r with state := .off, cough := false }

/-- A desk that is left alone with the hold. -/
def Desk.alone (r : Desk) : Desk := { r with state := if r.cough then .cough else .live, cough := false }

theorem nameHolder_desk_core (b d : Nat) (s : State) (j : Nat) :
    ((nameHolder b d s).desk j).map Desk.core = (s.desk j).map Desk.core := by
  unfold nameHolder
  split
  · rfl
  · dsimp only
    split
    · exact setHolder_desk_core _ _ _ j
    · rfl

section Overlap

variable {s : State} {b out inn : Nat} {bo : Booth} (hb : s.boothRec b = some bo) (hout : bo.holding = some out)
  (hin : bo.partner = some inn) (hne : out ≠ inn)
include hb hout hin hne

/-- The IN desk is left with the hold. -/
theorem endOverlap_desk_in : ((endOverlap b s).desk inn).map Desk.core = (s.desk inn).map fun x => x.alone.core := by
  have heq : endOverlap b s = nameHolder b inn (settleDesk inn (deskOff out (stopOverlap b s))) := by
    simp only [endOverlap, hb, hout, hin]
  rw [heq, nameHolder_desk_core, settleDesk, modDesk_desk_self, deskOff, modDesk_desk_ne hne.symm, Option.map_map]
  rfl

theorem endOverlap_desk_out : ((endOverlap b s).desk out).map Desk.core = (s.desk out).map fun x => x.ended.core := by
  have heq : endOverlap b s = nameHolder b inn (settleDesk inn (deskOff out (stopOverlap b s))) := by
    simp only [endOverlap, hb, hout, hin]
  rw [heq, nameHolder_desk_core, settleDesk, modDesk_desk_ne hne, deskOff, modDesk_desk_self, Option.map_map]
  rfl

/-- The OUT desk is left with the hold. -/
theorem cancelOverlap_desk_out : ((cancelOverlap b s).desk out).map Desk.core = (s.desk out).map fun x => x.alone.core := by
  have heq : cancelOverlap b s = settleDesk out (deskOff inn (stopOverlap b s)) := by simp only [cancelOverlap, hb, hout, hin]
  rw [heq, settleDesk, modDesk_desk_self, deskOff, modDesk_desk_ne hne, Option.map_map]
  rfl

theorem cancelOverlap_desk_in : ((cancelOverlap b s).desk inn).map Desk.core = (s.desk inn).map fun x => x.ended.core := by
  have heq : cancelOverlap b s = settleDesk out (deskOff inn (stopOverlap b s)) := by simp only [cancelOverlap, hb, hout, hin]
  rw [heq, settleDesk, modDesk_desk_ne hne.symm, deskOff, modDesk_desk_self, Option.map_map]
  rfl

end Overlap

section Release

variable {s : State} {d : Nat} {p : PanelBlock} {r : Desk} {bo : Booth} (h : Heard s d p) (hr : s.desk d = some r)
  (hb : s.boothRec r.booth = some bo) {other : Nat} {x : Desk} (hx : s.desk other = some x)
include h hr hb hx

/-- The OUT desk releases. -/
theorem Heard.release_out (hout : bo.holding = some d) (hin : bo.partner = some other) (hne : d ≠ other)
    (hst : r.state = .overlapOut) :
    ∃ t r' x' bo', exec (.deskPollReply d [.release]) s = .next t
      ∧ t.desk d = some r' ∧ r'.state = .off ∧ r'.cough = false
      ∧ t.desk other = some x' ∧ x'.state = (if x.cough then .cough else .live) ∧ x'.cough = false
      ∧ t.boothRec r.booth = some bo' ∧ bo'.holding = some other ∧ bo'.partner = none ∧ bo'.overlap = none
      ∧ SameBut Parts.byHold s t := by
  have heq := (takeKey_release (s := s.onPanel p) hr hb).trans (keyRelease_out hst)
  have hframe := h.hold_frame .release
  have hrunning := h.key .release
  rw [heq] at hframe hrunning
  obtain ⟨bo', hbo', hholding, hpartner, hoverlap⟩ := endOverlap_booth (s := s.onPanel p) hb hout hin
  obtain ⟨r', hr', hstate, hcough⟩ := desk_some_of_core (r := r.ended) ((keyEnd_desk_core (endOverlap r.booth (s.onPanel p)) d).trans
    ((endOverlap_desk_out (s := s.onPanel p) hb hout hin hne).trans (congrArg _ hr)))
  obtain ⟨x', hx', hstate', hcough'⟩ := desk_some_of_core (r := x.alone) ((keyEnd_desk_core (endOverlap r.booth (s.onPanel p)) other).trans
    ((endOverlap_desk_in (s := s.onPanel p) hb hout hin hne).trans (congrArg _ hx)))
  exact ⟨_, r', x', bo', hrunning, hr', hstate, hcough, hx', hstate', hcough', (keyEnd_boothRec _ _).trans hbo', hholding,
    hpartner, hoverlap, hframe⟩

/-- The IN desk releases. -/
theorem Heard.release_in (hout : bo.holding = some other) (hin : bo.partner = some d) (hne : other ≠ d)
    (hst : r.state = .overlapIn) :
    ∃ t r' y' bo', exec (.deskPollReply d [.release]) s = .next t
      ∧ t.desk d = some r' ∧ r'.state = .off ∧ r'.cough = false
      ∧ t.desk other = some y' ∧ y'.state = (if x.cough then .cough else .live) ∧ y'.cough = false
      ∧ t.boothRec r.booth = some bo' ∧ bo'.holding = some other ∧ bo'.partner = none ∧ bo'.overlap = none
      ∧ SameBut Parts.byHold s t := by
  have heq := (takeKey_release (s := s.onPanel p) hr hb).trans (keyRelease_in hst)
  have hframe := h.hold_frame .release
  have hrunning := h.key .release
  rw [heq] at hframe hrunning
  obtain ⟨bo', hbo', hholding, hpartner, hoverlap⟩ := cancelOverlap_booth (s := s.onPanel p) hb hout hin
  obtain ⟨r', hr', hstate, hcough⟩ := desk_some_of_core (r := r.ended)
    ((keyEnd_desk_core (cancelOverlap r.booth (s.onPanel p)) d).trans
      ((cancelOverlap_desk_in (s := s.onPanel p) hb hout hin hne).trans (congrArg _ hr)))
  obtain ⟨y', hy', hstate', hcough'⟩ := desk_some_of_core (r := x.alone)
    ((keyEnd_desk_core (cancelOverlap r.booth (s.onPanel p)) other).trans
      ((cancelOverlap_desk_out (s := s.onPanel p) hb hout hin hne).trans (congrArg _ hx)))
  exact ⟨_, r', y', bo', hrunning, hr', hstate, hcough, hy', hstate', hcough', (keyEnd_boothRec _ _).trans hbo', hholding,
    hpartner, hoverlap, hframe⟩

end Release

/-- The overlap timer expires (R36). -/
theorem overlapTimer_ends {s : State} {b out inn : Nat} {bo : Booth} {x : Desk} (hrun : s.running = true)
    (hb : s.boothRec b = some bo) (hov : bo.overlap.isSome = true) (hout : bo.holding = some out)
    (hin : bo.partner = some inn) (hne : out ≠ inn) (hx : s.desk inn = some x) :
    ∃ t x' bo', exec (.overlapTimer b) s = .next t
      ∧ t.boothRec b = some bo' ∧ bo'.holding = some inn ∧ bo'.partner = none ∧ bo'.overlap = none
      ∧ t.desk inn = some x' ∧ x'.state = (if x.cough then .cough else .live) ∧ x'.cough = false
      ∧ (∀ y, t.desk out = some y → y.state = .off ∧ y.cough = false)
      ∧ SameBut { Parts.settled with channels := true, booths := true, desks := true, feeds := true } s t := by
  have heq : expireOverlap b s = endOverlap b s := by simp only [expireOverlap, hb, hov, if_true]
  have hrunning : exec (.overlapTimer b) s = .next (settle (expireOverlap b s)) :=
    congrArg Host.Outcome.next (event_of_running _ hrun)
  have hframe : SameBut { Parts.settled with channels := true, booths := true, desks := true, feeds := true } s
      (settle (endOverlap b s)) :=
    SameBut.settled (by apply endOverlap_frame <;> rfl) rfl rfl rfl rfl rfl rfl rfl
  have hcalm := (settle_quiet (endOverlap b s)).toCalm
  rw [heq] at hrunning
  obtain ⟨bo', hbo', hholding, hpartner, hoverlap⟩ := endOverlap_booth hb hout hin
  obtain ⟨x', hx', hstate, hcough⟩ := desk_some_of_core (r := x.alone)
    ((hcalm.desk inn).trans ((endOverlap_desk_in hb hout hin hne).trans (congrArg _ hx)))
  refine ⟨_, x', bo', hrunning, (settle_boothRec _ _).trans hbo', hholding, hpartner, hoverlap, hx', hstate, hcough,
    fun y hy => ?_, hframe⟩
  have hended := (hcalm.desk out).trans (endOverlap_desk_out hb hout hin hne)
  rw [hy, Option.map_some] at hended
  obtain ⟨y0, -, hcore⟩ := Option.map_eq_some_iff.mp hended.symm
  have hstate' := congrArg Desk.state hcore
  have hcough' := congrArg Desk.cough hcore
  have hstate'' : DeskState.off = y.state := hstate'
  have hcough'' : false = y.cough := hcough'
  exact ⟨hstate''.symm, hcough''.symm⟩

end Sys2Proof.Machine

/-! Desk keys (R32 to R42, R56, R83). -/

namespace Sys2Proof.Machine

theorem State.speaksAt.holding {t : State} {b d c : Nat} {bo : Booth} (h : t.speaksAt b d c bo) (hhold : bo.holding = some d) :
    ∃ bo', t.boothRec b = some bo' ∧ bo'.holding = some d := by
  obtain ⟨bo', hbo', hq⟩ := h.booth
  have hholding := congrArg Booth.holding hq
  have hholding' : bo'.holding = bo.holding := hholding
  exact ⟨bo', hbo', hholding'.trans hhold⟩

/-- What the statement says of a desk that holds. -/
theorem State.speaksAt.holds {t : State} {b d c : Nat} {bo : Booth} (h : t.speaksAt b d c bo) (hhold : bo.holding = some d) :
    (∃ r', t.desk d = some r' ∧ r'.state = .live ∧ r'.gate = true)
      ∧ (∃ bo', t.boothRec b = some bo' ∧ bo'.holding = some d)
      ∧ (∃ ch', t.channel c = some ch' ∧ ch'.holder = .desk b d)
      ∧ t.route (busOutput c) = .mic b := by
  obtain ⟨r', hr', hlive, hgate, -⟩ := h.desk
  exact ⟨⟨r', hr', hlive, hgate⟩, h.holding hhold, h.channel, h.route⟩

theorem Booth.target_a {bo : Booth} {a : Nat} (hsel : bo.selected = .a) (hfeed : bo.feed = none) (h : bo.outputA = some a) :
    bo.target = some (.channel a) := by simp [Booth.target, Booth.denotes, hsel, hfeed, h]

theorem Booth.target_b {bo : Booth} {a : Nat} (hsel : bo.selected = .b) (h : bo.outputB = some a) :
    bo.target = some (.channel a) := by simp [Booth.target, Booth.denotes, hsel, h]

theorem Booth.denotes_a {bo : Booth} (hfeed : bo.feed = none) : bo.denotes .a = bo.outputA.map .channel := by
  simp [Booth.denotes, hfeed]

/-- Settles O56: each key by the case it is taken in. -/
theorem deskKeys_hold : Obligations.DeskKeys := by
  intro s d r bo hrun hr hb hon hex
  obtain ⟨p, h⟩ := heard_of_online hrun hon hex
  have hnotA (hsel : bo.selected = .b) : bo.selected ≠ .a := by simp [hsel]
  have hnotB (hsel : bo.selected = .a) : bo.selected ≠ .b := by simp [hsel]
  refine ⟨h.emptyReply, ?take, fun hall hoff => h.take_dark hr hb hoff hall, ?within, ?against, ?cough, ?release, ?freeB, ?freeA,
    ?busy, ?movesA, ?emptyA, fun src => h.relay_refused hr hb, ?relay, ?overlap, ?movesB, ?emptyB, ?timer⟩
  case take =>
    intro c ch hall hoff ht hc h1 h31 hnone hhold hov
    obtain ⟨t, hrunning, hspeaks, hothers, hframe⟩ := h.take_free hr hb hall hoff ht hc hov hnone hhold h1 h31
    obtain ⟨r', hr', hlive, hgate, hlamp⟩ := hspeaks.desk
    obtain ⟨bo', hbo', hholding⟩ := hspeaks.holding rfl
    obtain ⟨ch', hc', hholder⟩ := hspeaks.channel
    exact ⟨t, r', bo', ch', hrunning, hr', hlive, hgate, hlamp, hbo', hholding, hc', hholder, hspeaks.route, hothers, hframe⟩
  case within =>
    intro c ch x y hall hoff ht hc h1 h31 hown hhold hne hov hy _
    refine ⟨fun hmode => h.take_interlock hr hb hall hoff ht hc hov hown hhold hmode, fun hmode hroute => ?_, fun hmode =>
      h.take_overlaps hr hb hall hoff ht hc hov hown hhold hne hy hmode⟩
    obtain ⟨t, y', hrunning, hspeaks, hrest⟩ :=
      h.take_takeOver hr hb hall hoff ht hc hov hown hhold hne hy h1 hmode hroute
    exact ⟨t, y', hrunning, hspeaks.holds rfl, hrest⟩
  case against =>
    intro c ch hall hoff ht hc h1 h31 hhold hov
    refine ⟨fun b x other hother hne hbo => ⟨fun hcfg => ?_, fun hcfg hd => ?_⟩,
      fun k x hfeed hk hside => ⟨fun hcfg => ?_, fun hcfg => ?_⟩⟩
    · exact h.take_engaged hr hb hall hoff ht hc hov (heldElsewhere_desk hc hall hother hne) hcfg
    · obtain ⟨t, other', hrunning, hspeaks, hrest⟩ :=
        h.take_overBooth hr hb hall hoff ht hc hov hhold hother hne hbo hcfg hd h1 h31
      exact ⟨t, other', hrunning, hspeaks.holds rfl, hrest⟩
    · exact h.take_engaged hr hb hall hoff ht hc hov (heldElsewhere_feed hc hall hfeed) hcfg
    · obtain ⟨t, hrunning, hspeaks, hrest⟩ := h.take_overFeed hr hb hall hoff ht hc hov hhold hfeed hk hside hcfg h1 h31
      exact ⟨t, hrunning, hspeaks.holds rfl, hrest⟩
  case cough => exact fun hall _ => ⟨fun hlive => h.coughOn hr hb hlive, fun hcough => h.coughOff hr hb hcough hall⟩
  case release => exact fun c ch hst ht hc h1 h31 hheld hwait => h.release hr hb hst ht hc h1 h31 hheld hwait
  case freeB => exact fun hsel hov hhold => h.output_free (o := .b) hr hb (hnotB hsel) hov hhold
  case freeA => exact fun hsel hov hhold => h.output_free (o := .a) hr hb (hnotA hsel) hov hhold
  case busy =>
    exact fun x hov hhold hne => ⟨fun hsel => h.output_busy (o := .b) hr hb (hnotB hsel) hov hhold hne,
      fun hsel => h.output_busy (o := .a) hr hb (hnotA hsel) hov hhold hne⟩
  case movesA =>
    intro a c cha ch hall hlive hsel hfeed hB hA hne hov hhold ha hheld hwait hc hfree ha1 ha31 h1 h31
    obtain ⟨t, bo', cha', hrunning, hspeaks, hrest⟩ := h.output_moves (o := .a) hr hb (hnotA hsel) hov hall hlive
      (Booth.target_b hsel hB) (by rw [Booth.denotes_a hfeed, hA]; rfl) hne hhold ha hheld hwait hc hfree ha1 ha31 h1 h31
    exact ⟨t, bo', cha', hrunning, hspeaks.holds hhold, hrest⟩
  case emptyA =>
    exact fun _ hsel hov hhold hnone hfeed =>
      h.output_empty (o := .a) hr hb (hnotA hsel) hov hhold (by rw [Booth.denotes_a hfeed, hnone]; rfl)
  case relay =>
    intro src hok
    refine ⟨fun hsame hst => h.relay_same hr hb hok hsame hst, fun hmute hnew => ?_⟩
    obtain ⟨t, hrunning, hbo', hrest⟩ := h.relay_mute hr hb hok hmute hnew
    refine ⟨t, hrunning, hbo'.trans ?_, hrest⟩
    cases src <;> rfl
  case overlap =>
    intro out inn hov hout hin hne
    refine ⟨fun hall hoff hsth => h.take_overlap hr hb hoff hall hov hsth, fun hst => h.take_ignored hr hb hst,
      fun hsel => h.output_overlap (o := .b) hr hb (hnotB hsel) hov, fun hsel => h.output_overlap (o := .a) hr hb (hnotA hsel) hov,
      fun hst => ⟨h.coughOn_overlap hr hb hst, h.coughOff_overlap hr hb hst⟩, fun x hd hst hx => ?_, fun y hd hst hy => ?_⟩
    · exact h.release_out hr hb hx (hd ▸ hout) hin (hd ▸ hne) hst
    · exact h.release_in hr hb hy hout (hd ▸ hin) (hd ▸ hne) hst
  case movesB =>
    intro a c cha ch hall hlive hsel hfeed hA hB hne hov hhold ha hheld hwait hc hfree ha1 ha31 h1 h31
    obtain ⟨t, bo', cha', hrunning, hspeaks, hrest⟩ := h.output_moves (o := .b) hr hb (hnotB hsel) hov hall hlive
      (Booth.target_a hsel hfeed hA) (by simp [Booth.denotes, hB]) hne hhold ha hheld hwait hc hfree ha1 ha31 h1 h31
    exact ⟨t, bo', cha', hrunning, hspeaks.holds hhold, hrest⟩
  case emptyB =>
    exact fun _ hsel hov hhold hnone => h.output_empty (o := .b) hr hb (hnotB hsel) hov hhold (by simp [Booth.denotes, hnone])
  case timer => exact fun out inn hov hout hin hne x hx => overlapTimer_ends hrun hb hov hout hin hne hx

end Sys2Proof.Machine
